-- ==== Sys2Proof/Word.lean ====
section
/-! DEFINITION. The word types: what the spec treats as bits (00_scope.md R6 to R10). -/

namespace Sys2Proof

/-- One byte of a packet, a record, a frame or a memory (R10). -/
abbrev Byte := BitVec 8

/-- A 32-bit register or an fp32 number. -/
abbrev Word32 := BitVec 32

/-- A 64-bit register or a 64-bit memory word. -/
abbrev Word64 := BitVec 64

/-- A string of bytes, byte 0 first (R10). -/
abbrev Bytes := List Byte

end Sys2Proof
end

