-- ==== Sys2Proof/Syntax.lean ====
section
/-! DEFINITION. The commands of the block: one constructor per row of opcode_table.json, and the
plain data their operands carry. -/

namespace Sys2Proof

/-- When a command takes place and whether the host can be written to then: the schedule tick
(03 R69) counted from the model's start, and whether DMA writes of results and of completion entries
work at that moment (17 R445). -/
structure At where
  tick : Nat
  resultOk : Bool
  cqOk : Bool
deriving DecidableEq, Repr

/-- What the base controller reads from the wafer's fuses at step 4 (05 R122, 06 R163). -/
structure Fuses where
  serial : Nat
  /-- The spare site indices of each super, in ascending s. -/
  spares : List (List Nat)
deriving DecidableEq, Repr

/-- A rail of a power region (06 Table 6-1). -/
inductive Rail where
  | core | sram | io
deriving DecidableEq, Repr

/-- What the unit finds out during a start-up step (21 Table 21-1). Only the fields of the step that
ends are used. -/
structure StepReport where
  /-- Step 4: what the fuses give, none after 10 reads that fail; whether each summary copy's CRC holds (06 R166). -/
  fuses : Option Fuses
  sumA : Bool
  sumB : Bool
  /-- Step 4: EV_SEQ of the ring's entries whose COMMIT or EV_CRC does not hold (06 R166). -/
  badEvents : List Nat
  /-- Cold-plate flow is below 20 L/min (06 R145), for a power-on request held until step 4 ends. -/
  flowLow : Bool
  /-- Step 5: the PCI Express ports whose link trained. -/
  linksUp : List Nat
  /-- Step 5: the 10 MHz reference is present (04 R112). -/
  refPresent : Bool
  /-- Step 7: global cells whose cell fails its start-up test (06 R152). -/
  failedCells : List Nat
  /-- Step 7: global cells whose router fails (05 R121, R131). -/
  deadSites : List Nat
  /-- Step 7: supers with a router fault (06 Table 6-8, SEAL cause 7). -/
  routerFaults : List Nat
  /-- Step 7: keeper cores that fail the test step 8 then begins with (06 R156). -/
  failedKeepers : List Nat
  /-- Step 8: firmware slots, 0 and 1, and 2 the microcode, whose header does not hold (21 R531). -/
  badSlots : List Nat
  /-- Step 9: the microcode loads (21 Table 21-1). -/
  loadOk : Bool
deriving DecidableEq, Repr

/-- A UDP datagram that reaches site port 8 or 9 (17 R454, R455), from its UDP payload on. -/
structure Datagram where
  port : Nat
  srcIp : Nat
  srcPort : Nat
  dstIp : Nat
  dstPort : Nat
  fragmented : Bool
  frameLen : Nat
  payload : List Byte
deriving DecidableEq, Repr

/-- An ARP request on site port 8 or 9. -/
structure ArpReq where
  port : Nat
  senderMac : List Byte
  senderIp : Nat
  targetIp : Nat
deriving DecidableEq, Repr

/-- An ICMP echo request on site port 8 or 9. -/
structure IcmpEcho where
  port : Nat
  srcMac : List Byte
  srcIp : Nat
  dstIp : Nat
  ident : Nat
  seq : Nat
  body : List Byte
deriving DecidableEq, Repr

/-- The part of a rolling change that is applied (19 R486, R489; 13 R336). -/
inductive RollPart where
  | slots (sup : Nat)
  | region (idx : Nat)
  | shard (idx : Nat)
deriving DecidableEq, Repr

/-- The `time` key of a site description (02 Table 2-2, 04 R87, R95, R98, R99, R110, R111, R116), held by
the base controller from the last accepted image (21 R519). Times in ns. -/
structure TimeSettings where
  refExternal : Bool
  activeDefault : Nat
  holdoverA : Nat
  holdoverB : Nat
  autoSwitch : Bool
  stepLimit : Nat
  /-- `SERVO_BW` in 0.01 Hz. -/
  servoBw : Nat
  /-- `PPS_DOMAIN`: 0 local, 1 A, 2 B. -/
  ppsDomain : Nat
  ppsWidth : Nat
  /-- PTP `domainNumber` followed by A and by B; none: no PTP domain is followed. -/
  ptpA : Option Nat
  ptpB : Option Nat
  portA : Nat
  portB : Nat
  /-- IEEE 802.1AS profile rather than IEEE 1588 default (04 Table 4-3). -/
  asA : Bool
  asB : Bool
  /-- The IEEE 1588 transport is UDP over IPv4 rather than Ethernet (04 Table 4-3). -/
  udpA : Bool
  udpB : Bool
  /-- `PTP_QP` (04 R116). -/
  ptpQp : Nat
deriving DecidableEq, Repr

/-- An Ethernet frame received on a site port 0 to 7, from its destination address on (16 R401). -/
structure EthFrame where
  port : Nat
  fcsOk : Bool
  dst : List Byte
  src : List Byte
  vlan : Option Nat
  ethertype : Nat
  body : List Byte
deriving DecidableEq, Repr

/-- An Oshestan frame received on a sensor port, from byte 0 of its header to the end of its FCS
(09 Table 9-2). -/
structure OshFrame where
  port : Nat
  /-- The 7 bytes its start block carries after the start character (09 R221). -/
  start : List Byte
  bytes : List Byte
deriving DecidableEq, Repr

/-- A keyframe a `map_update` instance emits (13 R334): descriptor, metadata, feature set, agent, pose of its
node and its odometry edge (REL and INFO bytes). -/
structure Keyframe where
  desc : List Byte
  info : List Byte
  features : List Byte
  agent : Nat
  pose : List Byte
  odo : List Byte
deriving DecidableEq, Repr

/-- What a stage instance's work turned out to be, where the spec does not document the computation (log entry
8). -/
structure StageResult where
  /-- Words it read with their outcome already in memory: region and byte offset of each access that matters. -/
  reads : List (Nat × Nat)
  /-- Bits of an engine memory that have flipped before it ran: DEST_KIND or 7, word, data and check bits as a mask; and the
  words of engine memories it read (07 R183). -/
  engFlips : List (Nat × Nat × Nat)
  engReads : List (Nat × Nat)
  /-- The payload of a network, keeper or verify stage. -/
  payload : List Byte
  /-- Closures a verify instance accepts (13 R340): edges of Table 13-8. -/
  closures : List (List Byte)
  /-- Candidates it used up: code pairs (query node, code). -/
  tried : List (Nat × Nat)
  keyframe : Option Keyframe
  /-- Occupancy observations in list order: voxel and hit; and whether its tile is on the wafer. -/
  occ : List (Nat × Bool × Bool)
  /-- The module pose of a calibrating stage, 28 bytes. -/
  pose : List Byte
  /-- Queries a cse_query instance makes: record, descriptor and own keyframe. -/
  queries : List (List Byte × List Byte × Nat)
  /-- Track slots of which it read a word uncorrectable or poisoned (12 R312). -/
  slotUe : List Nat
  /-- Occupancy tiles on the wafer of which it read a word uncorrectable (13 R344), by tile x + 65,536 y + 2^32 z. -/
  tileUe : List Nat
deriving DecidableEq, Repr

/-- What a store reports when it becomes ready (08 R207, R211, R215; 21 R527): its firmware level, the interface
levels it provides (interface, lowest, highest), its mirror generation, the extents it lists unflushed, and IMAGE_ID
and HEADER_CRC of its control range. -/
structure StoreReport where
  fwLevel : Nat
  prov : List (Nat × Nat × Nat)
  mirrorGen : Nat
  unflushed : List Nat
  image : Option (List Byte × Nat)
  /-- It has restored its content since its last report: its feed was lost (08 R215). -/
  restored : Bool
deriving DecidableEq, Repr

/-- What went wrong while a frame was sent: output rows a word of the compositor's own memory spoiled (15 R386). -/
structure FrameFaults where
  rows : List Nat
deriving DecidableEq, Repr

/-- A module the site description expects (02 Table 2-2, 10 R266): address, class, imager slots used and
accepted levels (interface, lowest, highest). -/
structure ModExpect where
  addr : Nat
  cls : Nat
  slots : List Nat
  levels : List (Nat × Nat × Nat)
deriving DecidableEq, Repr

/-- Stage kinds of a stage graph (02 Table 2-3). -/
inductive StageKind where
  | veJob | network | tfePredict | tfeUpdate | cseQuery | verify | mapUpdate | routeParams | layer | keeper | raw
deriving DecidableEq, Repr

/-- A stage of the compiled graph, as far as the engine's own rules need it (log entry 4). -/
structure StageDesc where
  /-- Of a raw stage, the kind of the engine its descriptor is written for (11 R293, 12 R318). -/
  kind : StageKind
  /-- Logical super that runs it, and section 0x0031 entry of its output record, per placement. -/
  sups : List Nat
  outs : List Nat
  /-- The 64-byte engine descriptor per placement (11 Table 11-7, 12 Table 12-9); of a network stage marked as a matching
  stage, the match job its handoff to the host follows (11 Host-assisted mode). -/
  descs : List (List Byte)
  /-- Producing stages of its inputs, in order. -/
  inputs : List Nat
  /-- Regions of its weights. -/
  weights : List Nat
  /-- Module addresses and imager ids whose data it takes. -/
  modules : List Nat
  imagers : List Nat
  /-- Regions of the three output buffers of a stage that feeds a layer, per placement (15 R384). -/
  bufs : List (List Nat)
  /-- The module a calibrating stage names (12 R314). -/
  calibrates : Option Nat
  /-- A `cse_query` stage marked `loop` (13 R339). -/
  loop : Bool
  /-- One period of its source at its declared maximum rate, ns (12 R306). -/
  period : Nat
  /-- Ticks after the firing by which level-0 lines are needed: first, and per line in 1/1,024 tick (11 R274). -/
  lineBase : Nat
  linePitch : Nat
  /-- Regions of rectified level-0 images, with width and height, for stereo (11 R281). -/
  rect : Option (Nat × Nat × Nat × Nat)
  /-- Source group of the deltas of a stage that observes occupancy (14 Table 14-2). -/
  occSrc : Nat
deriving DecidableEq, Repr

/-- An agent class as far as track filters, poses and routes need it (12 R303, 16). -/
structure AgentClass where
  /-- Process noise densities and initial variances of the 12 states, wheel-speed variance. -/
  noise : List Word32
  initVar : List Word32
  wheelVar : Word32
  /-- Agent cycle in µs and reply window in ns (16 R406). -/
  cycle : Nat
  window : Nat
deriving DecidableEq, Repr

/-- An agent of the agent table (12 R300): agent id, class, model, track id. -/
structure AgentDesc where
  id : Nat
  cls : Nat
  model : Nat
  track : Nat
deriving DecidableEq, Repr

/-- A shard's place in the residency plan (13 R324): row and, per placement, logical super; and where the plan lays out in the
row's store its codes and their shadow copy, its metadata and its descriptors, by position (13 R334, R336). -/
structure ShardPlan where
  shard : Nat
  row : Nat
  sups : List Nat
  codes : Nat × Nat
  info : Nat
  desc : Nat
deriving DecidableEq, Repr

/-- Map parameters (13 R339, R343): `MAX_CAND_DIST`, `KEEP_DESC`, L_HIT, L_MISS, OCC_HI, OCC_LO, and the logical
super of the sweep coordinator per placement. -/
structure MapParams where
  maxCandDist : Nat
  keepDesc : Bool
  lHit : Nat
  lMiss : Nat
  occHi : Nat
  occLo : Nat
  coordinator : List Nat
deriving DecidableEq, Repr

/-- `route_params` (14): the queue pair named by `ROUTE_QP`, repair radius by class where set, keeper cores (logical
super, core), `HOST_ROUTE_WAIT` in µs where set, the site extent in voxels. -/
structure RouteParams where
  qp : Nat
  radius : List (Nat × Nat)
  cores : List (Nat × Nat)
  hostWait : Option Nat
  extent : Nat × Nat × Nat
deriving DecidableEq, Repr

/-- A gate control list of a site port (16 R404): domain, base time in 2^-32 ns, gate mask and duration in ns. -/
structure TsnList where
  port : Nat
  dom : Nat
  base : Nat
  items : List (Nat × Nat)
deriving DecidableEq, Repr

/-- The image parts whose byte layout the spec does not give. -/
structure SiteDesc where
  time : TimeSettings
  /-- Row configuration of the `stores` key: 0 absent, 1 single, 2 mirrored (08 R195). -/
  stores : List Nat
  /-- Edge inputs named for stages, ascending, with their edge selection: TSI 0 to 63, PPS in 64 (04 R105). -/
  inputs : List (Nat × Nat)
  modules : List ModExpect
  /-- Link buffers the image fills: buffer, port, frame header and payload (09 R236). -/
  linkBufs : List (Nat × Nat × List Byte)
  stages : List StageDesc
  /-- Transform entries 2,304 to 4,095 the image carries (12 R296). -/
  xforms : List (Nat × List Byte)
  /-- The default pattern table of corner descriptors, 1,024 bytes (11 R276). -/
  pattern : List Byte
  classes : List AgentClass
  agents : List AgentDesc
  /-- Logical super of each group of 1,024 track ids, per placement (12 R300). -/
  trackSups : List (List Nat)
  shards : List ShardPlan
  map : MapParams
  route : RouteParams
  tsn : List TsnList
  /-- Agent transmit buffers the image fills: buffer, port, queue, frame (16 R421). -/
  agentBufs : List (Nat × Nat × Nat × List Byte)
  /-- Per placement: composition is dropped (15 R380). -/
  dropsComp : List Bool
  /-- The bytes that fill a region of weights or stage programs: region, whether from a weight blob (section 0x0040) or a
  stage program (0x0041), BLOB_ID, offset in the blob, length (07 R192). -/
  fills : List (Nat × Bool × Nat × Nat × Nat)
  /-- Residency entries that carry an occupancy tile: entry index, tile x + 65,536 y + 2^32 z (13 R344). -/
  tiles : List (Nat × Nat)
deriving DecidableEq, Repr


/-- The commands (opcode_table.json), one constructor per row. -/
inductive Instr where
  /-- Standby rail rises; the unit enters STANDBY and the base controller runs start-up steps 1 to 4. (R517) -/
  | standbyRailRises (x : At)
  /-- Loss of standby power takes the unit to OFF from any state and clears every schedule entry. (R28) -/
  | standbyRailLost (x : At)
  /-- 2 s after the standby rail rises, the base controller issues a power-on request, held until
  step 4 ends. (R516) -/
  | standbyPowerOnTimer (x : At) (flowLow : Bool)
  /-- A pushbutton press of 0.5 to 5 s in STANDBY is a power-on request. (R516) -/
  | buttonShortPress (x : At) (flowLow : Bool)
  /-- A pushbutton press held beyond 5 s outside STANDBY is a power-off request. (R516) -/
  | buttonLongPress (x : At)
  /-- The regions finish powering down; the unit enters STANDBY and all schedule entries are cleared. (R516) -/
  | regionsPoweredDown (x : At)
  /-- A start-up step ends; the next step begins, reaching READY after step 13 or RUN after step 16. (R517) -/
  | startupStepComplete (x : At) (r : StepReport)
  /-- A region not in regulation within 15 ms at step 5 is handled as an overcurrent and sealed. (R517) -/
  | regionRegulationTimeout (x : At) (sup : Nat) (rail : Rail)
  /-- Keeper firmware reports ready; a BOOT event is made, KEEPER_READY is set and step 8 ends. (R522) -/
  | keeperReadyReport (x : At) (sup : Nat)
  /-- A boot attempt not ready within 10 s is retried up to 3 times, then the other slot is tried,
  then the unit enters HOLD. (R522) -/
  | keeperBootAttemptTimeout (x : At)
  /-- A write of the reset key to HIF_RESET powers the regions down and restarts BRINGUP at step 5,
  dropping everything outstanding. (R457) -/
  | hifReset (x : At) (port : Nat) (value : Nat)
  /-- A read of HIF_FLAGS returns the current flags and clears bit 16. (R428) -/
  | hifFlagsRead (x : At) (port : Nat)
  /-- A write to a BAR0 register that has no row of its own, such as a ring base, is stored or
  ignored. (R428) -/
  | registerWrite (x : At) (port : Nat) (addr : Nat) (width : Nat) (value : Nat)
  /-- A write setting ENABLE in QP_SIZE checks size and alignment, binds the port and resets the ring
  indices. (R429) -/
  | qpEnable (x : At) (port : Nat) (qp : Nat) (value : Nat)
  /-- Clearing ENABLE stops reading the submission ring while accepted commands run to completion. (R431) -/
  | qpDisable (x : At) (port : Nat) (qp : Nat) (value : Nat)
  /-- A submission doorbell advances the tail, and the engine reads the new packets. (R433) -/
  | dbSq (x : At) (port : Nat) (qp : Nat) (value : Nat) (pkts : List (Option (List Byte)))
  /-- A completion doorbell releases entries and re-arms the MSI-X vector. (R452) -/
  | dbCq (x : At) (port : Nat) (qp : Nat) (value : Nat)
  /-- An interpreter takes a packet with a completion entry reserved and checks it in order before
  executing. (R438) -/
  | packetAccept (x : At) (qp : Nat)
  /-- A seal of S(3,0) or S(4,0) loses its port and disables the queue pairs bound to it. (R458) -/
  | pciePortLost (x : At) (port : Nat)
  /-- An OPEN datagram binds a disabled queue pair to the network transport. (R454) -/
  | netOpen (x : At) (dg : Datagram)
  /-- A request datagram is accepted in TSEQ order, resent, discarded or refused with QUEUE_FULL. (R455) -/
  | netRequest (x : At) (dg : Datagram)
  /-- A CLOSE datagram disables its network queue pair. (R454) -/
  | netClose (x : At) (dg : Datagram)
  /-- A network queue pair with no accepted request for 60 s is disabled. (R454) -/
  | netIdleTimeout (x : At) (qp : Nat)
  /-- An ARP request on site port 8 or 9 is answered. (R454) -/
  | arpRequest (x : At) (a : ArpReq)
  /-- An ICMP echo request on site port 8 or 9 is answered. (R454) -/
  | icmpEchoRequest (x : At) (e : IcmpEcho)
  /-- Returns the state record. (R467) -/
  | stateRead (x : At) (qp : Nat) (tag : Nat) (data : Option (List Byte))
  /-- Returns the wafer map. (R140) -/
  | waferMapRead (x : At) (qp : Nat) (tag : Nat) (data : Option (List Byte))
  /-- Returns the store status records. (R218) -/
  | storeRead (x : At) (qp : Nat) (tag : Nat) (data : Option (List Byte))
  /-- Starts an orderly stop of the running image, completing when the quiesce completes. (R29) -/
  | unitQuiesce (x : At) (qp : Nat) (tag : Nat) (data : Option (List Byte))
  /-- Completes at acceptance and then makes a power-off request. (R516) -/
  | unitPowerOff (x : At) (qp : Nat) (tag : Nat) (data : Option (List Byte))
  /-- Sets the IPv4 settings of a network port and disables the queue pairs bound to it. (R454) -/
  | netConfig (x : At) (qp : Nat) (tag : Nat) (data : Option (List Byte))
  /-- Returns the local, A and B counters latched at one tick. (R450) -/
  | timeRead (x : At) (qp : Nat) (tag : Nat) (data : Option (List Byte))
  /-- Writes a domain increment in host-assisted mode. (R91) -/
  | timeIncrSet (x : At) (qp : Nat) (tag : Nat) (data : Option (List Byte))
  /-- Steps a domain to an absolute value or by an offset. (R92) -/
  | timeStep (x : At) (qp : Nat) (tag : Nat) (data : Option (List Byte))
  /-- Switches the active domain. (R95) -/
  | domainSelect (x : At) (qp : Nat) (tag : Nat) (data : Option (List Byte))
  /-- Sets the edge selection and owner of a capture input. (R105) -/
  | captureArm (x : At) (qp : Nat) (tag : Nat) (data : Option (List Byte))
  /-- Returns capture and snapshot records, optionally waiting for one. (R106) -/
  | captureRead (x : At) (qp : Nat) (tag : Nat) (data : Option (List Byte))
  /-- Makes a software cross-stamp at the doorbell interrupt. (R104) -/
  | captureSoft (x : At) (qp : Nat) (tag : Nat) (data : Option (List Byte))
  /-- Returns received PTP messages in host-assisted time servo mode. (R116) -/
  | ptpRead (x : At) (qp : Nat) (tag : Nat) (data : Option (List Byte))
  /-- Stages a phase source definition for the next commit. (R80) -/
  | sourceDefine (x : At) (qp : Nat) (tag : Nat) (data : Option (List Byte))
  /-- Returns source status records taken at one tick. (R81) -/
  | phaseRead (x : At) (qp : Nat) (tag : Nat) (data : Option (List Byte))
  /-- Allocates and arms a host-owned schedule entry. (R73) -/
  | schedArm (x : At) (qp : Nat) (tag : Nat) (data : Option (List Byte))
  /-- Cancels and frees an owned schedule entry. (R73) -/
  | schedCancel (x : At) (qp : Nat) (tag : Nat) (data : Option (List Byte))
  /-- Returns a schedule entry with absolute targets. (R82) -/
  | schedRead (x : At) (qp : Nat) (tag : Nat) (data : Option (List Byte))
  /-- Drives a timed output 24 ns after acceptance. (R79) -/
  | tsoFireNow (x : At) (qp : Nat) (tag : Nat) (data : Option (List Byte))
  /-- Returns link state records per sensor port. (R246) -/
  | linkStateRead (x : At) (qp : Nat) (tag : Nat) (data : Option (List Byte))
  /-- Proposes group sleep in host-assisted mode. (R247) -/
  | linkSleep (x : At) (qp : Nat) (tag : Nat) (data : Option (List Byte))
  /-- Wakes a sensor port's group, completing when it is awake. (R247) -/
  | linkWake (x : At) (qp : Nat) (tag : Nat) (data : Option (List Byte))
  /-- Fills a link buffer with a TRIGGER frame. (R236) -/
  | linkBufWrite (x : At) (qp : Nat) (tag : Nat) (data : Option (List Byte))
  /-- Returns module attach records. (R269) -/
  | moduleRead (x : At) (qp : Nat) (tag : Nat) (data : Option (List Byte))
  /-- Returns the held copy of a module's identity record and site area. (R250) -/
  | moduleRecordRead (x : At) (qp : Nat) (tag : Nat) (data : Option (List Byte))
  /-- Writes a module pose into the alternate site slot and reads it back. (R264) -/
  | moduleSiteWrite (x : At) (qp : Nat) (tag : Nat) (data : Option (List Byte))
  /-- Starts a fresh attach of a module. (R250) -/
  | moduleReattach (x : At) (qp : Nat) (tag : Nat) (data : Option (List Byte))
  /-- Returns the match export of a stage's newest firing. (R294) -/
  | veMatchRead (x : At) (qp : Nat) (tag : Nat) (data : Option (List Byte))
  /-- Submits host match items for a slot. (R294) -/
  | veMatchSubmit (x : At) (qp : Nat) (tag : Nat) (data : Option (List Byte))
  /-- Stages transform table entries. (R298) -/
  | xformWrite (x : At) (qp : Nat) (tag : Nat) (data : Option (List Byte))
  /-- Returns transform entries of the current epoch. (R298) -/
  | xformRead (x : At) (qp : Nat) (tag : Nat) (data : Option (List Byte))
  /-- Returns track records taken at one tick. (R315) -/
  | trackRead (x : At) (qp : Nat) (tag : Nat) (data : Option (List Byte))
  /-- Returns the observation list that an update slot will consume. (R319) -/
  | tfeObsRead (x : At) (qp : Nat) (tag : Nat) (data : Option (List Byte))
  /-- Submits the host association list for an update slot. (R319) -/
  | tfeAssocSubmit (x : At) (qp : Nat) (tag : Nat) (data : Option (List Byte))
  /-- Submits a host place query into the batch queue. (R345) -/
  | placeQuery (x : At) (qp : Nat) (tag : Nat) (data : Option (List Byte))
  /-- Stages a new codebook generation for a migration. (R335) -/
  | codebookLoad (x : At) (qp : Nat) (tag : Nat) (data : Option (List Byte))
  /-- Returns loop-closure candidates in host-assisted mode. (R346) -/
  | loopCandRead (x : At) (qp : Nat) (tag : Nat) (data : Option (List Byte))
  /-- Adds host-verified closure edges. (R346) -/
  | loopCloseSubmit (x : At) (qp : Nat) (tag : Nat) (data : Option (List Byte))
  /-- Returns pose-graph nodes or edges. (R347) -/
  | mapGraphRead (x : At) (qp : Nat) (tag : Nat) (data : Option (List Byte))
  /-- Writes node poses together at one tick. (R347) -/
  | mapPoseWrite (x : At) (qp : Nat) (tag : Nat) (data : Option (List Byte))
  /-- Sets the map distribution destinations. (R456) -/
  | mapDistSet (x : At) (qp : Nat) (tag : Nat) (data : Option (List Byte))
  /-- Returns edge slot records. (R371) -/
  | edgeRead (x : At) (qp : Nat) (tag : Nat) (data : Option (List Byte))
  /-- Returns blocked-edge records and the number dropped. (R356) -/
  | blockedRead (x : At) (qp : Nat) (tag : Nat) (data : Option (List Byte))
  /-- Injects occupancy delta words through the filter. (R374) -/
  | occInject (x : At) (qp : Nat) (tag : Nat) (data : Option (List Byte))
  /-- Plans a route for an agent to a goal. (R358) -/
  | routeGoalSet (x : At) (qp : Nat) (tag : Nat) (data : Option (List Byte))
  /-- Cancels an agent's route with a hold segment. (R366) -/
  | routeCancel (x : At) (qp : Nat) (tag : Nat) (data : Option (List Byte))
  /-- Returns an agent's route header and edges. (R373) -/
  | routeRead (x : At) (qp : Nat) (tag : Nat) (data : Option (List Byte))
  /-- Returns route events, optionally waiting for them. (R373) -/
  | routeEventRead (x : At) (qp : Nat) (tag : Nat) (data : Option (List Byte))
  /-- Issues a host-supplied route in host-assisted mode. (R375) -/
  | routeSubmit (x : At) (qp : Nat) (tag : Nat) (data : Option (List Byte))
  /-- Writes a layer's pending descriptor. (R382) -/
  | layerWrite (x : At) (qp : Nat) (tag : Nat) (data : Option (List Byte))
  /-- Commits a layer's pending descriptor for the next frame start. (R382) -/
  | layerCommit (x : At) (qp : Nat) (tag : Nat) (data : Option (List Byte))
  /-- Writes host raster content into a host-buffer region. (R400) -/
  | layerUpload (x : At) (qp : Nat) (tag : Nat) (data : Option (List Byte))
  /-- Returns the head records. (R399) -/
  | displayRead (x : At) (qp : Nat) (tag : Nat) (data : Option (List Byte))
  /-- Returns the panel image and the update flag. (R399) -/
  | panelRead (x : At) (qp : Nat) (tag : Nat) (data : Option (List Byte))
  /-- Returns an agent pose propagated to a time. (R422) -/
  | poseRead (x : At) (qp : Nat) (tag : Nat) (data : Option (List Byte))
  /-- Writes an agent pose into the cache in host-assisted mode. (R423) -/
  | poseWrite (x : At) (qp : Nat) (tag : Nat) (data : Option (List Byte))
  /-- Fills an agent transmit buffer. (R421) -/
  | agentBufWrite (x : At) (qp : Nat) (tag : Nat) (data : Option (List Byte))
  /-- Stages a gate control list for a port. (R404) -/
  | tsnListWrite (x : At) (qp : Nat) (tag : Nat) (data : Option (List Byte))
  /-- Checks and loads a hive image in READY, or stages a replacement in RUN. (R55) -/
  | imageLoad (x : At) (qp : Nat) (tag : Nat) (data : Option (List Byte)) (sd : SiteDesc)
  /-- Stages a function mode change. (R32) -/
  | fnModeSet (x : At) (qp : Nat) (tag : Nat) (data : Option (List Byte))
  /-- Closes the staged set and arms a commit entry. (R477) -/
  | epochCommit (x : At) (qp : Nat) (tag : Nat) (data : Option (List Byte))
  /-- Empties the staged set and disarms any armed host commit. (R476) -/
  | epochDiscard (x : At) (qp : Nat) (tag : Nat) (data : Option (List Byte))
  /-- Returns the epoch record. (R469) -/
  | epochRead (x : At) (qp : Nat) (tag : Nat) (data : Option (List Byte))
  /-- Returns the fault record summary and committed events. (R167) -/
  | faultRead (x : At) (qp : Nat) (tag : Nat) (data : Option (List Byte))
  /-- Returns the image-set report. (R536) -/
  | fwRead (x : At) (qp : Nat) (tag : Nat) (data : Option (List Byte))
  /-- Carries a firmware transfer begin, chunk or end, with the checks and write at the end. (R530) -/
  | fwStage (x : At) (qp : Nat) (tag : Nat) (data : Option (List Byte))
  /-- Sets the Keeper slot tried first at the next boot. (R522) -/
  | fwBootSelect (x : At) (qp : Nat) (tag : Nat) (data : Option (List Byte))
  /-- Diagnostic read of cell SRAM or store lines. (R187) -/
  | memRead (x : At) (qp : Nat) (tag : Nat) (data : Option (List Byte))
  /-- Diagnostic write of cell SRAM or store lines. (R187) -/
  | memWrite (x : At) (qp : Nat) (tag : Nat) (data : Option (List Byte))
  /-- Returns raw words or lines with their check bits and class. (R189) -/
  | memReadRaw (x : At) (qp : Nat) (tag : Nat) (data : Option (List Byte))
  /-- Writes raw data and check bits, putting the cell under injection. (R189) -/
  | memWriteRaw (x : At) (qp : Nat) (tag : Nat) (data : Option (List Byte))
  /-- A waiting CAPTURE_READ or ROUTE_EVENT_READ reaches its timeout and completes with TIMEOUT. (R107) -/
  | waitTimeout (x : At) (qp : Nat) (tag : Nat)
  /-- The image has been written into every SERVING store's image area and the load proceeds to
  arming. (R199) -/
  | imageAreaWritten (x : At)
  /-- At a schedule tick an armed entry's target is crossed or reached, and it fires its action. (R69) -/
  | entryFires (x : At) (id : Nat)
  /-- PULSE_WIDTH after its leading edge, a pulse output is driven low. (R78) -/
  | pulseTrailingEdge (x : At) (output : Nat)
  /-- A host arming takes effect at a tick and applies its late policy. (R75) -/
  | armingTakesEffect (x : At) (id : Nat)
  /-- An arming held on a STARTING source takes effect when the source runs. (R76) -/
  | heldArmingReleased (x : At) (id : Nat)
  /-- At tick E every super applies the commit and the epoch advances. (R479) -/
  | commitEffect (x : At)
  /-- An engine-issued commit of attach or move changes takes effect. (R480) -/
  | engineCommit (x : At)
  /-- A part of a rolling change, such as an edge slot batch or shard switch, is applied. (R486) -/
  | rollingPartApplied (x : At) (part : RollPart)
  /-- The last rolling part is applied, and EPOCH_MIXED clears. (R485) -/
  | rollingChangeEnd (x : At)
  /-- A valid quadrature transition on an ENC input adjusts N and is a phase event. (R59) -/
  | encoderCount (x : At) (k : Nat) (input : Nat) (a : Bool) (b : Bool)
  /-- An accepted Z edge corrects N to Z_OFFSET and is a phase event. (R59) -/
  | encoderZEdge (x : At) (k : Nat) (input : Nat) (level : Bool)
  /-- No event has come for STALL_TIME, and the source stalls under HOLD or SYNTH. (R65) -/
  | sourceStall (x : At) (src : Nat)
  /-- An edge on a TSI input or PPS in is captured into its owner's buffer. (R102) -/
  | tsiEdge (x : At) (k : Nat) (input : Nat) (rising : Bool)
  /-- PPS_OUT rises at each whole second of its bound domain. (R111) -/
  | ppsOutRise (x : At)
  /-- PPS_OUT falls PPS_WIDTH after its rising edge. (R111) -/
  | ppsOutFall (x : At)
  /-- An increment write or step takes effect in every super at its tick. (R93) -/
  | timeWriteTakesEffect (x : At)
  /-- No increment write has taken effect for HOLDOVER_INTERVAL, and the domain enters holdover. (R98) -/
  | holdoverEntry (x : At) (dom : Nat)
  /-- A Sync is received and stamped; in device mode the servo steps or writes the increment. (R110) -/
  | ptpSync (x : At) (k : Nat) (port : Nat) (msg : List Byte)
  /-- A Follow_Up completes a two-step Sync for the servo. (R110) -/
  | ptpFollowUp (x : At) (k : Nat) (port : Nat) (msg : List Byte)
  /-- An Announce is received for master choice. (R108) -/
  | ptpAnnounce (x : At) (k : Nat) (port : Nat) (msg : List Byte)
  /-- A Delay_Resp gives the path delay and the Delay_Req interval. (R109) -/
  | ptpDelayResp (x : At) (k : Nat) (port : Nat) (msg : List Byte)
  /-- A Pdelay_Req is answered with Pdelay_Resp and Pdelay_Resp_Follow_Up. (R108) -/
  | ptpPdelayReq (x : At) (k : Nat) (port : Nat) (msg : List Byte)
  /-- A Pdelay_Resp or its Follow_Up is received for 802.1AS delay. (R108) -/
  | ptpPdelayResp (x : At) (k : Nat) (port : Nat) (msg : List Byte)
  /-- The engine sends Delay_Req at the master's interval, or every 1 s before the first Delay_Resp. (R109) -/
  | ptpDelayReqTimer (x : At) (dom : Nat)
  /-- The 10 MHz reference is lost; the tick free-runs with REF_FREE. (R112) -/
  | refLost (x : At)
  /-- After 1 s of unbroken reference the tick slews to lock and REF_FREE clears. (R112) -/
  | refRelock (x : At)
  /-- A rail above its trip level opens the region's switches and seals the super. (R143) -/
  | overcurrentTrip (x : At) (sup : Nat) (rail : Rail)
  /-- A junction at 115 °C opens the region's switches and seals the super provisionally. (R144) -/
  | overTemperatureTrip (x : At) (sup : Nat)
  /-- 1 s after an over-temperature trip the seal becomes permanent and is recorded. (R144) -/
  | provisionalSealExpiry (x : At) (sup : Nat)
  /-- Low flow for 500 ms, or trips in 3 supers within 1 s, powers all regions down to STANDBY. (R145) -/
  | coolantLoss (x : At)
  /-- The main bus below 46 V for 1 ms powers the regions down to STANDBY with no event. (R541) -/
  | supplyShortfall (x : At)
  /-- 2 s after all six supplies work again, the base controller issues a power-on request. (R541) -/
  | shortfallRestartTimer (x : At) (flowLow : Bool)
  /-- The new waggle feeding is in place; the seal notice and waiting words are granted. (R139) -/
  | treePauseEnd (x : At)
  /-- A keeper core silent for 100 ms is removed. (R156) -/
  | keeperWatchdogExpiry (x : At) (core : Nat)
  /-- An uncorrectable keeper cache word halts the core, and its commands complete MEM_UE. (R525) -/
  | keeperCacheUe (x : At) (core : Nat) (cmds : List (Nat × Nat))
  /-- A spare's test ends; it enters service or is retired and the next spare is tried. (R154) -/
  | spareTestComplete (x : At) (gcell : Nat) (pass : Bool)
  /-- A replacement spare's content is rebuilt, and its outputs become valid. (R153) -/
  | cellRebuildComplete (x : At) (sup : Nat) (lcell : Nat)
  /-- A stage instance ends and writes its output record header, valid or invalid. (R184) -/
  | stageInstanceComplete (x : At) (stage : Nat) (r : StageResult)
  /-- A residency transfer completes, writing lines or leaving consumers invalid. (R201) -/
  | foragerTransferComplete (x : At) (idx : Nat)
  /-- A bundle A link goes down, and a row losing its last bundle goes DOWN. (R211) -/
  | bundleLinkLost (x : At) (sup : Nat)
  /-- Every 1 s a down bundle is retrained, and 3 counted failures lose it permanently. (R157) -/
  | bundleRetryTimer (x : At) (sup : Nat) (trains : Bool)
  /-- A bundle trains after its serial and port check, and the row enters CHECKING. (R554) -/
  | bundleTrained (x : At) (sup : Nat) (serial : Nat) (linkPort : Nat)
  /-- The store reports ready and its level check moves the row to SERVING, RESYNC or REFUSED. (R211) -/
  | storeReady (x : At) (row : Nat) (rep : StoreReport)
  /-- A resync copy completes, and the partner row serves. (R207) -/
  | mirrorCopyComplete (x : At) (row : Nat)
  /-- The mirror link is lost, and one row is held down. (R206) -/
  | mirrorLinkLost (x : At) (row : Nat)
  /-- The mirror link returns, and the held row retrains and resyncs. (R206) -/
  | mirrorLinkUp (x : At) (row : Nat)
  /-- A batch of up to 256 queries closes and its tables load. (R325) -/
  | batchClose (x : At)
  /-- Every engine finishes scanning, and the coordinator merges the lists. (R326) -/
  | sweepScanEnd (x : At) (excluded : List Nat) (tableUe : List Nat)
  /-- A query's merged result is filtered, re-run, partial or unavailable and is written. (R330) -/
  | queryComplete (x : At)
  /-- A map optimisation window writes its poses as one commit. (R342) -/
  | mapOptimiseCommit (x : At) (nodes : List (List Byte))
  /-- An occupancy delta word is granted, and every slot updates its count and decides. (R353) -/
  | occDeltaGrant (x : At) (slotUe : List Nat)
  /-- Blocked-edge records reach the route service and buffer in order. (R356) -/
  | blockedRecordDelivered (x : At)
  /-- A slot's recount completes, and its state is reported. (R354) -/
  | recountComplete (x : At) (edge : Nat)
  /-- A route-service keeper core becomes free and a repair or plan starts. (R360) -/
  | repairStart (x : At) (agent : Nat)
  /-- A repair search ends and is checked, reissued, or falls to a full plan. (R363) -/
  | repairComplete (x : At) (agent : Nat)
  /-- A full plan ends, issuing a version or ROUTE_NONE with a hold. (R362) -/
  | fullPlanComplete (x : At) (agent : Nat)
  /-- No host route has come within HOST_ROUTE_WAIT, and a hold is sent. (R376) -/
  | hostRouteWaitExpiry (x : At) (agent : Nat)
  /-- A HELLO is answered and bound on result 0. (R406) -/
  | hello (x : At) (k : Nat) (f : EthFrame)
  /-- A POSE_REQ is stamped and queued, or discarded when 65 are waiting. (R408) -/
  | poseReq (x : At) (k : Nat) (f : EthFrame)
  /-- The fast path propagates the cache entry and sends POSE_REP. (R411) -/
  | poseAnswer (x : At) (port : Nat)
  /-- An ODO message delivers samples to the agent slot and the cache. (R413) -/
  | odo (x : At) (k : Nat) (f : EthFrame)
  /-- A ROUTE_ACK reports progress for the version in force. (R419) -/
  | routeAck (x : At) (k : Nat) (f : EthFrame)
  /-- Every ROUTE_RETRY, unacknowledged segments or holds are resent. (R420) -/
  | routeRetryTimer (x : At) (agent : Nat)
  /-- At the old list's cycle start after the commit, the new gate list takes effect. (R404) -/
  | tsnListSwitch (x : At) (port : Nat)
  /-- A sensor port uplink trains, the group is AWAKE and the hub attaches. (R244) -/
  | sensorLinkUp (x : At) (port : Nat)
  /-- A sensor port uplink is lost, ending any sleep. (R244) -/
  | sensorLinkDown (x : At) (port : Nat)
  /-- A DATA frame delivers lines or returns. (R228) -/
  | oshData (x : At) (k : Nat) (f : OshFrame)
  /-- An EVENT frame delivers stamped event records to phase sources and stages. (R232) -/
  | oshEvent (x : At) (k : Nat) (f : OshFrame)
  /-- A hub DELAY_REQ is answered with DELAY_RESP within 2 µs. (R229) -/
  | oshDelayReq (x : At) (k : Nat) (f : OshFrame)
  /-- A MGMT_RESP completes the outstanding management request, and the next is sent. (R234) -/
  | mgmtResp (x : At) (f : OshFrame)
  /-- No response within 10 ms repeats the request, or after two repeats completes TIMEOUT. (R234) -/
  | mgmtTimeout (x : At) (target : Nat)
  /-- A PORT_STATE reports a module port up or down, starting an attach or ending its data. (R238) -/
  | portState (x : At) (f : OshFrame)
  /-- After 1 s with a hub unused, the engine proposes sleep in device mode. (R245) -/
  | sleepIdleTimer (x : At) (port : Nat)
  /-- A SLEEP_COMMIT arrives; commands to the group complete LINK_ASLEEP. (R243) -/
  | sleepCommit (x : At) (f : OshFrame)
  /-- A SLEEP_ABORT arrives with its cause, and the group is AWAKE. (R247) -/
  | sleepAbort (x : At) (f : OshFrame)
  /-- 1 s after an attach read timeout, the attach is tried once again. (R251) -/
  | attachRetryTimer (x : At) (target : Nat)
  /-- A vision job's pass 1 ends and its p1 publication is written. `bad`: the engine words it read uncorrectable, by frame (0
  the job's own, 1 its other one) and level. (R287, R288) -/
  | pass1Complete (x : At) (stage : Nat) (bad : List (Nat × Nat))
  /-- A vision job's pass 2 and consistency check end and the final header is written. (R287, R288) -/
  | pass2Complete (x : At) (stage : Nat) (bad : List (Nat × Nat))
  /-- At a head's frame start, committed layers are taken and the frame's content is fixed. (R384) -/
  | frameStart (x : At) (head : Nat)
  /-- The last row is sent and the write-back header is marked valid. (R389) -/
  | frameEnd (x : At) (head : Nat) (faults : FrameFaults)
  /-- Hot-plug detect rises and the head trains its link. (R392) -/
  | hotPlugDetect (x : At) (head : Nat) (works : List (Nat × Nat))
  /-- Hot-plug detect drops and the main link goes idle. (R392) -/
  | hotPlugLost (x : At) (head : Nat)
  /-- A panel update step ends, and the next step or pending update starts. (R394) -/
  | panelUpdateStepComplete (x : At)
  /-- The quiesce completes, and the unit enters READY, or STANDBY when a power-off is pending. (R29) -/
  | quiesceComplete (x : At)
  /-- A pluggable module or cable is inserted into a cage, and the engine enables the cage's power
  only when the module's declared power class is within the cage's limit. (R552) -/
  | pluggableModuleInserted (x : At) (cage : Nat) (power : Nat)
  /-- At the end of a gate control list interval the queue gates of a site port open or close, and
  frames waiting for an opening start under length-aware gating and strict priority. (R402) -/
  | tsnGateEvent (x : At) (port : Nat)
  /-- 10 µs after the commit instant, sleep entry occurs, the engine's transmitter on that sensor
  port becomes duty-cycled, and the group goes ASLEEP, or WAKING if a WAKE is latched. (R239) -/
  | sleepEntry (x : At) (port : Nat)
  /-- While the group sleeps, an on-window of 2 µs opens at sleep entry and every 32 µs after it, and
  the engine's transmitter sends any pending WAKE in it. (R242) -/
  | sleepOnWindow (x : At) (port : Nat)
  /-- After the minimum dwell the sensor port's uplink relocks, and the engine's transmitter and
  receiver leave duty-cycling. (R241) -/
  | sensorUplinkRelock (x : At) (port : Nat)
  /-- LEAD ns before each slot start of its stage, the foragers issue a per-slot residency read. (R200) -/
  | residencyReadIssue (x : At) (stage : Nat)
  /-- Under the IEEE 802.1AS profile the engine transmits Pdelay_Req on the domain's port. (R108) -/
  | ptpPdelayReqTimer (x : At) (dom : Nat)
deriving DecidableEq, Repr

end Sys2Proof
end

