-- ==== Sys2Proof/Decode.lean ====
section
/-! DEFINITION. The command a word of the opcode table spells. The table gives no row any bits: every
row has a mnemonic, a rule and a summary and an empty list of fields, so no word spells a command (log
entry 11). -/

namespace Sys2Proof

/-- No row of opcode_table.json gives bits, so no word spells a command. -/
def decodeTableWord (_nbits _w : Nat) : Option Instr := none

end Sys2Proof
end

