-- ==== Sys2Proof/Config.lean ====
section
/-! DEFINITION. The free values: what the spec uses and does not state. Each is opaque, so no proof
can see a value of it (log entry 7). -/

namespace Sys2Proof.Config

/-- The n-th free value, as bits (log entry 7): a value the spec leaves open after which the engine
goes on. `State.freeCtr` counts the ones drawn. -/
opaque freeNat : Nat → Nat

/-- COST or DIST of an item for which no candidate is compared (11 R282 gives that of the best candidate): a function of the
item's point. -/
opaque noCost : Int → Int → Byte

/-- The sine of an fp32 number. 12_fusion_tracking.md uses it and states no algorithm. -/
opaque fpSin : Word32 → Word32

/-- The cosine of an fp32 number; no algorithm is stated. -/
opaque fpCos : Word32 → Word32

/-- The arc tangent of y over x; no algorithm is stated. -/
opaque fpAtan2 : Word32 → Word32 → Word32

/-- The exponential of an fp32 number; no algorithm is stated. -/
opaque fpExp : Word32 → Word32

/-- The increment the device-mode time servo writes (04 R110 gives the loop's form and bandwidth
and no gains): a function of the bandwidth setting, the increment in force and the offsets used so
far, newest first. The engine limits it to the range of R91. -/
opaque servoIncr : Nat → Nat → List Int → Nat

/-- The panel bytes by which the base controller draws a region's content (15 Table 15-5 gives the content and no
lettering): a function of the region, its content and the byte's place in the region. -/
opaque panelByte : Nat → Bytes → Nat → Byte

end Sys2Proof.Config
end

