-- ==== Sys2Proof/Machine/Float.lean ====
section
/-! DEFINITION. Single-precision arithmetic, rounding to nearest even (12 R301, 13, 16): numbers are their 32
bits. A NaN result is 0x7FC0_0000 (log entry 19). -/

namespace Sys2Proof.Machine

abbrev F32 := Word32

def fZero : F32 := 0
def fOne : F32 := 0x3F800000
def fTwo : F32 := 0x40000000
def fHalf : F32 := 0x3F000000
def fNaN : F32 := 0x7FC00000
/-- π and 2π to nearest. -/
def fPi : F32 := 0x40490FDB
def fTwoPi : F32 := 0x40C90FDB
/-- 9.80665 (12 R303). -/
def fGravity : F32 := 0x411CE80A
/-- 0.1 (12 R305). -/
def fTenth : F32 := 0x3DCCCCCD

def fSign (x : F32) : Bool := x.toNat.testBit 31
def fExpo (x : F32) : Nat := x.toNat / 2 ^ 23 % 256
def fMant (x : F32) : Nat := x.toNat % 2 ^ 23
def fIsNaN (x : F32) : Bool := fExpo x == 255 && fMant x != 0
def fIsInf (x : F32) : Bool := fExpo x == 255 && fMant x == 0
def fInf (neg : Bool) : F32 := if neg then 0xFF800000 else 0x7F800000

/-- The magnitude of a finite number in units of 2^-149. -/
def fMag (x : F32) : Nat := if fExpo x = 0 then fMant x else (fMant x + 2 ^ 23) * 2 ^ (fExpo x - 1)

/-- A finite number in units of 2^-149. -/
def fInt (x : F32) : Int := if fSign x then -(fMag x : Int) else (fMag x : Int)

/-- floor(log2 (n / d)) + 149, at least 23 (the subnormal bound shifted). -/
def ratExp (n d : Nat) : Nat :=
  let a := n * 2 ^ 149
  let e := Nat.log2 (a / d)
  max e 23

/-- Round n / d to nearest even, with a sign. -/
def fRound (neg : Bool) (n d : Nat) : F32 :=
  let s : Nat := if neg then 2 ^ 31 else 0
  if n = 0 ∨ d = 0 then BitVec.ofNat 32 s
  else
    let e := ratExp n d
    -- quantum 2^(e - 23) in units of 2^-149
    let num := n * 2 ^ 149
    let q := d * 2 ^ (e - 23)
    let m := num / q
    let r := num % q
    let m := if 2 * r > q ∨ (2 * r = q ∧ m % 2 = 1) then m + 1 else m
    let bits := if m < 2 ^ 23 then m else m - 2 ^ 23 + (e - 22) * 2 ^ 23
    if bits ≥ 255 * 2 ^ 23 then fInf neg else BitVec.ofNat 32 (s + bits)

/-- An exact integer quotient as a number. -/
def fOfRat (n : Int) (d : Nat) : F32 := fRound (decide (n < 0)) n.natAbs d

def fNeg (x : F32) : F32 := x ^^^ 0x80000000

def fAdd (x y : F32) : F32 :=
  if fIsNaN x || fIsNaN y then fNaN
  else if fIsInf x then (if fIsInf y && fSign x != fSign y then fNaN else x)
  else if fIsInf y then y
  else
    let v := fInt x + fInt y
    if v = 0 then (if fSign x && fSign y then 0x80000000 else 0)
    else fRound (decide (v < 0)) v.natAbs (2 ^ 149)

def fSub (x y : F32) : F32 := fAdd x (fNeg y)

def fMul (x y : F32) : F32 :=
  let neg := fSign x != fSign y
  if fIsNaN x || fIsNaN y then fNaN
  else if fIsInf x || fIsInf y then
    (if (fMag x = 0 ∧ fExpo x ≠ 255) ∨ (fMag y = 0 ∧ fExpo y ≠ 255) then fNaN else fInf neg)
  else fRound neg (fMag x * fMag y) (2 ^ 298)

def fDiv (x y : F32) : F32 :=
  let neg := fSign x != fSign y
  if fIsNaN x || fIsNaN y then fNaN
  else if fIsInf x then (if fIsInf y then fNaN else fInf neg)
  else if fIsInf y then (if neg then 0x80000000 else 0)
  else if fMag y = 0 then (if fMag x = 0 then fNaN else fInf neg)
  else fRound neg (fMag x) (fMag y)

/-- Integer square root by bisection on `k` bits. -/
def isqrtN : Nat → Nat → Nat → Nat
  | 0, _, r => r
  | k + 1, n, r => let c := r + 2 ^ k; if c * c ≤ n then isqrtN k n c else isqrtN k n r

def isqrt (n : Nat) : Nat := isqrtN (Nat.log2 n / 2 + 1) n 0

/-- The square root: of an integer with guard bits, an inexact root rounded by a sticky bit. -/
def fSqrt (x : F32) : F32 :=
  if fIsNaN x then fNaN
  else if fMag x = 0 then x
  else if fSign x then fNaN
  else if fIsInf x then x
  else
    let n := fMag x * 2 ^ 211
    let r := isqrt n
    let m := 2 * r + (if r * r = n then 0 else 1)
    fRound false m (2 ^ 181)

/-- Orderings; false on NaN. -/
def fLt (x y : F32) : Bool :=
  if fIsNaN x || fIsNaN y then false
  else if fIsInf x then fSign x && !(fIsInf y && fSign y)
  else if fIsInf y then !fSign y
  else decide (fInt x < fInt y)

def fLe (x y : F32) : Bool :=
  if fIsNaN x || fIsNaN y then false
  else !fLt y x

/-- Truncation toward zero of a finite number scaled by an integer; 0 on infinities and NaN. -/
def fTrunc (x : F32) (k : Int) : Int :=
  if fExpo x = 255 then 0 else (fInt x * k).tdiv (2 ^ 149)

/-- Rounding half away from zero of a finite number scaled by an integer. -/
def fRoundInt (x : F32) (k : Int) : Int :=
  if fExpo x = 255 then 0
  else
    let v := fInt x * k
    let a : Nat := (2 * v.natAbs + 2 ^ 149) / 2 ^ 150
    if v < 0 then -(a : Int) else (a : Int)

/-- An angle wrapped to (−π, π] (12 R301). -/
def fWrap (x : F32) : F32 :=
  if fExpo x = 255 then x
  else
    let p := fInt fPi
    let t := fInt fTwoPi
    if fInt x > p ∨ fInt x ≤ -p then
      let k := -((p - fInt x) / t)
      fSub x (fMul (fOfRat k 1) fTwoPi)
    else x

/-- Sine, cosine and arc tangent: the spec states no algorithm (log entry 7). -/
def fSin (x : F32) : F32 := Config.fpSin x
def fCos (x : F32) : F32 := Config.fpCos x
def fAtan2 (y x : F32) : F32 := Config.fpAtan2 y x

/-! ### Vectors and matrices -/

abbrev Vec := List F32
abbrev Mat := List (List F32)

def fSum (l : Vec) : F32 := l.foldl fAdd fZero
def vGet (v : Vec) (i : Nat) : F32 := v.getD i fZero
def mGet (m : Mat) (i j : Nat) : F32 := vGet (m.getD i []) j
def dot (a b : Vec) : F32 := fSum (List.zipWith fMul a b)
def vAdd (a b : Vec) : Vec := List.zipWith fAdd a b
def vSub (a b : Vec) : Vec := List.zipWith fSub a b
def vScale (k : F32) (a : Vec) : Vec := a.map (fMul k)
def mCol (m : Mat) (j : Nat) : Vec := m.map fun r => vGet r j
def mVec (m : Mat) (v : Vec) : Vec := m.map fun r => dot r v
def mkMat (n k : Nat) (f : Nat → Nat → F32) : Mat := (List.range n).map fun i => (List.range k).map (f i)
def mMul (a b : Mat) : Mat :=
  let w := (b.headD []).length
  a.map fun r => (List.range w).map fun j => dot r (mCol b j)
def mT (m : Mat) : Mat := (List.range (m.headD []).length).map (mCol m)
def mAdd (a b : Mat) : Mat := List.zipWith vAdd a b
def mSub (a b : Mat) : Mat := List.zipWith vSub a b
def mId (n : Nat) : Mat := mkMat n n fun i j => if i = j then fOne else fZero
def mDiag (v : Vec) : Mat := mkMat v.length v.length fun i j => if i = j then vGet v i else fZero
/-- F·P·Fᵀ. -/
def mSandwich (f p : Mat) : Mat := mMul (mMul f p) (mT f)
/-- The upper triangle mirrored (12 R308). -/
def mMirror (m : Mat) : Mat := mkMat m.length m.length fun i j => if i ≤ j then mGet m i j else mGet m j i

/-- One entry of a Cholesky factor from the rows before it. -/
def cholRow (a : Mat) (l : Mat) (i : Nat) : Option Vec :=
  (List.range (i + 1)).foldl (fun acc j => match acc with
    | none => none
    | some row =>
      let s := fSub (mGet a i j) (fSum ((List.range j).map fun k =>
        fMul (vGet row k) (if i = j then vGet row k else mGet l j k)))
      if i = j then (if fLt fZero s then some (row ++ [fSqrt s]) else none)
      else some (row ++ [fDiv s (mGet l j j)])) (some [])

/-- The Cholesky factor of a matrix; none where it is not positive definite (12 R307). -/
def cholesky (a : Mat) : Option Mat :=
  (List.range a.length).foldl (fun acc i => match acc with
    | none => none
    | some l => (cholRow a l i).map fun r => l ++ [r]) (some [])

/-- Solve L·x = b downward. -/
def solveL (l : Mat) (b : Vec) : Vec :=
  (List.range b.length).foldl (fun x i =>
    x ++ [fDiv (fSub (vGet b i) (fSum ((List.range i).map fun k => fMul (mGet l i k) (vGet x k)))) (mGet l i i)]) []

/-- Solve Lᵀ·x = b upward. -/
def solveLT (l : Mat) (b : Vec) : Vec :=
  (List.range b.length).reverse.foldl (fun x i =>
    fDiv (fSub (vGet b i) (fSum ((List.range x.length).map fun k => fMul (mGet l (i + 1 + k) i) (vGet x k))))
      (mGet l i i) :: x) []

/-- Solve L·Lᵀ·x = b. -/
def cholSolve (l : Mat) (b : Vec) : Vec := solveLT l (solveL l b)

/-! ### Quaternions and fixed point -/

/-- An s32 Q1.30 or Q16.16 number in fp32. -/
def fQ30 (v : Int) : F32 := fOfRat v (2 ^ 30)
def fQ16 (v : Int) : F32 := fOfRat v (2 ^ 16)

/-- The rotation matrix of a quaternion by the formula for a unit one (12 R297). -/
def quatMat (w x y z : F32) : Mat :=
  let two := fun a => fMul fTwo a
  [[fSub fOne (two (fAdd (fMul y y) (fMul z z))), two (fSub (fMul x y) (fMul w z)), two (fAdd (fMul x z) (fMul w y))],
   [two (fAdd (fMul x y) (fMul w z)), fSub fOne (two (fAdd (fMul x x) (fMul z z))), two (fSub (fMul y z) (fMul w x))],
   [two (fSub (fMul x z) (fMul w y)), two (fAdd (fMul y z) (fMul w x)), fSub fOne (two (fAdd (fMul x x) (fMul y y)))]]

end Sys2Proof.Machine
end

