-- ==== Sys2Proof/Machine/Bits.lean ====
section
/-! DEFINITION. Little-endian byte strings (00_scope.md R10), bit fields, CRC-32 and the sparse
tables the state is made of. -/

namespace Sys2Proof.Machine

/-- The number a byte string spells, byte 0 least significant (R10). -/
def leNat : Bytes → Nat
  | [] => 0
  | b :: bs => b.toNat + 256 * leNat bs

/-- The low `n` bytes of a number, byte 0 first (R10). -/
def toLE : Nat → Nat → Bytes
  | 0, _ => []
  | n + 1, v => BitVec.ofNat 8 v :: toLE n (v / 256)

/-- A two's-complement number in `n` bytes. -/
def toLEs (n : Nat) (v : Int) : Bytes := toLE n (v % (256 ^ n : Nat)).toNat

/-- `len` bytes from `off`; bytes beyond the end read 0. -/
def sliceB (bs : Bytes) (off len : Nat) : Bytes :=
  let d := (bs.drop off).take len
  d ++ List.replicate (len - d.length) 0

/-- The little-endian field of `len` bytes at `off`. -/
def fieldN (bs : Bytes) (off len : Nat) : Nat := leNat ((bs.drop off).take len)

/-- The signed reading of an unsigned field of `n` bits. -/
def signedOf (n v : Nat) : Int := if v < 2 ^ (n - 1) then (v : Int) else (v : Int) - (2 ^ n : Nat)

/-- The signed little-endian field of `len` bytes at `off`. -/
def fieldS (bs : Bytes) (off len : Nat) : Int := signedOf (8 * len) (fieldN bs off len)

/-- Bits `[hi:lo]` of a number (R9). -/
def bitsOf (v hi lo : Nat) : Nat := v / 2 ^ lo % 2 ^ (hi + 1 - lo)

/-- Is bit `i` set? -/
def bitAt (v i : Nat) : Bool := v.testBit i

/-- Every byte of a reserved range reads 0 (R12). -/
def zeroIn (bs : Bytes) (off len : Nat) : Bool := fieldN bs off len == 0

/-- 1 for true, for a flag bit. -/
def b2n (b : Bool) : Nat := if b then 1 else 0

/-- A number whose bit `i` is the i-th flag. -/
def flagBits : List Bool → Nat
  | [] => 0
  | b :: bs => b2n b + 2 * flagBits bs

/-- The mask of a list of bit numbers. -/
def maskOf (n : Nat) (set : List Nat) : Nat :=
  flagBits ((List.range n).map fun i => set.contains i)

/-- One bit of the reflected CRC-32 of IEEE 802.3 (02 R52). -/
def crcBit (c : Nat) : Nat := if c % 2 = 1 then (c / 2) ^^^ 0xEDB88320 else c / 2

/-- One byte of the CRC-32. -/
def crcByte (c : Nat) (b : Byte) : Nat :=
  crcBit (crcBit (crcBit (crcBit (crcBit (crcBit (crcBit (crcBit (c ^^^ b.toNat))))))))

/-- CRC-32, IEEE 802.3 polynomial, over a byte string (02 R52, 06 Table 6-6). -/
def crc32 (bs : Bytes) : Nat := (bs.foldl crcByte 0xFFFFFFFF) ^^^ 0xFFFFFFFF

/-- `min v 0xFFFF_FFFF`: a count that saturates in 32 bits. -/
def sat32 (v : Nat) : Nat := min v 0xFFFFFFFF

/-- A count that saturates in 16 bits. -/
def sat16 (v : Nat) : Nat := min v 0xFFFF

/-! ### Sparse tables: keys strictly rising -/

/-- The entry of a key. -/
def tget {α : Type} (t : List (Nat × α)) (k : Nat) : Option α :=
  match t with
  | [] => none
  | (j, a) :: r => if j = k then some a else tget r k

/-- The entry of a key, or a default. -/
def tgetD {α : Type} (t : List (Nat × α)) (k : Nat) (d : α) : α := (tget t k).getD d

/-- Set the entry of a key, keys kept rising. -/
def tset {α : Type} (t : List (Nat × α)) (k : Nat) (a : α) : List (Nat × α) :=
  match t with
  | [] => [(k, a)]
  | (j, b) :: r =>
    if k < j then (k, a) :: (j, b) :: r
    else if j = k then (k, a) :: r
    else (j, b) :: tset r k a

/-- Remove a key's entry. -/
def terase {α : Type} (t : List (Nat × α)) (k : Nat) : List (Nat × α) :=
  t.filter fun p => p.1 != k

/-- Change a key's entry, starting from a default. -/
def tmod {α : Type} (t : List (Nat × α)) (k : Nat) (d : α) (f : α → α) : List (Nat × α) :=
  tset t k (f (tgetD t k d))

/-- Keys strictly rising. -/
def tsorted {α : Type} : List (Nat × α) → Bool
  | [] => true
  | [_] => true
  | a :: b :: r => decide (a.1 < b.1) && tsorted (b :: r)

/-- Change the element at an index (no change beyond the end). -/
def lmod {α : Type} (l : List α) (i : Nat) (f : α → α) : List α :=
  match l, i with
  | [], _ => []
  | a :: r, 0 => f a :: r
  | a :: r, i + 1 => a :: lmod r i f

/-- Insert into a set kept as a rising list without repeats. -/
def sins (l : List Nat) (k : Nat) : List Nat :=
  match l with
  | [] => [k]
  | j :: r => if k < j then k :: j :: r else if k = j then j :: r else j :: sins r k

/-- Insert every element. -/
def sinsAll (l ks : List Nat) : List Nat := ks.foldl sins l

/-- Drop consecutive bytes into chunks of `n` (the last may be short); `fuel` bounds the count. -/
def chunksOf {α : Type} (n : Nat) : Nat → List α → List (List α)
  | 0, _ => []
  | _ + 1, [] => []
  | f + 1, l => l.take n :: chunksOf n f (l.drop n)

/-- The smallest `k < n` with `p k`. -/
def firstBelow (n : Nat) (p : Nat → Bool) : Option Nat := (List.range n).find? p

/-- Put bytes in the place of those at an offset. -/
def putBytes (b : Bytes) (off : Nat) (v : Bytes) : Bytes := b.take off ++ v ++ b.drop (off + v.length)

/-- Bytes of a list of byte strings. -/
def catB (l : List Bytes) : Bytes := l.flatten

end Sys2Proof.Machine
end

