-- ==== Sys2Proof/Machine/State.lean ====
section
/-! DEFINITION. The state of the block: everything the spec gives the engine, as plain data, and the
state after reset. Values the spec does not give are named in log entry 5. -/

namespace Sys2Proof.Machine

/-! ### The unit, its power and its start-up (01, 06, 21, 22) -/

/-- Unit states, in code order (01 Table 1-2). -/
inductive UnitState where
  | off | standby | bringup | hold | ready | run | quiesce
deriving DecidableEq, Repr

/-- The unit's life cycle and the base controller's own conditions. -/
structure UnitSt where
  state : UnitState
  /-- Start-up step, 0 to 16 (21 R517). -/
  step : Nat
  /-- Step 4 has ended since the standby rail rose. -/
  step4Done : Bool
  /-- A power-on request is held until step 4 ends (21 R516). -/
  powerOnHeld : Bool
  /-- A power-off request waits for the quiesce or for the regions (01 R28). -/
  powerOffPending : Bool
  /-- The regions are powering down (21 R516). -/
  poweringDown : Bool
  /-- A coolant loss holds the unit in STANDBY (06 R145, R162). -/
  coolantHold : Bool
  /-- A shortfall of the supplies took the regions down (22 R541). -/
  shortfall : Bool
  /-- The wafer fuses could not be read: power-on is refused (21 R517). -/
  fusesBad : Bool
  /-- Power regions whose switches are closed (06 R142), ascending. -/
  regionsOn : List Nat
  /-- Power regions start-up step 5 has still to power (06 R142), ascending. -/
  toPower : List Nat
  /-- Rails switched on (true) or off, oldest first (an output; 06 R142). -/
  railLog : List (Nat × Rail × Bool)
  /-- Neither summary held at step 4: the factory map alone is used (06 R166). -/
  factoryOnly : Bool
  /-- The running image was unloaded because no placement fits, and none has loaded since (06 R151). -/
  noFit : Bool
  /-- UNIT_SERIAL and the site ports' MAC addresses (18 Table 18-3). -/
  serial : Nat
  macs : List Bytes
  /-- Pluggable cages a module was inserted into, and whether the engine enabled its power (22 R552), ascending. -/
  cages : List (Nat × Bool)
deriving DecidableEq, Repr

/-! ### The wafer (05, 06) -/

/-- One super's wafer-map state (05 Table 5-9). -/
structure Super where
  /-- 0 unsealed, 1 sealed, 2 enclosed. -/
  st : Nat
  /-- Working keeper cores, bit j for core j. -/
  keepers : Nat
  /-- Site codes of Table 5-3, 144 of them. -/
  sites : List Nat
  /-- Site index of each logical cell, 0xFF none, 136 of them. -/
  remap : List Nat
  /-- The seal or enclosure is provisional (06 R144) on a trip at this tick. -/
  provisional : Option Nat
deriving DecidableEq, Repr

/-- What a super's seal record holds (06 R148). -/
structure SealRec where
  st : Nat
  keepers : Nat
  sites : List Nat
  remap : List Nat
deriving DecidableEq, Repr

/-- A tree pause (05 R139). -/
structure Pause where
  /-- Local counter, ns, at its start. -/
  startNs : Nat
  /-- D_w before it. -/
  oldDw : Nat
  /-- Supers whose seal notice waits. -/
  notices : List Nat
deriving DecidableEq, Repr

/-- What the fabric paths in force were fixed from (05 R130): the supers sealed or enclosed then, and the dead sites. -/
structure PathBasis where
  shut : List Nat
  dead : List Nat
deriving DecidableEq, Repr

/-- The physical organisation of the wafer module. -/
structure WaferSt where
  serial : Nat
  supers : List Super
  dw : Nat
  mapSeq : Nat
  /-- LKT of the last change (05 Table 5-8). -/
  lastChange : Bytes
  pause : Option Pause
  /-- Over-temperature trips (tick, super), newest first (06 R144). -/
  trips : List (Nat × Nat)
  /-- The placement and binding a move in progress goes to (06 R149). -/
  move : Option (Nat × List Nat)
  /-- Spare sites named by the fuses, per super (05 R122). -/
  factorySpares : List (List Nat)
  /-- The paths of the comb fabric (05 R130); none before start-up step 7 ends. -/
  paths : Option PathBasis
deriving DecidableEq, Repr

/-! ### The base controller's flash: fault record, site record, seal records (06) -/

/-- The fault record summary but for its generation (06 Table 6-6). -/
structure Summary where
  gen : Nat
  replaceReq : Bool
  causes : Nat
  sealedMask : Nat
  sealedCount : Nat
  serial : Nat
  bootCount : Nat
  stamp : Bytes
  lostBundles : Nat
deriving DecidableEq, Repr

/-- A committed event of the ring (06 Table 6-7). -/
structure FaultEvent where
  seq : Nat
  boot : Nat
  kind : Nat
  cause : Nat
  subject : Nat
  detail : Nat
  stamp : Bytes
  /-- Its slot of the ring, counted from the erased ring (06 R164). -/
  slot : Nat
deriving DecidableEq, Repr

/-- What the base controller keeps over a loss of power. -/
structure FlashSt where
  /-- The two summary copies; none: the copy does not hold (06 R164, R166). -/
  copyA : Option Summary
  copyB : Option Summary
  /-- The ring, oldest first. -/
  ring : List FaultEvent
  nextSeq : Nat
  /-- The slot the next event is programmed into. -/
  nextSlot : Nat
  sealRecs : List (Nat × SealRec)
  /-- Site record (05 R123): retired sites and spares brought into service, global cell ids. -/
  retired : List Nat
  sparesIn : List Nat
  /-- Cells with a counted uncorrectable outcome (07 R181). -/
  ueMap : List Nat
  /-- Keeper cores removed for good (06 R156). -/
  keepersGone : List Nat
deriving DecidableEq, Repr

/-! ### Time (04) -/

/-- A time domain (04 R88, R89). Counters are in units of 2^-32 ns. -/
structure Domain where
  value : Nat
  incr : Nat
  valid : Bool
  holdover : Bool
  /-- Local counter at the last increment write to take effect. -/
  lastWrite : Nat
  /-- The writes since the counters started, newest first: the tick, and the counter at it and the increment without the
  write (04 R94, 09 R232). -/
  hist : List (Nat × Nat × Nat)
deriving DecidableEq, Repr

/-- What a write on the time-domain shadow does (04 R91, R92, R95). -/
inductive TimeOp where
  | incr (v : Nat)
  | stepTo (v : Nat)
  | stepBy (v : Int)
  | select
deriving DecidableEq, Repr

/-- A write issued and not yet in effect (04 R93). -/
structure TimeWrite where
  dom : Nat
  op : TimeOp
  /-- Effect tick; none while it waits across a tree pause. -/
  eff : Option Nat
  /-- The command it completes. -/
  cmd : Option (Nat × Nat)
deriving DecidableEq, Repr

/-- The device-mode servo of one domain (04 R109, R110). -/
structure Servo where
  /-- A two-step Sync whose Follow_Up is awaited: sequenceId, receive time, correction. -/
  sync : Option (Nat × Int × Int)
  /-- Transmit time of the Delay_Req or Pdelay_Req outstanding, with its sequenceId. -/
  delayTx : Option (Nat × Int)
  /-- A Pdelay_Resp whose Follow_Up is awaited: sequenceId, receive time, request receipt at the peer. -/
  pdelay : Option (Nat × Int × Int)
  /-- Mean path delay in 2^-32 ns. -/
  path : Int
  /-- The last Sync used: its origin and receive times. -/
  last : Option (Int × Int)
  /-- The best master's Announce dataset. -/
  master : Option Bytes
  /-- logMessageInterval of the last Delay_Resp. -/
  logInterval : Option Int
  /-- sequenceId of the next request the engine sends. -/
  nextSeq : Nat
  /-- Local counter, ns, at the last request sent. -/
  lastReqNs : Option Nat
  /-- Offsets used so far, newest first. -/
  offsets : List Int
  /-- Transmit time of the last Pdelay_Resp, for its Follow_Up. -/
  respTx : Int
deriving DecidableEq, Repr

/-- The timebase. -/
structure TimeSt where
  /-- Schedule ticks since the model's start. -/
  tick : Nat
  /-- The counters run (from start-up step 5). -/
  running : Bool
  localC : Nat
  domA : Domain
  domB : Domain
  /-- The active domain, 1 A or 2 B. -/
  active : Nat
  refPresent : Bool
  refFree : Bool
  writes : List TimeWrite
  /-- Tick of a pending auto-switch (04 R99). -/
  autoAt : Option Nat
  settings : TimeSettings
  ppsHigh : Bool
  /-- The last whole second PPS_OUT marked (04 R111). -/
  ppsMarked : Option Nat
  /-- Local counter at which PPS_OUT falls. -/
  ppsFall : Nat
  servoA : Servo
  servoB : Servo
deriving DecidableEq, Repr

/-- Who owns a capture input or a schedule entry. -/
inductive Owner where
  | image
  | queue (qp : Nat)
deriving DecidableEq, Repr

/-- A capture input: TSI 0 to 63, PPS in 64, sensor port p at 65 + p (04 R102, R105). -/
structure CapInput where
  owner : Option Owner
  /-- Bit 0 rising, bit 1 falling. -/
  edges : Nat
  seq : Nat
  /-- Local counter at the last captured edge. -/
  last : Option Nat
  missed : Nat
deriving DecidableEq, Repr

/-- A queue pair's capture buffer (04 R106). -/
structure CapBuf where
  /-- Records with the local counter at their instant, in the order of their stamps. -/
  recs : List (Nat × Bytes)
  dropped : Nat
deriving DecidableEq, Repr

/-- Capture. -/
structure CapSt where
  inputs : List (Nat × CapInput)
  bufs : List (Nat × CapBuf)
  /-- Records delivered to stage inputs (input, record), oldest first. -/
  toStages : List (Nat × Bytes)
  /-- PTP_READ entries waiting (04 R116), oldest first. -/
  ptp : List Bytes
  /-- SEQ per site port for PTP frame records. -/
  portSeq : List (Nat × Nat)
  /-- SEQ of software captures: per queue pair, and per module at 64 + address. -/
  softSeq : List (Nat × Nat)
deriving DecidableEq, Repr

/-! ### Phase sources and the schedule (03) -/

/-- A source definition (03 Table 3-3). PERIOD in 1/65,536 ns, STALL_TIME in µs. -/
structure SourceDef where
  kind : Nat
  origin : Nat
  originId : Nat
  units : Nat
  stride : Nat
  synth : Bool
  zUse : Bool
  invert : Bool
  zOffset : Nat
  stallTime : Nat
  period : Nat
  originNs : Nat
  originS : Nat
deriving DecidableEq, Repr

/-- How a phase is extrapolated (03 R62): from `phase` at the local counter `stamp`, at `num / den` ph
per counter unit, at most `limit` ph away (none: without limit, 03 R67). -/
structure Extrap where
  phase : Nat
  stamp : Nat
  num : Int
  den : Nat
  limit : Option Nat
deriving DecidableEq, Repr

/-- Running state of a source (03 Table 3-4). -/
inductive SrcState where
  | disabled | starting | running | stalledHold | stalledSynth
deriving DecidableEq, Repr

/-- One phase source. -/
structure Source where
  defn : SourceDef
  st : SrcState
  /-- Events used since the definition took effect. -/
  seen : Nat
  /-- The accumulated count N of an encoder (03 R59). -/
  count : Int
  /-- f0 or c0 (03 R60). -/
  origin0 : Option Nat
  /-- Extrapolation from the tick after `effTick`, and up to it (03 R62). -/
  cur : Extrap
  old : Extrap
  effTick : Nat
  /-- Local counter at the last event. -/
  lastEvent : Nat
  /-- Stamps of the last event in A and B (03 Table 3-4). -/
  stampA : Bytes
  stampB : Bytes
  /-- Phase and stamp the next rate is measured from (03 R59, R62). -/
  ratePhase : Nat
  rateStamp : Nat
  /-- A count or event was stamped there: a rate can be measured (03 R59, R62). -/
  rated : Bool
  /-- What a recovery after SYNTH added to the phases its events carry, but for an encoder (03 R68). -/
  adj : Nat
  /-- The rate in use, ph per counter unit (03 R62). -/
  rateNum : Int
  rateDen : Nat
  /-- The synthetic phase a recovery holds at (03 R68). -/
  heldAt : Option Nat
deriving DecidableEq, Repr

/-- An encoder input's three lines: the level held, the level at the pin, and the local counter at the last accepted edge
(03 R59). -/
structure EncIn where
  a : Bool
  b : Bool
  z : Bool
  pinA : Bool
  pinB : Bool
  pinZ : Bool
  lastA : Option Nat
  lastB : Option Nat
  lastZ : Option Nat
deriving DecidableEq, Repr

/-- A measured event of a source waiting for its phase tick (05 R139). -/
structure PhaseEv where
  src : Nat
  /-- Phase, local counter, stamps in A and B. -/
  phase : Nat
  stamp : Nat
  stampA : Bytes
  stampB : Bytes
  /-- Leaves the rate unchanged (a Z edge, 03 R59), with the correction made to the phase. -/
  zEdge : Bool
  zCorr : Int
  /-- Distance to the next expected event's phase, forward and in reverse (03 R62). -/
  fwd : Nat
  bwd : Nat
  /-- Its cycle is its own, as an encoder's count carries it (03 R68). -/
  encoder : Bool
deriving DecidableEq, Repr

/-- Life of a schedule entry. -/
inductive EntrySt where
  /-- Free; the entry keeps its last owner (03 R73). -/
  | free
  /-- Its arming takes effect at the next schedule tick (03 R75). -/
  | arming
  /-- Held on a STARTING source (03 R76). -/
  | held
  | armed
  /-- Fired and disarmed. -/
  | fired
deriving DecidableEq, Repr

/-- A schedule entry (03 Table 3-5). TARGET: ph, or 1/65,536 ns. -/
structure Entry where
  st : EntrySt
  owner : Owner
  src : Nat
  tkind : Nat
  either : Bool
  late : Nat
  action : Nat
  target : Nat
  /-- Relative target: cycles and ph, or 1/65,536 ns, as one signed number. -/
  rel : Option Int
  interval : Nat
  arg : Nat
  /-- Firings since armed (03 Table 3-6 SEQ). -/
  seq : Nat
  /-- The tick its arming was issued or took effect at. -/
  tick : Nat
  /-- The SCHED_ARM that has not completed. -/
  cmd : Option (Nat × Nat)
deriving DecidableEq, Repr

/-- An edge of a timed output: output, operation (0 high, 1 low, 2 toggle), local counter at the edge, and the entry it
orders by at one instant; 16,384 for TSO_FIRE_NOW (03 R79). -/
structure TsoEdge where
  output : Nat
  op : Nat
  at_ : Nat
  id : Nat
deriving DecidableEq, Repr

/-- A timed output (03 R78, R79): its level before the edges decided and not yet past, those edges, and the trailing edges
of its pulses, each in the order in which it is applied. -/
structure Tso where
  level : Bool
  due : List TsoEdge
  trails : List TsoEdge
deriving DecidableEq, Repr

/-- Phase sources, schedule and timed outputs. -/
structure SchedSt where
  sources : List Source
  enc : List EncIn
  waiting : List PhaseEv
  entries : List (Nat × Entry)
  tso : List Tso
  /-- Edges in the order in which they were decided (an output). -/
  tsoLog : List TsoEdge
  /-- Snapshots of image entries (entry, record), for stage inputs. -/
  snaps : List (Nat × Bytes)
deriving DecidableEq, Repr

/-! ### The host interface (17, 18) -/

/-- A packet's deadline (17 R439): domain and value in 2^-32 ns, or source and phase. -/
inductive Deadline where
  | none
  | time (dom v : Nat)
  | phase (src v : Nat)
deriving DecidableEq, Repr

/-- How far an accepted command has got. -/
inductive Prog where
  /-- Accepted; its execution has not begun. -/
  | fresh
  /-- Begun; it completes with a later event. `a`, `b` are the command's own. -/
  | waiting (a b : Nat)
deriving DecidableEq, Repr

/-- An accepted command (17 R438, R448). -/
structure Cmd where
  qp : Nat
  tag : Nat
  opcode : Nat
  params : Bytes
  noIrq : Bool
  fence : Bool
  deadline : Deadline
  /-- The timeout of a read that waits, bound at acceptance (04 R96, R107): value and domain. -/
  timeout : Nat × Nat
  /-- The local counter and the active domain's at acceptance (16 R422). -/
  localC : Nat
  activeC : Nat
  /-- The state record STATE_READ returns, taken at acceptance (18 R467); empty for other opcodes. -/
  latch : Bytes
  resultBuf : Nat
  sqHead : Nat
  /-- Tick of acceptance. -/
  tick : Nat
  /-- The queue pair's enabling it belongs to. -/
  gen : Nat
  /-- Its TSEQ on the network transport. -/
  net : Option Nat
  /-- Its effect was fired on an extrapolated phase (03 R67, 19 R478). -/
  synth : Bool
  prog : Prog
deriving DecidableEq, Repr

/-- A completion entry (17 Table 17-4) with the result written before it. -/
structure Completion where
  tag : Nat
  status : Nat
  replyFlags : Nat
  qp : Nat
  cqFlags : Nat
  detail : Nat
  epoch : Nat
  stamp : Nat
  sqHead : Nat
  resultBuf : Nat
  result : Bytes
deriving DecidableEq, Repr

/-- The network side of a queue pair (17 R454, R455). -/
structure NetPeer where
  port : Nat
  ip : Nat
  udp : Nat
  /-- The next expected TSEQ. -/
  tseq : Nat
  /-- The last 64 accepted: TSEQ and its completion once made, newest first. -/
  recent : List (Nat × Option Completion)
  /-- Tick of the last accepted request. -/
  lastTick : Nat
deriving DecidableEq, Repr

/-- A queue pair. -/
structure QueuePair where
  sqBase : Word64
  cqBase : Word64
  size : Word32
  sqHead : Nat
  sqTail : Nat
  cqHead : Nat
  cqTail : Nat
  /-- PHASE of the next entry (17 R435). -/
  cqPhase : Bool
  /-- Packets read by the engine's DMA and not accepted: head first; none: the read failed. -/
  unread : List (Option Bytes)
  /-- TSEQ of each unread network request. -/
  unreadSeq : List Nat
  /-- Completion entries reserved and not yet written (17 R434). -/
  reserved : Nat
  /-- Enablings so far. -/
  gen : Nat
  net : Option NetPeer
deriving DecidableEq, Repr

/-- A PCI Express port. -/
structure PciePort where
  up : Bool
  /-- MSI-X vectors armed (17 R452), and masked in the MSI-X table. -/
  armed : List Nat
  masked : List Nat
  /-- Messages sent, oldest first (an output). -/
  sent : List Nat
deriving DecidableEq, Repr

/-- The settings of site port 8 or 9 (17 R454). -/
structure NetPort where
  ip : Nat
  prefixLen : Nat
  gateway : Nat
deriving DecidableEq, Repr

/-- What was sent on the host network: port, protocol (17 UDP, 1 ICMP, 0x0806 ARP), peer address and UDP
port, payload. -/
structure NetOut where
  port : Nat
  proto : Nat
  ip : Nat
  udp : Nat
  payload : Bytes
deriving DecidableEq, Repr

/-- A map distribution destination (17 R456). -/
structure MapDist where
  ip : Nat
  udp : Nat
  streams : Nat
  via : Nat
  dseq : Nat
deriving DecidableEq, Repr

/-- The host interface. -/
structure HostSt where
  fastReady : Bool
  keeperReady : Bool
  /-- HIF_FLAGS bit 16. -/
  qpDisabled : Bool
  hifLevel : Nat
  /-- The last value read from HIF_FLAGS (an output of HIF_FLAGS_READ). -/
  flagsRead : Nat
  qps : List QueuePair
  ports : List PciePort
  accepted : List Cmd
  completions : List Completion
  /-- Held unsolicited events, one per code: code and argument (17 R453). -/
  held : List (Nat × Nat)
  /-- The queue pair served last in the round (17 R436). -/
  served : Nat
  netPorts : List NetPort
  netOut : List NetOut
  dists : List MapDist
  /-- DMA writes of results and of completion entries work (17 R445). -/
  resultOk : Bool
  cqOk : Bool
deriving DecidableEq, Repr

/-- A region of the memory plan (07 Table 7-4). -/
structure Region where
  placement : Nat
  lsuper : Nat
  lcell : Nat
  kind : Nat
  offset : Nat
  len : Nat
  owner : Nat
deriving DecidableEq, Repr

/-! ### Roadmap, compositor and agent parts of an image (14, 15, 16) -/

/-- A roadmap edge (14 Table 14-7): its fields, knot bytes and bitmap. -/
structure Edge where
  id : Nat
  cls : Nat
  start : Nat
  stop : Nat
  knots : Bytes
  scale : Nat
  threshold : Nat
  ax : Nat
  ay : Nat
  az : Nat
  cost : Nat
  length : Nat
  bitmap : Bytes
deriving DecidableEq, Repr

/-- A class's roadmap (14 Tables 14-5, 14-6): nodes as 16 bytes of position and heading. -/
structure Roadmap where
  cls : Nat
  maxSpeed : Word32
  radius : Nat
  nodes : List Bytes
  edges : List Edge
deriving DecidableEq, Repr

/-- Section 0x0080 (15 R398): two head records and 32 layer descriptors. -/
structure Layouts where
  heads : List Bytes
  layers : List Bytes
deriving DecidableEq, Repr

/-! ### Images, epochs and firmware (02, 19, 21) -/

/-- A logical super's requirements (02 Table 2-6). -/
structure LogReq where
  pinned : Bool
  phys : Nat
  cells : Nat
  keepers : Nat
  rowMask : Nat
  storeBound : Bool
deriving DecidableEq, Repr

/-- A requirement of an image on an interface (21 R533, R534). -/
structure IfaceReq where
  iface : Nat
  level : Nat
deriving DecidableEq, Repr

/-- A range of levels an image provides on an interface (21 R533). -/
structure IfaceProv where
  iface : Nat
  lo : Nat
  hi : Nat
deriving DecidableEq, Repr

/-- A tested-pair entry (21 Table 21-7). -/
structure PairEntry where
  kind : Nat
  maker : Nat
  model : Nat
  lo : Nat
  hi : Nat
deriving DecidableEq, Repr

/-- A hive image as the engine holds it: its container (02), its schedule section (03 R84), its levels and
pairs (21 R534, R535), the parts other chapters lay out, and the parts no chapter lays out (log entry 4). -/
structure HiveImg where
  id : Bytes
  len : Nat
  crc : Nat
  formatLevel : Nat
  bMig : Nat
  placements : List (List LogReq)
  hostEntries : Nat
  sources : List SourceDef
  /-- Per placement, per logical super: its entries. -/
  entries : List (List (List Entry))
  reqs : List IfaceReq
  gebetex : Nat
  pairs : List PairEntry
  modes : List Bool
  site : SiteDesc
  /-- The memory plan (07 Table 7-4), in entry order. -/
  plan : List Region
  /-- Section 0x0060, if present (13 Table 13-2). -/
  codebook : Option Bytes
  /-- Sections 0x0050 to 0x005F (14 R372). -/
  roadmaps : List Roadmap
  /-- Per placement: edge id by slot 2,048 L + j (14 R372). -/
  slots : List (List (Nat × Nat))
  /-- Section 0x0080 (15 R398). -/
  layouts : Option Layouts
  /-- Section 0x0030 (08 Table 8-3), in entry order. -/
  residency : List Bytes
  /-- The whole image, as the store image area holds it (08 R199). -/
  bytes : Bytes
  /-- The blobs of sections 0x0040 (true) and 0x0041: section, BLOB_ID, offset in the image, length, CRC (07 R192). -/
  blobs : List (Bool × Nat × Nat × Nat × Nat)
deriving DecidableEq, Repr

/-- A gate control list (16 R404). -/
structure GateList where
  baseDom : Nat
  /-- In 2^-32 ns. -/
  base : Nat
  /-- Mask and duration in ns of each interval. -/
  items : List (Nat × Nat)
deriving DecidableEq, Repr

/-- The changes staged for one commit (19 Table 19-1). -/
structure StagedSet where
  xforms : List (Nat × Bytes)
  sources : List (Nat × SourceDef)
  modes : List (Nat × Bool)
  gates : List (Nat × GateList)
  codebook : Option Bytes
  /-- A replacement image and its chosen placement. -/
  image : Option (HiveImg × Nat)
deriving DecidableEq, Repr

/-- A host commit armed (19 R476, R477). -/
structure ArmedCommit where
  set : StagedSet
  /-- Its schedule entry; none once it has fired. -/
  entry : Nat
  qp : Nat
  tag : Nat
  /-- It fires and takes effect at this tick; none before it fires. -/
  eff : Option Nat
  /-- Its word waits across a tree pause (19 R491). -/
  waits : Bool
  /-- DETAIL so far (19 R496). -/
  detail : Nat
deriving DecidableEq, Repr

/-- An attach's engine commit issued (10 R258, R259; 19 R480). The commit that ends a placement move is issued when
its fill has ended: no entry stands for it (log entry 21). -/
structure EngineCommit where
  module : Nat
  xforms : List (Nat × Bytes)
  sources : List (Nat × SourceDef)
  /-- Effect tick; none while its word waits across a pause. -/
  eff : Option Nat
deriving DecidableEq, Repr

/-- A rolling change in progress (19 R481, R482). -/
structure Rolling where
  fromEpoch : Nat
  /-- Tick of its commit. -/
  since : Nat
  parts : List RollPart
deriving DecidableEq, Repr

/-- A load in progress (02 R55, 21 R517 step 14, 19 R487). -/
structure Loading where
  img : HiveImg
  placement : Nat
  qp : Nat
  tag : Nat
deriving DecidableEq, Repr

/-- Epochs and the hive image in use. -/
structure EpochSt where
  epoch : Nat
  /-- The tick at which the last commit took effect (19 R480). -/
  commitTick : Option Nat
  staged : StagedSet
  armed : Option ArmedCommit
  engine : List EngineCommit
  rolling : Option Rolling
  /-- Function modes in the order of 01 Table 1-5; true: host-assisted. -/
  modes : List Bool
  image : Option HiveImg
  placement : Nat
  /-- Physical super of each logical super. -/
  binding : List Nat
  loading : Option Loading
  /-- `host_entries` of the image loaded last since the counters started (02 R42). -/
  hostEntries : Nat
deriving DecidableEq, Repr

/-- A firmware image in its envelope (21 R533), as held in a slot. -/
structure FwImage where
  level : Nat
  maker : Nat
  model : Nat
  prov : List IfaceProv
  reqs : List IfaceReq
  pairs : List PairEntry
deriving DecidableEq, Repr

/-- A firmware transfer open (18 R470, 21 R530). -/
structure FwTransfer where
  target : Nat
  index : Nat
  qp : Nat
  total : Nat
  got : Bytes
deriving DecidableEq, Repr

/-- A transfer to a hub or module in progress after its end (21 R530). -/
structure FwSend where
  target : Nat
  index : Nat
  qp : Nat
  tag : Nat
  rest : List Bytes
  offset : Nat
deriving DecidableEq, Repr

/-- Firmware. -/
structure FwSt where
  slotA : Option FwImage
  slotB : Option FwImage
  micro : Option FwImage
  /-- BOOT_SLOT: 0 A, 1 B. -/
  bootSlot : Nat
  booted : Option Nat
  /-- The Keeper firmware and the microcode running, as booted and loaded (a slot may be written since). -/
  bootImg : Option FwImage
  microRun : Option FwImage
  /-- The slot being tried at step 8, its attempt and whether it is the second slot tried. -/
  trying : Option (Nat × Nat × Bool)
  transfers : List FwTransfer
  sends : List FwSend
  /-- Refusals for FW_READ: kind and index as 256 kind + index, and REFUSE. -/
  refused : List (Nat × Nat)
  /-- Untested pairs running, as SUBJECT and EV_DETAIL of Table 21-9, and those already reported in this
  boot. -/
  pairsRunning : List (Nat × Nat)
  pairsSeen : List (Nat × Nat)
  /-- The settings recorded at the last load to reach step 16 (21 R519). -/
  held : Option TimeSettings
deriving DecidableEq, Repr

/-! ### Companion stores (08) -/

/-- STORE_STATE, in code order (08 Table 8-4). -/
inductive RowState where
  | notConfigured | down | checking | resync | serving | refused
deriving DecidableEq, Repr

/-- One store row (08 R211, R218). -/
structure StoreRow where
  /-- CONFIG: 0 absent, 1 single, 2 mirrored. -/
  config : Nat
  st : RowState
  /-- Columns x whose bundle A is trained, ascending. -/
  up : List Nat
  /-- The row's bundles are held down (R206, R211). -/
  held : Bool
  /-- STORE_SERIAL (22 R554); 0 if never trained. -/
  serial : Nat
  /-- The serial setting holds until every bundle is down (22 R554). -/
  serialSet : Bool
  fwLevel : Nat
  mirrorGen : Nat
  /-- The generation at which it began to serve alone (R207). -/
  solo : Option Nat
  /-- 1 MiB extents written while serving alone. -/
  extents : List Nat
  /-- Extents listed unflushed (R215). -/
  unflushed : List Nat
  /-- IMAGE_ID and HEADER_CRC recorded in the control range (R199). -/
  image : Option (Bytes × Nat)
  /-- Extents listed at the last restore, for UNFLUSHED (R218). -/
  restored : Nat
  mirrorUp : Bool
  /-- Unflushed extents whose events await the next entry into SERVING (R215). -/
  ueDue : List Nat
  /-- Poisoned-line list (R210), line addresses. -/
  poisoned : List Nat
deriving DecidableEq, Repr

/-- A residency transfer issued and not complete (08 R200): its entry's index, the physical super, its
stage's slot for per-slot modes. -/
structure Transfer where
  entry : Nat
  sup : Nat
  tick : Nat
deriving DecidableEq, Repr

/-- Stores, bundles and transfers. -/
structure StoreSt where
  rows : List StoreRow
  /-- Consecutive counted retries failed, per super (06 R157). -/
  retries : List (Nat × Nat)
  transfers : List Transfer
  /-- Supers whose bundle failed the check of its cable, and has made its event (22 R554). -/
  miscabled : List Nat
  /-- Where the running image, and a staged replacement, stand in the image areas (R199, 19 R487). -/
  imageBase : Nat
  /-- What the free part of a row's image area holds: row, IMAGE_ID and HEADER_CRC of a staged image (19 R487). -/
  stagedRows : List (Nat × Bytes × Nat)
  /-- Residency regions left with an error, by entry index (R201). -/
  badRegions : List Nat
  /-- Entries whose read was not delivered, as its row did not serve (R202, R212). -/
  unread : List Nat
  /-- Per stage, how many of its LEAD groups were issued for the coming slot (R200). -/
  issued : List (Nat × Nat)
deriving DecidableEq, Repr

/-! ### The front panel (15) -/

/-- The front panel (15 R393 to R396). A drawn region holds its content, not its pixels; regions: 1
identity, 2 state, 3 replacement block, 4 last fault. -/
structure PanelSt where
  /-- Content last commanded per region. -/
  drawn : List (Nat × Bytes)
  bandBlack : Bool
  /-- The update running: its step 1 to 3 and its regions. -/
  update : Option (Nat × List Nat)
  /-- Regions of the pending set. -/
  pendingSet : List Nat
  /-- The replacement block's own update comes first. -/
  replFirst : Bool
  /-- The newest event the last-fault region shows. -/
  lastFault : Bytes
deriving DecidableEq, Repr

/-! ### Cell SRAM (07) and store lines (08) -/

/-- The cells' own memory state beside their words. -/
structure CellSt where
  /-- Poison registers: global cell, byte address of the word (07 R177). -/
  poison : List (Nat × Nat)
  /-- MEM_CE events since the last start-up, by 16 × global cell + bank (07 R180). -/
  ceCount : List (Nat × Nat)
  /-- Cells under injection (07 R189). -/
  injected : List Nat
  /-- Logical cells waiting for a spare's test: 136 × super + logical cell, and the spare under test (06
  R153, R154). -/
  testing : List (Nat × Nat)
  /-- Retirements that follow the access now in progress: cell and cause (07 R180). -/
  due : List (Nat × Nat)
  /-- Logical cells whose content is being rebuilt: 136 × super + logical cell (06 R153). -/
  rebuilding : List Nat
deriving DecidableEq, Repr

/-! ### Sensor ports, hubs and modules (09, 10) -/

/-- Group sleep states, in code order (09 Table 9-7, 9-8). -/
inductive Group where
  | awake | proposed | committed | asleep | waking
deriving DecidableEq, Repr

/-- A sensor port as the engine sees it. -/
structure SensorPort where
  /-- The uplink is trained. -/
  up : Bool
  group : Group
  /-- LAST_PROPOSAL and LAST_CAUSE (Table 9-8). -/
  proposal : Nat
  cause : Nat
  /-- The LINK_SLEEP waiting for the hub's decision (R247). -/
  sleepCmd : Option (Nat × Nat)
  /-- LINK_WAKE commands waiting for AWAKE. -/
  wakeCmds : List (Nat × Nat)
  /-- A WAKE was sent since the proposal or the commit (R240). -/
  wakeSent : Bool
  /-- A WAKE waits for the next on-window (R242). -/
  wakeDue : Bool
  /-- The engine's transmitter is duty-cycled (R239). -/
  duty : Bool
  /-- Hub ports reported since the wake, all 16 of which end it (R244). -/
  reported : List Nat
  /-- Hub ports up, ascending. -/
  modulesUp : List Nat
  /-- Local counters at the last exchanges answered on the uplink, newest first, at most two (R231). -/
  exchanges : List Nat
  /-- SEQ counters by 256 × ADDR + OSH_TYPE (R225). -/
  seqs : List (Nat × Nat)
deriving DecidableEq, Repr

/-- A link buffer (09 R236): its port and its 16-byte header and 16-byte TRIGGER payload. -/
structure LinkBuf where
  port : Nat
  frame : Bytes
deriving DecidableEq, Repr

/-- What a management request serves. -/
inductive MgmtUse where
  /-- A read of an attach (10 R250). -/
  | attach
  /-- The write of a site write: its slot once sent, pose, and the command it completes (10 R264). -/
  | siteWrite (slot : Nat) (pose : Bytes) (cmd : Option (Nat × Nat))
  /-- Its read-back: slot, pose, command. -/
  | siteRead (slot : Nat) (pose : Bytes) (cmd : Option (Nat × Nat))
  /-- A firmware operation (21 R530). -/
  | firmware
deriving DecidableEq, Repr

/-- A management request (09 Table 9-6). -/
structure Mgmt where
  op : Nat
  offset : Nat
  len : Nat
  data : Bytes
  use : MgmtUse
deriving DecidableEq, Repr

/-- The requests to one hub or module (09 R234): the one outstanding with its SEQ, its repeats and the local counter when
it was last sent, and those waiting. -/
structure MgmtQueue where
  out : Option (Mgmt × Nat × Nat × Nat)
  wait : List Mgmt
deriving DecidableEq, Repr

/-- What waits for a sensor port's transmitter: a frame, or a DELAY_RESP with ADDR, SEQ and the local counter at its
request's arrival, whose t3 is inserted as it leaves (09 R229). -/
inductive LinkItem where
  | frame (b : Bytes)
  | answer (addr seq heard : Nat)
deriving DecidableEq, Repr

/-- ATTACH_STATE, in code order (10 Table 10-6). -/
inductive AttachState where
  | down | reading | attached | unused | mismatch | readFailed | hubRefused
deriving DecidableEq, Repr

/-- The attach of a hub or module (10 Table 10-6). -/
structure Attach where
  st : AttachState
  status : Nat
  failType : Nat
  failCount : Nat
  cls : Nat
  usable : Nat
  siteSlot : Nat
  siteGen : Nat
  serial : Nat
  /-- The mode at the attach (`MODE`), and whether it is served as in host-assisted mode: true for that mode. -/
  mode : Bool
  ha : Bool
  epoch : Nat
  /-- Record and site area as read. -/
  record : Bytes
  site : Bytes
  /-- The attach was tried again after a timeout (R251). -/
  retried : Bool
  /-- A retry timer runs. -/
  retryDue : Bool
  /-- MODULE_REATTACH commands waiting for its end. -/
  cmds : List (Nat × Nat)
  /-- Its engine commit has been issued and has not taken effect. -/
  committing : Bool
  /-- Sources defined by the host since an attach in host-assisted mode (R270). -/
  hostSources : List Nat
deriving DecidableEq, Repr

/-- The sensor links. -/
structure LinkSt where
  ports : List SensorPort
  bufs : List (Nat × LinkBuf)
  /-- By module address, and 256 + port for a hub. -/
  mgmt : List (Nat × MgmtQueue)
  attach : List (Nat × Attach)
  /-- Frames sent (port, bytes), oldest first (an output). -/
  tx : List (Nat × Bytes)
  /-- Frames waiting for a port's transmitter (port, place in the order of R226, item), oldest first. -/
  waiting : List (Nat × Nat × LinkItem)
  /-- By port, the local counter at the end of the frame in transmission. -/
  busy : List Nat
  /-- WAKEs sent, oldest first (an output; R242): port, times in succession (none: throughout an on-window), ordered set. -/
  wakes : List (Nat × Option Nat × Bytes)
  /-- Delivered to stage inputs: DATA payloads by imager id or module + 4096 for maker-defined kinds, and
  event records by module (local stamp inside), oldest first. -/
  data : List (Nat × Bytes)
  events : List (Nat × Bytes)
  /-- Local counter ns of the last calibration site write per module (12 R314), and the status of the last
  one that ended. -/
  calNs : List (Nat × Nat)
  calStatus : List (Nat × Nat)
deriving DecidableEq, Repr

/-! ### Vision items (11) -/

/-- An item's outcome. Values: flow (fx, fy) in 1/32 px; stereo (d, 0) in 1/64 px; match (REF_INDEX, 0) with
its sub-pixel position. -/
structure VeItem where
  a : Int
  b : Int
  sx : Int
  sy : Int
  cost : Nat
  uniq : Nat
  pass2 : Bool
  reason : Nat
  dropped : Bool
  clipped : Bool
  host : Bool
deriving DecidableEq, Repr

/-! ### Track filters (12) -/

/-- A wheel-odometry or inertial sample (16 Table 16-8): its local time and its 32 value bytes with S_VALID
first. -/
structure Sample where
  stamp : Nat
  valid : Nat
  wheelV : Word32
  wheelW : Word32
  gyro : List Word32
  accel : List Word32
deriving DecidableEq, Repr

/-- A track slot (12 Table 12-3) with its sample buffer. -/
structure Track where
  gen : Nat
  /-- 0 free. -/
  model : Nat
  cls : Nat
  agent : Option Nat
  fused : Bool
  synth : Bool
  coast : Nat
  updates : Nat
  /-- T_STATE, local counter. -/
  tState : Nat
  x : List Word32
  p : List (List Word32)
  epoch : Nat
  samples : List Sample
  late : Nat
  dropped : Nat
deriving DecidableEq, Repr

/-! ### Stages (02, 07, 11, 12) and the map (13) -/

/-- A running stage instance: what its output header will carry (07 Table 7-6), the lowest cause met so far, the
transform table and the domains as at its firing tick (12 R298, R302). -/
structure StageRun where
  seq : Nat
  tick : Nat
  localC : Nat
  /-- Value and increment of domains A and B. -/
  doms : List (Nat × Nat)
  epoch : Nat
  phase : Nat
  src : Nat
  synth : Bool
  late : Bool
  mixed : Bool
  cause : Nat
  origin : Nat
  xforms : List (Nat × Bytes)
  /-- The function modes at the firing (19 R497). -/
  modes : List Bool
  /-- Vision jobs: indices of the frames used among those held. -/
  frame : Option Nat
  frameB : Option Nat
  /-- Vision jobs after pass 1: VE_FLAGS, items, predictions, query corners; and pass 1 has ended. -/
  flags : Nat
  items : List VeItem
  preds : List (Int × Int)
  points : List (Int × Int)
  queries : List Bytes
  refs : List Bytes
  queued : List Nat
  passed : Bool
  /-- Match jobs: the first of the free numbers its refined items take where there is no image (log entry 60). -/
  free0 : Nat
  /-- It met at its firing a header that read uncorrectable, or a region without valid content (07 R184 to R186). -/
  spoiled : Bool
  /-- Query stages: queries still open, and the results so far. -/
  open_ : Nat
  results : Bytes
  /-- The 1/6 ns at which its first instruction begins: ticks of 48, and 64 cell cycles (07 R170). -/
  begins : Nat
deriving DecidableEq, Repr

/-- A frame of an imager as the lines arrive (11 R272, R274): frame number, start with its CAP_MODE (04 Table 4-2), lines
with their arrival tick. -/
structure Frame where
  imager : Nat
  no : Nat
  start : Option Nat
  mode : Nat
  lines : List (Nat × Nat × Bytes)
deriving DecidableEq, Repr

/-- The levels of a frame in the buffers of a super's vision engine (11 R271, R288): the timing its lines were taken by, how
many levels are built, and the levels with a poisoned word. -/
structure VeBuf where
  sup : Nat
  frame : Nat
  tick : Nat
  lineBase : Nat
  linePitch : Nat
  built : Nat
  bad : List Nat
deriving DecidableEq, Repr

/-- The newest firing of a match job in host-assisted mode (11 R294): SLOT_SEQ, the status of a firing that made
no export, the export, the number of queries and of references, and whether it fired on extrapolated phase. -/
structure MatchExport where
  seq : Nat
  status : Nat
  data : Bytes
  queries : Nat
  refs : Nat
  synth : Bool
deriving DecidableEq, Repr

/-- A host part waiting for its slot (01 R34): stage, SLOT_SEQ and its items by index. -/
structure HostPart where
  stage : Nat
  seq : Nat
  items : List (Nat × Bytes)
deriving DecidableEq, Repr

/-- A replaced image of which instances still run: placement, binding, its runs (19 R488). -/
structure OldImage where
  img : HiveImg
  placement : Nat
  binding : List Nat
  runs : List (Nat × StageRun)
deriving DecidableEq, Repr

/-- Stages. -/
structure StageSt where
  runs : List (Nat × StageRun)
  /-- Replaced images whose instances still run, oldest first. -/
  old : List OldImage
  /-- SLOT_SEQ of the next instance, by stage. -/
  seqs : List (Nat × Nat)
  /-- Stages that have written an output record since the load (07 R185). -/
  written : List Nat
  frames : List Frame
  /-- Frames a job has used: stage and frame index (11 R272). -/
  used : List (Nat × Nat)
  /-- What the vision engines hold, oldest first. -/
  levels : List VeBuf
  exports : List (Nat × MatchExport)
  hostParts : List HostPart
  /-- Regions not yet filled by a rolling replacement (19 R489), and weight regions to be refetched (07 R186). -/
  unfilled : List Nat
  /-- with the residency entries each waits for. -/
  refetch : List (Nat × List Nat)
  /-- Stages a residency transfer came too late for: their current instance is invalid (08 R202). -/
  unfed : List Nat
  tracks : List (Nat × Track)
  /-- Fused publications, by agent: the pose cache's last one (12 R311, R312). -/
  fusedPoses : List (Nat × Track)
deriving DecidableEq, Repr

/-- A shard: generation, codes held, whether its shadow copy is complete, and whether that stands in the first of the two
areas (13 R336). -/
structure Shard where
  gen : Nat
  count : Nat
  shadowDone : Bool
  alt : Bool
deriving DecidableEq, Repr

/-- Who asked a query. -/
inductive QuerySrc where
  | host (qp tag : Nat)
  | stage (idx : Nat) (own : Nat)
deriving DecidableEq, Repr

/-- What a sweep found for a query: its number, the LKT of its batch close, the ranking (distance, code index,
generation), the ranked codes that pass the filters, the shards that held codes, those incomplete, codes excluded and scanned,
a table word that read uncorrectable, and the tick the sweep ended at. -/
structure Ranked where
  seq : Nat
  start : Bytes
  ranked : List (Nat × Nat × Nat)
  passed : List Nat
  shards : List Nat
  missing : List Nat
  excluded : Nat
  scanned : Nat
  ue : Bool
  ended : Nat
deriving DecidableEq, Repr

/-- A query in the batch queue: its descriptor where it has one, the tick it entered at, its distance tables by generation, and
for a re-run what its first sweep found (13 R325, R330, R337). -/
structure Query where
  src : QuerySrc
  record : Bytes
  desc : Option Bytes
  tables : List (Nat × Bytes)
  tick : Nat
  prior : Option Ranked
deriving DecidableEq, Repr

/-- A shard of a sweep: its generation and codes at the batch close, the row it is read through. -/
structure SweepShard where
  shard : Nat
  gen : Nat
  count : Nat
  row : Nat
deriving DecidableEq, Repr

/-- A sweep scanning (13 R326): its number, the LKT of its batch close, its queries, the shards it scans, and the shards
that held codes at the close and are incomplete for it. -/
structure Sweep where
  seq : Nat
  start : Bytes
  queries : List Query
  shards : List SweepShard
  missing : List Nat
deriving DecidableEq, Repr

/-- A query merged and not yet completed. -/
structure Merged where
  query : Query
  found : Ranked
deriving DecidableEq, Repr

/-- A loop-closure candidate (13 R339). -/
structure LoopCand where
  node : Nat
  code : Nat
  dist : Nat
  gen : Nat
deriving DecidableEq, Repr

/-- Place recognition and the map. -/
structure PlaceSt where
  /-- The codebook in use, and during a migration the one migrated to (13 Table 13-2). -/
  book : Option Bytes
  next : Option Bytes
  shards : List (Nat × Shard)
  /-- Code lines that a sweep found unreadable, by shard and line, until they are rewritten (13 R333). -/
  badLines : List (Nat × Nat)
  queue : List Query
  sweep : Option Sweep
  merged : List Merged
  sweepSeq : Nat
  cands : List LoopCand
  /-- Pose-graph nodes by id, edges in order of addition since the load, optimisation commits made. -/
  nodes : List (Nat × Bytes)
  edges : List Bytes
  optSeq : Nat
  /-- Voxels that are not 128, by x + 65536 y + 2^32 z (13 R343). -/
  voxels : List (Nat × Nat)
  /-- Observations logged for tiles not on the wafer: voxel, hit (13 R344). -/
  coldLog : List (Nat × Bool)
  /-- Tiles a store holds as last written back, and tiles to be read from it again (13 R344). -/
  stored : List Nat
  reload : List Nat
  /-- The previous keyframe of each agent. -/
  lastKf : List (Nat × Nat)
deriving DecidableEq, Repr

/-! ### Edge checkers and the route service (14) -/

/-- An edge checker slot by edge id: its physical slot (none while unbound), content, count, whether it is unknown
(R352), and whether a word of it read uncorrectable (R355). -/
structure EdgeSlot where
  slot : Option Nat
  edge : Edge
  count : Nat
  unknown : Bool
  bad : Bool
deriving DecidableEq, Repr

/-- A blocked-edge record on its way (Table 14-4): decision tick, edge, state and the 32 bytes. -/
structure BlockedRec where
  tick : Nat
  edge : Nat
  state : Nat
  rec_ : Bytes
deriving DecidableEq, Repr

/-- Route states, in code order (Table 14-8). -/
inductive RouteMode where
  | idle | active | hold
deriving DecidableEq, Repr

/-- An agent's route (Table 14-8) and its delivery (16 R417 to R420). -/
structure Route where
  st : RouteMode
  version : Nat
  goal : Nat
  current : Nat
  edges : List Nat
  issued : Bytes
  fromHost : Bool
  heldCurrent : Bool
  /-- SEGS_OK of the last acknowledgement of the version in force. -/
  segsOk : Nat
  /-- A hold segment awaits HOLDING; its CURRENT_BLOCKED. -/
  holdDue : Option Bool
  /-- The host-route wait that runs (R376): the blocked edge, and the tick it ends at; and whether one has run out since the
  last route. -/
  hostWait : Option (Nat × Nat)
  waitOver : Bool
deriving DecidableEq, Repr

/-- Why the route service searches. -/
inductive RouteWork where
  /-- A repair of a blocked edge (R361). -/
  | repair (edge : Nat)
  /-- A full plan: after a failed repair, or for a route with a removed edge (R362, R368); the edge that caused
  it. -/
  | full (edge : Nat)
  /-- A re-plan of a held agent (R364). -/
  | replan
  /-- ROUTE_GOAL_SET: goal, start, command. -/
  | goal (goal start qp tag : Nat)
deriving DecidableEq, Repr

/-- Work of the route service for one agent: its decision tick, the keeper core it runs on, and from its start: the
edges not clear when its search began, the agent's version, state and current edge then, whether it is a full plan;
and runs so far (R360, R363). -/
structure RouteJob where
  agent : Nat
  what : RouteWork
  tick : Nat
  core : Option Nat
  shut : List Nat
  version : Nat
  mode : RouteMode
  cur : Nat
  full : Bool
  runs : Nat
deriving DecidableEq, Repr

/-- Roadmap, checkers and routes. -/
structure RouteSt where
  /-- Occupied-map bits (R351), by x + 65536 y + 2^32 z, and the voxels set by granted deltas. -/
  occupied : List Nat
  granted : List Nat
  /-- Delta words of 80 bits (05 Table 5-7) injected and not granted, oldest first. -/
  deltas : List Nat
  slots : List (Nat × EdgeSlot)
  /-- Edges of routes that a roadmap change removed (R368). -/
  past : List (Nat × Edge)
  recs : List BlockedRec
  bseq : Nat
  /-- Blocked-edge buffer and records dropped since the last read; route events likewise. -/
  blocked : List Bytes
  blockedLost : Nat
  events : List Bytes
  eventsLost : Nat
  routes : List (Nat × Route)
  jobs : List RouteJob
deriving DecidableEq, Repr

/-! ### Composition (15) -/

/-- What a layer of the running frame shows. -/
structure Shown where
  /-- The region of the record shown (stage output), and its SLOT_SEQ. -/
  region : Option Nat
  seq : Nat
  /-- L_STATE bits decided at the frame start. -/
  state : Nat
deriving DecidableEq, Repr

/-- A layer (R382). -/
structure Layer where
  active : Bytes
  pend : Bytes
  /-- Committed and not taken; its LAYER_COMMIT where a command made it. -/
  committed : Bool
  cmd : Option (Nat × Nat)
  lseq : Nat
  epoch : Nat
  host : Bool
  shown : Shown
deriving DecidableEq, Repr

/-- A frame being composed (R384, R389): its header bytes. -/
structure FrameRun where
  seq : Nat
  header : Bytes
  placement : Nat
deriving DecidableEq, Repr

/-- A display head. -/
structure Head where
  instB : Bool
  /-- The instance switched and its first frame has not been composed (R379). -/
  switched : Bool
  sink : Bool
  /-- Trained lanes and rate code; none: idle. -/
  link : Option (Nat × Nat)
  frameSeq : Nat
  layers : List Layer
  frame : Option FrameRun
  /-- The last frame sent to the connector, XRGB8888 (an output). -/
  sent : Bytes
deriving DecidableEq, Repr

/-- The compositors. -/
structure CompSt where
  heads : List Head
  /-- Newest complete buffer of each layer-feeding stage (R384). -/
  newest : List (Nat × Nat)
  /-- Host-memory write-back (port, address, bytes), oldest first (an output). -/
  hostWrites : List (Nat × Nat × Bytes)
deriving DecidableEq, Repr

/-! ### The agent service (16) -/

/-- A binding (R406): port, MAC address, VLAN tag. -/
structure Binding where
  port : Nat
  mac : Bytes
  vlan : Option Nat
deriving DecidableEq, Repr

/-- A pose request waiting in its port's queue (R408). -/
structure PoseReq where
  agent : Nat
  seq : Nat
  ahead : Nat
  mac : Bytes
  vlan : Option Nat
  /-- The tick of t_req and the capture step of its stamp. -/
  tick : Nat
  step : Nat
  /-- The reply's header and payload as of that tick (R410, R414). -/
  frame : Bytes
deriving DecidableEq, Repr

/-- A pose cache entry (R410): the pose, who wrote it, and the newest sample by its domain stamp. -/
structure PoseEntry where
  pose : Option Track
  host : Bool
  /-- T_STATE as written by the host, an LKT of 16 bytes; none: the fused pose's local T_STATE. -/
  stamp : Option Bytes
  sample : Option (Bytes × Sample)
deriving DecidableEq, Repr

/-- An agent transmit buffer (R421). -/
structure AgentBuf where
  port : Nat
  queue : Nat
  frame : Bytes
  image : Bool
deriving DecidableEq, Repr

/-- The agent service and the transmit side of site ports 0 to 7. -/
structure AgentSt where
  bindings : List (Nat × Binding)
  poseQs : List (List PoseReq)
  cache : List (Nat × PoseEntry)
  bufs : List (Nat × AgentBuf)
  /-- AG_SEQ counters by 256 × agent + type. -/
  seqs : List (Nat × Nat)
  /-- Gate control lists in force, and those committed and waiting for a cycle start, by port. -/
  gates : List (Nat × GateList)
  nextGates : List (Nat × GateList)
  /-- Frames waiting for a gate or for the port (queue, frame), in order, by port. -/
  waiting : List (List (Nat × Bytes))
  /-- By port, the local counter at the end of the frame in transmission. -/
  busy : List Nat
  /-- Frames sent (port, queue, frame), oldest first (an output). -/
  sent : List (Nat × Nat × Bytes)
deriving DecidableEq, Repr

/-- What happens of itself at an instant between two commands: a site port's or a sensor port's transmitter becomes free, a
DELAY_RESP is ready to be sent (09 R229). -/
inductive DueEv where
  | site (p : Nat)
  | sensor (p : Nat)
  | answer (p addr seq heard : Nat)
deriving DecidableEq, Repr

/-- The whole block. -/
structure State where
  unit : UnitSt
  wafer : WaferSt
  flash : FlashSt
  time : TimeSt
  cap : CapSt
  sched : SchedSt
  host : HostSt
  ep : EpochSt
  fw : FwSt
  store : StoreSt
  panel : PanelSt
  /-- The capacity state last evaluated (06 R158). -/
  capacity : Nat
  cells : CellSt
  /-- Every stored byte that is not 0: cell SRAM, store lines and engine memories (07 R172, R183, 08 R197), in canonical
  form. -/
  mem : List Host.Cell
  link : LinkSt
  /-- Transform table entries that are set or were written, of 48 bytes (12 R296). -/
  xforms : List (Nat × Bytes)
  stg : StageSt
  place : PlaceSt
  route : RouteSt
  comp : CompSt
  agent : AgentSt
  /-- What is due of itself, by local counter, earliest first. -/
  due : List (Nat × DueEv)
  /-- Commands waiting, first in first out. -/
  pending : List Instr
  /-- Free values drawn so far (log entry 7). -/
  freeCtr : Nat
deriving DecidableEq, Repr

/-- No command of this block stops it: what the spec calls a fault is state (a seal, an event, a
status). No constructor, so no meaning can answer a fault. -/
inductive Fault where
deriving DecidableEq, Repr

/-- Why a command has no meaning in this model. -/
inductive Refusal where
  /-- The command is not modelled; raised by the dispatch only. Safe: the machine stops. -/
  | notModelled (mnemonic : String)
deriving DecidableEq, Repr

/-! ### Reset values -/

/-- The unit with no standby power (01 Table 1-2). -/
def UnitSt.reset : UnitSt where
  state := .off
  step := 0
  step4Done := false
  powerOnHeld := false
  powerOffPending := false
  poweringDown := false
  coolantHold := false
  shortfall := false
  fusesBad := false
  regionsOn := []
  toPower := []
  railLog := []
  factoryOnly := false
  noFit := false
  serial := 0
  macs := List.replicate 10 (List.replicate 6 0)
  cages := []

/-- A super before the fuses are read: unsealed, four keeper cores, sites 136 to 143 spare. -/
def Super.blank : Super where
  st := 0
  keepers := 15
  sites := List.replicate 136 0 ++ List.replicate 8 1
  remap := List.range 136
  provisional := none

/-- The wafer before the fuses are read (05 R138 for D_w). -/
def WaferSt.reset : WaferSt where
  serial := 0
  supers := List.replicate 64 Super.blank
  dw := 38
  mapSeq := 0
  lastChange := List.replicate 16 0
  pause := none
  trips := []
  move := none
  factorySpares := List.replicate 64 (List.range' 136 8)
  paths := none

/-- A summary with nothing recorded. -/
def Summary.blank : Summary where
  gen := 0
  replaceReq := false
  causes := 0
  sealedMask := 0
  sealedCount := 0
  serial := 0
  bootCount := 0
  stamp := List.replicate 16 0
  lostBundles := 0

/-- The flash of a unit whose wafer module has recorded nothing. -/
def FlashSt.reset : FlashSt where
  copyA := some Summary.blank
  copyB := none
  ring := []
  nextSeq := 0
  nextSlot := 0
  sealRecs := []
  retired := []
  sparesIn := []
  ueMap := []
  keepersGone := []

/-- A domain when the counters start (04 R89): 0 s, increment 1 ns, not valid, in holdover. -/
def Domain.start : Domain where
  value := 0
  incr := 4294967296
  valid := false
  holdover := true
  lastWrite := 0
  hist := []

/-- The defaults of 04 R87, R95, R98, R99, R110 and R111; no PTP domain followed. -/
def TimeSettings.default : TimeSettings where
  refExternal := false
  activeDefault := 1
  holdoverA := 2000000000
  holdoverB := 2000000000
  autoSwitch := true
  stepLimit := 100000
  servoBw := 10
  ppsDomain := 1
  ppsWidth := 100000000
  ptpA := none
  ptpB := none
  portA := 0
  portB := 0
  asA := false
  asB := false
  udpA := false
  udpB := false
  ptpQp := 0

/-- A servo that has seen nothing. -/
def Servo.blank : Servo where
  sync := none
  delayTx := none
  pdelay := none
  path := 0
  last := none
  master := none
  logInterval := none
  nextSeq := 0
  lastReqNs := none
  offsets := []
  respTx := 0

/-- The timebase before step 5. -/
def TimeSt.reset : TimeSt where
  tick := 0
  running := false
  localC := 0
  domA := Domain.start
  domB := Domain.start
  active := 1
  refPresent := false
  refFree := false
  writes := []
  autoAt := none
  settings := TimeSettings.default
  ppsHigh := false
  ppsMarked := none
  ppsFall := 0
  servoA := Servo.blank
  servoB := Servo.blank

/-- Capture with no owner and no record (04 R105). -/
def CapSt.reset : CapSt where
  inputs := []
  bufs := []
  toStages := []
  ptp := []
  portSeq := []
  softSeq := []

/-- The disabled definition (03 R80). -/
def SourceDef.disabled : SourceDef where
  kind := 0
  origin := 0
  originId := 0
  units := 0
  stride := 0
  synth := false
  zUse := false
  invert := false
  zOffset := 0
  stallTime := 0
  period := 0
  originNs := 0
  originS := 0

/-- A phase that stays at a value. -/
def Extrap.fixed (p : Nat) : Extrap where
  phase := p
  stamp := 0
  num := 0
  den := 0
  limit := none

/-- A disabled source. -/
def Source.blank : Source where
  defn := SourceDef.disabled
  st := .disabled
  seen := 0
  count := 0
  origin0 := none
  cur := Extrap.fixed 0
  old := Extrap.fixed 0
  effTick := 0
  lastEvent := 0
  stampA := List.replicate 16 0
  stampB := List.replicate 16 0
  ratePhase := 0
  rateStamp := 0
  rated := false
  adj := 0
  rateNum := 0
  rateDen := 0
  heldAt := none

/-- Encoder lines low. -/
def EncIn.blank : EncIn where
  a := false
  b := false
  z := false
  pinA := false
  pinB := false
  pinZ := false
  lastA := none
  lastB := none
  lastZ := none

/-- Sources disabled, entries free, outputs low. -/
def SchedSt.reset : SchedSt where
  sources := List.replicate 16 Source.blank
  enc := List.replicate 8 EncIn.blank
  waiting := []
  entries := []
  tso := List.replicate 32 { level := false, due := [], trails := [] }
  tsoLog := []
  snaps := []

/-- A disabled queue pair: every register 0 (17 R428). -/
def QueuePair.blank : QueuePair where
  sqBase := 0
  cqBase := 0
  size := 0
  sqHead := 0
  sqTail := 0
  cqHead := 0
  cqTail := 0
  cqPhase := true
  unread := []
  unreadSeq := []
  reserved := 0
  gen := 0
  net := none

/-- A port with its link down. -/
def PciePort.down : PciePort where
  up := false
  armed := []
  masked := []
  sent := []

/-- The host interface with its links down (01 R27, 17 R427); factory addresses (17 R454). -/
def HostSt.reset : HostSt where
  fastReady := false
  keeperReady := false
  qpDisabled := false
  served := 63
  hifLevel := 0
  flagsRead := 0
  qps := List.replicate 64 QueuePair.blank
  ports := [PciePort.down, PciePort.down]
  accepted := []
  completions := []
  held := []
  netPorts := [{ ip := 0xC0A8C80A, prefixLen := 24, gateway := 0 },
               { ip := 0xC0A8C80B, prefixLen := 24, gateway := 0 }]
  netOut := []
  dists := []
  resultOk := true
  cqOk := true

/-- Nothing staged. -/
def StagedSet.empty : StagedSet where
  xforms := []
  sources := []
  modes := []
  gates := []
  codebook := none
  image := none

/-- Epoch 1 (19 R474), every function in device mode (01 R33), no image; host reserve 32 (02 R42). -/
def EpochSt.reset : EpochSt where
  epoch := 1
  commitTick := none
  staged := StagedSet.empty
  armed := none
  engine := []
  rolling := none
  modes := List.replicate 11 false
  image := none
  placement := 0
  binding := []
  loading := none
  hostEntries := 32

/-- No firmware held; BOOT_SLOT A (21 R522). -/
def FwSt.reset : FwSt where
  slotA := none
  slotB := none
  micro := none
  bootSlot := 0
  booted := none
  bootImg := none
  microRun := none
  trying := none
  transfers := []
  sends := []
  refused := []
  pairsRunning := []
  pairsSeen := []
  held := none

/-- A row with no store configured. -/
def StoreRow.blank : StoreRow where
  config := 0
  st := .notConfigured
  up := []
  held := false
  serial := 0
  serialSet := false
  fwLevel := 0
  mirrorGen := 0
  solo := none
  extents := []
  unflushed := []
  image := none
  restored := 0
  mirrorUp := false
  ueDue := []
  poisoned := []

/-- No row configured. -/
def StoreSt.reset : StoreSt where
  rows := List.replicate 8 StoreRow.blank
  retries := []
  transfers := []
  miscabled := []
  imageBase := 0
  stagedRows := []
  badRegions := []
  unread := []
  issued := []

/-- A blank panel with its band white. -/
def PanelSt.reset : PanelSt where
  drawn := []
  bandBlack := false
  update := none
  pendingSet := []
  replFirst := false
  lastFault := []

/-- Registers empty, nothing counted. -/
def CellSt.reset : CellSt where
  poison := []
  ceCount := []
  injected := []
  testing := []
  due := []
  rebuilding := []

/-- A port with its uplink down. -/
def SensorPort.down : SensorPort where
  up := false
  group := .awake
  proposal := 0
  cause := 0
  sleepCmd := none
  wakeCmds := []
  wakeSent := false
  wakeDue := false
  duty := false
  reported := []
  modulesUp := []
  exchanges := []
  seqs := []

/-- A hub or module whose port is down (10 Table 10-6). -/
def Attach.blank : Attach where
  st := .down
  status := 0
  failType := 0
  failCount := 0
  cls := 255
  usable := 0
  siteSlot := 0
  siteGen := 0
  serial := 0
  mode := false
  ha := false
  epoch := 0
  record := []
  site := []
  retried := false
  retryDue := false
  cmds := []
  committing := false
  hostSources := []

/-- Sensor ports down, link buffers empty. -/
def LinkSt.reset : LinkSt where
  ports := List.replicate 16 SensorPort.down
  bufs := []
  mgmt := []
  attach := []
  tx := []
  waiting := []
  busy := List.replicate 16 0
  wakes := []
  data := []
  events := []
  calNs := []
  calStatus := []

/-- No stage has run. -/
def StageSt.reset : StageSt where
  runs := []
  old := []
  seqs := []
  written := []
  frames := []
  used := []
  levels := []
  exports := []
  hostParts := []
  unfilled := []
  refetch := []
  unfed := []
  tracks := []
  fusedPoses := []

/-- An empty map. -/
def PlaceSt.reset : PlaceSt where
  book := none
  next := none
  shards := []
  badLines := []
  queue := []
  sweep := none
  merged := []
  sweepSeq := 0
  cands := []
  nodes := []
  edges := []
  optSeq := 0
  voxels := []
  coldLog := []
  stored := []
  reload := []
  lastKf := []

/-- No edge loaded, no route. -/
def RouteSt.reset : RouteSt where
  occupied := []
  granted := []
  deltas := []
  slots := []
  past := []
  recs := []
  bseq := 0
  blocked := []
  blockedLost := 0
  events := []
  eventsLost := 0
  routes := []
  jobs := []

/-- A layer not shown. -/
def Layer.blank : Layer where
  active := List.replicate 64 0
  pend := List.replicate 64 0
  committed := false
  cmd := none
  lseq := 0
  epoch := 0
  host := false
  shown := { region := none, seq := 0, state := 0 }

/-- A head on instance a with its link idle (15 R377). -/
def Head.blank : Head where
  instB := false
  switched := false
  sink := false
  link := none
  frameSeq := 0
  layers := List.replicate 16 Layer.blank
  frame := none
  sent := []

/-- Two idle heads. -/
def CompSt.reset : CompSt where
  heads := [Head.blank, Head.blank]
  newest := []
  hostWrites := []

/-- No agent bound, no list in force. -/
def AgentSt.reset : AgentSt where
  bindings := []
  poseQs := List.replicate 8 []
  cache := []
  bufs := []
  seqs := []
  gates := []
  nextGates := []
  waiting := List.replicate 8 []
  busy := List.replicate 8 0
  sent := []

/-- The block right after reset: the unit is OFF (01 R26), every value the spec states is that value,
and log entry 5 names the others. -/
def State.reset : State where
  unit := UnitSt.reset
  wafer := WaferSt.reset
  flash := FlashSt.reset
  time := TimeSt.reset
  cap := CapSt.reset
  sched := SchedSt.reset
  host := HostSt.reset
  ep := EpochSt.reset
  fw := FwSt.reset
  store := StoreSt.reset
  panel := PanelSt.reset
  capacity := 0
  cells := CellSt.reset
  mem := []
  link := LinkSt.reset
  xforms := []
  stg := StageSt.reset
  place := PlaceSt.reset
  route := RouteSt.reset
  comp := CompSt.reset
  agent := AgentSt.reset
  due := []
  pending := []
  freeCtr := 0

end Sys2Proof.Machine
end

