-- ==== Sys2Proof/Machine/Ops.lean ====
section
/-! DEFINITION. The operations every meaning is written over: time and stamps (04), phase (03 R57 to R68),
the fault record (06 R164 to R167), capacity and replacement (06 R158 to R161), the panel's update queue
(15 R396), unsolicited events and completions (17). -/

namespace Sys2Proof.Machine

/-! ### Counters and stamps (04) -/

/-- One nanosecond in counter units of 2^-32 ns (04 R88). -/
def nsU : Nat := 4294967296

/-- One 8 ns schedule tick in counter units. -/
def tickU : Nat := 34359738368

/-- One second in counter units. -/
def secU : Nat := 4294967296000000000

/-- One 125 ps capture step of the local counter. -/
def capU : Nat := 536870912

/-- A domain `n` schedule ticks later: 8 ns adds its increment eight times (04 R88). -/
def Domain.advance (d : Domain) (n : Nat) : Domain := { d with value := d.value + n * (8 * d.incr) }

/-- Domain 1 or 2 (A or B). -/
def State.dom (s : State) (d : Nat) : Domain := if d = 2 then s.time.domB else s.time.domA

/-- Replace domain A or B. -/
def State.setDom (s : State) (d : Nat) (v : Domain) : State :=
  if d = 2 then { s with time := { s.time with domB := v } }
  else { s with time := { s.time with domA := v } }

/-- A counter: 0 local, 1 A, 2 B. -/
def State.counter (s : State) (d : Nat) : Nat := if d = 0 then s.time.localC else (s.dom d).value

/-- A counter `k` capture steps of 125 ps after the schedule tick (04 R101): the domains add their own
increment per nanosecond and k/8 of it. -/
def State.counterAt (s : State) (d k : Nat) : Nat :=
  if d = 0 then s.time.localC + k * capU
  else (s.dom d).value + k / 8 * (s.dom d).incr + k % 8 * (s.dom d).incr / 8

/-- A counter `n` ticks ahead of the present tick. -/
def State.counterAhead (s : State) (d n : Nat) : Nat :=
  if d = 0 then s.time.localC + n * tickU else (s.dom d).value + n * (8 * (s.dom d).incr)

/-- A counter at the tick before this one, a write of this tick undone (04 R94). -/
def State.counterPrev (s : State) (d : Nat) : Nat :=
  if d = 0 then s.time.localC - tickU
  else match (s.dom d).hist with
    | (t, v, i) :: _ => if t = s.time.tick then v - 8 * i else (s.dom d).value - 8 * (s.dom d).incr
    | [] => (s.dom d).value - 8 * (s.dom d).incr

/-- The counter of a domain at this tick without the writes of this tick, where there are some (04 R94). -/
def State.counterUnwritten (s : State) (d : Nat) : Option Nat :=
  if d = 0 then none
  else match (s.dom d).hist with
    | (t, v, _) :: _ => if t = s.time.tick then some v else none
    | [] => none

/-- The 16 bytes of an LKT value (04 Table 4-4). -/
def lktBytes (dom flags v : Nat) : Bytes :=
  toLE 2 (flags + dom * 16384) ++ toLE 2 (v / 65536 % 65536) ++ toLE 4 (v / nsU % 1000000000) ++
    toLE 8 (v / secU)

/-- The flags of a stamp of a domain (04 Table 4-4). `mode` is CAP_MODE. -/
def State.lktFlags (s : State) (d mode : Nat) (late synth : Bool) : Nat :=
  128 * b2n s.time.refFree + 64 * b2n (d == s.time.active) + 32 * b2n late + 16 * b2n synth + 4 * mode +
    2 * b2n (d != 0 && (s.dom d).holdover) + b2n (d == 0 || (s.dom d).valid)

/-- The stamp of a domain `k` capture steps after the tick. -/
def State.lktAt (s : State) (d k mode : Nat) (late synth : Bool) : Bytes :=
  lktBytes d (s.lktFlags d mode late synth) (s.counterAt d k)

/-- The stamp of a domain at the tick, not a capture. -/
def State.lkt (s : State) (d : Nat) : Bytes := s.lktAt d 0 3 false false

/-- The stamp of a fault-record event (06 Table 6-7): active domain, local while no domain is valid, zero
before the timebase starts. -/
def State.evStamp (s : State) : Bytes :=
  if !s.time.running then List.replicate 16 0
  else if s.time.domA.valid || s.time.domB.valid then s.lkt s.time.active
  else s.lkt 0

/-- The 64-bit STAMP of a completion (17 Table 17-4), in the active domain. -/
def State.stamp64 (s : State) : Nat :=
  let v := s.counter s.time.active
  v / nsU % 1000000000 + nsU * (v / secU % nsU)

/-- Nanoseconds of the local counter. -/
def State.localNs (s : State) : Nat := s.time.localC / nsU

/-- A free value (log entry 7). -/
def State.free (s : State) : Nat × State := (Config.freeNat s.freeCtr, { s with freeCtr := s.freeCtr + 1 })

/-! ### Phase (03) -/

/-- Phases are counted modulo 2^48 (03 R57). -/
def phaseMod : Nat := 281474976710656

/-- d(a, b), the signed difference of two phases (03 R57). -/
def dphase (a b : Nat) : Int := signedOf 48 ((a % phaseMod + (phaseMod - b % phaseMod)) % phaseMod)

/-- A phase moved by a signed amount (03 R57). -/
def phaseAdd (p : Nat) (d : Int) : Nat := (((p : Int) + d) % (phaseMod : Int)).toNat

/-- The phase an extrapolation gives at a local counter value (03 R62): truncated toward its event and
kept one ph short of the next expected one. -/
def Extrap.at_ (e : Extrap) (t : Nat) : Nat :=
  if e.den = 0 then e.phase
  else
    let raw := (e.num * ((t - e.stamp : Nat) : Int)).tdiv e.den
    let lim : Int := match e.limit with
      | none => raw
      | some l => if raw > l then l else if raw < -(l : Int) then -(l : Int) else raw
    phaseAdd e.phase lim

/-- A synthetic source's phase at a counter value of its domain (03 R62): (T - ORIGIN) / PERIOD. -/
def SourceDef.synthPhase (d : SourceDef) (t : Nat) : Nat :=
  if d.period = 0 then 0
  else
    let o := d.originS * secU + d.originNs * nsU
    ((((t : Int) - (o : Int)) / (d.period : Int)) % (phaseMod : Int)).toNat

/-- The measured phase of a source at local counter `t`, with what it knows at schedule tick `k`. -/
def Source.measured (p : Source) (k t : Nat) : Nat := if k > p.effTick then p.cur.at_ t else p.old.at_ t

/-- The phase of a source but for a synthetic one: a recovery holds it (03 R68). -/
def Source.phaseAt (p : Source) (k t : Nat) : Nat :=
  match p.heldAt with
  | some h => if dphase (p.measured k t) h ≥ 0 then p.measured k t else h
  | none => p.measured k t

/-- The i-th phase source. -/
def State.source (s : State) (i : Nat) : Source := s.sched.sources.getD i Source.blank

/-- Change the i-th phase source. -/
def State.modSource (s : State) (i : Nat) (f : Source → Source) : State :=
  { s with sched := { s.sched with sources := lmod s.sched.sources i f } }

/-- The phase predicted `n` ticks ahead at this tick (03 R62, R78). -/
def State.phaseAhead (s : State) (i n : Nat) : Nat :=
  let p := s.source i
  if p.defn.kind = 4 then p.defn.synthPhase (s.counterAhead p.defn.origin n)
  else p.phaseAt s.time.tick (s.time.localC + n * tickU)

/-- The phase predicted `n` ticks ahead at the tick before this one. -/
def State.phasePrev (s : State) (i n : Nat) : Nat :=
  let p := s.source i
  if p.defn.kind = 4 then
    p.defn.synthPhase (s.counterPrev p.defn.origin + n * (8 * (if p.defn.origin = 0 then nsU else (s.dom p.defn.origin).incr)))
  else p.phaseAt (s.time.tick - 1) (s.time.localC - tickU + n * tickU)

/-- The phase of a source at this tick (03 R63). -/
def State.phase (s : State) (i : Nat) : Nat := s.phaseAhead i 0

/-! ### Small accessors -/

/-- The s-th super. -/
def State.super (s : State) (i : Nat) : Super := s.wafer.supers.getD i Super.blank

/-- Change a super. -/
def State.modSuper (s : State) (i : Nat) (f : Super → Super) : State :=
  { s with wafer := { s.wafer with supers := lmod s.wafer.supers i f } }

/-- A super is neither sealed nor enclosed; enclosed counts as sealed (05 R133). -/
def State.unsealed (s : State) (i : Nat) : Bool := (s.super i).st == 0 && decide (i < 64)

/-- A queue pair. -/
def State.qp (s : State) (n : Nat) : QueuePair := s.host.qps.getD n QueuePair.blank

/-- Change a queue pair. -/
def State.modQp (s : State) (n : Nat) (f : QueuePair → QueuePair) : State :=
  { s with host := { s.host with qps := lmod s.host.qps n f } }

/-- QP_SIZE fields (17 Table 17-2). -/
def QueuePair.enabled (q : QueuePair) : Bool := bitAt q.size.toNat 16
def QueuePair.port (q : QueuePair) : Nat := bitsOf q.size.toNat 17 17
def QueuePair.events (q : QueuePair) : Bool := bitAt q.size.toNat 18
def QueuePair.network (q : QueuePair) : Bool := bitAt q.size.toNat 19
def QueuePair.vector (q : QueuePair) : Nat := bitsOf q.size.toNat 29 24
def QueuePair.sqSlots (q : QueuePair) : Nat := 2 ^ bitsOf q.size.toNat 3 0
def QueuePair.cqSlots (q : QueuePair) : Nat := 2 ^ bitsOf q.size.toNat 11 8

/-- Completion entries written and not yet released. -/
def QueuePair.unreadEntries (q : QueuePair) : Nat := (q.cqTail + q.cqSlots - q.cqHead) % q.cqSlots

/-- A completion entry can be reserved (17 R434); a network queue pair has no ring. -/
def QueuePair.canReserve (q : QueuePair) : Bool :=
  q.network || decide (q.reserved + q.unreadEntries + 1 < q.cqSlots)

/-- A PCI Express port. -/
def State.port (s : State) (p : Nat) : PciePort := s.host.ports.getD p PciePort.down

/-- Change a PCI Express port. -/
def State.modPort (s : State) (p : Nat) (f : PciePort → PciePort) : State :=
  { s with host := { s.host with ports := lmod s.host.ports p f } }

/-- A store row. -/
def State.row (s : State) (r : Nat) : StoreRow := s.store.rows.getD r StoreRow.blank

/-- Change a store row. -/
def State.modRow (s : State) (r : Nat) (f : StoreRow → StoreRow) : State :=
  { s with store := { s.store with rows := lmod s.store.rows r f } }

/-- A function is in host-assisted mode (01 Table 1-5 order). -/
def State.ha (s : State) (f : Nat) : Bool := s.ep.modes.getD f false

/-- The unit state's code (01 Table 1-2). -/
def UnitState.code : UnitState → Nat
  | .off => 0
  | .standby => 1
  | .bringup => 2
  | .hold => 3
  | .ready => 4
  | .run => 5
  | .quiesce => 6

/-- STORE_STATE's code (08 Table 8-4). -/
def RowState.code : RowState → Nat
  | .notConfigured => 0
  | .down => 1
  | .checking => 2
  | .resync => 3
  | .serving => 4
  | .refused => 5

/-- A row serves. -/
def StoreRow.serving (r : StoreRow) : Bool := r.st == .serving

/-! ### The fault record (06) -/

/-- The summary in use: of the copies that hold, the one of the higher generation (06 R166). -/
def FlashSt.summary (f : FlashSt) : Summary :=
  match f.copyA, f.copyB with
  | some a, some b => if b.gen > a.gen then b else a
  | some a, none => a
  | none, some b => b
  | none, none => Summary.blank

/-- The current summary. -/
def State.summary (s : State) : Summary := s.flash.summary

/-- Write a summary to the copy not holding the newest generation (06 R165). -/
def FlashSt.putSummary (f : FlashSt) (v : Summary) : FlashSt :=
  let n := { v with gen := f.summary.gen + 1 }
  match f.copyA, f.copyB with
  | some a, some b => if b.gen > a.gen then { f with copyA := some n } else { f with copyB := some n }
  | some _, none => { f with copyB := some n }
  | _, _ => { f with copyA := some n }

/-- Change the summary. -/
def State.modSummary (s : State) (f : Summary → Summary) : State :=
  { s with flash := s.flash.putSummary (f s.summary) }

/-- The ring before slot `n` is programmed: a slot that begins a sector erases that sector first (06 R164, R165). -/
def eraseSector (ring : List FaultEvent) (n : Nat) : List FaultEvent :=
  if n % 128 = 0 ∧ n ≥ 32768 then ring.filter fun e => decide (e.slot + 32768 ≥ n + 128) else ring

/-- Kinds the panel's last-fault region shows (15 Table 15-5). -/
def lastFaultKind (kind cause : Nat) : Bool :=
  kind == 1 || kind == 2 || kind == 4 || kind == 6 || (kind == 8 && cause == 3) || kind == 14 ||
    kind == 17 || kind == 12

/-- Start a panel update of some regions, or add them to the pending set (15 R396). -/
def PanelSt.touch (p : PanelSt) (regions : List Nat) : PanelSt :=
  match p.update with
  | some _ => { p with pendingSet := sinsAll p.pendingSet regions }
  | none => { p with update := some (1, sinsAll p.pendingSet regions), pendingSet := [], bandBlack := true }

/-- A source of some panel regions changed; the panel is driven on the standby rail. -/
def State.panelTouch (s : State) (regions : List Nat) : State :=
  if s.unit.state = .off ∨ regions = [] then s else { s with panel := s.panel.touch regions }

/-- The 40 bytes EV_CRC covers (06 Table 6-7). -/
def FaultEvent.body (e : FaultEvent) : Bytes :=
  toLE 4 e.seq ++ toLE 4 e.boot ++ toLE 2 e.kind ++ toLE 1 e.cause ++ [0] ++ toLE 4 e.subject ++
    toLE 8 e.detail ++ e.stamp

/-- An event entry (06 Table 6-7). -/
def FaultEvent.bytes (e : FaultEvent) : Bytes := e.body ++ toLE 4 (crc32 e.body) ++ [0, 0, 0, 0]

/-- The 60 bytes SUM_CRC covers (06 Table 6-6). -/
def Summary.body (m : Summary) : Bytes :=
  [1] ++ toLE 1 (b2n m.replaceReq) ++ toLE 1 m.causes ++ toLE 1 m.sealedCount ++ toLE 4 m.gen ++
    toLE 8 m.serial ++ toLE 8 m.sealedMask ++ toLE 4 m.bootCount ++ toLE 4 0 ++ m.stamp ++
    toLE 8 m.lostBundles ++ toLE 4 0

/-- The summary (06 Table 6-6). -/
def Summary.bytes (m : Summary) : Bytes := m.body ++ toLE 4 (crc32 m.body)

/-- Append an event to the ring (06 R165). A summary it changes is written by the caller first. -/
def State.event (s : State) (kind cause subject detail : Nat) : State :=
  let e : FaultEvent := { seq := s.flash.nextSeq, boot := s.summary.bootCount, kind := kind, cause := cause,
                          subject := subject, detail := detail, stamp := s.evStamp,
                          slot := s.flash.nextSlot }
  let s := { s with flash := { s.flash with
              ring := eraseSector s.flash.ring s.flash.nextSlot ++ [e], nextSeq := s.flash.nextSeq + 1,
              nextSlot := s.flash.nextSlot + 1 } }
  if lastFaultKind kind cause then
    { s with panel := { s.panel with lastFault := e.bytes } }.panelTouch [4]
  else s

/-! ### REPLY_FLAGS, deadlines, completions, unsolicited events (17) -/

/-- REPLY_FLAGS at this tick (17 Table 17-5). -/
def State.replyFlags (s : State) : Nat :=
  flagBits [s.summary.replaceReq, s.capacity != 0, !s.fw.pairsRunning.isEmpty, s.ep.rolling.isSome,
    s.time.active == 2, (s.dom s.time.active).holdover,
    s.sched.sources.any fun p => p.st == .stalledSynth]

/-- The from-epoch while a rolling change runs, else the epoch in force (19 R482). -/
def State.epochFrom (s : State) : Nat :=
  match s.ep.rolling with
  | some r => r.fromEpoch
  | none => s.ep.epoch

/-- A deadline has passed at this tick (17 R439). -/
def State.passed (s : State) (d : Deadline) : Bool :=
  match d with
  | .none => false
  | .time dom v => decide (s.counter dom > v)
  | .phase src v =>
    match (s.source src).st with
    | .disabled => false
    | .starting => false
    | .stalledHold => false
    | _ => decide (dphase (s.phase src) v > 0)

/-- The 32 bytes of a completion entry (17 Table 17-4). -/
def Completion.bytes (c : Completion) : Bytes :=
  toLE 2 c.tag ++ toLE 2 c.status ++ toLE 2 c.replyFlags ++ toLE 1 c.qp ++ toLE 1 c.cqFlags ++
    toLE 4 c.detail ++ toLE 4 c.epoch ++ toLE 8 c.stamp ++ toLE 4 c.result.length ++ toLE 2 c.sqHead ++ [0, 0]

/-- Send the MSI-X message of a vector if it is armed and not masked; sending disarms it (17 R452). -/
def State.msix (s : State) (port v : Nat) : State :=
  let p := s.port port
  if p.armed.contains v && !p.masked.contains v then
    s.modPort port fun p => { p with armed := p.armed.erase v, sent := p.sent ++ [v] }
  else s

/-- Arm a vector; unread entries of a queue pair using it send at once (17 R452). -/
def State.armVector (s : State) (port v : Nat) : State :=
  let s := s.modPort port fun p => { p with armed := sins p.armed v }
  if s.host.qps.any fun q => q.enabled && !q.network && q.port == port && q.vector == v && q.unreadEntries != 0 then
    s.msix port v
  else s

/-- Write an entry into queue pair `n`'s completion ring, in one posted write (17 R435). -/
def State.pushEntry (s : State) (n : Nat) (c : Completion) (irq : Bool) : State :=
  let q := s.qp n
  let t := (q.cqTail + 1) % q.cqSlots
  let s := { s with host := { s.host with completions := s.host.completions ++ [c] } }
  let s := s.modQp n fun q => { q with cqTail := t, cqPhase := if t = 0 then !q.cqPhase else q.cqPhase }
  if irq && q.enabled then s.msix q.port q.vector else s

/-- Stop a queue pair: its unread packets are not executed (17 R431). -/
def State.disableQp (s : State) (n : Nat) : State :=
  s.modQp n fun q =>
    { q with size := q.size &&& 0xFFF6FFFF, unread := [], unreadSeq := [], net := none }

/-- The queue pair unsolicited events go to (17 R453). -/
def State.eventQp (s : State) : Option Nat :=
  firstBelow 64 fun n => (s.qp n).enabled && (s.qp n).events && !(s.qp n).network

/-- The completion entry of an event (17 R453). -/
def State.eventEntry (s : State) (n code arg : Nat) : Completion :=
  { tag := 0xFFFF, status := 0, replyFlags := s.replyFlags, qp := n, cqFlags := b2n (s.qp n).cqPhase,
    detail := code + arg, epoch := s.ep.epoch, stamp := s.stamp64, sqHead := (s.qp n).sqHead, resultBuf := 0,
    result := [] }

/-- Make an unsolicited event; `arg` holds DETAIL bits [31:8] in place (17 Table 17-7). A failed write of
it disables the queue pair with no further event (log entry 13). -/
def State.unsol (s : State) (code arg : Nat) : State :=
  match s.eventQp with
  | none => s
  | some n =>
    if (s.qp n).canReserve then
      if s.host.cqOk then s.pushEntry n (s.eventEntry n code arg) true
      else { s.disableQp n with host := { (s.disableQp n).host with qpDisabled := true } }
    else { s with host := { s.host with held := tset s.host.held code arg } }

/-- Write the held events that now find an entry (17 R453), in ascending code. -/
def State.flushHeld (s : State) : State :=
  s.host.held.foldl (fun s e =>
    match s.eventQp with
    | some n =>
      if (s.qp n).canReserve then
        { s with host := { s.host with held := terase s.host.held e.1 } }.unsol e.1 e.2
      else s
    | none => s) s

/-- The datagrams of a response (17 R455): header, the completion entry in the first, at most 8,192 result
bytes in each. -/
def responseFrames (q tseq : Nat) (c : Completion) : List Bytes :=
  let parts := if c.result.isEmpty then [[]] else chunksOf 8192 (c.result.length + 1) c.result
  (List.range parts.length).map fun i =>
    toLE 1 2 ++ toLE 1 q ++ toLE 2 (i + 256 * parts.length) ++ toLE 4 tseq ++ toLE 4 (8192 * i) ++ toLE 4 0 ++
      (if i = 0 then c.bytes else []) ++ parts.getD i []

/-- Send payloads to a peer of the host network. -/
def State.netSend (s : State) (port ip udp : Nat) (frames : List Bytes) : State :=
  let out : List NetOut := frames.map fun b => { port := port, proto := 17, ip := ip, udp := udp, payload := b }
  { s with host := { s.host with netOut := s.host.netOut ++ out } }

/-- End a command: its completion is written, after its result (17 R441 to R447); one fired on extrapolated phase completes
OK_SYNTH_PHASE in place of OK, and OK_LATE replaces only OK (03 R67, 18 R463). The command must be out of the accepted
list. A command of an earlier enabling of its queue pair writes nothing (log entry 13). -/
def State.finish (s : State) (c : Cmd) (status detail : Nat) (result : Bytes) : State :=
  let q := s.qp c.qp
  if q.gen ≠ c.gen then s
  else
    let late := s.passed c.deadline
    let lost := !s.host.resultOk && !result.isEmpty && c.net.isNone
    let status := if c.synth && status = 0 then 5 else status
    let e : Completion :=
      { tag := c.tag, status := if late && status = 0 then 1 else status, replyFlags := s.replyFlags ||| (64 * b2n c.synth),
        qp := c.qp, cqFlags := b2n (q.cqPhase && c.net.isNone) + 2 * b2n lost + 4 * b2n late,
        detail := detail % 4294967296, epoch := s.ep.epoch, stamp := s.stamp64, sqHead := c.sqHead,
        resultBuf := c.resultBuf, result := result }
    match c.net with
    | some t =>
      match q.net with
      | none => s
      | some p =>
        let s := s.modQp c.qp fun q => { q with net := q.net.map (fun p =>
          { p with recent := p.recent.map (fun r => if r.1 = t then (t, some e) else r) }) }
        s.netSend p.port p.ip p.udp (responseFrames c.qp t e)
    | none =>
      let s := s.modQp c.qp fun q => { q with reserved := q.reserved - 1 }
      if s.host.cqOk then s.pushEntry c.qp e (!c.noIrq)
      else
        let s := s.disableQp c.qp
        { s with host := { s.host with qpDisabled := true } }.unsol 6 (256 * c.qp)

/-- The accepted command of a queue pair with a TAG. -/
def State.findCmd (s : State) (qp tag : Nat) : Option Cmd :=
  s.host.accepted.find? fun c => c.qp == qp && c.tag == tag

/-- Drop the first accepted command of a queue pair with a TAG. -/
def dropFirst (l : List Cmd) (qp tag : Nat) : List Cmd := l.eraseP fun c => c.qp == qp && c.tag == tag

/-- Complete an accepted command. -/
def State.complete (s : State) (qp tag status detail : Nat) (result : Bytes) : State :=
  match s.findCmd qp tag with
  | none => s
  | some c =>
    { s with host := { s.host with accepted := dropFirst s.host.accepted qp tag } }.finish c status detail result

/-- Complete the command an option names. -/
def State.completeOpt (s : State) (c : Option (Nat × Nat)) (status detail : Nat) (result : Bytes) : State :=
  match c with
  | some (q, t) => s.complete q t status detail result
  | none => s

/-- Record how far an accepted command has got. -/
def State.setProg (s : State) (qp tag : Nat) (p : Prog) : State :=
  { s with host := { s.host with accepted := s.host.accepted.map fun c =>
      if c.qp = qp ∧ c.tag = tag then { c with prog := p } else c } }

/-! ### Status codes (18 Table 18-15) -/

def stOK : Nat := 0x0000
def stLate : Nat := 0x0001
def stFewer : Nat := 0x0002
def stMixed : Nat := 0x0003
def stCE : Nat := 0x0004
def stSynth : Nat := 0x0005
def stBadOpcode : Nat := 0x0101
def stBadParam : Nat := 0x0102
def stBadLength : Nat := 0x0103
def stBadState : Nat := 0x0104
def stEpoch : Nat := 0x0105
def stNoResource : Nat := 0x0201
def stQueueFull : Nat := 0x0202
def stDeadline : Nat := 0x0301
def stTimeout : Nat := 0x0302
def stSkipped : Nat := 0x0303
def stUE : Nat := 0x0401
def stUEPois : Nat := 0x0402
def stVersion : Nat := 0x0501
def stImage : Nat := 0x0502
def stLinkDown : Nat := 0x0601
def stAbsent : Nat := 0x0602
def stIdentity : Nat := 0x0603
def stAsleep : Nat := 0x0604
def stShard : Nat := 0x0701
def stRouteNone : Nat := 0x0702
def stSealed : Nat := 0x0801

/-! ### Unit state, capacity, replacement, wafer map -/

/-- Enter a unit state: event of code 1, panel state region (17 Table 17-7, 15 Table 15-5). -/
def State.setUnit (s : State) (u : UnitState) : State :=
  if s.unit.state = u then s
  else ({ s with unit := { s.unit with state := u } }.unsol 1 (256 * u.code)).panelTouch [2]

/-- A change of the wafer map (05 R140): MAP_SEQ counts from the end of start-up step 7. -/
def State.mapChanged (s : State) : State :=
  { s with wafer := { s.wafer with
      mapSeq := if s.unit.step ≤ 7 then 0 else s.wafer.mapSeq + 1, lastChange := s.lkt s.time.active } }

/-- No bundle A of a configured store is down (06 Table 6-4). -/
def State.bundlesFull (s : State) : Bool :=
  s.store.rows.all fun r => r.config == 0 || (r.up.length == 8 && !r.held)

/-- A super is unsealed, with every keeper core, no cell retired and no spare in service (06 Table 6-4). -/
def State.superFull (s : State) (p : Nat) : Bool :=
  let u := s.super p
  u.st == 0 && u.keepers == 15 && u.sites.all (fun c => c != 2) &&
    (s.wafer.factorySpares.getD p []).all fun i => u.sites.getD i 0 != 0

/-- The capacity state the conditions of 06 Table 6-4 give. -/
def State.capacityNow (s : State) : Nat :=
  if s.unit.noFit || (s.ep.image.isSome && s.ep.placement != 0) then 2
  else if (List.range 64).all s.superFull && (decide (s.unit.step ≤ 10) || s.bundlesFull) then 0
  else 1

/-- Evaluate the capacity state (06 R158). -/
def State.evalCapacity (s : State) : State :=
  let n := s.capacityNow
  if n = s.capacity then s
  else
    let o := s.capacity
    ((({ s with capacity := n }.event 0x13 0 0 (o + 4 * n)).unsol 2 (256 * n))).panelTouch [2]

/-- Working keeper cores of a mask. -/
def popcount (m : Nat) : Nat := ((List.range 64).filter fun i => bitAt m i).length

/-- Enabled sites of a super. -/
def Super.enabled (u : Super) : Nat := (u.sites.filter fun c => c == 0).length

/-- Spare sites of a super. -/
def Super.spares (u : Super) : Nat := (u.sites.filter fun c => c == 1).length

/-- A super the replacement criteria count: unsealed, or sealed only provisionally (06 R144, R160). -/
def Super.counted (u : Super) : Bool := u.st == 0 || u.provisional.isSome

/-- The replacement criteria of bits 0 to 4 (06 Table 6-5). -/
def State.criteria (s : State) : Nat :=
  let us := s.wafer.supers.filter Super.counted
  flagBits [decide ((us.map Super.enabled).sum < 8192), decide (s.summary.sealedCount ≥ 2),
    decide ((us.filter fun u => u.spares == 0).length ≥ 8),
    decide ((us.map fun u => popcount u.keepers).sum < 224), s.summary.lostBundles != 0]

/-- Set the replacement request, or add causes to it (06 R161). -/
def State.addCauses (s : State) (c : Nat) : State :=
  let m := s.summary
  let n := m.causes ||| c
  if n = m.causes then s
  else
    let s := s.modSummary fun m => { m with
      replaceReq := true, causes := n, stamp := if m.replaceReq then m.stamp else s.evStamp }
    let s := (s.event 0x0F 0 0 n).unsol 3 (256 * n)
    let s := if m.replaceReq then s else { s with panel := { s.panel with replFirst := s.panel.update.isSome } }
    s.panelTouch [3]

/-- Evaluate the replacement criteria (06 R160). -/
def State.evalReplace (s : State) : State := s.addCauses s.criteria

/-- The alarm outputs, driven from the end of start-up step 2 (06 R162, 21 Table 21-1). -/
def State.replaceL (s : State) : Bool :=
  s.unit.state != .off && decide (s.unit.step ≥ 3) && s.summary.replaceReq

def State.faultL (s : State) : Bool :=
  s.unit.state == .hold || (s.unit.state == .standby && s.unit.coolantHold) ||
    (s.unit.state != .off && s.unit.noFit)

/-- The relays are energised while their outputs are not asserted (06 R162, 22 R551). -/
def State.relay1 (s : State) : Bool := s.unit.state != .off && decide (s.unit.step ≥ 3) && !s.replaceL
def State.relay2 (s : State) : Bool := s.unit.state != .off && decide (s.unit.step ≥ 3) && !s.faultL

/-! ### The passing of time -/

/-- Advance the counters to a schedule tick (04 R88). -/
def State.advRaw (s : State) (t : Nat) : State :=
  let n := t - s.time.tick
  if s.time.running then
    { s with time := { s.time with
        tick := s.time.tick + n, localC := s.time.localC + n * tickU, domA := s.time.domA.advance n,
        domB := s.time.domB.advance n } }
  else { s with time := { s.time with tick := s.time.tick + n } }

/-- The domain auto-switch would take, when its conditions hold (04 R99). -/
def State.autoTarget (s : State) : Option Nat :=
  let o := 3 - s.time.active
  if s.time.running && s.time.settings.autoSwitch && (s.dom s.time.active).holdover && (s.dom o).valid &&
      !(s.dom o).holdover then some o else none

/-- The per-tick check of R99: a switch is due at the next tick. -/
def State.checkAuto (s : State) : State :=
  { s with time := { s.time with autoAt := s.autoTarget.map fun _ => s.time.tick + 1 } }

/-- Make a domain active: DOMAIN_SWITCH event (06 Table 6-8) and event of code 5. -/
def State.switchTo (s : State) (d cause : Nat) : State :=
  ({ s with time := { s.time with active := d } }.event 0x0B cause d 0).unsol 5 (256 * d)

/-- The auto-switch falls due (04 R99). -/
def State.autoSwitch (s : State) : State :=
  match s.autoTarget with
  | some d => { s with time := { s.time with autoAt := none } }.switchTo d 1 |>.checkAuto
  | none => { s with time := { s.time with autoAt := none } }

end Sys2Proof.Machine
end

