-- ==== Sys2Proof/Machine/Operands.lean ====
section
/-! DEFINITION. The layouts of command packets and of the records they carry: the packet header (17 Table
17-3), each opcode's interpreter, states, length and parameter layout (18 Tables 18-2 to 18-14), LKT values
(04 R113), source definitions (03 Table 3-3) and schedule entries (03 Table 3-5). -/

namespace Sys2Proof.Machine

/-! ### LKT values -/

/-- A supplied LKT value is in its layout (04 R113): domain not 3, reserved bits 0, nanoseconds in range. -/
def lktOk (b : Bytes) : Bool :=
  let f := fieldN b 0 2
  bitsOf f 15 14 != 3 && bitsOf f 13 8 == 0 && decide (fieldN b 4 4 ≤ 999999999)

/-- The domain of an LKT value. -/
def lktDom (b : Bytes) : Nat := bitsOf (fieldN b 0 2) 15 14

/-- An LKT value in counter units. -/
def lktVal (b : Bytes) : Nat := fieldN b 8 8 * secU + fieldN b 4 4 * nsU + fieldN b 2 2 * 65536

/-! ### Source definitions (03 Table 3-3) -/

/-- The fields of a source definition. -/
def parseSource (b : Bytes) : SourceDef :=
  { kind := fieldN b 0 1, origin := fieldN b 1 1, originId := fieldN b 2 2, units := fieldN b 4 4,
    stride := fieldN b 8 2, synth := bitAt (fieldN b 10 1) 0, zUse := bitAt (fieldN b 10 1) 1,
    invert := bitAt (fieldN b 10 1) 2, zOffset := fieldN b 12 4, stallTime := fieldN b 16 4,
    period := fieldN b 24 8, originNs := fieldN b 32 4, originS := fieldN b 40 8 }

/-- PERIOD is within 1 µs to 3,600 s, in 1/65,536 ns. -/
def periodOk (p : Nat) : Bool := decide (1000 * 65536 ≤ p) && decide (p ≤ 3600 * 1000000000 * 65536)

/-- STALL_TIME is 0 or at least 10 µs. -/
def stallOk (t : Nat) : Bool := t == 0 || decide (10 ≤ t)

/-- A source definition is in the layout of Table 3-3 (R80). -/
def sourceOk (b : Bytes) : Bool :=
  let d := parseSource b
  zeroIn b 11 1 && zeroIn b 20 4 && zeroIn b 36 4 && bitsOf (fieldN b 10 1) 7 3 == 0 &&
  (match d.kind with
   | 0 => zeroIn b 0 48
   | 1 => decide (d.origin ≤ 7) && d.originId == 0 && decide (4 ≤ d.units) && decide (d.units ≤ 65536) &&
       d.stride == 1 && (if d.zUse then decide (d.zOffset < d.units) else d.zOffset == 0) && stallOk d.stallTime &&
       periodOk d.period && d.originNs == 0 && d.originS == 0
   | 2 => d.origin == 0 && decide (d.originId ≤ 2047) && decide (2 ≤ d.units) && decide (d.units ≤ 65535) &&
       decide (1 ≤ d.stride) && decide (d.stride ≤ 256) && d.zOffset == 0 && stallOk d.stallTime &&
       periodOk d.period && d.originNs == 0 && d.originS == 0
   | 3 => d.origin == 0 && decide (d.originId ≤ 255) && d.units == 2 && d.stride == 1 && d.zOffset == 0 &&
       stallOk d.stallTime && periodOk d.period && d.originNs == 0 && d.originS == 0
   | 4 => decide (d.origin ≤ 2) && d.originId == 0 && d.units == 0 && d.stride == 0 && d.zOffset == 0 &&
       stallOk d.stallTime && periodOk d.period && decide (d.originNs ≤ 999999999)
   | _ => false)

/-- STALL_TIME in counter units: the default is 4 × PERIOD, capped at the field's maximum (03 R65). -/
def SourceDef.stall (d : SourceDef) : Nat :=
  if d.stallTime = 0 then min (4 * d.period * 65536) (4294967295 * 1000 * nsU) else d.stallTime * 1000 * nsU

/-! ### Schedule entries (03 Table 3-5) -/

/-- A time target in 1/65,536 ns. -/
def targetTime (secs ns frac : Nat) : Nat := (secs * 1000000000 + ns) * 65536 + frac

/-- The fields of a schedule entry. -/
def parseEntry (b : Bytes) : Entry :=
  let src := fieldN b 0 1
  let mode := fieldN b 1 1
  let k := bitsOf src 5 4
  { st := .free, owner := if bitAt (fieldN b 3 1) 7 then .queue (bitsOf (fieldN b 3 1) 5 0) else .image,
    src := bitsOf src 3 0, tkind := k, either := bitAt mode 0, late := bitsOf mode 2 1,
    action := fieldN b 2 1,
    target := if k = 0 then fieldN b 8 6 else targetTime (fieldN b 8 8) (fieldN b 16 4) (fieldN b 4 2),
    rel := none, interval := if k = 0 then fieldN b 20 6 else fieldN b 20 8, arg := fieldN b 28 4,
    seq := 0, tick := 0, cmd := none }

/-- The super whose bundle B carries a timed output (05 Table 5-4): S(4,1) or S(5,1). -/
def tsoSuper (output : Nat) : Nat := if output < 16 then 12 else 13

/-- ARG is in the layout of its action (03 Table 3-2). -/
def argOk (action arg : Nat) : Bool :=
  match action with
  | 1 => decide (arg < 65536)
  | 2 => decide (arg < 16)
  | 3 => bitsOf arg 7 7 == 0 &&
      (if bitsOf arg 6 5 = 3 then decide (1 ≤ bitsOf arg 31 8) else bitsOf arg 31 8 == 0)
  | 4 => decide (arg < 65536)
  | 5 => decide (arg < 65536)
  | 6 => true
  | _ => false

/-- A schedule entry is in its layout but for its action and owner. -/
def entryShapeOk (b : Bytes) : Bool :=
  let src := fieldN b 0 1
  let mode := fieldN b 1 1
  let k := bitsOf src 5 4
  bitsOf src 7 6 == 0 && bitsOf mode 7 3 == 0 && bitsOf mode 2 1 != 3 && zeroIn b 6 2 &&
  (if k = 0 then zeroIn b 4 2 && zeroIn b 14 2 && zeroIn b 16 4 && zeroIn b 26 2 &&
      decide (fieldN b 20 6 < 2 ^ 47)
   else bitsOf src 3 0 == 0 && decide (fieldN b 16 4 ≤ 999999999))

/-- The bytes of an entry (03 Table 3-5); one held, or whose relative target is not yet taken, reads its targets 0 (R82). -/
def Entry.bytes (e : Entry) : Bytes :=
  let tgt := if e.st = .held ∨ e.rel.isSome then 0 else e.target
  toLE 1 (e.src + 16 * e.tkind) ++ toLE 1 (b2n e.either + 2 * e.late) ++ toLE 1 e.action ++
    toLE 1 (match e.owner with
      | .image => 0
      | .queue q => 128 + q) ++
    toLE 2 (if e.tkind = 0 then 0 else tgt % 65536) ++ toLE 2 0 ++
    toLE 8 (if e.tkind = 0 then tgt else tgt / 65536 / 1000000000) ++
    toLE 4 (if e.tkind = 0 then 0 else tgt / 65536 % 1000000000) ++ toLE 8 e.interval ++ toLE 4 e.arg

/-! ### The packet header (17 Table 17-3) -/

/-- A command packet's header and parameters. -/
structure Packet where
  opcode : Nat
  tag : Nat
  qp : Nat
  flags : Nat
  plen : Nat
  dlKind : Nat
  dlSel : Nat
  reserved : Nat
  expect : Nat
  deadline : Nat
  resultBuf : Nat
  params : Bytes
deriving DecidableEq, Repr

/-- Read a packet from the bytes of its slot. -/
def parsePacket (b : Bytes) : Packet :=
  { opcode := fieldN b 0 2, tag := fieldN b 2 2, qp := fieldN b 4 1, flags := fieldN b 5 1, plen := fieldN b 6 2,
    dlKind := fieldN b 8 1, dlSel := fieldN b 9 1, reserved := fieldN b 10 2, expect := fieldN b 12 4,
    deadline := fieldN b 16 8, resultBuf := fieldN b 24 8, params := sliceB b 32 (fieldN b 6 2) }

/-- Who interprets an opcode (17 R426): command state machine, base-controller relay, Keeper firmware. -/
inductive Interp where
  | F | C | K
deriving DecidableEq, Repr

/-- A row of the opcode tables (18 R459). -/
structure OpSpec where
  interp : Interp
  states : List UnitState
  /-- The function that must be in host-assisted mode (18 R461). -/
  ha : Option Nat
  /-- The length the parameters' own counts give. -/
  plen : Bytes → Nat
  /-- Has a result. -/
  result : Bool
  /-- Offset of the parameter that names a host address, and whether it has an inline form. -/
  addr : Option (Nat × Bool)
  /-- The parameters are in their layout. -/
  ok : Bytes → Bool

/-- Round up to a multiple of 4. -/
def up4 (n : Nat) : Nat := (n + 3) / 4 * 4

def statesBHYRQ : List UnitState := [.bringup, .hold, .ready, .run, .quiesce]
def statesBYRQ : List UnitState := [.bringup, .ready, .run, .quiesce]
def statesHYRQ : List UnitState := [.hold, .ready, .run, .quiesce]
def statesYRQ : List UnitState := [.ready, .run, .quiesce]
def statesYR : List UnitState := [.ready, .run]

/-- Every item of `n` bytes from `off` is in its layout. -/
def allItems (b : Bytes) (off size n : Nat) (ok : Bytes → Bool) : Bool :=
  (List.range n).all fun i => ok (sliceB b (off + size * i) size)

/-- A value within bounds. -/
def within (lo hi v : Nat) : Bool := decide (lo ≤ v) && decide (v ≤ hi)

/-! ### Checks of the records parameters carry -/

/-- A diagnostic access lies in its space (07 R187, 08 R219). -/
def memParamsOk (p : Bytes) : Bool :=
  let loc := fieldN p 4 4
  let addr := fieldN p 8 8
  let len := fieldN p 16 4
  zeroIn p 1 3 && within 1 1048576 len &&
  (match fieldN p 0 1 with
   | 0 => decide (loc < 9216) && decide (addr + len ≤ 4194304)
   | 1 => decide (loc < 8) && decide (addr + len ≤ 0x3FFC0000000)
   | _ => false)

/-- FW_STAGE's parameters (18 Table 18-13). -/
def fwStageOk (p : Bytes) : Bool :=
  let t := fieldN p 0 1
  let ph := fieldN p 2 1
  let len := fieldN p 12 4
  let inline := fieldN p 16 8 == 0
  within 0 5 t && within 0 2 ph && zeroIn p 3 1 && within 0 1048576 len && (!inline || decide (len ≤ 4040)) &&
  (match t with
   | 3 => decide (fieldN p 1 1 < 8)
   | 4 => decide (fieldN p 1 1 < 16)
   | 5 => true
   | _ => fieldN p 1 1 == 0) &&
  (ph == 0 || zeroIn p 8 4) &&
  (!inline || zeroIn p (24 + len) (up4 len - len))

/-- A TRIGGER payload is in its layout (09 Table 9-6). -/
def trigOk (b : Bytes) : Bool := (within 0 2 (fieldN b 0 1) || decide (128 ≤ fieldN b 0 1)) && zeroIn b 1 7

/-- LINK_BUF_WRITE's parameters (18 Table 18-5): a TRIGGER frame header of the port (09 Table 9-2). -/
def linkBufOk (p : Bytes) : Bool :=
  let h := sliceB p 4 16
  let a := fieldN h 4 2
  within 0 1023 (fieldN p 0 2) && within 0 15 (fieldN p 2 1) && zeroIn p 3 1 && fieldN h 0 1 == 3 &&
  fieldN h 1 1 == 1 && fieldN h 2 2 == 16 && bitsOf a 9 8 != 3 && bitsOf a 15 10 == 0 &&
  bitsOf a 7 4 == fieldN p 2 1 && (bitsOf a 9 8 == 0 || bitsOf a 3 0 == 0) && zeroIn h 6 2 && zeroIn h 9 7 &&
  trigOk (sliceB p 20 16)

/-- A pose is 28 bytes of which every value is one (10 Table 10-3, block 0x0011). -/
def siteWriteOk (_p : Bytes) : Bool := true

/-- A host match item (11 Tables 11-3, 11-4). -/
def matchItemOk (p : Bytes) : Bool := zeroIn p 7 1 && !bitAt (fieldN p 6 1) 7

/-- A transform entry is in its layout (12 Table 12-1). -/
def xformOk (p : Bytes) : Bool :=
  (decide (fieldN p 34 2 < 4096) || fieldN p 34 2 == 0xFFFF) && within 0 3 (fieldN p 36 1) && zeroIn p 37 11

/-- An entry of a host association list (12 R319). -/
def assocItemOk (p : Bytes) : Bool := zeroIn p 6 2

/-- PLACE_QUERY carries its descriptor inline where it names no address and gives no tables (18 Table 18-8). -/
def queryPlen (p : Bytes) : Nat := if fieldN p 48 8 = 0 ∧ ¬bitAt (fieldN p 1 1) 2 then 576 else 64

/-- A query record is in its layout, with tables in host memory (13 Table 13-4, R345). -/
def queryOk (p : Bytes) : Bool :=
  let k := fieldN p 2 1
  let m := fieldN p 4 2
  let tables := bitAt (fieldN p 1 1) 2
  fieldN p 0 1 == 1 && bitsOf (fieldN p 1 1) 7 3 == 0 && within 1 64 k && zeroIn p 3 1 && (m == 0 || within k 256 m) &&
    zeroIn p 46 2 && zeroIn p 56 8 && (if tables then fieldN p 48 8 != 0 else zeroIn p 44 2)

/-- A closure edge submitted by the host (13 Table 13-8, R346). -/
def closureOk (p : Bytes) : Bool := fieldN p 16 1 == 2 && zeroIn p 17 3 && zeroIn p 132 4

/-- A pose written by the host (13 Table 13-7, 18 Table 18-8). -/
def nodeOk (p : Bytes) : Bool := zeroIn p 36 4 && zeroIn p 40 8

/-- An injected delta word: SRC 15, reserved bits 0 (14 Table 14-2). -/
def deltaOk (p : Bytes) : Bool := bitsOf (fieldN p 0 8) 52 49 == 15 && bitsOf (fieldN p 0 8) 63 53 == 0

/-- A destination size is within the scale of 15 R387. -/
def scaleOk (src dst : Nat) : Bool := within ((src + 3) / 4) (16 * src) dst

/-- A layer descriptor is in its layout (15 Table 15-2, R387). -/
def layerDescOk (p : Bytes) : Bool :=
  let kind := fieldN p 2 1
  let sw := fieldN p 4 2
  let sh := fieldN p 6 2
  decide (fieldN p 0 1 < 8) && within 0 3 (fieldN p 1 1) && within 0 3 kind && within 1 4096 sw && within 1 4096 sh &&
    scaleOk sw (fieldN p 12 2) && scaleOk sh (fieldN p 14 2) &&
    decide (sw * [4, 4, 2, 1].getD (fieldN p 1 1) 4 ≤ fieldN p 16 4) && zeroIn p 35 1 &&
    (kind == 3 || zeroIn p 36 4) && (kind != 2 || within 0 7 (fieldN p 20 4)) &&
    (kind != 3 || (zeroIn p 20 4 && zeroIn p 24 8)) && zeroIn p 40 24

/-- AGENT_BUF_WRITE's parameters (16 R421, 18 Table 18-11). -/
def agentBufOk (p : Bytes) : Bool :=
  let n := fieldN p 4 2
  within 0 1023 (fieldN p 0 2) && within 0 7 (fieldN p 2 1) && within 0 4 (fieldN p 3 1) && within 64 1518 n &&
    zeroIn p 6 2 && zeroIn p (8 + n) (up4 n - n)

/-- A gate list's intervals are those of 16 Table 16-2. -/
def gateListOk (p : Bytes) : Bool :=
  let n := fieldN p 1 1
  let sum := ((List.range n).map fun i => fieldN p (28 + 8 * i) 4).sum
  allItems p 24 8 n (fun e => zeroIn e 1 3 && fieldN e 4 4 % 8 == 0 && decide (64 ≤ fieldN e 4 4)) &&
    within 1000 1000000000 sum

/-- The opcode table (18 Tables 18-2 to 18-14). -/
def opSpec (op : Nat) : Option OpSpec :=
  match op with
  | 0x0101 => some ⟨.F, statesBHYRQ, none, fun _ => 0, true, none, fun _ => true⟩
  | 0x0102 => some ⟨.C, statesBHYRQ, none, fun _ => 0, true, none, fun _ => true⟩
  | 0x0103 => some ⟨.K, statesBYRQ, none, fun _ => 0, true, none, fun _ => true⟩
  | 0x0104 => some ⟨.K, statesYRQ, none, fun _ => 0, false, none, fun _ => true⟩
  | 0x0105 => some ⟨.C, statesBHYRQ, none, fun _ => 4, false, none, fun p => fieldN p 0 1 == 0xA5 && zeroIn p 1 3⟩
  | 0x0106 => some ⟨.K, statesYRQ, none, fun _ => 16, false, none, fun p =>
      within 8 9 (fieldN p 0 1) && zeroIn p 1 3 && within 1 30 (fieldN p 8 1) && zeroIn p 9 3⟩
  | 0x0201 => some ⟨.F, statesBHYRQ, none, fun _ => 0, true, none, fun _ => true⟩
  | 0x0202 => some ⟨.K, statesYRQ, some 0, fun _ => 16, true, none, fun p =>
      within 1 2 (fieldN p 0 1) && zeroIn p 1 7 && within 0xFFBE76C9 0x100418937 (fieldN p 8 8)⟩
  | 0x0203 => some ⟨.K, statesYRQ, some 0, fun _ => 24, true, none, fun p =>
      within 1 2 (fieldN p 0 1) && within 0 1 (fieldN p 1 1) && zeroIn p 2 6 &&
      (if fieldN p 1 1 = 0 then lktOk (sliceB p 8 16) && lktDom (sliceB p 8 16) == fieldN p 0 1
       else zeroIn p 18 6)⟩
  | 0x0204 => some ⟨.K, statesYRQ, none, fun _ => 4, true, none, fun p => within 1 2 (fieldN p 0 1) && zeroIn p 1 3⟩
  | 0x0205 => some ⟨.K, statesYRQ, none, fun _ => 4, false, none, fun p =>
      let c := fieldN p 0 1
      (match c with
       | 0 => within 0 63 (fieldN p 1 1) && within 0 3 (fieldN p 2 1)
       | 1 => fieldN p 1 1 == 0 && within 0 3 (fieldN p 2 1)
       | 3 => within 0 15 (fieldN p 1 1) && within 0 1 (fieldN p 2 1)
       | _ => false) && within 0 1 (fieldN p 3 1)⟩
  | 0x0206 => some ⟨.F, statesYRQ, none, fun _ => 12, true, none, fun p =>
      within 1 256 (fieldN p 0 2) && within 0 1 (fieldN p 2 1) && zeroIn p 3 1 && within 0 999999999 (fieldN p 4 4)⟩
  | 0x0207 => some ⟨.K, statesYRQ, none, fun _ => 0, true, none, fun _ => true⟩
  | 0x0208 => some ⟨.K, statesYRQ, some 0, fun _ => 4, true, none, fun p => within 1 64 (fieldN p 0 2) && zeroIn p 2 2⟩
  | 0x0209 => some ⟨.K, statesYRQ, none, fun _ => 56, false, none, fun p =>
      within 0 15 (fieldN p 0 1) && zeroIn p 1 7 && sourceOk (sliceB p 8 48)⟩
  | 0x020A => some ⟨.K, statesYRQ, none, fun _ => 4, true, none, fun p => fieldN p 0 2 != 0 && zeroIn p 2 2⟩
  | 0x020B => some ⟨.K, statesYR, none, fun _ => 64, true, none, fun p =>
      let e := sliceB p 16 32
      let rel := fieldN p 8 1
      (within 0 63 (fieldN p 0 1) || fieldN p 0 1 == 255) && zeroIn p 1 7 && within 0 1 rel && zeroIn p 9 7 &&
      entryShapeOk e && zeroIn e 3 1 && within 2 5 (fieldN e 2 1) && argOk (fieldN e 2 1) (fieldN e 28 4) &&
      zeroIn p 58 6 &&
      (fieldN e 2 1 != 3 || fieldN p 0 1 == 255 || fieldN p 0 1 == tsoSuper (bitsOf (fieldN e 28 4) 4 0)) &&
      (if rel = 0 then zeroIn p 48 10
       else zeroIn e 4 2 && zeroIn e 8 12 &&
         (bitsOf (fieldN e 0 1) 5 4 != 0 || decide (fieldS p 48 8 < 2147483648)))⟩
  | 0x020C => some ⟨.K, statesYRQ, none, fun _ => 4, false, none, fun p => within 0 16383 (fieldN p 0 2) && zeroIn p 2 2⟩
  | 0x020D => some ⟨.K, statesYRQ, none, fun _ => 4, true, none, fun p => within 0 16383 (fieldN p 0 2) && zeroIn p 2 2⟩
  | 0x020E => some ⟨.F, statesYRQ, none, fun _ => 8, false, none, fun p =>
      within 0 31 (fieldN p 0 1) && within 0 3 (fieldN p 1 1) && zeroIn p 2 2 &&
      (if fieldN p 1 1 = 3 then within 1 16777215 (fieldN p 4 4) else zeroIn p 4 4)⟩
  | 0x0301 => some ⟨.K, statesBYRQ, none, fun _ => 4, true, none, fun p => fieldN p 0 2 != 0 && zeroIn p 2 2⟩
  | 0x0302 => some ⟨.K, statesYR, some 9, fun _ => 4, false, none, fun p => within 0 15 (fieldN p 0 1) && zeroIn p 1 3⟩
  | 0x0303 => some ⟨.K, statesYRQ, none, fun _ => 4, false, none, fun p => within 0 15 (fieldN p 0 1) && zeroIn p 1 3⟩
  | 0x0304 => some ⟨.K, statesYRQ, none, fun _ => 36, false, none, linkBufOk⟩
  | 0x0305 => some ⟨.K, statesBYRQ, none, fun _ => 4, true, none, fun p =>
      zeroIn p 1 1 && within 1 256 (fieldN p 2 2) && decide (fieldN p 0 1 + fieldN p 2 2 ≤ 256)⟩
  | 0x0306 => some ⟨.K, statesYRQ, none, fun _ => 12, true, none, fun p =>
      zeroIn p 1 3 && within 1 1048576 (fieldN p 8 4)⟩
  | 0x0307 => some ⟨.K, statesYRQ, none, fun _ => 36, false, none, fun p => zeroIn p 1 3 && siteWriteOk p && zeroIn p 32 4⟩
  | 0x0308 => some ⟨.K, statesYRQ, none, fun _ => 4, false, none, fun p => zeroIn p 1 3⟩
  | 0x0401 => some ⟨.K, [.run], some 3, fun _ => 8, true, none, fun p => zeroIn p 2 2⟩
  | 0x0402 => some ⟨.K, [.run], some 3, fun p => 16 + 8 * fieldN p 2 2, false, none, fun p =>
      within 1 506 (fieldN p 2 2) && zeroIn p 12 4 && allItems p 16 8 (fieldN p 2 2) matchItemOk⟩
  | 0x0501 => some ⟨.K, statesYRQ, none, fun p => 8 + 48 * fieldN p 2 2, false, none, fun p =>
      within 1 84 (fieldN p 2 2) && zeroIn p 4 4 && decide (fieldN p 0 2 + fieldN p 2 2 ≤ 4096) &&
      allItems p 8 48 (fieldN p 2 2) xformOk⟩
  | 0x0502 => some ⟨.K, statesYRQ, none, fun _ => 4, true, none, fun p =>
      within 1 4096 (fieldN p 2 2) && decide (fieldN p 0 2 + fieldN p 2 2 ≤ 4096)⟩
  | 0x0503 => some ⟨.K, statesYRQ, none, fun _ => 4, true, none, fun p =>
      within 1 1024 (fieldN p 2 2) && decide (fieldN p 0 2 + fieldN p 2 2 ≤ 65536)⟩
  | 0x0504 => some ⟨.K, [.run], some 4, fun _ => 4, true, none, fun p => zeroIn p 2 2⟩
  | 0x0505 => some ⟨.K, [.run], some 4, fun p => 8 + 8 * fieldN p 2 2, false, none, fun p =>
      within 1 507 (fieldN p 2 2) && allItems p 8 8 (fieldN p 2 2) assocItemOk⟩
  | 0x0601 => some ⟨.K, [.run], none, queryPlen, true, some (48, true), queryOk⟩
  | 0x0602 => some ⟨.K, statesYR, none, fun _ => 16, false, some (0, false), fun p =>
      fieldN p 8 4 == 131088 && zeroIn p 12 4⟩
  | 0x0603 => some ⟨.K, [.run], some 5, fun _ => 4, true, none, fun p => within 1 4096 (fieldN p 0 2) && zeroIn p 2 2⟩
  | 0x0604 => some ⟨.K, [.run], some 5, fun p => 8 + 136 * fieldN p 0 2, false, none, fun p =>
      within 1 29 (fieldN p 0 2) && zeroIn p 2 6 && allItems p 8 136 (fieldN p 0 2) closureOk⟩
  | 0x0605 => some ⟨.K, statesYRQ, none, fun _ => 16, true, none, fun p =>
      within 0 1 (fieldN p 0 1) && zeroIn p 1 3 && within 1 65536 (fieldN p 4 4)⟩
  | 0x0606 => some ⟨.K, [.run], some 6, fun p => 8 + 48 * fieldN p 0 1, false, none, fun p =>
      within 1 64 (fieldN p 0 1) && zeroIn p 1 7 && allItems p 8 48 (fieldN p 0 1) nodeOk⟩
  | 0x0607 => some ⟨.K, statesYRQ, none, fun p => 8 + 12 * fieldN p 0 1, false, none, fun p =>
      within 0 4 (fieldN p 0 1) && zeroIn p 1 7 && allItems p 8 12 (fieldN p 0 1) fun d =>
        within 0 3 (fieldN d 6 1) && within 8 9 (fieldN d 7 1) && zeroIn d 8 4⟩
  | 0x0701 => some ⟨.K, statesYRQ, none, fun _ => 8, true, none, fun p =>
      within 1 4096 (fieldN p 4 4) && decide (fieldN p 0 4 + fieldN p 4 4 ≤ 131072)⟩
  | 0x0702 => some ⟨.K, statesYRQ, none, fun _ => 4, true, none, fun p => within 1 4096 (fieldN p 0 2) && zeroIn p 2 2⟩
  | 0x0703 => some ⟨.K, [.run], none, fun p => 8 + 8 * fieldN p 0 2, false, none, fun p =>
      within 1 256 (fieldN p 0 2) && zeroIn p 2 6 && allItems p 8 8 (fieldN p 0 2) deltaOk⟩
  | 0x0704 => some ⟨.K, [.run], none, fun _ => 12, false, none, fun p => zeroIn p 2 2⟩
  | 0x0705 => some ⟨.K, [.run], none, fun _ => 4, false, none, fun p => zeroIn p 2 2⟩
  | 0x0706 => some ⟨.K, statesYRQ, none, fun _ => 4, true, none, fun p => zeroIn p 2 2⟩
  | 0x0707 => some ⟨.K, statesYRQ, none, fun _ => 12, true, none, fun p =>
      within 1 4096 (fieldN p 0 2) && within 0 1 (fieldN p 2 1) && zeroIn p 3 1 && within 0 999999999 (fieldN p 4 4)⟩
  | 0x0708 => some ⟨.K, [.run], some 7, fun p => 16 + (if fieldN p 8 8 = 0 then 4 * fieldN p 2 2 else 0), false,
      some (8, true), fun p => within 1 4096 (fieldN p 2 2) && (fieldN p 8 8 != 0 || within 1 1012 (fieldN p 2 2))⟩
  | 0x0801 => some ⟨.K, [.run], none, fun _ => 72, false, none, fun p =>
      within 0 1 (fieldN p 0 1) && within 0 15 (fieldN p 1 1) && zeroIn p 2 6 && layerDescOk (sliceB p 8 64)⟩
  | 0x0802 => some ⟨.K, [.run], none, fun _ => 4, false, none, fun p =>
      within 0 1 (fieldN p 0 1) && within 0 15 (fieldN p 1 1) && zeroIn p 2 2⟩
  | 0x0803 => some ⟨.K, [.run], some 8, fun p => 24 + (if fieldN p 16 8 = 0 then up4 (fieldN p 8 4) else 0), false,
      some (16, true), fun p => within 1 4194304 (fieldN p 8 4) && zeroIn p 12 4 &&
        (fieldN p 16 8 != 0 || within 1 4040 (fieldN p 8 4)) &&
        (fieldN p 16 8 != 0 || zeroIn p (24 + fieldN p 8 4) (up4 (fieldN p 8 4) - fieldN p 8 4))⟩
  | 0x0804 => some ⟨.K, statesYRQ, none, fun _ => 0, true, none, fun _ => true⟩
  | 0x0805 => some ⟨.C, statesBHYRQ, none, fun _ => 0, true, none, fun _ => true⟩
  | 0x0901 => some ⟨.F, statesYRQ, none, fun _ => 24, true, none, fun p =>
      within 0 1 (fieldN p 2 1) && zeroIn p 3 5 &&
      (if fieldN p 2 1 = 0 then zeroIn p 8 16 else lktOk (sliceB p 8 16))⟩
  | 0x0902 => some ⟨.K, [.run], some 10, fun _ => 648, false, none, fun p =>
      within 1 2 (fieldN p 2 1) && zeroIn p 3 1 && zeroIn p 6 2 && lktOk (sliceB p 8 16) && lktDom (sliceB p 8 16) != 0⟩
  | 0x0903 => some ⟨.K, statesYRQ, none, fun p => 8 + up4 (fieldN p 4 2), false, none, agentBufOk⟩
  | 0x0904 => some ⟨.K, statesYRQ, none, fun p => 24 + 8 * fieldN p 1 1, false, none, fun p =>
      within 0 7 (fieldN p 0 1) && within 1 64 (fieldN p 1 1) && within 1 2 (fieldN p 2 1) && zeroIn p 3 5 &&
      lktOk (sliceB p 8 16) && lktDom (sliceB p 8 16) == fieldN p 2 1 && gateListOk p⟩
  | 0x0A01 => some ⟨.K, statesYR, none, fun _ => 16, false, some (0, false), fun _ => true⟩
  | 0x0A02 => some ⟨.K, statesYR, none, fun _ => 4, false, none, fun p =>
      within 0 10 (fieldN p 0 1) && within 0 1 (fieldN p 1 1) && zeroIn p 2 2⟩
  | 0x0A03 => some ⟨.K, statesYR, none, fun _ => 24, true, none, fun p =>
      within 0 1 (fieldN p 0 1) && zeroIn p 2 6 &&
      (if fieldN p 0 1 = 0 then within 0 15 (fieldN p 1 1) && zeroIn p 14 10
       else within 1 2 (fieldN p 1 1) && lktOk (sliceB p 8 16) && lktDom (sliceB p 8 16) == fieldN p 1 1)⟩
  | 0x0A04 => some ⟨.K, statesYR, none, fun _ => 0, false, none, fun _ => true⟩
  | 0x0A05 => some ⟨.K, statesYRQ, none, fun _ => 0, true, none, fun _ => true⟩
  | 0x0B01 => some ⟨.C, statesBHYRQ, none, fun _ => 8, true, none, fun p => within 1 1024 (fieldN p 4 2) && zeroIn p 6 2⟩
  | 0x0B02 => some ⟨.C, statesBHYRQ, none, fun _ => 0, true, none, fun _ => true⟩
  | 0x0B03 => some ⟨.C, statesHYRQ, none, fun p => 24 + (if fieldN p 16 8 = 0 then up4 (fieldN p 12 4) else 0), false,
      some (16, true), fun p => fwStageOk p⟩
  | 0x0B04 => some ⟨.C, statesBHYRQ, none, fun _ => 4, false, none, fun p => within 0 1 (fieldN p 0 1) && zeroIn p 1 3⟩
  | 0x0C01 => some ⟨.K, statesYR, none, fun _ => 24, true, none, fun p => memParamsOk p && zeroIn p 20 4⟩
  | 0x0C02 => some ⟨.K, statesYR, none, fun p => 32 + (if fieldN p 24 8 = 0 then up4 (fieldN p 16 4) else 0), false,
      some (24, true), fun p => memParamsOk p && within 0 1 (fieldN p 20 1) && zeroIn p 21 3 &&
        (fieldN p 24 8 != 0 || (within 1 4032 (fieldN p 16 4) &&
          zeroIn p (32 + fieldN p 16 4) (up4 (fieldN p 16 4) - fieldN p 16 4)))⟩
  | 0x0C03 => some ⟨.K, statesYR, none, fun _ => 24, true, none, fun p =>
      memParamsOk p && zeroIn p 20 4 && within 1 65536 (fieldN p 16 4) &&
      (let u := if fieldN p 0 1 = 0 then 8 else 64
       fieldN p 8 8 % u == 0 && fieldN p 16 4 % u == 0)⟩
  | 0x0C04 => some ⟨.K, [.ready], none, fun p => 24 + 12 * fieldN p 16 2, false, none, fun p =>
      zeroIn p 4 4 && fieldN p 8 8 % 8 == 0 && within 1 336 (fieldN p 16 2) && zeroIn p 18 6 &&
      decide (fieldN p 0 4 < 9216) && decide (fieldN p 8 8 + 8 * fieldN p 16 2 ≤ 4194304) &&
      allItems p 24 12 (fieldN p 16 2) fun i => zeroIn i 9 3⟩
  | _ => none

/-- The data a command takes inline from byte `off`, or from host memory (18 R466). -/
def dataOf (p : Bytes) (addrOff off len : Nat) (data : Option Bytes) : Option Bytes :=
  if fieldN p addrOff 8 = 0 then some (sliceB p off len) else data.map fun d => sliceB d 0 len

end Sys2Proof.Machine
end

