-- ==== Sys2Proof/Machine/FusAlg.lean ====
section
/-! DEFINITION. What a track-filter engine computes (12 R297 to R309): transform chains, ego-motion, prediction,
projection and association, over one slot or one observation at a time. The order of operations is the one written
here (log entry 19). -/

namespace Sys2Proof.Machine

/-! ### Transform chains (12 R297, R299) -/

/-- A pose: rotation and translation. -/
structure Pose where
  r : Mat
  t : Vec
deriving DecidableEq, Repr

def Pose.id : Pose := { r := mId 3, t := [fZero, fZero, fZero] }

/-- The pose of 28 bytes: quaternion in Q1.30, translation in Q16.16. -/
def poseOf (b : Bytes) : Pose :=
  { r := quatMat (fQ30 (fieldS b 0 4)) (fQ30 (fieldS b 4 4)) (fQ30 (fieldS b 8 4)) (fQ30 (fieldS b 12 4)),
    t := [fQ16 (fieldS b 16 4), fQ16 (fieldS b 20 4), fQ16 (fieldS b 24 4)] }

/-- A child's pose in its parent's parent frame (R297). -/
def Pose.inParent (c p : Pose) : Pose := { r := mMul p.r c.r, t := vAdd (mVec p.r c.t) p.t }

/-- Fields of a transform entry (12 Table 12-1). -/
def xfParent (e : Bytes) : Nat := fieldN e 34 2
def xfSet (e : Bytes) : Bool := bitAt (fieldN e 36 1) 0
/-- Its time offset in 1/65,536 ns. -/
def xfOffset (e : Bytes) : Int := fieldS e 28 4 * 65536 + fieldN e 32 2

/-- The entries of a chain from an entry to the site frame, at most `fuel`; none: unset, a cycle or too long. -/
def chainOf (t : List (Nat × Bytes)) : Nat → Nat → Option (List Bytes)
  | _, 0xFFFF => some []
  | 0, _ => none
  | f + 1, i =>
    match tget t i with
    | some e => if xfSet e then (chainOf t f (xfParent e)).map fun l => e :: l else none
    | none => none

/-- The pose of an entry's frame on the site, and its time offset; none where the chain passes an unset entry. -/
def chainPose (t : List (Nat × Bytes)) (i : Nat) : Option (Pose × Int) :=
  (chainOf t 8 i).map fun l =>
    (l.foldl (fun (acc : Option Pose) e => match acc with
        | none => some (poseOf e)
        | some c => some (c.inParent (poseOf e))) none |>.getD Pose.id,
     (l.map xfOffset).sum)

/-! ### Motion (12 R301, R303, R304) -/

/-- A time difference in counter units as seconds. -/
def fSeconds (d : Int) : F32 := fOfRat d secU

/-- State indices that are angles. -/
def angleIdx (model : Nat) : List Nat :=
  match model with
  | 1 => [2]
  | 2 => [3, 4, 5]
  | 4 => [6]
  | _ => []

def wrapAngles (model : Nat) (x : Vec) : Vec :=
  (List.range x.length).map fun i => if (angleIdx model).contains i then fWrap (vGet x i) else vGet x i

def vZero12 : Vec := List.replicate 12 fZero
def mZero12 : Mat := List.replicate 12 vZero12

/-- Set entries of a vector. -/
def vPut (v : Vec) (l : List (Nat × F32)) : Vec := l.foldl (fun v e => v.set e.1 e.2) v

/-- A 12 × 12 identity with entries added. -/
def jac (l : List (Nat × Nat × F32)) : Mat :=
  l.foldl (fun m e => lmod m e.1 fun r => r.set e.2.1 e.2.2) (mId 12)

/-- What a sample says of its rates. -/
def Sample.gyroZ (s : Sample) : Option F32 := if bitAt s.valid 2 then some (vGet s.gyro 2) else none
def Sample.rateW (s : Sample) : Option F32 := if bitAt s.valid 1 then some s.wheelW else none
def Sample.speed (s : Sample) : Option F32 := if bitAt s.valid 0 then some s.wheelV else none

/-- Model 1 over an interval (R303): new state and Jacobian. -/
def moveOne (x : Vec) (s : Option Sample) (dt : F32) : Vec × Mat :=
  let th := vGet x 2
  let gz := s.bind Sample.gyroZ
  let ww := s.bind Sample.rateW
  let wv := s.bind Sample.speed
  let w := match gz, ww with
    | some g, _ => fSub g (vGet x 5)
    | none, some a => a
    | none, none => vGet x 4
  let v := wv.getD (vGet x 3)
  let mid := fWrap (fAdd th (fDiv (fMul w dt) fTwo))
  let c := fCos mid
  let sn := fSin mid
  let x' := vPut x [(0, fAdd (vGet x 0) (fMul (fMul v c) dt)), (1, fAdd (vGet x 1) (fMul (fMul v sn) dt)),
    (2, fWrap (fAdd th (fMul w dt))), (3, v), (4, w)]
  let half := fDiv (fMul dt dt) fTwo
  let dxw := fNeg (fMul (fMul v sn) half)
  let dyw := fMul (fMul v c) half
  let base := [(0, 2, fNeg (fMul (fMul v sn) dt)), (1, 2, fMul (fMul v c) dt)]
  let vel := if wv.isSome then [(3, 3, fZero)] else [(0, 3, fMul c dt), (1, 3, fMul sn dt)]
  let rate := match gz, ww with
    | some _, _ => [(0, 5, fNeg dxw), (1, 5, fNeg dyw), (2, 5, fNeg dt), (4, 4, fZero), (4, 5, fNeg fOne)]
    | none, some _ => [(4, 4, fZero)]
    | none, none => [(0, 4, dxw), (1, 4, dyw), (2, 4, dt)]
  (x', jac (base ++ vel ++ rate))

/-- Rotation about an axis and its derivative. -/
def rotX (a : F32) : Mat := [[fOne, fZero, fZero], [fZero, fCos a, fNeg (fSin a)], [fZero, fSin a, fCos a]]
def rotY (a : F32) : Mat := [[fCos a, fZero, fSin a], [fZero, fOne, fZero], [fNeg (fSin a), fZero, fCos a]]
def rotZ (a : F32) : Mat := [[fCos a, fNeg (fSin a), fZero], [fSin a, fCos a, fZero], [fZero, fZero, fOne]]
def drotX (a : F32) : Mat := [[fZero, fZero, fZero], [fZero, fNeg (fSin a), fNeg (fCos a)], [fZero, fCos a, fNeg (fSin a)]]
def drotY (a : F32) : Mat := [[fNeg (fSin a), fZero, fCos a], [fZero, fZero, fZero], [fNeg (fCos a), fZero, fNeg (fSin a)]]
def drotZ (a : F32) : Mat := [[fNeg (fSin a), fNeg (fCos a), fZero], [fCos a, fNeg (fSin a), fZero], [fZero, fZero, fZero]]

/-- Roll, pitch, yaw as a rotation, ZYX. -/
def attMat (f t p : F32) : Mat := mMul (mMul (rotZ p) (rotY t)) (rotX f)

/-- Model 2 over an interval (R303). -/
def moveTwo (x : Vec) (s : Option Sample) (dt : F32) : Vec × Mat :=
  let gy := match s with
    | some q => if bitAt q.valid 2 then some q.gyro else none
    | none => none
  let ac := match s with
    | some q => if bitAt q.valid 3 then some q.accel else none
    | none => none
  let f := vGet x 3
  let t := vGet x 4
  let p := vGet x 5
  let pos := (List.range 3).map fun i => (i, fAdd (vGet x i) (fMul (vGet x (6 + i)) dt))
  let att := match gy with
    | some g => (List.range 3).map fun i => (3 + i, fWrap (fAdd (vGet x (3 + i)) (fMul (fSub (vGet g i) (vGet x (9 + i))) dt)))
    | none => []
  let vel := match ac with
    | some a =>
      let ra := mVec (attMat f t p) a
      let d := [vGet ra 0, vGet ra 1, fSub (vGet ra 2) fGravity]
      (List.range 3).map fun i => (6 + i, fAdd (vGet x (6 + i)) (fMul (vGet d i) dt))
    | none => []
  let jp := (List.range 3).map fun i => (i, 6 + i, dt)
  let ja := match gy with
    | some _ => (List.range 3).map fun i => (3 + i, 9 + i, fNeg dt)
    | none => []
  let jv := match ac with
    | some a =>
      let cols := [mVec (mMul (mMul (rotZ p) (rotY t)) (drotX f)) a, mVec (mMul (mMul (rotZ p) (drotY t)) (rotX f)) a,
        mVec (mMul (mMul (drotZ p) (rotY t)) (rotX f)) a]
      ((List.range 3).map fun j => (List.range 3).map fun i => (6 + i, 3 + j, fMul (vGet (cols.getD j []) i) dt)).flatten
    | none => []
  (vPut x (pos ++ att ++ vel), jac (jp ++ ja ++ jv))

/-- Models 3 and 4 over an interval (Table 12-2). -/
def moveObj (model : Nat) (x : Vec) (dt : F32) : Vec × Mat :=
  let pos := (List.range 3).map fun i => (i, fAdd (vGet x i) (fMul (vGet x (3 + i)) dt))
  let jp := (List.range 3).map fun i => (i, 3 + i, dt)
  if model = 4 then
    (vPut x (pos ++ [(6, fWrap (fAdd (vGet x 6) (fMul (vGet x 7) dt)))]), jac (jp ++ [(6, 7, dt)]))
  else (vPut x pos, jac jp)

/-- Any model over an interval. -/
def moveModel (model : Nat) (x : Vec) (s : Option Sample) (dt : F32) : Vec × Mat :=
  match model with
  | 1 => moveOne x s dt
  | 2 => moveTwo x s dt
  | m => moveObj m x dt

/-- States of a model (12 Table 12-2). -/
def stateCount (model : Nat) : Nat :=
  match model with
  | 1 => 6
  | 2 => 12
  | 3 => 6
  | 4 => 11
  | _ => 0

/-- A state and covariance whose entries beyond a model's count are 0 (R301). -/
def maskModel (model : Nat) (xp : Vec × Mat) : Vec × Mat :=
  let n := stateCount model
  ((List.range 12).map fun i => if i < n then vGet xp.1 i else fZero,
   mkMat 12 12 fun i j => if i < n ∧ j < n then mGet xp.2 i j else fZero)

/-- Carry a covariance: F·P·Fᵀ + diag(q)·Δt. -/
def carryCov (f p : Mat) (q : Vec) (dt : F32) : Mat := mAdd (mSandwich f p) (mDiag (vScale dt (q.take 12)))

/-- The Joseph update of a state by a measurement y of rows H with covariance C (R308). -/
def kalman (model : Nat) (x : Vec) (p h : Mat) (y : Vec) (c : Mat) (l : Mat) : Vec × Mat :=
  let pht := mMul p (mT h)
  let k := pht.map fun r => cholSolve l r
  let ikh := mSub (mId 12) (mMul k h)
  (wrapAngles model (vAdd x (mVec k y)), mMirror (mAdd (mSandwich ikh p) (mSandwich k c)))

/-- A valid wheel speed updates model 2's forward velocity (R303). -/
def wheelUpdate (x : Vec) (p : Mat) (v var : F32) : Vec × Mat :=
  let r := attMat (vGet x 3) (vGet x 4) (vGet x 5)
  let h := [vZero12.take 6 ++ mCol r 0 ++ vZero12.take 3]
  let s := mAdd (mSandwich h p) [[var]]
  match cholesky s with
  | some l => kalman 2 x p h [fSub v (dot (mCol r 0) [vGet x 6, vGet x 7, vGet x 8])] [[var]] l
  | none => (x, p)

/-- One sample interval of an agent slot: from `a` to `b`, under the sample in force. -/
def agentStep (model : Nat) (q : Vec) (xp : Vec × Mat) (s : Option Sample) (a b : Nat) : Vec × Mat :=
  let dt := fSeconds ((b : Int) - a)
  let m := moveModel model xp.1 s dt
  (m.1, carryCov m.2 xp.2 q dt)

/-- Move an agent slot to a time, consuming its samples up to it in stamp order (R303). -/
def agentMove (model : Nat) (q : Vec) (wheelVar : F32) (xp : Vec × Mat) (s : Option Sample) (a t : Nat) :
    List Sample → Vec × Mat
  | [] => agentStep model q xp s a t
  | n :: r =>
    let xp := agentStep model q xp s a n.stamp
    let xp := match model, n.speed with
      | 2, some v => wheelUpdate xp.1 xp.2 v wheelVar
      | _, _ => xp
    agentMove model q wheelVar xp (some n) n.stamp t r

/-! ### Slots -/

def Track.free : Track :=
  { gen := 0, model := 0, cls := 0, agent := none, fused := false, synth := false, coast := 0, updates := 0,
    tState := 0, x := vZero12, p := mZero12, epoch := 0, samples := [], late := 0, dropped := 0 }

def Track.inUse (k : Track) : Bool := k.model != 0

/-- A slot whose states beyond its model's count read 0 (R301). -/
def Track.mask (k : Track) : Track :=
  let xp := maskModel k.model (k.x, k.p)
  { k with x := xp.1, p := xp.2 }

/-- A freed object slot keeps its generation count. -/
def Track.freed (k : Track) : Track := { Track.free with gen := k.gen }

/-- Add a sample (R302). -/
def Track.addSample (k : Track) (s : Sample) : Track :=
  let newest := k.samples.getLast?
  let tooOld : Bool := match newest with
    | some n => decide (s.stamp < n.stamp)
    | none => false
  if decide (s.stamp ≤ k.tState) || tooOld then { k with late := k.late + 1 }
  else if k.samples.length ≥ 64 then { k with dropped := k.dropped + 1 }
  else { k with samples := k.samples ++ [s] }

/-- A slot moved to a time (R303, R304); a slot already past it is left. `q` is the class's noise or the stage's
table. -/
def Track.moveTo (k : Track) (t : Nat) (q : Vec) (wheelVar : F32) : Track :=
  if !k.inUse || decide (t < k.tState) then k
  else if k.agent.isSome then
    let used := k.samples.filter fun s => decide (s.stamp ≤ t)
    let xp := agentMove k.model q wheelVar (k.x, k.p) none k.tState t used
    { k with x := xp.1, p := xp.2, tState := t, samples := k.samples.filter fun s => decide (t < s.stamp) }.mask
  else
    let dt := fSeconds ((t : Int) - k.tState)
    let m := moveModel k.model k.x none dt
    { k with x := m.1, p := carryCov m.2 k.p q dt, tState := t }.mask

/-- The sum of the position variances. -/
def Track.posVar (k : Track) : F32 := fAdd (fAdd (mGet k.p 0 0) (mGet k.p 1 1)) (mGet k.p 2 2)

/-! ### Projection (12 R305) -/

/-- The intrinsics of block 0x0010. -/
structure Intrinsics where
  model : Nat
  fmt : Nat
  w : Nat
  h : Nat
  fx : F32
  fy : F32
  cx : F32
  cy : F32
  d : Vec
deriving DecidableEq, Repr

def fField (b : Bytes) (off : Nat) : F32 := BitVec.ofNat 32 (fieldN b off 4)

def intrinsicsOf (p : Bytes) : Intrinsics :=
  { model := fieldN p 1 1, fmt := fieldN p 2 1, w := fieldN p 4 2, h := fieldN p 6 2, fx := fField p 8,
    fy := fField p 12, cx := fField p 16, cy := fField p 20, d := (List.range 5).map fun i => fField p (24 + 4 * i) }

/-- A point of the imager's frame, z forward, as level-0 pixels of the received image; none less than 0.1 m in
front. -/
def Intrinsics.project (c : Intrinsics) (q : Vec) : Option (F32 × F32) :=
  let z := vGet q 2
  if fLt z fTenth || fIsNaN z then none
  else
    let x := fDiv (vGet q 0) z
    let y := fDiv (vGet q 1) z
    let r2 := fAdd (fMul x x) (fMul y y)
    let k := vGet c.d
    let xy :=
      if c.model = 0 then
        let rad := fAdd fOne (fMul r2 (fAdd (k 0) (fMul r2 (fAdd (k 1) (fMul r2 (k 2))))))
        let a := fMul x y
        (fAdd (fMul x rad) (fAdd (fMul fTwo (fMul (k 3) a)) (fMul (k 4) (fAdd r2 (fMul fTwo (fMul x x))))),
         fAdd (fMul y rad) (fAdd (fMul (k 3) (fAdd r2 (fMul fTwo (fMul y y)))) (fMul fTwo (fMul (k 4) a))))
      else
        let r := fSqrt r2
        let th := fAtan2 r fOne
        let t2 := fMul th th
        let td := fMul th (fAdd fOne (fMul t2 (fAdd (k 0) (fMul t2 (fAdd (k 1) (fMul t2 (fAdd (k 2) (fMul t2 (k 3)))))))))
        let s := if fMag r = 0 then fOne else fDiv td r
        (fMul x s, fMul y s)
    some (fAdd (fMul c.fx xy.1) c.cx, fAdd (fMul c.fy xy.2) c.cy)

/-- The divisor of level pixels: 2 for Bayer, times 2^level; in units of 1/32. -/
def Intrinsics.scale (c : Intrinsics) (level : Nat) : F32 := fOfRat ((if c.fmt ≥ 2 then 2 else 1) * 2 ^ level) 1

/-- A projected point at a level, in 1/32 px; none outside the level's image. -/
def Intrinsics.atLevel (c : Intrinsics) (level : Nat) (q : Vec) (bound : Bool) : Option (Int × Int) :=
  match c.project q with
  | none => none
  | some (u, v) =>
    let x := fRoundInt (fDiv u (c.scale level)) 32
    let y := fRoundInt (fDiv v (c.scale level)) 32
    let s := (if c.fmt ≥ 2 then 2 else 1) * 2 ^ level
    if bound && (decide (x < 0) || decide (y < 0) || decide (x ≥ 32 * (c.w / s : Nat)) || decide (y ≥ 32 * (c.h / s : Nat)))
    then none else some (x, y)

/-- A site point in a sensor's frame. -/
def Pose.toSensor (p : Pose) (q : Vec) : Vec := mVec (mT p.r) (vSub q p.t)

/-! ### Observations (12 R306, R307, R309) -/

/-- State and measurement indices of an observation kind against a model; none: it does not fit (Table 12-5). -/
def fitIdx (kind model : Nat) : Option (List Nat × List Nat) :=
  match kind, model with
  | 1, 1 => some ([0, 1], [0, 1])
  | 1, _ => some ([0, 1, 2], [0, 1, 2])
  | 2, 1 => some ([0, 1, 2], [0, 1, 2])
  | 2, 2 => some ([0, 1, 5], [0, 1, 2])
  | 2, 4 => some ([0, 1, 6], [0, 1, 2])
  | 3, 2 => some ([0, 1, 2, 3, 4, 5], [0, 1, 2, 3, 4, 5])
  | 4, 2 => some ([6, 7, 8], [0, 1, 2])
  | 4, 3 => some ([3, 4, 5], [0, 1, 2])
  | 4, 4 => some ([3, 4, 5], [0, 1, 2])
  | 5, 4 => some ([0, 1, 2, 6, 8, 9, 10], [0, 1, 2, 3, 4, 5, 6])
  | _, _ => none

/-- Dimensions of a kind. -/
def obsDim (kind : Nat) : Nat :=
  match kind with
  | 3 => 6
  | 5 => 7
  | _ => 3

/-- The index of entry (i, j), i ≤ j, in the upper triangle of a 7 × 7 matrix. -/
def tri7 (i j : Nat) : Nat := i * 7 - i * (i + 1) / 2 + j

/-- An observation record's fields (Table 12-6). -/
structure Obs where
  kind : Nat
  targeted : Bool
  sensor : Nat
  target : Nat
  targetGen : Nat
  stamp : Bytes
  cls : Nat
  z : Vec
  c : Mat
deriving DecidableEq, Repr

def parseObs (b : Bytes) : Obs :=
  let k := fieldN b 0 1
  let n := obsDim k
  { kind := k, targeted := bitAt (fieldN b 1 1) 0, sensor := fieldN b 2 2, target := fieldN b 4 2,
    targetGen := fieldN b 6 2, stamp := sliceB b 8 16, cls := fieldN b 24 1,
    z := (List.range n).map fun i => fField b (28 + 4 * i),
    c := mkMat n n fun i j => fField b (56 + 4 * tri7 (min i j) (max i j)) }

/-- A record is in Table 12-6 (R316). -/
def obsOk (b : Bytes) : Bool :=
  let k := fieldN b 0 1
  let s := fieldN b 2 2
  let n := obsDim k
  within 1 5 k && within 0 1 (fieldN b 1 1) && (decide (s < 4096) || s == 0xFFFF) && lktOk (sliceB b 8 16) &&
    zeroIn b 25 3 && (bitAt (fieldN b 1 1) 0 || zeroIn b 4 4) && zeroIn b (28 + 4 * n) (4 * (7 - n)) &&
    ((List.range 7).all fun i => (List.range 7).all fun j =>
      decide (j < i) || decide (j < n) || fieldN b (56 + 4 * tri7 i j) 4 == 0)

/-- The yaw of a rotation. -/
def matYaw (r : Mat) : F32 := fAtan2 (mGet r 1 0) (mGet r 0 0)

/-- The rotation of a measurement's own components: R over its position or velocity, identity elsewhere. -/
def obsRot (kind : Nat) (r : Mat) : Mat :=
  let n := obsDim kind
  let m := if kind = 2 then 2 else 3
  mkMat n n fun i j => if i < m ∧ j < m then mGet r i j else if i = j then fOne else fZero

/-- z' and C' (R306). -/
def obsOnSite (o : Obs) (p : Pose) : Vec × Mat :=
  let q := obsRot o.kind p.r
  let pos := fun (v : Vec) => vAdd (mVec p.r v) p.t
  let yaw := fun (a : F32) => fWrap (fAdd a (matYaw p.r))
  let z := match o.kind with
    | 1 => pos o.z
    | 2 =>
      let v := pos [vGet o.z 0, vGet o.z 1, fZero]
      [vGet v 0, vGet v 1, yaw (vGet o.z 2)]
    | 3 => pos (o.z.take 3) ++ [vGet o.z 3, vGet o.z 4, yaw (vGet o.z 5)]
    | 4 => mVec p.r o.z
    | _ => pos (o.z.take 3) ++ [yaw (vGet o.z 3), vGet o.z 4, vGet o.z 5, vGet o.z 6]
  (z, mSandwich q o.c)

/-- A fitting pair's innovation: the state indices, y, C', and the Cholesky factor of S (R307). -/
structure Innov where
  idx : List Nat
  y : Vec
  c : Mat
  l : Option Mat
deriving DecidableEq, Repr

/-- The rows of H. -/
def selRows (idx : List Nat) : Mat := idx.map fun i => vZero12.set i fOne

/-- The innovation of an observation on a slot whose state is moved to the time of measurement. -/
def innovate (o : Obs) (z : Vec) (c : Mat) (k : Track) (t : Int) : Option Innov :=
  match fitIdx o.kind k.model with
  | none => none
  | some (si, mi) =>
    let xm := (moveModel k.model k.x none (fSeconds (t - k.tState))).1
    let y := (List.range si.length).map fun n =>
      let d := fSub (vGet z (mi.getD n 0)) (vGet xm (si.getD n 0))
      if (angleIdx k.model).contains (si.getD n 0) then fWrap d else d
    let cc := mkMat mi.length mi.length fun i j => mGet c (mi.getD i 0) (mi.getD j 0)
    let s := mAdd (mkMat si.length si.length fun i j => mGet k.p (si.getD i 0) (si.getD j 0)) cc
    some { idx := si, y := y, c := cc, l := cholesky s }

/-- d² of an innovation. -/
def Innov.d2 (i : Innov) : Option F32 := i.l.map fun l => let w := solveL l i.y; dot w w

/-- Apply an accepted pair to a slot (R308). -/
def Track.update (k : Track) (i : Innov) : Track :=
  match i.l with
  | none => k
  | some l =>
    let xp := kalman k.model k.x k.p (selRows i.idx) i.y i.c l
    { k with x := xp.1, p := xp.2, coast := 0, updates := sat32 (k.updates + 1), fused := true }.mask

/-- State and measurement indices by which an observation that gives a position starts a track of model 3 or 4: the measured
values that are states of the model, also of a kind that Table 12-5 does not fit to it (R309, log entry 61). -/
def birthIdx (kind model : Nat) : Option (List Nat × List Nat) :=
  match kind, model with
  | 2, 3 => some ([0, 1], [0, 1])
  | 3, 3 => some ([0, 1, 2], [0, 1, 2])
  | 3, 4 => some ([0, 1, 2, 6], [0, 1, 2, 5])
  | 5, 3 => some ([0, 1, 2], [0, 1, 2])
  | 4, _ => none
  | k, m => fitIdx k m

/-- A track born from an observation (R309). -/
def Track.born (k : Track) (model cls t epoch : Nat) (o : Obs) (z : Vec) (c : Mat) (var0 : Vec) : Track :=
  match birthIdx o.kind model with
  | none => k
  | some (si, mi) =>
    let at_ := fun i => (List.range si.length).find? fun n => si.getD n 99 == i
    Track.mask { Track.free with
      gen := (k.gen + 1) % 65536, model := model, cls := cls, tState := t, epoch := epoch,
      x := (List.range 12).map fun i => match at_ i with
        | some n => vGet z (mi.getD n 0)
        | none => fZero,
      p := mkMat 12 12 fun i j => match at_ i, at_ j with
        | some a, some b => mGet c (mi.getD a 0) (mi.getD b 0)
        | _, _ => if i = j then vGet var0 i else fZero }

/-! ### The filter descriptor (12 Table 12-9) -/

structure TfeDesc where
  kind : Nat
  model : Nat
  birth : Bool
  project : Bool
  stereo : Bool
  level : Nat
  first : Nat
  count : Nat
  gate : F32
  maxCoast : Nat
  imager : Nat
  maxVar : F32
  oosMax : Nat
  lookahead : Nat
  imagerB : Nat
  obsReg : Nat
  outReg : Nat
  qReg : Nat
deriving DecidableEq, Repr

def parseTfe (b : Bytes) : TfeDesc :=
  { kind := fieldN b 0 1, model := fieldN b 1 1, birth := bitAt (fieldN b 2 1) 0, project := bitAt (fieldN b 2 1) 1,
    stereo := bitAt (fieldN b 2 1) 2, level := fieldN b 3 1, first := fieldN b 4 2, count := fieldN b 6 2,
    gate := fField b 8, maxCoast := fieldN b 12 2, imager := fieldN b 14 2, maxVar := fField b 16,
    oosMax := fieldN b 20 4, lookahead := fieldN b 24 4, imagerB := fieldN b 28 2, obsReg := fieldN b 32 4,
    outReg := fieldN b 36 4, qReg := fieldN b 40 4 }

/-- A descriptor of a stage of a kind (0 predict, 1 update) is in Table 12-9, for an image with `n` regions (R318). -/
def tfeOk (kind n : Nat) (b : Bytes) : Bool :=
  let d := parseTfe b
  d.kind == kind && (if d.birth then within 3 4 d.model else d.model == 0) && within 0 7 (fieldN b 2 1) && within 0 5 d.level &&
    within 1 1024 d.count && d.first / 1024 == (d.first + d.count - 1) / 1024 && fLt fZero d.gate &&
    within 1 65535 d.maxCoast && decide (d.imager ≤ 2047) && (d.project || d.imager == 0) &&
    (if d.stereo then decide (d.imagerB ≤ 2047) else d.imagerB == d.imager) && zeroIn b 30 2 && zeroIn b 44 20 &&
    (if kind = 0 then d.obsReg == 0xFFFFFFFF else decide (d.obsReg < n)) && decide (d.outReg < n) && decide (d.qReg < n)

end Sys2Proof.Machine
end

