-- ==== Sys2Proof/Machine/VisAlg.lean ====
section
/-! DEFINITION. What a vision engine computes (11): pyramids, corners and descriptors, and the windowed search of
match, flow and stereo items in its two passes. Pure functions of images. -/

namespace Sys2Proof.Machine

/-! ### Images (11 R273, R274) -/

/-- A level: its rows of pixels, and which rows are valid. -/
structure Img where
  w : Nat
  h : Nat
  rows : List (List Nat)
  ok : List Bool
deriving DecidableEq, Repr

def Img.at_ (g : Img) (x y : Nat) : Nat := (g.rows.getD y []).getD x 0
def Img.rowOk (g : Img) (y : Nat) : Bool := g.ok.getD y false

/-- The pixels of a line as received, by PIXEL_FORMAT (09 Table 9-5). -/
def linePixels (fmt w : Nat) (b : Bytes) : List Nat :=
  if fmt % 2 = 0 then (List.range w).map fun i => fieldN b i 1
  else (List.range w).map fun i =>
    let o := i / 2 * 3
    if i % 2 = 0 then fieldN b o 1 + bitsOf (fieldN b (o + 1) 1) 3 0 * 256
    else bitsOf (fieldN b (o + 1) 1) 7 4 + fieldN b (o + 2) 1 * 16

/-- Bytes of a line. -/
def lineBytes (fmt w : Nat) : Nat := if fmt % 2 = 0 then w else w / 2 * 3

/-- Level 0 from the received lines; an absent line makes the row formed from it invalid (11 R273, R274). -/
def levelZero (fmt w h : Nat) (line : Nat → Option Bytes) : Img :=
  if fmt < 2 then
    { w := w, h := h,
      rows := (List.range h).map fun y => match line y with
        | some b => (linePixels fmt w b).map fun v => if fmt = 1 then min 255 ((v + 8) / 16) else v
        | none => [],
      ok := (List.range h).map fun y => (line y).isSome }
  else
    let px := fun y => match line y with
      | some b => linePixels fmt w b
      | none => []
    { w := w / 2, h := h / 2,
      rows := (List.range (h / 2)).map fun y =>
        let a := px (2 * y)
        let b := px (2 * y + 1)
        (List.range (w / 2)).map fun x =>
          let s := a.getD (2 * x) 0 + a.getD (2 * x + 1) 0 + b.getD (2 * x) 0 + b.getD (2 * x + 1) 0
          if fmt = 2 then (s + 2) / 4 else min 255 ((s + 32) / 64),
      ok := (List.range (h / 2)).map fun y => (line (2 * y)).isSome && (line (2 * y + 1)).isSome }

/-- The next level (11 R273). -/
def Img.halve (g : Img) : Img :=
  { w := g.w / 2, h := g.h / 2,
    rows := (List.range (g.h / 2)).map fun y => (List.range (g.w / 2)).map fun x =>
      (g.at_ (2 * x) (2 * y) + g.at_ (2 * x + 1) (2 * y) + g.at_ (2 * x) (2 * y + 1) +
        g.at_ (2 * x + 1) (2 * y + 1) + 2) / 4,
    ok := (List.range (g.h / 2)).map fun y => g.rowOk (2 * y) && g.rowOk (2 * y + 1) }

/-- Level `l`. -/
def Img.level (g : Img) : Nat → Img
  | 0 => g
  | l + 1 => (g.level l).halve

/-- A level's bytes, row-major (11 R292). -/
def Img.bytes (g : Img) : Bytes :=
  catB ((List.range g.h).map fun y => (List.range g.w).map fun x => BitVec.ofNat 8 (g.at_ x y))

/-! ### Corners (11 R275, R276) -/

/-- The circle of radius 3 of the FAST segment test, in order around it. -/
def circle16 : List (Int × Int) :=
  [(0, -3), (1, -3), (2, -2), (3, -1), (3, 0), (3, 1), (2, 2), (1, 3), (0, 3), (-1, 3), (-2, 2), (-3, 1),
   (-3, 0), (-3, -1), (-2, -2), (-1, -3)]

/-- Nine or more contiguous flags of a ring of 16. -/
def ring9 (l : List Bool) : Bool :=
  (List.range 16).any fun i => (List.range 9).all fun j => l.getD ((i + j) % 16) false

def Img.px (g : Img) (x y : Nat) (d : Int × Int) : Nat := g.at_ ((x : Int) + d.1).toNat ((y : Int) + d.2).toNat

/-- The segment test at a threshold. -/
def Img.fast (g : Img) (x y t : Nat) : Bool :=
  let c := g.at_ x y
  let ring := circle16.map (g.px x y)
  ring9 (ring.map fun p => decide (p > c + t)) || ring9 (ring.map fun p => decide (p + t < c))

/-- The score of a candidate: the largest threshold from CORNER_T that passes; 0 if none does. -/
def Img.score (g : Img) (x y t : Nat) : Nat :=
  ((List.range' t (256 - t)).filter (g.fast x y)).getLastD 0

/-- Rows of a corner's patch (radius 15) are all valid. -/
def Img.patchOk (g : Img) (y : Nat) : Bool := (List.range 31).all fun i => g.rowOk (y + i - 15)

/-- Scores of the tested pixels, 0 elsewhere. -/
def Img.scores (g : Img) (t : Nat) : List (List Nat) :=
  (List.range g.h).map fun y =>
    if 17 ≤ y ∧ y + 17 < g.h ∧ g.patchOk y then
      (List.range g.w).map fun x => if 17 ≤ x ∧ x + 17 < g.w then g.score x y t else 0
    else []

def scoreAt (sc : List (List Nat)) (x y : Nat) : Nat := (sc.getD y []).getD x 0

/-- A candidate no neighbour suppresses: none higher, none equal and earlier in raster order. -/
def survives (sc : List (List Nat)) (x y : Nat) : Bool :=
  let s := scoreAt sc x y
  s != 0 && ([(0, 0), (1, 0), (2, 0), (0, 1)].all fun d => decide (scoreAt sc (x + d.1 - 1) (y + d.2 - 1) < s)) &&
    ([(2, 1), (0, 2), (1, 2), (2, 2)].all fun d => decide (scoreAt sc (x + d.1 - 1) (y + d.2 - 1) ≤ s))

/-- The corners of a level after suppression and tiling, in raster order: x, y, score. -/
def Img.corners (g : Img) (t tileMax : Nat) : List (Nat × Nat × Nat) :=
  let sc := g.scores t
  let all := ((List.range g.h).map fun y => ((List.range g.w).filter fun x => survives sc x y).map fun x =>
    (x, y, scoreAt sc x y)).flatten
  let keep := fun (c : Nat × Nat × Nat) =>
    let before := all.filter fun d => d.1 / 32 == c.1 / 32 && d.2.1 / 32 == c.2.1 / 32 &&
      (decide (d.2.2 > c.2.2) ||
        (d.2.2 == c.2.2 && decide (d.2.1 < c.2.1 ∨ (d.2.1 = c.2.1 ∧ d.1 < c.1))))
    decide (before.length < tileMax)
  all.filter keep

/-- cos(kπ/16) in units of 2^-64, k from 0 to 8. -/
def cosTab : List Int :=
  [18446744073709551616, 18092295058859852118, 17042569291174129989, 15337907143211554842, 13043817825332782212,
   10248461903483781989, 7059263338087549767, 3598781241489102189, 0]

/-- The cosine of k/32 turn in units of 2^-64. -/
def cos32 (k : Nat) : Int :=
  let k := k % 32
  if k ≤ 8 then cosTab.getD k 0
  else if k ≤ 16 then -(cosTab.getD (16 - k) 0)
  else if k ≤ 24 then -(cosTab.getD (k - 16) 0)
  else cosTab.getD (32 - k) 0

def sin32 (k : Nat) : Int := cos32 (k + 24)

/-- The direction of 1/32 turn nearest a vector; 0 for the zero vector. -/
def nearest32 (mx my : Int) : Nat :=
  ((List.range 32).foldl (fun (best : Nat × Int) k =>
    let d := mx * cos32 k + my * sin32 k
    if k = 0 ∨ d > best.2 then (k, d) else best) (0, 0)).1

/-- The disc of radius 15. -/
def disc15 : List (Int × Int) :=
  ((List.range 31).map fun (j : Nat) => (List.range 31).map fun (i : Nat) => ((i : Int) - 15, (j : Int) - 15)).flatten.filter
    fun d => decide (d.1 * d.1 + d.2 * d.2 ≤ 225)

/-- The orientation of a corner (11 R276). -/
def Img.orient (g : Img) (x y : Nat) : Nat :=
  let m := disc15.foldl (fun (m : Int × Int) d =>
    let p : Int := g.px x y d
    (m.1 + d.1 * p, m.2 + d.2 * p)) (0, 0)
  if m.1 = 0 ∧ m.2 = 0 then 0 else nearest32 m.1 m.2

/-- n / 2^64 rounded half away from zero. -/
def round64 (n : Int) : Int :=
  let a : Nat := (2 * n.natAbs + 2 ^ 64) / 2 ^ 65
  if n < 0 then -(a : Int) else (a : Int)

/-- A pattern point rotated by an orientation. -/
def rot32 (k : Nat) (p : Int × Int) : Int × Int :=
  (round64 (p.1 * cos32 k - p.2 * sin32 k), round64 (p.1 * sin32 k + p.2 * cos32 k))

/-- The 5 × 5 box sum at a point of the patch. -/
def Img.box (g : Img) (x y : Nat) (d : Int × Int) : Nat :=
  ((List.range 5).map fun (j : Nat) => ((List.range 5).map fun (i : Nat) =>
    g.px x y (d.1 + (i : Int) - 2, d.2 + (j : Int) - 2)).sum).sum

/-- The descriptor of a corner by a 1,024-byte pattern table (11 R276). -/
def Img.desc (g : Img) (pat : Bytes) (x y k : Nat) : Bytes :=
  toLE 32 (flagBits ((List.range 256).map fun i =>
    let e := sliceB pat (4 * i) 4
    decide (g.box x y (rot32 k (fieldS e 0 1, fieldS e 1 1)) < g.box x y (rot32 k (fieldS e 2 1, fieldS e 3 1)))))

/-- A corner record (11 Table 11-6). -/
def Img.cornerRec (g : Img) (pat : Bytes) (level : Nat) (c : Nat × Nat × Nat) : Bytes :=
  let k := g.orient c.1 c.2.1
  toLE 2 c.1 ++ toLE 2 c.2.1 ++ toLE 1 level ++ toLE 1 k ++ toLE 1 c.2.2 ++ [0] ++ g.desc pat c.1 c.2.1 k

/-! ### The job descriptor (11 Table 11-7) -/

structure VeDesc where
  kind : Nat
  level : Nat
  window : Nat
  cost : Bool
  check : Bool
  predSrc : Nat
  list : Bool
  step : Nat
  p2Cost : Nat
  p2Uniq : Nat
  cornerT : Nat
  tileMax : Nat
  ccThresh : Nat
  imager : Nat
  imagerB : Nat
  p2Max : Nat
  inReg : Nat
  refReg : Nat
  predReg : Nat
  outReg : Nat
  patReg : Nat
deriving DecidableEq, Repr

def parseVe (b : Bytes) : VeDesc :=
  { kind := fieldN b 0 1, level := fieldN b 1 1, window := 16 * 2 ^ bitsOf (fieldN b 2 1) 1 0,
    cost := bitAt (fieldN b 3 1) 0, check := bitAt (fieldN b 3 1) 1, predSrc := fieldN b 4 1,
    list := fieldN b 5 1 == 1, step := fieldN b 6 1, p2Cost := fieldN b 7 1, p2Uniq := fieldN b 8 1,
    cornerT := fieldN b 9 1, tileMax := fieldN b 10 1, ccThresh := fieldN b 12 2, imager := fieldN b 14 2,
    imagerB := fieldN b 16 2, p2Max := fieldN b 20 4, inReg := fieldN b 24 4, refReg := fieldN b 28 4,
    predReg := fieldN b 32 4, outReg := fieldN b 36 4, patReg := fieldN b 40 4 }

/-- The most items a job can have, so the most P2_MAX: the size of a level is known at load for rectified images only, and
else at most that of an imager of 8,192 × 8,192 px (Table 11-8); a list has any number (log entry 60). -/
def veItemsMax (b : Bytes) (rect : Option (Nat × Nat)) : Nat :=
  let side := fun (n : Nat) => if fieldN b 6 1 = 0 then 0 else (n / 2 ^ fieldN b 1 1 + fieldN b 6 1) / fieldN b 6 1
  match fieldN b 0 1 with
  | 0 => 0
  | 1 => 0
  | 2 => 65535
  | _ => if fieldN b 5 1 = 1 then 4294967295 else
    let r := rect.getD (8192, 8192)
    side r.1 * side r.2

/-- A region entry is one of the `n` of section 0x0031, or none. -/
def regionOk (n r : Nat) : Bool := decide (r < n) || r == 0xFFFFFFFF

/-- A descriptor is in Table 11-7 for an image with `n` regions; a match job has no consistency check (11 R283, R293). -/
def veOk (n : Nat) (rect : Option (Nat × Nat)) (b : Bytes) : Bool :=
  let k := fieldN b 0 1
  within 0 4 k &&
    (match k with
     | 0 => within 1 6 (fieldN b 1 1)
     | 1 => bitsOf (fieldN b 1 1) 7 6 == 0
     | _ => within 0 5 (fieldN b 1 1)) &&
    within 0 2 (fieldN b 2 1) && within 0 3 (fieldN b 3 1) && within 0 2 (fieldN b 4 1) && within 0 1 (fieldN b 5 1) &&
    (if fieldN b 5 1 = 1 then fieldN b 6 1 == 0 else within 1 64 (fieldN b 6 1)) &&
    (if k = 1 then within 1 255 (fieldN b 9 1) && within 1 64 (fieldN b 10 1) else zeroIn b 9 2) &&
    decide (fieldN b 14 2 ≤ 2047) && decide (fieldN b 16 2 ≤ 2047) && decide (fieldN b 20 4 ≤ veItemsMax b rect) &&
    ([24, 28, 32, 36, 40].all fun o => regionOk n (fieldN b o 4)) && zeroIn b 11 1 && zeroIn b 18 2 && zeroIn b 44 20 &&
    (k == 4 || fieldN b 16 2 == fieldN b 14 2) && (k == 0 || fieldN b 36 4 != 0xFFFFFFFF) && !(k == 2 && bitAt (fieldN b 3 1) 1)

/-! ### Items (11 R277 to R285) -/

/-- ITEM_FLAGS (11 Table 11-4). -/
def VeItem.flags (i : VeItem) : Nat :=
  b2n i.pass2 + 2 * i.reason + 16 * b2n i.dropped + 32 * b2n i.clipped + 64 * b2n i.host

/-- An item's 8 bytes (11 Table 11-3); an invalid item carries its invalid code. COST and UNIQ are those of the cost map,
DIST is not (11 R279, R282). -/
def VeItem.bytes (kind : Nat) (conf : Bool) (i : VeItem) : Bytes :=
  let bad := i.reason != 0
  (match kind with
   | 3 => toLEs 2 (if bad then 0x8000 else i.a) ++ toLEs 2 (if bad then 0x8000 else i.b)
   | 4 => toLEs 2 (if bad then 0xFFFF else i.a) ++ toLE 2 0
   | _ => toLEs 2 (if bad then 0xFFFF else i.a) ++ toLEs 1 (if bad then 0 else i.sx) ++
      toLEs 1 (if bad then 0 else i.sy)) ++
    toLE 1 (if conf || kind = 2 then i.cost else 0) ++ toLE 1 (if conf then i.uniq else 0) ++ toLE 1 i.flags ++ [0]

def VeItem.blank : VeItem :=
  { a := 0, b := 0, sx := 0, sy := 0, cost := 0, uniq := 0, pass2 := false, reason := 0, dropped := false,
    clipped := false, host := false }

/-- A candidate of a block search: its offset from the rounded prediction, its displacement and its cost. -/
structure Cand where
  ox : Int
  oy : Int
  dx : Int
  dy : Int
  cost : Nat
deriving DecidableEq, Repr

/-- A block of side `b` centred on a point lies in an image: pixels −b/2 to b/2 − 1 in each axis. -/
def Img.blockIn (g : Img) (b : Nat) (x y : Int) : Bool :=
  decide ((b / 2 : Nat) ≤ x) && decide ((b / 2 : Nat) ≤ y) && decide (x + (b / 2 : Nat) ≤ g.w) && decide (y + (b / 2 : Nat) ≤ g.h)

/-- The rows of a level from `lo` to `hi`, as far as it has them, are valid. -/
def Img.rowsOk (g : Img) (lo hi : Int) : Bool :=
  (List.range g.h).all fun j => decide ((j : Int) < lo) || decide (hi < (j : Int)) || g.rowOk j

/-- The rows of a block are valid. -/
def Img.blockRows (g : Img) (b : Nat) (y : Int) : Bool := g.rowsOk (y - (b / 2 : Nat)) (y + (b / 2 : Nat) - 1)

/-- The sum of absolute differences of two blocks. -/
def sad (b : Nat) (f : Img) (x y : Int) (g : Img) (u v : Int) : Nat :=
  ((List.range b).map fun (j : Nat) => ((List.range b).map fun (i : Nat) =>
    let p := f.at_ (x + (i : Int) - (b / 2 : Nat)).toNat (y + (j : Int) - (b / 2 : Nat)).toNat
    let q := g.at_ (u + (i : Int) - (b / 2 : Nat)).toNat (v + (j : Int) - (b / 2 : Nat)).toNat
    max p q - min p q).sum).sum

/-- A candidate order: cost, nearest the window centre, then lower dy, then lower dx (11 R280, R281). -/
def Cand.before (a b : Cand) : Bool :=
  let ca := max a.ox.natAbs a.oy.natAbs
  let cb := max b.ox.natAbs b.oy.natAbs
  decide (a.cost < b.cost) || (a.cost == b.cost && (decide (ca < cb) || (ca == cb &&
    (decide (a.oy < b.oy) || (a.oy == b.oy && decide (a.ox < b.ox))))))

/-- The best candidate. -/
def bestCand (l : List Cand) : Option Cand :=
  l.foldl (fun b c => match b with
    | none => some c
    | some d => if c.before d then some c else some d) none

/-- The uniqueness ratio of raw costs (11 R282). -/
def uniqOf (c1 : Nat) (others : List Nat) : Nat :=
  match others with
  | [] => 0
  | c :: r =>
    let c2 := r.foldl min c
    if c2 = 0 then 255 else min 255 (256 * c1 / c2)

/-- What a search finds: the candidates kept, whether some were excluded at the image edge or invalid rows, whether the block
or the window touches an invalid row, and COST where no candidate is left (unstated: a free value). -/
structure Search where
  cands : List Cand
  clipped : Bool
  absent : Bool
  noCost : Nat
deriving DecidableEq, Repr

/-- Search a point of `f` in `g` over offsets around a prediction; `stereo`: along the row, the disparity being
the negated displacement, from 0 to 1,023 (11 R274, R277, R280, R281). -/
def search (f g : Img) (b : Nat) (x y : Int) (pred : Int × Int) (w : Nat) (stereo : Bool) : Search :=
  let offs := (List.range w).map fun (i : Nat) => (i : Int) - (w / 2 : Nat)
  let pts : List (Int × Int) := if stereo then offs.map fun o => (o, 0) else (offs.map fun v => offs.map fun u => (u, v)).flatten
  let disp := fun (o : Int × Int) =>
    if stereo then (-(pred.1 + o.1), (0 : Int)) else (pred.1 + o.1, pred.2 + o.2)
  let inRange := fun (o : Int × Int) => !stereo || (decide (0 ≤ pred.1 + o.1) && decide (pred.1 + o.1 ≤ 1023))
  let fits := fun (o : Int × Int) => f.blockIn b x y && g.blockIn b (x + (disp o).1) (y + (disp o).2) &&
    f.blockRows b y && g.blockRows b (y + (disp o).2)
  let half : Int := (b / 2 : Nat)
  let reach : Int := if stereo then 0 else (w / 2 : Nat)
  let mid : Int := y + (if stereo then 0 else pred.2)
  { cands := (pts.filter fun o => fits o && inRange o).map fun o =>
      { ox := o.1, oy := o.2, dx := if stereo then pred.1 + o.1 else (disp o).1, dy := (disp o).2,
        cost := sad b f x y g (x + (disp o).1) (y + (disp o).2) },
    clipped := pts.any fun o => inRange o && !fits o,
    absent := !(f.blockRows b y && g.rowsOk (mid - reach - half) (mid + reach - 1 + half - (if stereo then 0 else 1))),
    noCost := (Config.noCost x y).toNat }

/-- The costs more than 1 px from a candidate in either axis. -/
def farCosts (l : List Cand) (c : Cand) : List Nat :=
  (l.filter fun d => decide ((d.dx - c.dx).natAbs > 1) || decide ((d.dy - c.dy).natAbs > 1)).map Cand.cost

/-- A fraction by the parabola through three costs, in 1/k px, rounded half away from zero and clamped to half a
pixel (11 R285). -/
def parabola (k : Nat) (lo mid hi : Option Nat) : Int :=
  match lo, mid, hi with
  | some a, some b, some c =>
    let den : Int := 2 * ((a : Int) - 2 * b + c)
    if den = 0 then 0
    else
      let num : Int := ((a : Int) - c) * k
      let neg := decide (num < 0) != decide (den < 0)
      let q : Int := ((2 * num.natAbs + den.natAbs) / (2 * den.natAbs) : Nat)
      let v := if neg then -q else q
      max (-((k / 2 : Nat) : Int)) (min ((k / 2 : Nat) : Int) v)
  | _, _, _ => 0

/-- The cost of the candidate at a displacement. -/
def costAt (l : List Cand) (dx dy : Int) : Option Nat := (l.find? fun c => c.dx == dx && c.dy == dy).map Cand.cost

/-- A pass-1 item of a search (flow in 1/32, stereo in 1/64 px). -/
def passOne (stereo : Bool) (r : Search) : VeItem :=
  let base := { VeItem.blank with clipped := r.clipped, cost := r.noCost }
  if r.absent then { base with reason := 2 }
  else match bestCand r.cands with
    | none => { base with reason := 1 }
    | some c =>
      let k : Int := if stereo then 64 else 32
      let v := { base with
        a := k * c.dx, b := k * c.dy, cost := min 255 (c.cost / 64), uniq := uniqOf c.cost (farCosts r.cands c) }
      if !stereo ∧ (v.a.natAbs > 32767 ∨ v.b.natAbs > 32767) then { v with reason := 4 } else v

/-- The item refined in pass 2 (11 R285). -/
def passTwo (stereo : Bool) (r : Search) (old : VeItem) : VeItem :=
  let none_ := fun (why : Nat) => { old with
    reason := why, pass2 := true, clipped := old.clipped || r.clipped, cost := r.noCost, uniq := 0 }
  if r.absent then none_ 2
  else match bestCand r.cands with
    | none => none_ 1
    | some c =>
      let k : Nat := if stereo then 64 else 32
      let l := r.cands
      let fx := parabola k (costAt l (c.dx - 1) c.dy) (some c.cost) (costAt l (c.dx + 1) c.dy)
      let fy := if stereo then 0 else parabola k (costAt l c.dx (c.dy - 1)) (some c.cost) (costAt l c.dx (c.dy + 1))
      let v := { old with
        a := (k : Int) * c.dx + fx, b := (k : Int) * c.dy + fy, cost := min 255 (c.cost / 256),
        uniq := uniqOf c.cost (farCosts l c), pass2 := true, clipped := old.clipped || r.clipped }
      if !stereo ∧ (v.a.natAbs > 32767 ∨ v.b.natAbs > 32767) then { v with reason := 4 } else v

/-- n / k rounded half away from zero. -/
def roundDiv (n : Int) (k : Nat) : Int :=
  let a : Nat := (2 * n.natAbs + k) / (2 * k)
  if n < 0 then -(a : Int) else (a : Int)

/-- The value of a search, refined or not. -/
def searchValue (stereo refine : Bool) (f g : Img) (x y : Int) (pred : Int × Int) (w : Nat) : VeItem :=
  let v := passOne stereo (search f g 8 x y pred w stereo)
  if refine && v.reason == 0 then passTwo stereo (search f g 16 x y pred w stereo) v else v

/-- The consistency check of an item (11 R283). -/
def consistent (stereo : Bool) (d : VeDesc) (f g : Img) (x y : Int) (v : VeItem) : VeItem :=
  if v.reason ≠ 0 then v
  else if stereo then
    let u := x - roundDiv v.a 64
    -- right to left: the left pixel lies at x + d, so the images are searched mirrored
    let mirror := fun (i : Img) => { i with rows := i.rows.map List.reverse }
    let back := searchValue true v.pass2 (mirror g) (mirror f) ((g.w : Int) - u) y (roundDiv v.a 64, 0) d.window
    if back.reason ≠ 0 ∨ (v.a - back.a).natAbs > d.ccThresh then { v with reason := 3 } else v
  else
    let p := (roundDiv v.a 32, roundDiv v.b 32)
    let back := searchValue false v.pass2 g f (x + p.1) (y + p.2) (-p.1, -p.2) d.window
    if back.reason ≠ 0 ∨ max (v.a + back.a).natAbs (v.b + back.b).natAbs > d.ccThresh then { v with reason := 3 } else v

/-- The points of a grid (11 R278). -/
def gridPoints (w h step : Nat) : List (Int × Int) :=
  let n := fun (side : Nat) => if step = 0 ∨ side ≤ step / 2 then 0 else (side - step / 2 - 1) / step + 1
  ((List.range (n h)).map fun j => (List.range (n w)).map fun i =>
    (((step / 2 + i * step : Nat) : Int), ((step / 2 + j * step : Nat) : Int))).flatten

/-- An item queued for pass 2 (11 R284). -/
def VeDesc.queues (d : VeDesc) (v : VeItem) : Bool :=
  v.reason == 0 && (decide (v.cost > d.p2Cost) || decide (v.uniq > d.p2Uniq))

/-- Mark the queued items beyond P2_MAX as dropped. -/
def markDropped (d : VeDesc) : Nat → List VeItem → List VeItem
  | _, [] => []
  | n, v :: r =>
    if d.queues v then (if n < d.p2Max then v else { v with dropped := true }) :: markDropped d (n + 1) r
    else v :: markDropped d n r

/-! ### Matching (11 R279) -/

/-- The Hamming distance of two descriptors. -/
def hamming (a b : Bytes) : Nat := (List.zipWith (fun (p q : Byte) => popcount (p ^^^ q).toNat) a b).sum

/-- The references in a query's window: index, displacement from the prediction, cost. -/
def matchCands (q : Bytes) (refs : List Bytes) (pred : Int × Int) (w : Nat) : List (Nat × Int × Int × Nat) :=
  ((List.range refs.length).map fun i =>
    let r := refs.getD i []
    (i, (fieldN r 0 2 : Int) - (fieldN q 0 2 + pred.1), (fieldN r 2 2 : Int) - (fieldN q 2 2 + pred.2),
      hamming (sliceB q 8 32) (sliceB r 8 32))).filter fun c =>
    fieldN (refs.getD c.1 []) 4 1 == fieldN q 4 1 &&
      decide (-((w / 2 : Nat) : Int) ≤ c.2.1) && decide (c.2.1 ≤ (w / 2 : Nat) - 1) &&
      decide (-((w / 2 : Nat) : Int) ≤ c.2.2.1) && decide (c.2.2.1 ≤ (w / 2 : Nat) - 1)

def matchBefore (a b : Nat × Int × Int × Nat) : Bool :=
  let ca := max a.2.1.natAbs a.2.2.1.natAbs
  let cb := max b.2.1.natAbs b.2.2.1.natAbs
  decide (a.2.2.2 < b.2.2.2) || (a.2.2.2 == b.2.2.2 && (decide (ca < cb) || (ca == cb && decide (a.1 < b.1))))

/-- A query's patch, or its window, touches an invalid row of the image it was found in or is looked for in, where there are
such (11 R274). -/
def matchAbsent (f g : Option Img) (q : Bytes) (pred : Int × Int) (w : Nat) : Bool :=
  let y : Int := fieldN q 2 2
  (match f with
   | some f => !f.rowsOk (y - 15) (y + 15)
   | none => false) ||
  (match g with
   | some g => !g.rowsOk (y + pred.2 - (w / 2 : Nat)) (y + pred.2 + (w / 2 : Nat) - 1)
   | none => false)

/-- A pass-1 match item. -/
def matchOne (f g : Option Img) (q : Bytes) (refs : List Bytes) (pred : Int × Int) (w : Nat) : VeItem :=
  let l := matchCands q refs pred w
  let base := { VeItem.blank with cost := (Config.noCost (fieldN q 0 2) (fieldN q 2 2)).toNat }
  if matchAbsent f g q pred w then { base with reason := 2 }
  else match l.foldl (fun b c => match b with
      | none => some c
      | some d => if matchBefore c d then some c else some d) none with
  | none => { base with reason := 1 }
  | some c => { VeItem.blank with
      a := c.1, cost := min 255 c.2.2.2, uniq := uniqOf c.2.2.2 ((l.filter fun d => d.1 != c.1).map fun d => d.2.2.2) }

/-- A match item refined in pass 2: the reference position by the parabola of 8 × 8 SAD (11 R285). With landmarks there is
no image: what it is then refined to is not stated, and four free numbers stand for it. -/
def matchTwo (fr : Nat → Nat) (f g : Option Img) (q : Bytes) (refs : List Bytes) (v : VeItem) : VeItem :=
  match f, g with
  | some f, some g =>
    let r := refs.getD v.a.toNat []
    let x : Int := fieldN q 0 2
    let y : Int := fieldN q 2 2
    let u : Int := fieldN r 0 2
    let w : Int := fieldN r 2 2
    let c := fun (dx dy : Int) =>
      if f.blockIn 8 x y && f.blockRows 8 y && g.blockIn 8 (u + dx) (w + dy) && g.blockRows 8 (w + dy) then
        some (sad 8 f x y g (u + dx) (w + dy)) else none
    match c 0 0 with
    | none => { v with
        pass2 := true, clipped := true, reason := if f.blockRows 8 y && g.blockRows 8 w then 1 else 2,
        cost := (Config.noCost x y).toNat, uniq := 0 }
    | some c0 => { v with
        pass2 := true, sx := parabola 32 (c (-1) 0) (some c0) (c 1 0), sy := parabola 32 (c 0 (-1)) (some c0) (c 0 1),
        cost := min 255 (c0 / 64),
        uniq := uniqOf c0 ([c (-1) 0, c 1 0, c 0 (-1), c 0 1].filterMap id) }
  | _, _ => { v with
      pass2 := true, sx := (fr 0 % 33 : Nat) - 16, sy := (fr 1 % 33 : Nat) - 16, cost := fr 2 % 256, uniq := fr 3 % 256 }

end Sys2Proof.Machine
end

