-- ==== Sys2Proof/Machine/Capture.lean ====
section
/-! DEFINITION. Capture inputs, their records and the queue pairs' capture buffers (04 R101 to R107). -/

namespace Sys2Proof.Machine

/-- A capture input. -/
def State.capIn (s : State) (i : Nat) : CapInput :=
  tgetD s.cap.inputs i { owner := none, edges := 0, seq := 0, last := none, missed := 0 }

/-- Replace a capture input. -/
def State.setCapIn (s : State) (i : Nat) (v : CapInput) : State :=
  { s with cap := { s.cap with inputs := tset s.cap.inputs i v } }

/-- A queue pair's capture buffer. -/
def State.capBuf (s : State) (q : Nat) : CapBuf := tgetD s.cap.bufs q { recs := [], dropped := 0 }

/-- A capture record (04 Table 4-5), stamped `k` capture steps after the tick. -/
def State.capRec (s : State) (cls index edge mode seq missed info k : Nat) : Bytes :=
  toLE 2 (32768 + 256 * cls + index) ++ toLE 1 edge ++ toLE 1 mode ++ toLE 4 (seq % nsU) ++
    toLE 2 (b2n (missed != 0)) ++ toLE 2 missed ++ toLE 4 info ++ s.lktAt 1 k mode false false ++
    s.lktAt 2 k mode false false

/-- A record is a phase snapshot fired on extrapolated phase (03 R67, Table 3-6). -/
def synthRec (r : Bytes) : Bool := !bitAt (fieldN r 1 1) 7 && bitAt (fieldN r 3 1) 0

/-- Return records to a CAPTURE_READ: oldest first, with the number dropped since the last (04 R106). -/
def State.readCaptures (s : State) (c : Cmd) : State :=
  let b := s.capBuf c.qp
  let out := (b.recs.take (fieldN c.params 0 2)).map Prod.snd
  let s := { s with cap := { s.cap with
    bufs := tset s.cap.bufs c.qp { recs := b.recs.drop (fieldN c.params 0 2), dropped := 0 } } }
  s.complete c.qp c.tag (if out.any synthRec then stSynth else stOK) (sat32 b.dropped) (catB out)

/-- The CAPTURE_READ of a queue pair that waits. -/
def State.waitingRead (s : State) (q op : Nat) : Option Cmd :=
  s.host.accepted.find? fun c => c.qp == q && c.opcode == op && c.prog != .fresh

/-- Put a record in its place in stamp order (04 R106). -/
def insertRec (l : List (Nat × Bytes)) (at_ : Nat) (r : Bytes) : List (Nat × Bytes) :=
  l.takeWhile (fun e => decide (e.1 ≤ at_)) ++ (at_, r) :: l.dropWhile fun e => decide (e.1 ≤ at_)

/-- A record of a local instant reaches a queue pair's buffer, dropped when full; a waiting read takes it when its stamp is
at or before the timeout (04 R106, R107). -/
def State.pushRec (s : State) (q at_ : Nat) (r : Bytes) : State :=
  let b := s.capBuf q
  if b.recs.length ≥ 256 then
    { s with cap := { s.cap with bufs := tset s.cap.bufs q { b with dropped := b.dropped + 1 } } }
  else
    let s := { s with cap := { s.cap with bufs := tset s.cap.bufs q { b with recs := insertRec b.recs at_ r } } }
    match s.waitingRead q 0x0206 with
    | some c =>
      match c.prog with
      | .waiting t d =>
        if lktVal (if d = 2 then sliceB r 32 16 else sliceB r 16 16) ≤ t then s.readCaptures c else s
      | .fresh => s
    | none => s

/-- Deliver a record of a local instant to its owner. -/
def State.deliverRec (s : State) (i : Nat) (o : Owner) (at_ : Nat) (r : Bytes) : State :=
  match o with
  | .image => { s with cap := { s.cap with toStages := s.cap.toStages ++ [(i, r)] } }
  | .queue q => s.pushRec q at_ r

end Sys2Proof.Machine
end

