-- ==== Sys2Proof/Machine/PtpTx.lean ====
section
/-! DEFINITION. PTP messages and their stamps on site ports 0 to 7 (04 R103, R108, R115, R116). Message layouts are those of
IEEE 1588 (PRESUMED, log entry 24). -/

namespace Sys2Proof.Machine

/-- Delay between the connector and the PCS boundary of a site port, in 2^-32 ns: 28.4 ns received, 19.2 ns sent (04 Table
4-2). -/
def rxDelay : Nat := 121977071206
def txDelay : Nat := 82463372083

/-- A number of `n` bytes, most significant first. -/
def beField (b : Bytes) (off n : Nat) : Nat := leNat (sliceB b off n).reverse

/-- Fields of a message's header. -/
def ptpType (m : Bytes) : Nat := fieldN m 0 1 % 16
def ptpSeq (m : Bytes) : Nat := beField m 30 2
def ptpDomain (m : Bytes) : Nat := fieldN m 4 1
def ptpTwoStep (m : Bytes) : Bool := bitAt (fieldN m 6 1) 1
def ptpSource (m : Bytes) : Bytes := sliceB m 20 10

/-- The correction field, in 2^-32 ns. -/
def ptpCorr (m : Bytes) : Int := signedOf 64 (beField m 8 8) * 65536

/-- The timestamp of a message's body, in 2^-32 ns. -/
def ptpTime (m : Bytes) : Int := (beField m 34 6 * secU + beField m 40 4 * nsU : Nat)

/-- A time as the 10 bytes of a PTP timestamp, whole nanoseconds. -/
def ptpStamp (v : Int) : Bytes :=
  let n := v.toNat
  (toLE 6 (n / secU)).reverse ++ (toLE 4 (n / nsU % 1000000000)).reverse

/-- Event messages: Sync, Delay_Req, Pdelay_Req, Pdelay_Resp. -/
def ptpEvent (m : Bytes) : Bool := decide (ptpType m < 4)

/-- The PTP domain a domain follows, its port, and its profile. -/
def ptpOf (t : TimeSettings) (d : Nat) : Option Nat := if d = 1 then t.ptpA else t.ptpB
def portOf (t : TimeSettings) (d : Nat) : Nat := if d = 1 then t.portA else t.portB
def asOf (t : TimeSettings) (d : Nat) : Bool := if d = 1 then t.asA else t.asB

/-- A domain's messages travel in UDP over IPv4: the IEEE 1588 profile with that transport (04 Table 4-3). -/
def udpOf (t : TimeSettings) (d : Nat) : Bool := !asOf t d && (if d = 1 then t.udpA else t.udpB)

/-- The domains a message on a port is for (04 R108). -/
def State.ptpDoms (s : State) (p : Nat) (m : Bytes) : List Nat :=
  [1, 2].filter fun d => portOf s.time.settings d == p && ptpOf s.time.settings d == some (ptpDomain m)

/-- The servo of a domain. -/
def State.servo (s : State) (d : Nat) : Servo := if d = 1 then s.time.servoA else s.time.servoB

/-- Change a domain's servo. -/
def State.modServo (s : State) (d : Nat) (f : Servo → Servo) : State :=
  if d = 1 then { s with time := { s.time with servoA := f s.time.servoA } }
  else { s with time := { s.time with servoB := f s.time.servoB } }

/-- Count a PTP event message stamped on a site port, and in host-assisted mode keep its capture record for PTP_QP (04 R115,
R116). -/
def State.ptpCapture (s : State) (p edge k : Nat) (m : Bytes) : Nat × State :=
  let n := tgetD s.cap.portSeq p 0
  let s := { s with cap := { s.cap with portSeq := tset s.cap.portSeq p ((n + 1) % nsU) } }
  let info := ptpSeq m + 65536 * ptpType m + 16777216 * ptpDomain m
  (n, if s.ha 0 then s.pushRec s.time.settings.ptpQp (s.counterAt 0 k) (s.capRec 2 p edge 1 n 0 info k) else s)

/-- The time of a domain `later` after the present tick, in units of the local counter. -/
def State.domLater (s : State) (d later : Nat) : Int := ((s.dom d).value + later * (s.dom d).incr / nsU : Nat)

/-- Where the PTP message begins in a frame the engine sends: after the Ethernet header, or also those of IPv4 and UDP. -/
def ptpOffset (b : Bytes) : Nat := if beField b 12 2 = 0x0800 then 42 else 14

/-- A PTP frame leaves `later` after the present tick: its message as sent, with the Follow_Up of a Pdelay_Resp carrying
that message's time, and what its stamp gives the servo (04 R103, R108, R116). -/
def State.ptpSent (s : State) (p later : Nat) (b : Bytes) : Bytes × State :=
  let m := b.drop (ptpOffset b)
  let ds := s.ptpDoms p m
  let s := if ptpEvent m && !ds.isEmpty then (s.ptpCapture p 3 (later / capU) m).2 else s
  let at_ := fun (d : Nat) => s.domLater d later + txDelay
  match ptpType m with
  | 1 => (b, ds.foldl (fun s d => s.modServo d fun v => { v with delayTx := some (ptpSeq m, at_ d) }) s)
  | 2 => (b, ds.foldl (fun s d => s.modServo d fun v => { v with delayTx := some (ptpSeq m, at_ d) }) s)
  | 3 => (b, ds.foldl (fun s d => s.modServo d fun v => { v with respTx := at_ d }) s)
  | 10 => (putBytes b 48 (ptpStamp (s.servo (ds.headD 1)).respTx), s)
  | _ => (b, s)

end Sys2Proof.Machine
end

