-- ==== Sys2Proof/Machine/Tx.lean ====
section
/-! DEFINITION. The transmitters of site ports 0 to 7 and of the sensor ports, and the passing of time with what is due of
itself in it (04 R99, R103; 09 R226, R229; 16 R401 to R404). -/

namespace Sys2Proof.Machine

/-! ### What is due -/

/-- Something is due at a local counter value, after what is due then already. -/
def State.addDue (s : State) (at_ : Nat) (e : DueEv) : State :=
  if s.due.contains (at_, e) then s
  else { s with due := s.due.takeWhile (fun d => decide (d.1 ≤ at_)) ++
    (at_, e) :: s.due.dropWhile (fun d => decide (d.1 ≤ at_)) }

/-! ### Site ports: frames and gates (16 R401 to R404) -/

/-- The super that carries a site port 0 to 7 (16 Table 16-1). -/
def agentSuper (p : Nat) : Nat := if p < 4 then 2 else 5

/-- The module in a cage, `SP0` to `SP15` then `SITE0` to `SITE9`, stays unpowered: its link stays down (22 R552). -/
def State.cageDark (s : State) (cage : Nat) : Bool := tget s.unit.cages cage == some false

/-- A site port 0 to 7 works. -/
def State.agentPortUp (s : State) (p : Nat) : Bool :=
  decide (p < 8) && s.time.running && s.unsealed (agentSuper p) && !s.cageDark (16 + p)

/-- A number in `n` bytes, most significant first, as Ethernet sends it. -/
def netOrder (n v : Nat) : Bytes := (toLE n v).reverse

/-- An Ethernet frame without its FCS: one tag with a priority on a VLAN id where one is named, padded to 60 bytes. -/
def ethFrame (dst src : Bytes) (tag : Option (Nat × Nat)) (ethertype : Nat) (body : Bytes) : Bytes :=
  let t := match tag with
    | some (pcp, vid) => netOrder 2 0x8100 ++ netOrder 2 (8192 * pcp + vid % 4096)
    | none => []
  let f := dst ++ src ++ t ++ netOrder 2 ethertype ++ body
  f ++ List.replicate (60 - f.length) 0

/-- Length of a gate list's cycle in 2^-32 ns (16 Table 16-2). -/
def GateList.cycle (g : GateList) : Nat := (g.items.map Prod.snd).sum * nsU

/-- The mask in force at a position of the cycle, and how long queue `q` stays open from there, at most two cycles. -/
def gateRun (items : List (Nat × Nat)) (q : Nat) : Nat → Nat
  | pos => match items with
    | [] => 0
    | (m, d) :: r =>
      if pos ≥ d * nsU then gateRun r q (pos - d * nsU)
      else if bitAt m q then d * nsU - pos + (r.takeWhile fun e => bitAt e.1 q).foldl (fun t e => t + e.2 * nsU) 0
      else 0

/-- How long queue `q`'s gate stays open at a value of the list's domain: 0 while it is closed. -/
def GateList.openFor (g : GateList) (q v : Nat) : Nat :=
  if g.cycle = 0 then 0
  else
    let pos := (((v : Int) - g.base) % (g.cycle : Int)).toNat
    gateRun (g.items ++ g.items) q pos

/-- Time a frame takes on a 25 Gb/s port, preamble to FCS, in 2^-32 ns. -/
def wireTime (b : Bytes) : Nat := (b.length + 12) * 8 * nsU / 25

/-- The gap of 12 bytes after a frame, in 2^-32 ns. -/
def gapTime : Nat := 12 * 8 * nsU / 25

/-- A frame of a queue can start at a local instant and finish before its gate closes (16 R402). -/
def State.gateFits (s : State) (p q at_ : Nat) (b : Bytes) : Bool :=
  match tget s.agent.gates p with
  | none => true
  | some g => decide (wireTime b ≤ g.openFor q (s.domLater g.baseDom (at_ - s.time.localC)).toNat)

/-- The port is in the middle of a frame. -/
def State.siteBusy (s : State) (p at_ : Nat) : Bool := decide (at_ < s.agent.busy.getD p 0)

/-- A frame starts at a local instant; a PTP message is stamped as it leaves (04 R103). What then waits is looked at when it
ends. -/
def State.putSent (s : State) (p q at_ : Nat) (b : Bytes) : State :=
  let r := if q = 6 then s.ptpSent p (at_ - s.time.localC) b else (b, s)
  let end_ := at_ + wireTime b + gapTime
  let s := { r.2 with agent := { r.2.agent with
    sent := r.2.agent.sent ++ [(p, q, r.1)], busy := lmod r.2.agent.busy p fun _ => end_ } }
  if (s.agent.waiting.getD p []).isEmpty then s else s.addDue end_ (.site p)

/-- Queue a frame: it leaves at once, or waits for the port, for its gate or behind what its queue already holds. -/
def State.txFrame (s : State) (p q : Nat) (b : Bytes) : State :=
  let now := s.time.localC
  if !s.agentPortUp p then s
  else if !s.siteBusy p now && !((s.agent.waiting.getD p []).any fun e => e.1 == q) && s.gateFits p q now b then
    s.putSent p q now b
  else
    let s := { s with agent := { s.agent with waiting := lmod s.agent.waiting p fun l => l ++ [(q, b)] } }
    if s.siteBusy p now then s.addDue (s.agent.busy.getD p 0) (.site p) else s

/-- The waiting frame that starts next: the oldest of the highest queue whose gate is open long enough. -/
def State.nextTx (s : State) (p at_ : Nat) : Option (Nat × Bytes) :=
  [7, 6, 5, 4, 3, 2, 1, 0].findSome? fun q =>
    match (s.agent.waiting.getD p []).find? fun e => e.1 == q with
    | some e => if s.gateFits p q at_ e.2 then some e else none
    | none => none

/-- A free port starts the waiting frame whose turn it is. -/
def State.startWaiting (s : State) (p at_ : Nat) : State :=
  if s.siteBusy p at_ || !s.agentPortUp p then s
  else match s.nextTx p at_ with
    | none => s
    | some e =>
      { s with agent := { s.agent with waiting := lmod s.agent.waiting p fun l => l.eraseP fun x => x == e } }.putSent p e.1 at_ e.2

/-! ### Sensor ports (09 R221, R226, R229, R233) -/

/-- The super that carries a sensor port (05 Table 5-4): S(2,7) to S(5,7), four ports each. -/
def spSuper (p : Nat) : Nat := 58 + p / 4

/-- A sensor port. -/
def State.sport (s : State) (p : Nat) : SensorPort := s.link.ports.getD p SensorPort.down

/-- Change a sensor port. -/
def State.modSport (s : State) (p : Nat) (f : SensorPort → SensorPort) : State :=
  { s with link := { s.link with ports := lmod s.link.ports p f } }

/-- The uplink of a sensor port is up. -/
def State.spUp (s : State) (p : Nat) : Bool := (s.sport p).up && s.unsealed (spSuper p) && decide (p < 16)

/-- A frame with its check sequence (09 Table 9-2). -/
def oshFrame (type addr seq chan flags : Nat) (payload : Bytes) : Bytes :=
  let h := toLE 1 type ++ [1] ++ toLE 2 payload.length ++ toLE 2 addr ++ toLE 2 seq ++ toLE 1 chan ++
    toLE 1 flags ++ List.replicate 6 0 ++ payload
  h ++ toLE 4 (crc32 h)

/-- What a frame's start block carries before its bytes (09 R221). -/
def oshStart : Bytes := [0x55, 0x55, 0x55, 0x55, 0x55, 0x4F, 0xD5]

/-- A capture record of a delay frame for the owner of a sensor port (09 R233). -/
def State.delayRec (s : State) (p type addr seq edge k : Nat) : State :=
  let i := s.capIn (65 + p)
  match i.owner with
  | none => s
  | some o =>
    let r := s.capRec 3 p edge 1 i.seq 0 (type + 256 * (addr % 256) + 65536 * seq) k
    (s.setCapIn (65 + p) { i with seq := i.seq + 1 }).deliverRec (65 + p) o (s.counterAt 0 k) r

/-- Delay between the connector and the PCS boundary of a sensor port, in 2^-32 ns: 41.6 ns received, 26.8 ns sent (04
Table 4-2). -/
def linkRxDelay : Nat := 178670639514
def linkTxDelay : Nat := 115105123533

/-- Time a frame takes at 100 Gb/s with its start and terminate blocks of 8 bytes each, in 2^-32 ns (PRESUMED, log entry
58). -/
def linkTime (n : Nat) : Nat := (n + 16) * 8 * nsU / 100

/-- The bytes an item leaves with at a local instant: a DELAY_RESP carries the times at the connector of its request's
arrival and of its own departure (09 R229, 04 Table 4-2). -/
def LinkItem.bytes (it : LinkItem) (at_ : Nat) : Bytes :=
  match it with
  | .frame b => b
  | .answer addr seq heard =>
    let t2 := heard - linkRxDelay
    let t3 := at_ + linkTxDelay
    oshFrame 0x11 addr seq 0 0 (toLE 8 (t2 / nsU) ++ toLE 2 (t2 / 65536 % 65536) ++ toLE 2 (t3 / 65536 % 65536) ++ toLE 4 0 ++
      toLE 8 (t3 / nsU))

/-- A frame leaves a sensor port at a local instant, behind its start block; a DELAY_RESP is captured (R221, R233). -/
def State.linkStart (s : State) (p at_ : Nat) (it : LinkItem) : State :=
  let b := it.bytes at_
  let end_ := at_ + linkTime b.length
  let s := match it with
    | .answer addr seq _ => (s.delayRec p 0x11 addr seq 3 ((at_ - s.time.localC) / capU)).modSport p fun q =>
        { q with exchanges := (at_ :: q.exchanges).take 2 }
    | .frame _ => s
  let s := { s with link := { s.link with
    tx := s.link.tx ++ [(p, oshStart ++ b)], busy := lmod s.link.busy p fun _ => end_ } }
  if s.link.waiting.any fun e => e.1 == p then s.addDue end_ (.sensor p) else s

/-- Send an item of a place in the order of R226: 0 SLEEP_PROPOSE, 1 link packets, 2 DELAY_RESP, 3 MGMT_REQ; a frame in
transmission is not interrupted, and a duty-cycled transmitter sends in its on-windows only (R242). -/
def State.linkSend (s : State) (p cls at_ : Nat) (it : LinkItem) : State :=
  let busy := s.link.busy.getD p 0
  if !s.spUp p then s
  else if (s.sport p).duty then { s with link := { s.link with waiting := s.link.waiting ++ [(p, cls, it)] } }
  else if at_ < busy ∨ s.link.waiting.any (fun e => e.1 == p) then
    { s with link := { s.link with waiting := s.link.waiting ++ [(p, cls, it)] } }.addDue busy (.sensor p)
  else s.linkStart p at_ it

/-- Send a frame of given bytes. -/
def State.linkTx (s : State) (p cls : Nat) (b : Bytes) : State := s.linkSend p cls s.time.localC (.frame b)

/-- A free sensor port starts the item that comes first in the order of R226. -/
def State.linkNext (s : State) (p at_ : Nat) : State :=
  match [0, 1, 2, 3].findSome? fun c => s.link.waiting.find? fun e => e.1 == p && e.2.1 == c with
  | none => s
  | some e =>
    let s := { s with link := { s.link with waiting := s.link.waiting.erase e } }
    if s.spUp p then s.linkStart p at_ e.2.2 else s

/-! ### The passing of time -/

/-- What is due happens at its instant. -/
def State.doDue (s : State) (at_ : Nat) (e : DueEv) : State :=
  match e with
  | .site p => s.startWaiting p at_
  | .sensor p => if (s.sport p).duty then s else s.linkNext p at_
  | .answer p addr seq heard => s.linkSend p 2 at_ (.answer addr seq heard)

/-- Advance the counters to a tick, the auto-switch at its own (04 R99). -/
def State.advanceAuto (s : State) (t : Nat) : State :=
  match s.time.autoAt with
  | some a => if a ≤ t then ((s.advRaw a).autoSwitch).advRaw t else s.advRaw t
  | none => s.advRaw t

/-- Advance to a tick; what is due at an instant of an earlier tick happens in that tick. `fuel` bounds how much. -/
def State.advanceBy : Nat → Nat → State → State
  | 0, t, s => s.advanceAuto t
  | fuel + 1, t, s =>
    match s.due with
    | [] => s.advanceAuto t
    | (at_, e) :: r =>
      let k := s.time.tick + (at_ - s.time.localC) / tickU
      if s.time.running && decide (k < t) then
        (({ s with due := r }.advanceAuto k).doDue at_ e).advanceBy fuel t
      else s.advanceAuto t

/-- Advance to a tick: each thing due, a waiting frame and the frames an answer leads to are each looked at a bounded number
of times. -/
def State.advanceTo (s : State) (t : Nat) : State :=
  s.advanceBy (4 * s.due.length + 2 * ((s.agent.waiting.map List.length).sum + s.link.waiting.length) + 1) t

/-- What every command begins with: the host's DMA is as it says, and its tick is reached. -/
def State.enter (s : State) (x : At) : State :=
  { s with host := { s.host with resultOk := x.resultOk, cqOk := x.cqOk } }.advanceTo x.tick

end Sys2Proof.Machine
end

