-- ==== Sys2Proof/Machine/HostIf.lean ====
section
/-! DEFINITION. The host interface (17): registers, rings, doorbells, acceptance of packets, the network
transport. -/

namespace Sys2Proof.Machine

/-! ### Registers -/

/-- The writable bits of QP_SIZE (17 Table 17-2): reserved bits and NETWORK are not written. -/
def sizeMask (v : Nat) : Word32 := BitVec.ofNat 32 v &&& 0x3F070F0F

/-- ENABLE may be set (17 R429): sizes in Table 17-2, bases aligned. -/
def enableOk (q : QueuePair) (w : Word32) : Bool :=
  within 1 10 (bitsOf w.toNat 3 0) && within 1 12 (bitsOf w.toNat 11 8) && q.sqBase.toNat % 4096 == 0 &&
    q.cqBase.toNat % 4096 == 0

/-- The queue pair just enabled (17 R429, R435): indices 0, first pass. -/
def QueuePair.opened (q : QueuePair) (w : Word32) : QueuePair :=
  { q with size := w, sqHead := 0, sqTail := 0, cqHead := 0, cqTail := 0, cqPhase := true, unread := [],
           unreadSeq := [], reserved := 0, gen := q.gen + 1, net := none }

/-- A write of QP_SIZE_n (17 R429 to R431). -/
def State.writeSize (s : State) (port n value : Nat) : State :=
  let q := s.qp n
  let w := sizeMask value
  let on := bitAt w.toNat 16
  if q.enabled then
    if on || (w ||| 0x00010000) != (q.size &&& 0x3F070F0F) then s else s.disableQp n
  else if on then
    if bitsOf w.toNat 17 17 ≠ port then s
    else if enableOk q w then ((s.modQp n fun q => q.opened w).armVector port (bitsOf w.toNat 29 24)).flushHeld
    else s.modQp n fun q => { q with size := w &&& 0x3F060F0F }
  else s.modQp n fun q => { q with size := w }

/-- A write to BAR0 (17 R428): of a register's own width, aligned; anything else is ignored. -/
def State.writeReg (s : State) (port addr width value : Nat) : State :=
  if addr ≥ 0x1000 ∧ addr < 0x1800 then
    let n := (addr - 0x1000) / 32
    let o := (addr - 0x1000) % 32
    if o = 0 ∧ width = 8 then
      if (s.qp n).enabled then s else s.modQp n fun q => { q with sqBase := BitVec.ofNat 64 value }
    else if o = 8 ∧ width = 8 then
      if (s.qp n).enabled then s else s.modQp n fun q => { q with cqBase := BitVec.ofNat 64 value }
    else if o = 16 ∧ width = 4 then s.writeSize port n value
    else s
  else s

/-- REGISTER_WRITE: a BAR0 write that has no row of its own. -/
def execRegisterWrite (x : At) (port addr width value : Nat) (s : State) : Host.Outcome State Fault Refusal :=
  let s := s.enter x
  .next (if (s.port port).up then s.writeReg port addr width value else s)

/-- QP_ENABLE: a write of QP_SIZE_n that sets ENABLE. -/
def execQpEnable (x : At) (port qp value : Nat) (s : State) : Host.Outcome State Fault Refusal :=
  let s := s.enter x
  .next (if (s.port port).up && bitAt value 16 then s.writeSize port qp value else s)

/-- QP_DISABLE: a write of QP_SIZE_n that clears ENABLE. -/
def execQpDisable (x : At) (port qp value : Nat) (s : State) : Host.Outcome State Fault Refusal :=
  let s := s.enter x
  .next (if (s.port port).up && !bitAt value 16 then s.writeSize port qp value else s)

/-- HIF_STATE (17 Table 17-1). -/
def State.hifState (s : State) : Nat :=
  s.unit.state.code + 16 * s.unit.step + 512 * s.capacity + 2048 * b2n s.host.fastReady +
    4096 * b2n s.host.keeperReady +
    8192 * b2n (!s.unsealed 3 || !s.unsealed 4)

/-- HIF_VER (17 Table 17-1). -/
def State.hifVer (s : State) : Nat := 1 + 256 + 65536 * s.host.hifLevel

/-- HIF_FLAGS (17 Table 17-1). -/
def State.hifFlags (s : State) : Nat := s.replyFlags + 65536 * b2n s.host.qpDisabled

/-- The registers of BAR0 (17 R428, Table 17-1); an address not listed reads 0. -/
def State.regValue (s : State) (addr : Nat) : Nat :=
  if addr = 0 then 0x4C4B0002
  else if addr = 4 then s.hifVer
  else if addr = 8 then s.hifState
  else if addr = 12 then s.hifFlags
  else if addr ≥ 0x1000 ∧ addr < 0x1800 then
    let q := s.qp ((addr - 0x1000) / 32)
    let o := (addr - 0x1000) % 32
    if o = 0 then q.sqBase.toNat else if o = 8 then q.cqBase.toNat else if o = 16 then q.size.toNat
    else if o = 20 then q.sqHead + 65536 * q.cqTail else 0
  else 0

/-- A read of BAR0 through a port: answered while the port's link is up, that is from the end of start-up step 5 (01 R27). -/
def State.readReg (s : State) (port addr : Nat) : Option Nat := if (s.port port).up then some (s.regValue addr) else none

/-- HIF_FLAGS_READ: the flags are returned and bit 16 clears (17 Table 17-1). -/
def execHifFlagsRead (x : At) (port : Nat) (s : State) : Host.Outcome State Fault Refusal :=
  let s := s.enter x
  .next (if (s.port port).up then
    { s with host := { s.host with flagsRead := s.hifFlags, qpDisabled := false } } else s)

/-! ### Doorbells -/

/-- The packets a doorbell covers, one per slot; a slot not given is a read that failed. -/
def coverSlots : Nat → List (Option Bytes) → List (Option Bytes)
  | 0, _ => []
  | n + 1, [] => none :: coverSlots n []
  | n + 1, p :: ps => p :: coverSlots n ps

/-- A doorbell takes effect through the port its queue pair is bound to (17 R430, R432). -/
def State.bellOk (s : State) (port qp v size : Nat) : Bool :=
  (s.port port).up && (s.qp qp).enabled && !(s.qp qp).network && (s.qp qp).port == port && decide (v < size) &&
    decide (qp < 64)

/-- DB_SQ: the submission tail advances and the packets up to it are read (17 R432, R433). -/
def execDbSq (x : At) (port qp value : Nat) (pkts : List (Option Bytes)) (s : State) :
    Host.Outcome State Fault Refusal :=
  let s := s.enter x
  let v := value % 65536
  let q := s.qp qp
  .next (if s.bellOk port qp v q.sqSlots then
    s.modQp qp fun q => { q with
      sqTail := v, unread := q.unread ++ coverSlots ((v + q.sqSlots - q.sqTail) % q.sqSlots) pkts }
    else s)

/-- DB_CQ: entries are released and the vector is armed again (17 R432, R452). -/
def execDbCq (x : At) (port qp value : Nat) (s : State) : Host.Outcome State Fault Refusal :=
  let s := s.enter x
  let v := value % 65536
  let q := s.qp qp
  .next (if s.bellOk port qp v q.cqSlots then
    ((s.modQp qp fun q => { q with cqHead := v }).armVector port q.vector).flushHeld
    else s)

/-! ### Acceptance (17 R438) -/

/-- The seconds congruent to 32 given bits that lie nearest to the current seconds (17 R439). -/
def resolveSec (cur low : Nat) : Nat :=
  let base := cur - cur % nsU + low
  if base > cur + nsU / 2 ∧ base ≥ nsU then base - nsU
  else if base + nsU / 2 < cur then base + nsU
  else base

/-- A packet's deadline, its domain bound at acceptance (17 R439). -/
def State.bindDeadline (s : State) (p : Packet) : Deadline :=
  match p.dlKind with
  | 1 =>
    let d := if p.dlSel = 3 then s.time.active else p.dlSel
    .time d (resolveSec (s.counter d / secU) (p.deadline / nsU) * secU + p.deadline % nsU * nsU)
  | 2 => .phase p.dlSel p.deadline
  | _ => .none

/-- The header's deadline fields are in Table 17-3. -/
def dlOk (p : Packet) : Bool :=
  match p.dlKind with
  | 0 => p.dlSel == 0 && p.deadline == 0
  | 1 => decide (p.dlSel ≤ 3) && decide (p.deadline % nsU ≤ 999999999)
  | 2 => decide (p.dlSel ≤ 15) && decide (p.deadline < phaseMod)
  | _ => false

/-- Check 3 of R438: header, result buffer and parameters are in their layouts. -/
def packetOk (sp : OpSpec) (p : Packet) (n : Nat) (net : Bool) : Bool :=
  p.qp == n && p.tag != 0xFFFF && decide (p.flags < 8) && p.reserved == 0 && dlOk p &&
    (bitAt p.flags 0 || p.expect == 0) &&
    (if net || !sp.result then p.resultBuf == 0 else p.resultBuf != 0 && p.resultBuf % 64 == 0) &&
    (match sp.addr with
     | some (o, inline) => !net || (inline && fieldN p.params o 8 == 0)
     | none => true) &&
    sp.ok p.params

/-- An interpreter is ready (17 R426, R427). -/
def State.interpReady (s : State) (i : Interp) : Bool :=
  match i with
  | .K => s.host.fastReady && s.host.keeperReady
  | _ => s.host.fastReady

/-- Check 4 of R438: unit state, readiness, function mode, and a phase deadline's source. -/
def State.stateOk (s : State) (sp : OpSpec) (p : Packet) : Bool :=
  s.interpReady sp.interp && sp.states.contains s.unit.state &&
    (match sp.ha with
     | some f => s.ha f
     | none => true) &&
    (p.dlKind != 2 || (s.source p.dlSel).st != .disabled)

/-- An expected epoch matches (17 R440, 19 R483). -/
def State.epochOk (s : State) (p : Packet) : Bool :=
  !bitAt p.flags 0 || p.expect == s.ep.epoch || p.expect == s.epochFrom

/-- The checks of R438 in their order: the status of the first failure and its DETAIL, or none. `whole`: the
packet's parameters were read. -/
def State.refusal (s : State) (p : Packet) (n : Nat) (net whole : Bool) : Option (Nat × Nat) :=
  match opSpec p.opcode with
  | none => if p.plen > 4064 then some (stBadLength, 0) else some (stBadOpcode, 0)
  | some sp =>
    if p.plen > 4064 then some (stBadLength, 0)
    else if !whole then some (stBadParam, 0xFFFFFFFF)
    else if p.plen ≠ sp.plen p.params then some (stBadLength, 0)
    else if !packetOk sp p n net then some (stBadParam, 0)
    else if !s.stateOk sp p then some (stBadState, 0)
    else if s.passed (s.bindDeadline p) then some (stDeadline, 0)
    else if !s.epochOk p then some (stEpoch, 0)
    else none

/-- An accepted command is interpreted by Keeper firmware. -/
def Cmd.keeper (c : Cmd) : Bool :=
  match opSpec c.opcode with
  | some sp => sp.interp == .K
  | none => false

/-- Keeper commands held (17 R436). -/
def State.keeperHeld (s : State) : Nat := (s.host.accepted.filter Cmd.keeper).length

/-- The packet at a head may be taken now (17 R434, R436, R449). -/
def State.mayTake (s : State) (n : Nat) (p : Packet) : Bool :=
  (s.qp n).canReserve && !s.host.accepted.any (fun c => c.qp == n && c.fence) &&
    (!bitAt p.flags 1 || !s.host.accepted.any (fun c => c.qp == n)) &&
    (match opSpec p.opcode with
     | some sp => sp.interp != .K || decide (s.keeperHeld < 1024)
     | none => true)

/-- The timeout CAPTURE_READ and ROUTE_EVENT_READ name, in the domain active at acceptance (04 R96, R107, 17 R439). -/
def State.bindTimeout (s : State) (params : Bytes) : Nat × Nat :=
  (resolveSec (s.counter s.time.active / secU) (fieldN params 8 4) * secU + fieldN params 4 4 * nsU, s.time.active)

/-- The state record (18 Table 18-3). -/
def State.stateRec (s : State) : Bytes :=
  toLE 1 s.unit.state.code ++ toLE 1 s.capacity ++ toLE 1 (if s.ep.image.isSome then s.ep.placement else 255) ++
    toLE 1 s.unit.step ++ toLE 2 s.replyFlags ++ toLE 1 s.summary.causes ++ toLE 1 (s.fw.booted.getD 255) ++
    toLE 4 s.ep.epoch ++ toLE 4 s.epochFrom ++ ((s.ep.image.map HiveImg.id).getD (List.replicate 16 0)) ++
    toLE 8 s.unit.serial ++ toLE 8 s.wafer.serial ++ catB s.unit.macs ++ List.replicate 20 0

/-- The command a packet becomes; what it takes at acceptance is bound here (16 R422, 17 R439, 18 R467). -/
def State.mkCmd (s : State) (n : Nat) (p : Packet) (net : Option Nat) : Cmd :=
  { qp := n, tag := p.tag, opcode := p.opcode, params := p.params, noIrq := bitAt p.flags 2,
    fence := bitAt p.flags 1, deadline := s.bindDeadline p, timeout := s.bindTimeout p.params,
    localC := s.time.localC, activeC := s.counter s.time.active,
    latch := if p.opcode = 0x0101 then s.stateRec else [], resultBuf := p.resultBuf, sqHead := (s.qp n).sqHead,
    tick := s.time.tick, gen := (s.qp n).gen, net := net, synth := false, prog := .fresh }

/-- Advance past the head packet and reserve its completion entry (17 R433, R434). -/
def QueuePair.take (q : QueuePair) (tick : Nat) : QueuePair :=
  { q with
    sqHead := if q.network then q.sqHead else (q.sqHead + 1) % q.sqSlots, unread := q.unread.drop 1,
    unreadSeq := q.unreadSeq.drop 1, reserved := if q.network then q.reserved else q.reserved + 1,
    net := q.net.map (fun p => { p with
      lastTick := tick, recent := ((q.unreadSeq.headD 0, none) :: p.recent).take 64 }) }

/-- The packet at the head; a slot that could not be read at all has a TAG no one knows (log entry 7). -/
def State.headPacket (s : State) (n : Nat) : Option (Packet × Bool) :=
  match (s.qp n).unread with
  | [] => none
  | none :: _ => some ({ parsePacket [] with qp := n, opcode := 0x0101, tag := Config.freeNat s.freeCtr % 0xFFFF }, false)
  | some b :: _ => some (parsePacket b, decide (32 + (parsePacket b).plen ≤ b.length))

/-- A queue pair has a packet that may be taken now. -/
def State.takeable (s : State) (n : Nat) : Bool :=
  match s.headPacket n with
  | some (p, _) => (s.qp n).enabled && s.mayTake n p
  | none => false

/-- A queue pair's turn has come: the queue pairs with packets that may be taken are served in ascending order, one packet of
each in a round (17 R436). -/
def State.qpTurn (s : State) (n : Nat) : Bool :=
  (((List.range 64).map fun i => (s.host.served + 1 + i) % 64).find? s.takeable) == some n

/-- Take the packet at the head of a queue pair, check it and accept or complete it (17 R438). -/
def State.acceptPacket (s : State) (n : Nat) : State :=
  match s.headPacket n with
  | none => s
  | some (p, whole) =>
    if !s.qpTurn n then s
    else
      let s := { s with host := { s.host with served := n } }
      let net := (s.qp n).network
      let seq := if net then some ((s.qp n).unreadSeq.headD 0) else none
      let unread := (s.qp n).unread.headD none
      let s := s.modQp n fun q => q.take s.time.tick
      let s := if unread.isNone then { s with freeCtr := s.freeCtr + 1 } else s
      let c := s.mkCmd n p seq
      match s.refusal p n net whole with
      | some (st, d) => s.finish c st d []
      | none => { s with host := { s.host with accepted := s.host.accepted ++ [c] } }

/-- PACKET_ACCEPT: the interpreter takes the packet at a queue pair's head. -/
def execPacketAccept (x : At) (qp : Nat) (s : State) : Host.Outcome State Fault Refusal :=
  .next ((s.enter x).acceptPacket qp)

/-! ### Loss of a port (17 R458) -/

/-- Disable the queue pairs a predicate names: the engine did it, completions of accepted commands are
discarded, event 6 with cause 1. -/
def State.loseQps (s : State) (f : QueuePair → Bool) : State :=
  (List.range 64).foldl (fun s n =>
    if (s.qp n).enabled && f (s.qp n) then
      let s := (s.disableQp n).modQp n fun q => { q with gen := q.gen + 1 }
      { s with host := { s.host with qpDisabled := true } }.unsol 6 (256 * n + 65536)
    else s) s

/-- A PCI Express port is lost with its super (17 R458). -/
def State.portLost (s : State) (port : Nat) : State :=
  (s.modPort port fun p => { p with up := false, armed := [] }).loseQps fun q => !q.network && q.port == port

/-- A 100GBASE-R port is lost with its super. -/
def State.netPortLost (s : State) (port : Nat) : State :=
  s.loseQps fun q => q.network && (match q.net with
    | some p => p.port == port
    | none => false)

/-- PCIE_PORT_LOST: S(3,0) or S(4,0) is sealed and its port is lost. -/
def execPciePortLost (x : At) (port : Nat) (s : State) : Host.Outcome State Fault Refusal :=
  let s := s.enter x
  .next (if port < 2 ∧ (s.port port).up ∧ !s.unsealed (3 + port) then s.portLost port else s)

/-! ### The network transport (17 R454, R455) -/

/-- Site port 8 or 9 works: its super is powered and unsealed, Keeper firmware has booted (21 R518), and its cage is not
dark. -/
def State.netUp (s : State) (port : Nat) : Bool :=
  s.host.keeperReady && !s.cageDark (16 + port) && ((port == 8 && s.unsealed 2) || (port == 9 && s.unsealed 5))

/-- The settings of site port 8 or 9. -/
def State.netPort (s : State) (port : Nat) : NetPort :=
  s.host.netPorts.getD (port - 8) { ip := 0, prefixLen := 0, gateway := 0 }

/-- A datagram addressed to the transport: whole, of a length accepted, with its reserved fields 0. -/
def State.dgOk (s : State) (d : Datagram) : Bool :=
  s.netUp d.port && !d.fragmented && decide (d.frameLen ≤ 9018) && d.dstPort == 49170 &&
    d.dstIp == (s.netPort d.port).ip && decide (16 ≤ d.payload.length) && zeroIn d.payload 12 4 &&
    zeroIn d.payload 2 2 && decide (fieldN d.payload 1 1 < 64)

/-- A datagram comes from the peer a queue pair is bound to. -/
def State.fromPeer (s : State) (d : Datagram) : Bool :=
  match (s.qp (fieldN d.payload 1 1)).net with
  | some p => (s.qp (fieldN d.payload 1 1)).enabled && p.port == d.port && p.ip == d.srcIp && p.udp == d.srcPort
  | none => false

/-- NET_OPEN: a disabled queue pair is bound to the network (17 R454). -/
def execNetOpen (x : At) (dg : Datagram) (s : State) : Host.Outcome State Fault Refusal :=
  let s := s.enter x
  let n := fieldN dg.payload 1 1
  .next (if s.dgOk dg && fieldN dg.payload 0 1 == 0 && !(s.qp n).enabled then
    s.modQp n fun q => { q.opened 0x00090000 with
      net := some { port := dg.port, ip := dg.srcIp, udp := dg.srcPort, tseq := 0, recent := [],
                    lastTick := s.time.tick } }
    else s)

/-- A QUEUE_FULL refusal datagram (17 Table 17-9). -/
def queueFullFrame (q tseq : Nat) : Bytes := toLE 1 4 ++ toLE 1 q ++ toLE 2 0 ++ toLE 4 tseq ++ toLE 8 0

/-- NET_REQUEST: accepted in TSEQ order, resent, discarded or refused (17 R455). -/
def execNetRequest (x : At) (dg : Datagram) (s : State) : Host.Outcome State Fault Refusal :=
  let s := s.enter x
  let n := fieldN dg.payload 1 1
  let t := fieldN dg.payload 4 4
  .next (if s.dgOk dg && fieldN dg.payload 0 1 == 1 && s.fromPeer dg then
    match (s.qp n).net with
    | none => s
    | some p =>
      if t = p.tseq then
        if (s.qp n).unread.length ≥ 64 then s.netSend p.port p.ip p.udp [queueFullFrame n t]
        else s.modQp n fun q => { q with
          unread := q.unread ++ [some (dg.payload.drop 16)], unreadSeq := q.unreadSeq ++ [t],
          net := some { p with tseq := (t + 1) % nsU } }
      else
        match p.recent.find? (fun r => r.1 == t) with
        | some (_, some e) => s.netSend p.port p.ip p.udp (responseFrames n t e)
        | _ => s
    else s)

/-- NET_CLOSE: the queue pair is disabled (17 R454). -/
def execNetClose (x : At) (dg : Datagram) (s : State) : Host.Outcome State Fault Refusal :=
  let s := s.enter x
  .next (if s.dgOk dg && fieldN dg.payload 0 1 == 3 && s.fromPeer dg then s.disableQp (fieldN dg.payload 1 1) else s)

/-- NET_IDLE_TIMEOUT: 60 s with no accepted request (17 R454). -/
def execNetIdleTimeout (x : At) (qp : Nat) (s : State) : Host.Outcome State Fault Refusal :=
  let s := s.enter x
  .next (match (s.qp qp).net with
    | some p => if (s.qp qp).enabled ∧ s.time.tick ≥ p.lastTick + 7500000000 then s.disableQp qp else s
    | none => s)

/-- A number in `n` bytes, most significant first (the order of ARP and ICMP). -/
def toBE (n v : Nat) : Bytes := (toLE n v).reverse

/-- ARP_REQUEST: a request for the port's address is answered (17 R454). The reply has the format of ARP
itself (log entry 14). -/
def execArpRequest (x : At) (a : ArpReq) (s : State) : Host.Outcome State Fault Refusal :=
  let s := s.enter x
  let me := (s.netPort a.port).ip
  .next (if s.netUp a.port && a.targetIp == me then
    let b := toBE 2 1 ++ toBE 2 0x0800 ++ [6, 4] ++ toBE 2 2 ++ s.unit.macs.getD a.port [] ++ toBE 4 me ++
      a.senderMac ++ toBE 4 a.senderIp
    let o : NetOut := { port := a.port, proto := 0x0806, ip := a.senderIp, udp := 0, payload := b }
    { s with host := { s.host with netOut := s.host.netOut ++ [o] } }
    else s)

/-- The Internet checksum of a byte string of even length. -/
def inetSum : Bytes → Nat
  | a :: b :: r => 256 * a.toNat + b.toNat + inetSum r
  | [a] => 256 * a.toNat
  | [] => 0

/-- The one's-complement checksum: the sum folded to 16 bits and inverted. -/
def inetChecksum (b : Bytes) : Nat :=
  let s := inetSum b
  let s := s % 65536 + s / 65536
  65535 - (s % 65536 + s / 65536)

/-- ICMP_ECHO_REQUEST: answered with the same identifier, sequence and data (17 R454; log entry 14). -/
def execIcmpEchoRequest (x : At) (e : IcmpEcho) (s : State) : Host.Outcome State Fault Refusal :=
  let s := s.enter x
  .next (if s.netUp e.port && e.dstIp == (s.netPort e.port).ip then
    let rest := toBE 2 e.ident ++ toBE 2 e.seq ++ e.body
    let b := [0, 0] ++ toBE 2 (inetChecksum ([0, 0, 0, 0] ++ rest)) ++ rest
    let o : NetOut := { port := e.port, proto := 1, ip := e.srcIp, udp := 0, payload := b }
    { s with host := { s.host with netOut := s.host.netOut ++ [o] } }
    else s)

/-- WAIT_TIMEOUT: a waiting read reaches its timeout (04 R107, 14 R373): `Prog.waiting` holds the timeout and
its domain. -/
def execWaitTimeout (x : At) (qp tag : Nat) (s : State) : Host.Outcome State Fault Refusal :=
  let s := s.enter x
  .next (match s.findCmd qp tag with
    | some c =>
      if c.opcode = 0x0206 ∨ c.opcode = 0x0707 then
        match c.prog with
        | .waiting t d => if s.counter d > t then s.complete qp tag stTimeout 0 [] else s
        | .fresh => s
      else s
    | none => s)

/-! ### Opcode rows: the accepted command they carry out -/

/-- The opcodes that stage changes, and those that close or empty the staged set (19 Table 19-1, R476). -/
def stagingOps : List Nat := [0x0209, 0x0501, 0x0602, 0x0904, 0x0A01, 0x0A02, 0x0A03, 0x0A04]

/-- A command's turn has come: those that stage changes take effect in their queue pair's order of acceptance (17 R448). -/
def HostSt.inTurn (h : HostSt) (c : Cmd) : Bool :=
  !stagingOps.contains c.opcode ||
    !((h.accepted.takeWhile fun d => !(d.qp == c.qp && d.tag == c.tag)).any fun d =>
      d.qp == c.qp && stagingOps.contains d.opcode && (d.prog == .fresh || d.opcode == 0x0A01))

/-- Carry out the accepted command of a queue pair, TAG and opcode whose execution has not begun (log entry
3); none such: nothing happens. -/
def State.run (s : State) (x : At) (qp tag op : Nat) (f : State → Cmd → State) : State :=
  let s := s.enter x
  match s.host.accepted.find? (fun c => c.qp == qp && c.tag == tag) with
  | some c => if c.opcode = op ∧ c.prog = .fresh ∧ s.host.inTurn c then f s c else s
  | none => s

end Sys2Proof.Machine
end

