-- ==== Sys2Proof/Machine/Wake.lean ====
section
/-! DEFINITION. Sensor ports, what uses them, and the WAKE the engine sends to a group (09). -/

namespace Sys2Proof.Machine

/-- The group takes no frame but those of the sleep protocol: from SLEEP_COMMIT until AWAKE (09 R243). -/
def Group.sleeping (g : Group) : Bool := g != .awake && g != .proposed

/-- GROUP's code (09 Table 9-8). -/
def Group.code : Group → Nat
  | .awake => 0
  | .proposed => 1
  | .committed => 2
  | .asleep => 3
  | .waking => 4

/-- The port of a target: a module address, or 256 + port for a hub. -/
def tgtPort (t : Nat) : Nat := if t < 256 then t / 16 else t - 256

/-! ### Unused hubs and WAKE (09 R240, R242, R245) -/

/-- A running or staged image's stages take data of a module. -/
def HiveImg.usesPort (m : HiveImg) (p : Nat) : Bool :=
  m.site.stages.any fun st => (st.modules ++ st.imagers.map (· / 8) ++ st.calibrates.toList).any fun a => a / 16 == p

/-- A source definition names a module of a port. -/
def SourceDef.onPort (d : SourceDef) (p : Nat) : Bool :=
  (d.kind == 2 && d.originId / 128 == p) || (d.kind == 3 && d.originId / 16 == p)

/-- A LINK_PKT entry names a buffer on a port. -/
def State.pktOnPort (s : State) (p : Nat) : Bool :=
  s.sched.entries.any fun e => e.2.action == 5 && e.2.st != .free && e.2.st != .fired &&
    (match tget s.link.bufs (e.2.arg % 65536) with
     | some b => b.port == p
     | none => false)

/-- Something uses a module of the hub, or must reach the group (09 R245). -/
def State.portUsed (s : State) (p : Nat) : Bool :=
  (match s.ep.image with
   | some m => m.usesPort p
   | none => false) ||
  s.sched.sources.any (fun q => q.defn.onPort p) ||
  (s.ep.staged :: (s.ep.armed.map ArmedCommit.set).toList).any (fun t =>
    t.sources.any (fun q => q.2.onPort p) || (t.image.any fun m => m.1.usesPort p)) ||
  (match tget s.cap.inputs (65 + p) with
   | some v => v.owner.isSome
   | none => false) || s.pktOnPort p ||
  s.link.mgmt.any fun q => tgtPort q.1 == p && (q.2.out.isSome || !q.2.wait.isEmpty)

/-- The ordered set of a WAKE: its block type, O code and data bytes (09 R242). -/
def wakeSet : Bytes := [0x4B, 0x5, 0x4F, 0x57, 0x4B]

/-- The engine sends WAKE to a group: 16 times at once while its transmitter is not duty-cycled, else in the next
on-window (09 R240, R242). -/
def State.wakePort (s : State) (p : Nat) : State :=
  let q := s.sport p
  if q.group = .awake ∨ q.wakeSent ∨ q.wakeDue then s
  else if q.duty then s.modSport p fun q => { q with wakeDue := true }
  else
    let s := s.modSport p fun q => { q with wakeSent := true }
    { s with link := { s.link with wakes := s.link.wakes ++ [(p, some 16, wakeSet)] } }

/-- In device mode, wake the groups a change made used (09 R245). -/
def State.wakeUsed (s : State) : State :=
  if s.ha 9 then s
  else ((List.range 16).filter fun p => s.spUp p && (s.sport p).group != .awake && s.portUsed p).foldl
    State.wakePort s

end Sys2Proof.Machine
end

