-- ==== Sys2Proof/Machine/TimeCmd.lean ====
section
/-! DEFINITION. Time and capture (04): reads and writes of the domains, holdover, the active domain, edge
capture, PPS and the 10 MHz reference. -/

namespace Sys2Proof.Machine

/-! ### Writing a domain (04 R91 to R95) -/

/-- Ticks from a write to the first schedule tick that begins at least D_w + 8 ns later (04 R93). -/
def State.leadTicks (s : State) : Nat := (s.wafer.dw + 8 + 7) / 8

/-- Issue a write: it takes effect at its tick, or waits across a tree pause (04 R93). -/
def State.issueWrite (s : State) (d : Nat) (op : TimeOp) (cmd : Option (Nat × Nat)) : State :=
  let eff := if s.wafer.pause.isSome then none else some (s.time.tick + s.leadTicks)
  { s with time := { s.time with writes := s.time.writes ++ [{ dom := d, op := op, eff := eff, cmd := cmd }] } }

/-- Keep the counter and the increment that a tick had without its writes (04 R94). -/
def Domain.remember (d : Domain) (tick : Nat) : Domain :=
  match d.hist with
  | (t, _) :: _ => if t = tick then d else { d with hist := (tick, d.value, d.incr) :: d.hist }
  | [] => { d with hist := [(tick, d.value, d.incr)] }

/-- A domain after a write (04 R92, R93, R98). -/
def Domain.apply (d : Domain) (tick localC : Nat) (op : TimeOp) : Domain :=
  let d := d.remember tick
  match op with
  | .incr v => { d with incr := v, holdover := false, lastWrite := localC }
  | .stepTo v => { d with value := v, valid := true }
  | .stepBy v => { d with value := ((d.value : Int) + v).toNat, valid := true }
  | .select => d

/-- Apply one write that is due and complete its command with the LKT of the tick (04 R93). -/
def State.applyWrite (s : State) (w : TimeWrite) : State :=
  match w.op with
  | .select =>
    let same := s.time.active == w.dom
    let s := if same then s else s.switchTo w.dom 0
    s.completeOpt w.cmd stOK (b2n same) (s.lkt w.dom)
  | op =>
    let s := s.setDom w.dom ((s.dom w.dom).apply s.time.tick s.time.localC op)
    s.completeOpt w.cmd stOK 0 (s.lkt w.dom)

/-- A write is due. -/
def TimeWrite.due (w : TimeWrite) (tick : Nat) : Bool :=
  match w.eff with
  | some e => decide (e ≤ tick)
  | none => false

/-- TIME_WRITE_TAKES_EFFECT: the writes due at this tick are applied in the order of issue (04 R93). -/
def execTimeWriteTakesEffect (x : At) (s : State) : Host.Outcome State Fault Refusal :=
  let s := s.enter x
  let due := s.time.writes.filter fun w => w.due s.time.tick
  let s := { s with time := { s.time with writes := s.time.writes.filter fun w => !w.due s.time.tick } }
  let s := due.foldl State.applyWrite s
  .next (if due.isEmpty then s else s.checkAuto)

/-- A domain as a write issued now will find it: at its effect tick, the writes issued before it applied (04 R92, R93). A
word that waits across a tree pause is taken at the earliest tick it can have (log entry 57). -/
def State.atEffect (s : State) (d : Nat) : Domain :=
  let lead := s.leadTicks
  let r := (s.time.writes.filter fun w => w.dom == d).foldl (fun (v : Domain × Nat) w =>
    let n := match w.eff with
      | some e => e - s.time.tick
      | none => lead
    ((v.1.advance (n - v.2)).apply s.time.tick s.time.localC w.op, max v.2 n)) (s.dom d, 0)
  r.1.advance (lead - r.2)

/-- An offset keeps the domain within its range at the tick it takes effect (04 R92). -/
def State.stepFits (s : State) (d : Nat) (off : Int) : Bool :=
  let v := ((s.atEffect d).value : Int) + off
  decide (0 ≤ v) && decide (v < (2 ^ 64 * secU : Nat))

/-- TIME_READ: local, A and B latched at one tick (17 Table 17-6). -/
def execTimeRead (x : At) (qp tag : Nat) (_data : Option Bytes) (s : State) : Host.Outcome State Fault Refusal :=
  .next (s.run x qp tag 0x0201 fun s c => s.complete c.qp c.tag stOK 0 (s.lkt 0 ++ s.lkt 1 ++ s.lkt 2))

/-- TIME_INCR_SET: an increment of domain A or B is written (04 R91); it completes at its effect. -/
def execTimeIncrSet (x : At) (qp tag : Nat) (_data : Option Bytes) (s : State) :
    Host.Outcome State Fault Refusal :=
  .next (s.run x qp tag 0x0202 fun s c =>
    (s.issueWrite (fieldN c.params 0 1) (.incr (fieldN c.params 8 8)) (some (c.qp, c.tag))).setProg c.qp c.tag
      (.waiting 0 0))

/-- An offset of nanoseconds and 1/65,536 ns in counter units (04 R92). -/
def stepOffset (p : Bytes) : Int := (fieldS p 8 8 * 65536 + fieldN p 16 2) * 65536

/-- TIME_STEP: a domain is set or moved (04 R92); an offset that leaves the counter's range is refused. -/
def execTimeStep (x : At) (qp tag : Nat) (_data : Option Bytes) (s : State) : Host.Outcome State Fault Refusal :=
  .next (s.run x qp tag 0x0203 fun s c =>
    let d := fieldN c.params 0 1
    let wait := fun (s : State) => s.setProg c.qp c.tag (.waiting 0 0)
    if fieldN c.params 1 1 = 0 then
      wait (s.issueWrite d (.stepTo (lktVal (sliceB c.params 8 16))) (some (c.qp, c.tag)))
    else
      if !s.stepFits d (stepOffset c.params) then s.complete c.qp c.tag stBadParam 0 []
      else wait (s.issueWrite d (.stepBy (stepOffset c.params)) (some (c.qp, c.tag))))

/-- DOMAIN_SELECT: the active domain is switched as R93 gives; a domain never stepped is refused (04 R95). -/
def execDomainSelect (x : At) (qp tag : Nat) (_data : Option Bytes) (s : State) :
    Host.Outcome State Fault Refusal :=
  .next (s.run x qp tag 0x0204 fun s c =>
    let d := fieldN c.params 0 1
    if (s.dom d).valid then (s.issueWrite d .select (some (c.qp, c.tag))).setProg c.qp c.tag (.waiting 0 0)
    else s.complete c.qp c.tag stBadState 0 [])

/-! ### Holdover (04 R98) -/

/-- HOLDOVER_INTERVAL of a domain in counter units. -/
def State.holdInterval (s : State) (d : Nat) : Nat :=
  (if d = 2 then s.time.settings.holdoverB else s.time.settings.holdoverA) * nsU

/-- HOLDOVER_ENTRY: no increment write has taken effect for the interval, this tick's included (04 R98, R77). -/
def execHoldoverEntry (x : At) (dom : Nat) (s : State) : Host.Outcome State Fault Refusal :=
  let s := s.enter x
  let d := s.dom dom
  let now := s.time.writes.any fun w => w.due s.time.tick && w.dom == dom && (match w.op with
    | .incr _ => true
    | _ => false)
  .next (if s.time.running && (dom == 1 || dom == 2) && !d.holdover && !now &&
      decide (s.time.localC ≥ d.lastWrite + s.holdInterval dom) then
    (s.setDom dom { d with holdover := true }).checkAuto
    else s)

/-! ### Capture (04 R101 to R107) -/

/-- The super that carries an edge input (05 Table 5-4): TSI n in S(n/16, 1), PPS in in S(6,1). -/
def edgeSuper (i : Nat) : Nat := if i < 64 then 8 + i / 16 else 14

/-- TSI_EDGE: an edge on a TSI input or PPS in (04 R102); an edge within 8 ns of the last captured one is
counted as missed. -/
def execTsiEdge (x : At) (k input : Nat) (rising : Bool) (s : State) : Host.Outcome State Fault Refusal :=
  let s := s.enter x
  let i := s.capIn input
  .next (match i.owner with
    | none => s
    | some o =>
      if !(s.time.running && decide (input ≤ 64) && s.unsealed (edgeSuper input) && bitAt i.edges (if rising then 0 else 1))
      then s
      else
        let now := s.counterAt 0 (k % 64)
        let near := match i.last with
          | some l => decide (now < l + tickU)
          | none => false
        if near then s.setCapIn input { i with missed := sat16 (i.missed + 1) }
        else
          let r := s.capRec (if input < 64 then 0 else 1) (if input < 64 then input else 0) (b2n (!rising)) 0 i.seq
            i.missed 0 (k % 64)
          (s.setCapIn input { i with seq := i.seq + 1, last := some now, missed := 0 }).deliverRec input o now r)

/-- The input CAPTURE_ARM names: TSI 0 to 63, PPS in 64, sensor port p at 65 + p. -/
def capIndex (cls idx : Nat) : Nat := if cls = 0 then idx else if cls = 1 then 64 else 65 + idx

/-- The images on their way into use: being loaded or staged, staged, or in an armed commit. -/
def State.incoming (s : State) : List HiveImg :=
  (s.ep.loading.map Loading.img).toList ++ (s.ep.staged.image.map Prod.fst).toList ++
    ((s.ep.armed.bind fun a => a.set.image).map Prod.fst).toList

/-- An image on its way names an edge input for its stages (04 R105); one still being loaded counts as staged (log entry
57). -/
def State.stagedNames (s : State) (i : Nat) : Bool := s.incoming.any fun m => m.site.inputs.any fun e => e.1 == i

/-- CAPTURE_ARM: only the owner changes an input (04 R105). An input with no owner has none to keep it: OWN 0 on it answers
OK (DEDUCED, log entry 57). -/
def execCaptureArm (x : At) (qp tag : Nat) (_data : Option Bytes) (s : State) :
    Host.Outcome State Fault Refusal :=
  .next (s.run x qp tag 0x0205 fun s c =>
    let i := capIndex (fieldN c.params 0 1) (fieldN c.params 1 1)
    let v := s.capIn i
    let mine := match v.owner with
      | none => true
      | some o => o == .queue c.qp
    let take := fieldN c.params 3 1 == 1
    if !mine || (take && s.stagedNames i) then s.complete c.qp c.tag stBadState 0 []
    else
      let v := if take then
          { owner := some (.queue c.qp), edges := fieldN c.params 2 1, seq := 0, last := none, missed := 0 }
        else { owner := none, edges := 0, seq := 0, last := none, missed := 0 }
      (s.setCapIn i v).wakeUsed.complete c.qp c.tag stOK 0 [])

/-- CAPTURE_READ: the records at once, or a wait for one (04 R106, R107, 18 R464). -/
def execCaptureRead (x : At) (qp tag : Nat) (_data : Option Bytes) (s : State) :
    Host.Outcome State Fault Refusal :=
  .next (s.run x qp tag 0x0206 fun s c =>
    if fieldN c.params 2 1 = 0 ∨ !(s.capBuf c.qp).recs.isEmpty then s.readCaptures c
    else if (s.waitingRead c.qp 0x0206).isSome then s.complete c.qp c.tag stBadState 0 []
    else
      s.setProg c.qp c.tag (.waiting c.timeout.1 c.timeout.2))

/-- CAPTURE_SOFT: a software stamp of the doorbell interrupt, returned and buffered (04 R104). -/
def execCaptureSoft (x : At) (qp tag : Nat) (_data : Option Bytes) (s : State) :
    Host.Outcome State Fault Refusal :=
  .next (s.run x qp tag 0x0207 fun s c =>
    let n := tgetD s.cap.softSeq c.qp 0
    let r := s.capRec 5 c.qp 4 2 n 0 0 0
    let s := { s with cap := { s.cap with softSeq := tset s.cap.softSeq c.qp (n + 1) } }
    (s.pushRec c.qp s.time.localC r).complete c.qp c.tag stOK 0 r)

/-- PTP_READ: received PTP messages in host-assisted time servo mode (04 R116, 18 R468). -/
def execPtpRead (x : At) (qp tag : Nat) (_data : Option Bytes) (s : State) : Host.Outcome State Fault Refusal :=
  .next (s.run x qp tag 0x0208 fun s c =>
    let n := fieldN c.params 0 2
    let out := s.cap.ptp.take n
    { s with cap := { s.cap with ptp := s.cap.ptp.drop n } }.complete c.qp c.tag stOK 0 (catB out))

/-! ### PPS and the reference (04 R111, R112) -/

/-- The domain PPS_OUT is bound to may drive it: local, or stepped since the counters started. -/
def State.ppsValid (s : State) : Bool :=
  s.time.settings.ppsDomain == 0 || (s.dom s.time.settings.ppsDomain).valid

/-- The local instant at which PPS_OUT rises for a second: the 125 ps step of it, or the tick where a step carried the
counter past it (04 R111, R78). -/
def State.ppsInstant (s : State) (d sec : Nat) : Nat :=
  let inc := if d = 0 then nsU else (s.dom d).incr
  let past := s.counter d - sec * secU
  let stepped := match s.counterUnwritten d with
    | some v => decide (v < sec * secU)
    | none => false
  if !stepped && decide (past < 8 * inc) then s.time.localC - past * 8 / inc * capU else s.time.localC

/-- PPS_OUT_RISE: a whole second of the bound domain passed at this tick and has not been marked (04 R111).
Output 32 of the edge log is PPS_OUT. PPS_WIDTH is measured on the local counter (DESIGN CHOICE, log entry 57). -/
def execPpsOutRise (x : At) (s : State) : Host.Outcome State Fault Refusal :=
  let s := s.enter x
  let d := s.time.settings.ppsDomain
  let sec := s.counter d / secU
  let fresh := match s.time.ppsMarked with
    | some m => decide (m < sec)
    | none => true
  .next (if s.time.running && s.ppsValid && s.unsealed 15 && fresh && decide (s.counterPrev d / secU < sec) then
    let e : TsoEdge := { output := 32, op := 0, at_ := s.ppsInstant d sec, id := 16384 }
    { s with
      time := { s.time with ppsHigh := true, ppsMarked := some sec,
                            ppsFall := s.ppsInstant d sec + s.time.settings.ppsWidth * nsU }
      sched := { s.sched with tsoLog := s.sched.tsoLog ++ [e] } }
    else s)

/-- PPS_OUT goes low: with its super's region, or bound to a domain that is not valid. -/
def State.ppsLow (s : State) : State :=
  if s.time.ppsHigh then
    let e : TsoEdge := { output := 32, op := 1, at_ := s.time.localC, id := 16384 }
    { s with
      time := { s.time with ppsHigh := false }
      sched := { s.sched with tsoLog := s.sched.tsoLog ++ [e] } }
  else s

/-- PPS_OUT_FALL: PPS_WIDTH after its rising edge (04 R111). -/
def execPpsOutFall (x : At) (s : State) : Host.Outcome State Fault Refusal :=
  let s := s.enter x
  .next (if s.time.ppsHigh && decide (s.time.ppsFall < s.time.localC + tickU) then
    let e : TsoEdge := { output := 32, op := 1, at_ := s.time.ppsFall, id := 16384 }
    { s with
      time := { s.time with ppsHigh := false }
      sched := { s.sched with tsoLog := s.sched.tsoLog ++ [e] } }
    else s)

/-- REF_LOST: the selected 10 MHz reference is lost (04 R112). -/
def execRefLost (x : At) (s : State) : Host.Outcome State Fault Refusal :=
  let s := s.enter x
  .next (if s.time.running && s.time.settings.refExternal && s.time.refPresent && !s.time.refFree then
    { s with time := { s.time with refPresent := false, refFree := true } }.event 0x0C 0 0 0
    else s)

/-- REF_RELOCK: lock to the reference is reached again (04 R112). -/
def execRefRelock (x : At) (s : State) : Host.Outcome State Fault Refusal :=
  let s := s.enter x
  .next (if s.time.running && s.time.settings.refExternal && s.time.refFree then
    { s with time := { s.time with refPresent := true, refFree := false } }.event 0x0D 0 0 0
    else s)

end Sys2Proof.Machine
end

