-- ==== Sys2Proof/Machine/Sched.lean ====
section
/-! DEFINITION. Phase sources and the schedule (03): the events of a source, stalls, arming and cancelling of
entries, timed outputs. -/

namespace Sys2Proof.Machine

/-! ### Events of a source (03 R58 to R68) -/

/-- The phase of an accumulated count (03 R59). -/
def countPhase (n : Int) (units : Nat) : Nat :=
  if units = 0 then 0
  else phaseAdd 0 (n / (units : Int) * 65536 + n % (units : Int) * 65536 / (units : Int))

/-- An extrapolation from an event at a rate, one ph short of the next expected event (03 R62). -/
def extrapFrom (phase stamp : Nat) (num : Int) (den fwd bwd : Nat) : Extrap :=
  { phase := phase, stamp := stamp, num := num, den := den, limit := some ((if num ≥ 0 then fwd else bwd) - 1) }

/-- An event's phase, with what an earlier recovery added to it (03 R68; log entry 31). -/
def Source.evPhase (p : Source) (e : PhaseEv) : Nat := (e.phase + p.adj) % phaseMod

/-- The measured phase of the first event after a SYNTH stall (03 R68): an encoder's own, else the event's
fraction with the cycle that puts it within half a cycle of the synthetic phase. -/
def recoveredPhase (encoder : Bool) (phase synth : Nat) : Nat :=
  if encoder then phase else phaseAdd synth ((dphase phase synth + 32768) % 65536 - 32768)

/-- The rate an event sets (03 R62); a Z edge leaves it, and the first count sets none. An event stamped at or before the
stamp the rate is measured from leaves the rate as it is: R62 gives none for such an interval (DESIGN CHOICE, log entry
56). -/
def Source.rateOf (p : Source) (phase : Nat) (e : PhaseEv) : Int × Nat :=
  if e.zEdge ∨ !p.rated ∨ e.stamp ≤ p.rateStamp then (p.rateNum, p.rateDen)
  else (dphase phase p.ratePhase, e.stamp - p.rateStamp)

/-- A source after an event reaches its phase unit at a tick (03 R60, R62, R65, R68); `now` is its phase at
that tick. -/
def Source.apply (p : Source) (e : PhaseEv) (tick localC now : Nat) : Source :=
  let synth := p.st == .stalledSynth
  let held := p.st == .stalledHold
  let raw := p.evPhase e
  let phase := if synth then recoveredPhase e.encoder raw now else raw
  let r := p.rateOf phase e
  let moving := extrapFrom phase e.stamp r.1 r.2 e.fwd e.bwd
  let still := Extrap.fixed phase
  let free := match p.heldAt with
    | some h => decide (dphase (p.measured tick localC) h ≥ 0)
    | none => true
  { p with
    seen := p.seen + 1
    st := if p.seen + 1 < 2 then .starting else .running
    old := if p.effTick = tick then p.old else p.cur
    cur := if held || p.seen = 0 then still else moving
    effTick := tick
    lastEvent := e.stamp
    stampA := e.stampA
    stampB := e.stampB
    ratePhase := if e.zEdge then phaseAdd p.ratePhase e.zCorr else phase
    rateStamp := if e.zEdge then p.rateStamp else e.stamp
    rated := p.rated || !e.zEdge
    adj := phaseAdd p.adj (dphase phase raw)
    rateNum := r.1
    rateDen := r.2
    heldAt := if synth then (if dphase phase now > 0 then none else some now)
      else if free then none else p.heldAt }

/-- Only an encoder may move back: another source's event at or behind its last used one is not used (03
R64). -/
def Source.uses (p : Source) (e : PhaseEv) : Bool :=
  p.st != .disabled && (e.encoder || p.seen == 0 || decide (dphase (p.evPhase e) p.ratePhase > 0))

/-- An event's phase tick reaches every super (03 R62, R63). -/
def State.applyEvent (s : State) (e : PhaseEv) : State :=
  if (s.source e.src).uses e then
    let now := s.phase e.src
    s.modSource e.src fun p => p.apply e s.time.tick s.time.localC now
  else s

/-- An event of a source: applied, or its phase tick waits across a tree pause (05 R139). -/
def State.phaseEvent (s : State) (e : PhaseEv) : State :=
  if s.wafer.pause.isSome then { s with sched := { s.sched with waiting := s.sched.waiting ++ [e] } }
  else s.applyEvent e

/-- The super that measures an encoder input (05 Table 5-4). -/
def encSuper (i : Nat) : Nat := if i ≤ 4 then 14 else 15

/-- An edge within 20 ns of the last accepted one on its line is ignored (03 R59). -/
def tooSoon (last : Option Nat) (now : Nat) : Bool :=
  match last with
  | some l => decide (now < l + 20 * nsU)
  | none => false

/-- The direction of a quadrature transition: (0,0) (1,0) (1,1) (0,1) is forward (03 R59). -/
def quadDir (a b a' b' : Bool) : Int :=
  if a != a' && b != b' then 0
  else if a != a' then (if a' == b then -1 else 1)
  else if b != b' then (if b' == a then 1 else -1)
  else 0

/-- The event of encoder source `i` after a move of its count. -/
def State.encEvent (s : State) (i k : Nat) (n old : Int) (z : Bool) : PhaseEv :=
  let u := (s.source i).defn.units
  { src := i, phase := countPhase n u, stamp := s.counterAt 0 k, stampA := s.lktAt 1 k 0 false false,
    stampB := s.lktAt 2 k 0 false false, zEdge := z, zCorr := dphase (countPhase n u) (countPhase old u),
    fwd := (dphase (countPhase (n + 1) u) (countPhase n u)).toNat,
    bwd := (dphase (countPhase n u) (countPhase (n - 1) u)).toNat, encoder := true }

/-- Move the count of encoder source `i` and make its event. -/
def State.moveCount (s : State) (i k : Nat) (d : Int) (z : Bool) : State :=
  let o := (s.source i).count
  let e := s.encEvent i k (o + d) o z
  (s.modSource i fun p => { p with count := o + d }).phaseEvent e

/-- The encoder sources on an input. -/
def State.encSources (s : State) (input : Nat) : List Nat :=
  (List.range 16).filter fun i => (s.source i).defn.kind == 1 && (s.source i).defn.origin == input &&
    (s.source i).st != .disabled

/-- An encoder input. -/
def State.encIn (s : State) (i : Nat) : EncIn := s.sched.enc.getD i EncIn.blank

/-- Replace an encoder input. -/
def State.setEnc (s : State) (i : Nat) (v : EncIn) : State :=
  { s with sched := { s.sched with enc := lmod s.sched.enc i fun _ => v } }

/-- The engine measures an encoder input (05 R126). -/
def State.measures (s : State) (input : Nat) : Bool :=
  s.time.running && decide (input < 8) && s.unsealed (encSuper input)

/-- An encoder input as its pins become (a, b) at an instant: an edge is a change of a pin, and one ignored leaves the level
held for its line (03 R59). -/
def EncIn.step (e : EncIn) (a b : Bool) (now : Nat) : EncIn :=
  let da := e.pinA != a && !tooSoon e.lastA now
  let db := e.pinB != b && !tooSoon e.lastB now
  { e with
    a := if da then a else e.a, b := if db then b else e.b, pinA := a, pinB := b
    lastA := if da then some now else e.lastA, lastB := if db then some now else e.lastB }

/-- ENCODER_COUNT: the pins of an input become (a, b) (03 R59). A transition in which both held levels change counts nothing;
the levels follow it (log entry 15), and those of an input not measured follow its pins. -/
def execEncoderCount (x : At) (k input : Nat) (a b : Bool) (s : State) : Host.Outcome State Fault Refusal :=
  let s := s.enter x
  let e := s.encIn input
  let v := e.step a b (s.counterAt 0 (k % 64))
  .next (if !s.measures input then s.setEnc input { e with a := a, b := b, pinA := a, pinB := b }
    else
      let s := s.setEnc input v
      let d := quadDir e.a e.b v.a v.b
      if d = 0 then s
      else (s.encSources input).foldl (fun s i =>
        s.moveCount i (k % 64) (if (s.source i).defn.invert then -d else d) false) s)

/-- The correction of a Z edge: to the nearest value congruent to Z_OFFSET, half a cycle taken forward (03
R59). -/
def zDelta (n : Int) (zOff units : Nat) : Int :=
  let d := ((zOff : Int) - n) % (units : Int)
  if 2 * d > (units : Int) then d - units else d

/-- ENCODER_Z_EDGE: an accepted Z edge corrects N and is an event (03 R59). -/
def execEncoderZEdge (x : At) (k input : Nat) (level : Bool) (s : State) : Host.Outcome State Fault Refusal :=
  let s := s.enter x
  let e := s.encIn input
  let now := s.counterAt 0 (k % 64)
  .next (if !s.measures input then s.setEnc input { e with z := level, pinZ := level }
    else if e.pinZ == level || tooSoon e.lastZ now then s.setEnc input { e with pinZ := level }
    else
      let s := s.setEnc input { e with z := level, pinZ := level, lastZ := some now }
      (s.encSources input).foldl (fun s i =>
        let d := (s.source i).defn
        if d.zUse then s.moveCount i (k % 64) (zDelta (s.source i).count d.zOffset d.units) true else s) s)

/-- A source after its stall begins (03 R65 to R67). -/
def Source.stalled (p : Source) (tick now : Nat) : Source :=
  if p.defn.synth then { p with
    st := .stalledSynth, old := if p.effTick = tick then p.old else p.cur, effTick := tick - 1,
    cur := { p.cur with limit := none } }
  else { p with
    st := .stalledHold, old := if p.effTick = tick then p.old else p.cur, effTick := tick, cur := Extrap.fixed now,
    heldAt := none }

/-- The events waiting for their phase tick that a source will use, in order (03 R64). -/
def Source.willUse (p : Source) (es : List PhaseEv) : List PhaseEv :=
  match es with
  | [] => []
  | e :: r => if p.uses e then e :: { p with seen := p.seen + 1, ratePhase := p.evPhase e }.willUse r else p.willUse r

/-- SOURCE_STALL: no event has been stamped for STALL_TIME, nor any that waits for its phase tick and will be used (03 R64,
R65). -/
def execSourceStall (x : At) (src : Nat) (s : State) : Host.Outcome State Fault Refusal :=
  let s := s.enter x
  let p := s.source src
  .next (if s.time.running && p.st == .running && p.defn.kind != 4 &&
      decide (s.time.localC ≥ p.lastEvent + p.defn.stall) &&
      (p.willUse (s.sched.waiting.filter fun e => e.src == src)).all (fun e =>
        decide (s.time.localC ≥ e.stamp + p.defn.stall)) then
    s.modSource src fun p => p.stalled s.time.tick (s.phase src)
    else s)

/-- A source as its definition takes effect (03 R59, R60). -/
def SourceDef.start (d : SourceDef) (tick localC : Nat) : Source :=
  { Source.blank with
    defn := d, st := if d.kind = 0 then .disabled else if d.kind = 4 then .running else .starting,
    effTick := tick, lastEvent := localC }

/-! ### Reading sources and staging definitions -/

/-- SFLAGS (03 Table 3-4). -/
def State.sflags (s : State) (i : Nat) : Nat :=
  let p := s.source i
  b2n (p.rateNum < 0 && p.defn.kind == 1) + 2 * b2n (match p.heldAt with
    | some h => decide (dphase (p.measured s.time.tick s.time.localC) h < 0)
    | none => false)

/-- RATE in 1/65,536 ph per second (03 Table 3-4), truncated toward zero: the table gives no rounding (DESIGN CHOICE, log
entry 56). -/
def State.rate (s : State) (i : Nat) : Int :=
  let p := s.source i
  if p.defn.kind = 4 then (65536 * 65536 * 65536 * 1000000000 : Int).tdiv p.defn.period
  else match p.st with
    | .running => if p.rateDen = 0 then 0 else (p.rateNum * secU * 65536).tdiv p.rateDen
    | .stalledSynth => if p.rateDen = 0 then 0 else (p.rateNum * secU * 65536).tdiv p.rateDen
    | _ => 0

/-- STATE's code (03 Table 3-4). -/
def SrcState.code : SrcState → Nat
  | .disabled => 0
  | .starting => 1
  | .running => 2
  | .stalledHold => 3
  | .stalledSynth => 4

/-- A source status record (03 Table 3-4). -/
def State.srcStatus (s : State) (i : Nat) : Bytes :=
  let p := s.source i
  toLE 6 (s.phase i) ++ toLE 1 p.st.code ++ toLE 1 (s.sflags i) ++ toLEs 8 (s.rate i) ++
    (if p.defn.kind = 4 then List.replicate 16 0 else if s.time.active = 2 then p.stampB else p.stampA)

/-- PHASE_READ: the status of the requested sources at one tick (03 R81). -/
def execPhaseRead (x : At) (qp tag : Nat) (_data : Option Bytes) (s : State) : Host.Outcome State Fault Refusal :=
  .next (s.run x qp tag 0x020A fun s c =>
    let m := fieldN c.params 0 2
    s.complete c.qp c.tag stOK 0 (catB (((List.range 16).filter fun i => bitAt m i).map s.srcStatus)))

/-- A host-owned entry on a source is armed or about to be (03 R80). -/
def State.hostArmedOn (s : State) (src : Nat) : Bool :=
  s.sched.entries.any fun e => e.2.tkind == 0 && e.2.src == src && e.2.owner != .image &&
    (e.2.st == .armed || e.2.st == .arming || e.2.st == .held)

/-- Change the staged set. -/
def State.stage (s : State) (f : StagedSet → StagedSet) : State :=
  { s with ep := { s.ep with staged := f s.ep.staged } }

/-- SOURCE_DEFINE: a definition is staged; refused while a host entry on the source is armed (03 R80). -/
def execSourceDefine (x : At) (qp tag : Nat) (_data : Option Bytes) (s : State) :
    Host.Outcome State Fault Refusal :=
  .next (s.run x qp tag 0x0209 fun s c =>
    let i := fieldN c.params 0 1
    if s.hostArmedOn i then s.complete c.qp c.tag stBadState 0 []
    else (s.stage fun t => { t with sources := tset t.sources i (parseSource (sliceB c.params 8 48)) }).wakeUsed.complete
      c.qp c.tag stOK 0 [])

/-! ### Arming and cancelling (03 R72, R73, R75, R76, R82) -/

/-- A schedule entry, free when never armed. -/
def State.entry (s : State) (id : Nat) : Option Entry := tget s.sched.entries id

/-- Replace a schedule entry. -/
def State.setEntry (s : State) (id : Nat) (e : Entry) : State :=
  { s with sched := { s.sched with entries := tset s.sched.entries id e } }

/-- An entry may be allocated: free, or fired and disarmed (03 R73). -/
def State.entryFree (s : State) (id : Nat) : Bool :=
  match s.entry id with
  | none => true
  | some e => e.st == .free || e.st == .fired

/-- The first k of the host reserve, within the reserves of every image on its way too (02 R42, 03 R73, R86). -/
def State.reserveFrom (s : State) : Nat :=
  s.incoming.foldl (fun h m => max h (256 - m.hostEntries)) (256 - s.ep.hostEntries)

/-- The lowest free entry of a super's host reserve. -/
def State.allocIn (s : State) (sup : Nat) : Option Nat :=
  ((List.range 256).find? fun k => decide (s.reserveFrom ≤ k) && s.entryFree (256 * sup + k)).map (256 * sup + ·)

/-- The supers that can carry an action: a timed output's, or its buffer's port's own super, else any (03 R72, R73, 09
R236, 16 R421). An empty buffer names no port, and no super carries it (DEDUCED, log entry 28). -/
def State.carriers (s : State) (action arg : Nat) : List Nat :=
  match action with
  | 3 => [tsoSuper (bitsOf arg 4 0)]
  | 4 => match tget s.agent.bufs arg with
    | some b => [agentSuper b.port]
    | none => []
  | 5 => match tget s.link.bufs arg with
    | some b => [spSuper b.port]
    | none => []
  | _ => List.range 64

/-- Allocate an entry for SUPER (0xFF any): its id, or the status that refuses it (03 R73). -/
def State.allocEntry (s : State) (sup action arg : Nat) : Except Nat Nat :=
  if sup = 255 then
    let us := (s.carriers action arg).filter s.unsealed
    if us.isEmpty then .error (if (s.carriers action arg).isEmpty then stNoResource else stSealed)
    else match us.findSome? s.allocIn with
      | some id => .ok id
      | none => .error stNoResource
  else if !s.unsealed sup then .error stSealed
  else match s.allocIn sup with
    | some id => .ok id
    | none => .error stNoResource

/-- A relative target: cycles and ph as one number, or ns and 1/65,536 ns (03 R75). -/
def relTarget (p : Bytes) : Int := fieldS p 48 8 * 65536 + fieldN p 56 2

/-- SCHED_ARM: allocates an entry at acceptance and arms it (03 R73, R75, R76); it completes when the arming
takes effect. -/
def execSchedArm (x : At) (qp tag : Nat) (_data : Option Bytes) (s : State) : Host.Outcome State Fault Refusal :=
  .next (s.run x qp tag 0x020B fun s c =>
    let e := parseEntry (sliceB c.params 16 32)
    let st := (s.source e.src).st
    let sup := fieldN c.params 0 1
    if sup < 64 ∧ !(s.carriers e.action e.arg).contains sup then s.complete c.qp c.tag stBadParam 0 []
    else if e.tkind = 0 ∧ st = .disabled then s.complete c.qp c.tag stBadState 0 []
    else match s.allocEntry (fieldN c.params 0 1) e.action e.arg with
      | .error n => s.complete c.qp c.tag n 0 []
      | .ok id =>
        let e := { e with
          st := if e.tkind = 0 ∧ st = .starting then .held else .arming, owner := .queue c.qp,
          rel := if fieldN c.params 8 1 = 1 then some (relTarget c.params) else none, tick := s.time.tick,
          cmd := some (c.qp, c.tag) }
        ((s.setEntry id e).wakeUsed).setProg c.qp c.tag (.waiting id 0))

/-- The result of SCHED_ARM: the entry id (18 Table 18-4). -/
def armResult (id : Nat) : Bytes := toLE 2 id ++ toLE 6 0

/-- SCHED_CANCEL (03 R73). -/
def execSchedCancel (x : At) (qp tag : Nat) (_data : Option Bytes) (s : State) : Host.Outcome State Fault Refusal :=
  .next (s.run x qp tag 0x020C fun s c =>
    let id := fieldN c.params 0 2
    match s.entry id with
    | none => s.complete c.qp c.tag (if s.unsealed (id / 256) then stBadState else stSealed) 0 []
    | some e =>
      if !s.unsealed (id / 256) then s.complete c.qp c.tag stSealed 0 []
      else if e.owner ≠ .queue c.qp ∨ e.action = 6 then s.complete c.qp c.tag stBadState 0 []
      else match e.st with
        | .armed => (s.setEntry id { e with st := .free }).complete c.qp c.tag stOK 0 []
        | .arming => ((s.setEntry id { e with st := .free, cmd := none }).completeOpt e.cmd stBadState 0 []).complete
            c.qp c.tag stOK 0 []
        | .held => ((s.setEntry id { e with st := .free, cmd := none }).completeOpt e.cmd stBadState 0 []).complete
            c.qp c.tag stOK 0 []
        | .fired => s.complete c.qp c.tag stOK 1 []
        | .free => s.complete c.qp c.tag stBadState 0 [])

/-- SCHED_READ: an entry with absolute targets, from any queue pair (03 R82). -/
def execSchedRead (x : At) (qp tag : Nat) (_data : Option Bytes) (s : State) : Host.Outcome State Fault Refusal :=
  .next (s.run x qp tag 0x020D fun s c =>
    let id := fieldN c.params 0 2
    if !s.unsealed (id / 256) then s.complete c.qp c.tag stSealed 0 []
    else match s.entry id with
      | none => s.complete c.qp c.tag stOK 0 (List.replicate 32 0)
      | some e =>
        if e.st = .free ∨ e.st = .fired then s.complete c.qp c.tag stOK 0 (List.replicate 32 0)
        else s.complete c.qp c.tag stOK (b2n (e.st == .held)) e.bytes)

/-! ### Timed outputs (03 R78, R79) -/

/-- A timed output. -/
def State.tso (s : State) (o : Nat) : Tso := s.sched.tso.getD o { level := false, due := [], trails := [] }

/-- Change a timed output. -/
def State.modTso (s : State) (o : Nat) (f : Tso → Tso) : State :=
  { s with sched := { s.sched with tso := lmod s.sched.tso o f } }

/-- The level an edge leaves. -/
def TsoEdge.on (e : TsoEdge) (level : Bool) : Bool := if e.op = 0 then true else if e.op = 1 then false else !level

/-- An edge is applied before another one decided later: at an earlier instant, or at the same one by an entry id not above
its (R79). -/
def TsoEdge.before (a b : TsoEdge) : Bool := decide (a.at_ < b.at_) || (a.at_ == b.at_ && decide (a.id ≤ b.id))

/-- Put an edge in the place in which it is applied. -/
def putEdge (l : List TsoEdge) (e : TsoEdge) : List TsoEdge :=
  l.takeWhile (fun a => a.before e) ++ e :: l.dropWhile fun a => a.before e

/-- The level of an output at a local instant: every edge decided up to it applied. -/
def Tso.levelAt (t : Tso) (at_ : Nat) : Bool :=
  (t.due.filter fun e => decide (e.at_ ≤ at_)).foldl (fun l e => e.on l) t.level

/-- An output whose edges before an instant are past. -/
def Tso.settle (t : Tso) (now : Nat) : Tso :=
  { t with level := (t.due.filter fun e => decide (e.at_ < now)).foldl (fun l e => e.on l) t.level
           due := t.due.filter fun e => decide (now ≤ e.at_) }

/-- Decide an edge of an output. -/
def State.edge (s : State) (e : TsoEdge) : State :=
  let s := s.modTso e.output fun t => { t.settle s.time.localC with due := putEdge (t.settle s.time.localC).due e }
  { s with sched := { s.sched with tsoLog := s.sched.tsoLog ++ [e] } }

/-- Carry out a TSO operation for an entry: 0 high, 1 low, 2 toggle, 3 pulse (03 Table 3-2, R78). -/
def State.drive (s : State) (id o op width at_ : Nat) : State :=
  let s := s.edge { output := o, op := if op = 3 then 0 else op, at_ := at_, id := id }
  if op = 3 then
    s.modTso o fun t => { t with trails := putEdge t.trails { output := o, op := 1, at_ := at_ + width * tickU, id := id } }
  else s

/-- An output goes low with its region. -/
def State.outputLow (s : State) (o : Nat) : State :=
  let now := s.time.localC
  let s := if (s.tso o).levelAt now then s.edge { output := o, op := 1, at_ := now, id := 16384 } else s
  s.modTso o fun _ => { level := false, due := [], trails := [] }

/-- The lead of a timed output, 24 ns (03 R78). -/
def tsoLead : Nat := 3 * tickU

/-- PULSE_TRAILING_EDGE: PULSE_WIDTH after its leading edge the output is driven low, the earliest trailing edge first (03
R78). -/
def execPulseTrailingEdge (x : At) (output : Nat) (s : State) : Host.Outcome State Fault Refusal :=
  let s := s.enter x
  .next (match (s.tso output).trails with
    | [] => s
    | e :: r => if e.at_ < s.time.localC + tickU then (s.edge e).modTso output fun v => { v with trails := r } else s)

/-- TSO_FIRE_NOW: a LATE_FIRE edge, 24 ns after acceptance, after those of the entries of that tick (03 R79). -/
def execTsoFireNow (x : At) (qp tag : Nat) (_data : Option Bytes) (s : State) : Host.Outcome State Fault Refusal :=
  .next (s.run x qp tag 0x020E fun s c =>
    let o := fieldN c.params 0 1
    if !s.unsealed (tsoSuper o) then s.complete c.qp c.tag stSealed 0 []
    else (s.drive 16384 o (fieldN c.params 1 1) (fieldN c.params 4 4) (s.time.localC + tsoLead)).complete c.qp c.tag stOK 0
      [])

end Sys2Proof.Machine
end

