-- ==== Sys2Proof/Machine/Arm.lean ====
section
/-! DEFINITION. Arming of the hive image's entries and the late test of a target (03 R57, R74, R75, R85). -/

namespace Sys2Proof.Machine

/-- A domain's counter in 1/65,536 ns. -/
def State.fineCounter (s : State) (d n : Nat) : Nat := s.counterAhead d n / 65536

/-- How far the phase or time `n` ticks ahead is past an entry's target: ph, or 1/65,536 ns (03 R75). -/
def State.lateness (s : State) (e : Entry) (n : Nat) : Int :=
  if e.tkind = 0 then dphase (s.phaseAhead e.src n) e.target
  else ((s.fineCounter (e.tkind - 1) n : Nat) : Int) - e.target

/-- A target is at or behind the phase or time `n` ticks ahead (03 R75). -/
def State.targetPast (s : State) (e : Entry) (n : Nat) : Bool := decide (0 ≤ s.lateness e n)

/-- The first cycle of a source that begins after this tick, in ph (03 R74). -/
def State.nextCycle (s : State) (i : Nat) : Nat :=
  let p := s.source i
  if p.defn.kind != 4 && p.seen == 0 then 0
  else if p.st = .starting then 65536
  else (s.phase i / 65536 + 1) * 65536

/-- An image entry as the commit arms it: relative targets from the commit (03 R74). -/
def State.armedEntry (s : State) (e : Entry) : Entry :=
  { e with
    st := .armed, owner := .image, rel := none, seq := 0, tick := s.time.tick, cmd := none,
    target := if e.tkind = 0 then (e.target + s.nextCycle e.src) % phaseMod
      else e.target + s.fineCounter (e.tkind - 1) 0 }

/-- Arm the image's entries on a binding (03 R74, R84): the k-th entry of logical super L is entry k of its super.
An entry whose output or buffer's port its super does not carry is not accepted (R72, 09 R236). -/
def State.armEntries (s : State) (blocks : List (List Entry)) (binding : List Nat) : State :=
  (List.range blocks.length).foldl (fun s l =>
    let es := blocks.getD l []
    let sup := binding.getD l 64
    if sup ≥ 64 then s
    else (List.range es.length).foldl (fun s k =>
      match es[k]? with
      | some e => if (s.carriers e.action e.arg).contains sup then s.setEntry (256 * sup + k) (s.armedEntry e) else s
      | none => s) s) s

/-- Disarm the image's entries (03 R85). -/
def State.disarmImage (s : State) : State :=
  { s with sched := { s.sched with entries := s.sched.entries.map fun e =>
      if e.2.owner = .image ∧ e.2.st ≠ .free then (e.1, { e.2 with st := .free }) else e } }

/-- An EPOCH_COMMIT entry whose super was sealed is armed again in the lowest free host-reserve entry; with its target
past, or with none free, it is not (19 R477, R492). -/
def State.rearmCommit (s : State) (e : Entry) : Option (Nat × State) :=
  if s.targetPast e 8 then none
  else match s.allocEntry 255 6 0 with
    | .ok id => some (id, s.setEntry id e)
    | .error _ => none

end Sys2Proof.Machine
end

