-- ==== Sys2Proof/Machine/Bind.lean ====
section
/-! DEFINITION. Placements and their binding to physical supers (02 R48 to R50, 06 R155). -/

namespace Sys2Proof.Machine

/-- A physical super is unsealed and meets a logical super's cell and keeper requirements (02 R48 step 1, 06 R155). -/
def State.meetsCore (s : State) (q : LogReq) (p : Nat) : Bool :=
  s.unsealed p && (List.range q.cells).all (fun l => (s.super p).remap.getD l 255 != 255) &&
    decide (q.keepers ≤ popcount (s.super p).keepers)

/-- It also has the row's store where the logical super is store-bound (02 R48 step 2, 08 R212; log entry 22). -/
def State.meetsReq (s : State) (q : LogReq) (p : Nat) : Bool :=
  s.meetsCore q p && (!q.storeBound || ((s.row (p / 8)).serving && !bitAt s.summary.lostBundles p))

/-- Bind the pinned logical supers (02 R48 step 1). -/
def State.bindPinned (s : State) (reqs : List LogReq) : Option (List (Nat × Nat)) :=
  (List.range reqs.length).foldl (fun acc i =>
    match acc, reqs[i]? with
    | some b, some q =>
      if !q.pinned then some b
      else if s.meetsCore q q.phys then some (tset b i q.phys)
      else none
    | _, _ => none) (some [])

/-- Bind the free logical supers, each to the lowest physical super that meets it (02 R48 step 2). -/
def State.bindFree (s : State) (reqs : List LogReq) (b0 : List (Nat × Nat)) : Option (List (Nat × Nat)) :=
  (List.range reqs.length).foldl (fun acc i =>
    match acc, reqs[i]? with
    | some b, some q =>
      if q.pinned then some b
      else match firstBelow 64 fun p => s.meetsReq q p && bitAt q.rowMask (p / 8) && !(b.any fun e => e.2 == p) with
        | some p => some (tset b i p)
        | none => none
    | _, _ => none) (some b0)

/-- The binding of a placement, where it fits (02 R48): the physical super of each logical super. -/
def State.bindPlacement (s : State) (reqs : List LogReq) : Option (List Nat) :=
  (s.bindPinned reqs).bind fun b => (s.bindFree reqs b).map fun l => l.map Prod.snd

/-- The lowest-indexed placement from `first` on that fits, and its binding (02 R49, R50). -/
def State.choosePlacement (s : State) (m : HiveImg) (first : Nat) : Option (Nat × List Nat) :=
  (List.range m.placements.length).findSome? fun i =>
    if i < first then none else (s.bindPlacement (m.placements.getD i [])).map fun b => (i, b)

/-- The placement in use still fits under its current binding (02 R50). -/
def State.stillFits (s : State) : Bool :=
  match s.ep.image with
  | none => true
  | some m =>
    let reqs := m.placements.getD s.ep.placement []
    (List.range reqs.length).all fun i =>
      match reqs[i]? with
      | some q => s.meetsReq q (s.ep.binding.getD i 64)
      | none => true

end Sys2Proof.Machine
end

