-- ==== Sys2Proof/Machine/Fabric.lean ====
section
/-! DEFINITION. The comb fabric: blocks of sealed supers and enclosures (05 R132, R133), router ports and the path of a
transfer (05 R129 to R132). -/

namespace Sys2Proof.Machine

/-! ### Blocks of sealed supers (05 R132, R133) -/

/-- Supers are neighbours, diagonals included. -/
def near (p q : Nat) : Bool :=
  decide (p % 8 ≤ q % 8 + 1) && decide (q % 8 ≤ p % 8 + 1) && decide (p / 8 ≤ q / 8 + 1) && decide (q / 8 ≤ p / 8 + 1)

/-- The 8-adjacency group of a set reached from some of its members. -/
def groupOf (set : List Nat) : Nat → List Nat → List Nat
  | 0, g => g
  | f + 1, g => groupOf set f (set.filter fun p => g.contains p || g.any (near p))

/-- The bounding rectangle of a group: columns and rows. -/
structure Rect where
  x0 : Nat
  x1 : Nat
  y0 : Nat
  y1 : Nat
deriving DecidableEq, Repr

/-- The block of the group that holds a super. -/
def rectOf (set : List Nat) (p : Nat) : Rect :=
  let g := groupOf set 64 [p]
  { x0 := g.foldl (fun m q => min m (q % 8)) 7, x1 := g.foldl (fun m q => max m (q % 8)) 0,
    y0 := g.foldl (fun m q => min m (q / 8)) 7, y1 := g.foldl (fun m q => max m (q / 8)) 0 }

/-- A super lies inside a block. -/
def Rect.holds (b : Rect) (p : Nat) : Bool :=
  decide (b.x0 ≤ p % 8) && decide (p % 8 ≤ b.x1) && decide (b.y0 ≤ p / 8) && decide (p / 8 ≤ b.y1)

/-- Of two sides, the supers of the one with fewer unsealed supers; on a tie the first is kept. -/
def lesser (set side1 side2 : List Nat) : List Nat :=
  let n := fun (l : List Nat) => (l.filter fun p => !set.contains p).length
  if n side1 < n side2 then side1 else side2

/-- What a block cuts off: supers inside it, and the lesser side of one that spans the wafer (05 R133). -/
def Rect.cuts (b : Rect) (set : List Nat) : List Nat :=
  let all := List.range 64
  (all.filter b.holds) ++
    (if b.y0 = 0 ∧ b.y1 = 7 then
      lesser set (all.filter fun p => decide (p % 8 < b.x0)) (all.filter fun p => decide (b.x1 < p % 8)) else []) ++
    (if b.x0 = 0 ∧ b.x1 = 7 then
      lesser set (all.filter fun p => decide (p / 8 < b.y0)) (all.filter fun p => decide (b.y1 < p / 8)) else [])

/-- A set of sealed supers with every enclosure it causes. -/
def closeSet : Nat → List Nat → List Nat
  | 0, set => set
  | f + 1, set =>
    let cut := (set.map fun p => (rectOf set p).cuts set).flatten
    closeSet f ((List.range 64).filter fun p => set.contains p || cut.contains p)

/-- The enclosures of a set of sealed supers, ascending. -/
def enclosures (set : List Nat) : List Nat := (closeSet 64 set).filter fun p => !set.contains p

/-! ### Sites, ports and paths (05 R120, R129 to R132) -/

/-- A site by its global column and row. -/
structure Site where
  x : Nat
  y : Nat
deriving DecidableEq, Repr

/-- The site of a global cell id. -/
def siteOf (g : Nat) : Site := { x := 12 * (g / 144 % 8) + g % 12, y := 12 * (g / 144 / 8) + g % 144 / 12 }

/-- The super a site lies in. -/
def Site.sup (p : Site) : Nat := 8 * (p.y / 12) + p.x / 12

/-- The global cell id of a site. -/
def Site.cell (p : Site) : Nat := 144 * p.sup + 12 * (p.y % 12) + p.x % 12

/-- The ports of a site's router (R129); south is toward higher rows, east toward higher columns (05, worked case). -/
inductive Port where
  | north | south | east | west | here
deriving DecidableEq, Repr

/-- The port by which a transfer leaves a site for the next. -/
def portTo (p q : Site) : Port :=
  if p.x < q.x then .east else if q.x < p.x then .west else if p.y < q.y then .south else if q.y < p.y then .north else .here

/-- A hop: the site reached, and whether it is made on the detours' virtual channel (R131). -/
structure Hop where
  to_ : Site
  detour : Bool
deriving DecidableEq, Repr

/-- One closer to a coordinate. -/
def nearer (c t : Nat) : Nat := if c < t then c + 1 else c - 1

/-- A site's router is gated (05 Table 5-3). -/
def PathBasis.gone (b : PathBasis) (p : Site) : Bool := b.dead.contains p.cell

/-- One move along a row toward another column. A dead site is passed by the row above, or from row 11 below; one that ends
the leg is left aside (R131). -/
def PathBasis.rowMove (b : PathBasis) (p : Site) (t : Nat) : List Hop :=
  let n : Site := { p with x := nearer p.x t }
  if !b.gone n then [{ to_ := n, detour := false }]
  else
    let y := if p.y % 12 = 11 then p.y - 1 else p.y + 1
    let m := nearer n.x t
    [{ to_ := { p with y := y }, detour := true }, { to_ := { x := n.x, y := y }, detour := true }] ++
      (if n.x = t then [] else [{ to_ := { x := m, y := y }, detour := true }, { to_ := { x := m, y := p.y }, detour := true }])

/-- One move along a column toward another row; a dead site is passed on the right, or from column 11 on the left (R131). -/
def PathBasis.colMove (b : PathBasis) (p : Site) (t : Nat) : List Hop :=
  let n : Site := { p with y := nearer p.y t }
  if !b.gone n then [{ to_ := n, detour := false }]
  else
    let x := if p.x % 12 = 11 then p.x - 1 else p.x + 1
    let m := nearer n.y t
    [{ to_ := { p with x := x }, detour := true }, { to_ := { x := x, y := n.y }, detour := true }] ++
      (if n.y = t then [] else [{ to_ := { x := x, y := m }, detour := true }, { to_ := { x := p.x, y := m }, detour := true }])

/-- The block a site lies in (R132). -/
def PathBasis.blockAt (b : PathBasis) (p : Site) : Option Rect :=
  if b.shut.contains p.sup then some (rectOf b.shut p.sup) else none

/-- Of the coordinates just outside a block's first and last super, the one nearer, the lower on a tie; one at the wafer's
edge is not used (R132). -/
def sideOf (c lo hi : Nat) : Nat :=
  let below := 12 * lo - 1
  let above := 12 * hi + 12
  if lo = 0 then above else if hi = 7 then below else if c - below ≤ above - c then below else above

/-- What a transfer does next (R129, R132). -/
inductive Leg where
  /-- Along its row to the destination's column. -/
  | row
  /-- Up or down to a row beyond a block, to go on along it. -/
  | turn (y : Nat)
  /-- Along its column to the destination's row. -/
  | col
  /-- Aside to a column beyond a block, then along it to a row past the block. -/
  | aside (x y : Nat)
  | past (y : Nat)
  /-- Back to the destination's column. -/
  | back
deriving DecidableEq, Repr

/-- The last site of some hops from `p`. -/
def lastSite (p : Site) (hs : List Hop) : Site := (hs.getLast?.map Hop.to_).getD p

/-- The hops of a transfer from `p` to `d` (R129, R131, R132); `fuel` bounds its moves. -/
def PathBasis.walk (b : PathBasis) (d : Site) : Nat → Leg → Site → List Hop
  | 0, _, _ => []
  | n + 1, leg, p =>
    let go := fun (l : Leg) (hs : List Hop) => hs ++ b.walk d n l (lastSite p hs)
    match leg with
    | .row =>
      if p.x = d.x then b.walk d n .col p
      else match b.blockAt { p with x := nearer p.x d.x } with
        | some r =>
          let y := if d.y < 12 * r.y0 then 12 * r.y0 - 1 else if 12 * r.y1 + 12 ≤ d.y then 12 * r.y1 + 12
            else sideOf p.y r.y0 r.y1
          b.walk d n (.turn y) p
        | none => go .row (b.rowMove p d.x)
    | .turn y => if p.y = y then b.walk d n .row p else go (.turn y) (b.colMove p y)
    | .col =>
      if p.y = d.y then (if p.x = d.x then [] else b.walk d n .back p)
      else match b.blockAt { p with y := nearer p.y d.y } with
        | some r => b.walk d n (.aside (sideOf p.x r.x0 r.x1) (if p.y < d.y then 12 * r.y1 + 12 else 12 * r.y0 - 1)) p
        | none => go .col (b.colMove p d.y)
    | .aside x y => if p.x = x then b.walk d n (.past y) p else go (.aside x y) (b.rowMove p x)
    | .past y => if p.y = y then b.walk d n .back p else go (.past y) (b.colMove p y)
    | .back => if p.x = d.x then b.walk d n .col p else go .back (b.rowMove p d.x)

/-- The path in force for transfers between two global cells (R130). -/
def PathBasis.path (b : PathBasis) (src dst : Nat) : List Hop := b.walk (siteOf dst) 1024 .row (siteOf src)

/-- The ports a transfer uses, from the local port it is injected by (R129). -/
def portsOf (p : Site) : List Hop → List Port
  | [] => [.here]
  | h :: r => portTo p h.to_ :: portsOf h.to_ r

/-- Cell cycles of an unloaded transfer: two a hop, four for injection and ejection (R129). -/
def pathCycles (hs : List Hop) : Nat := 2 * hs.length + 4

/-- The path in force; none before start-up step 7 has fixed the paths. -/
def State.path (s : State) (src dst : Nat) : Option (List Hop) := s.wafer.paths.map fun b => b.path src dst

/-- A transfer between two sites goes through the routers of a super (R134). -/
def State.crosses (s : State) (src dst p : Nat) : Bool :=
  match s.path src dst with
  | some hs => src / 144 == p || hs.any fun h => h.to_.sup == p
  | none => false

/-- The base controller fixes the paths anew, at start-up step 7 and at every seal (R130). -/
def State.fixPaths (s : State) : State :=
  if s.unit.step < 7 then s else
  let shut := (List.range 64).filter fun p => !s.unsealed p
  let dead := (List.range 64).flatMap fun p => ((List.range 144).filter fun i => (s.super p).sites.getD i 0 == 3).map fun i =>
    144 * p + i
  { s with wafer := { s.wafer with paths := some { shut := shut, dead := dead } } }

end Sys2Proof.Machine
end

