-- ==== Sys2Proof/Machine/Osh.lean ====
section
/-! DEFINITION. Oshestan frames and the management requests of hubs and modules (09). -/

namespace Sys2Proof.Machine

/-! ### Frames (09 R223 to R225) -/

/-- OSH_TYPE is in Table 9-3. -/
def oshTypeOk (t : Nat) : Bool :=
  within 1 3 t || within 0x10 0x11 t || within 0x20 0x22 t || within 0x30 0x33 t

/-- Payload length and reserved fields of a control payload the engine receives (09 Tables 9-5, 9-6). -/
def oshPayloadOk (t chan : Nat) (p : Bytes) : Bool :=
  match t with
  | 0x01 => decide (16 ≤ p.length) && (within 0 1 (fieldN p 0 1) || decide (128 ≤ fieldN p 0 1)) &&
      (fieldN p 0 1 != 0 || within 0 3 (fieldN p 1 1)) && (fieldN p 0 1 != 1 || (zeroIn p 1 1 && zeroIn p 8 2)) &&
      bitsOf (fieldN p 2 1) 7 1 == 0 && zeroIn p 3 1 && zeroIn p 12 4 && (chan != 6 && chan != 7)
  | 0x02 => within 1 32 (p.length / 24) && p.length % 24 == 0 && allItems p 0 24 (p.length / 24) fun r =>
      within 0 6 (fieldN r 0 1) && bitsOf (fieldN r 2 1) 7 3 == 0 && zeroIn r 3 1 && zeroIn r 12 4 &&
      (fieldN r 0 1 == 0 || zeroIn r 8 2) && (fieldN r 0 1 > 1 || decide (fieldN r 1 1 < 6)) &&
      (fieldN r 0 1 != 2 && fieldN r 0 1 != 3 || decide (fieldN r 1 1 < 4)) &&
      (bitAt (fieldN r 2 1) 0 || (zeroIn r 10 2 && zeroIn r 16 8))
  | 0x10 => p.length == 0
  | 0x21 => decide (12 ≤ p.length) && within 1 7 (fieldN p 0 1) && within 0 5 (fieldN p 1 1) && zeroIn p 8 4 &&
      decide (fieldN p 2 2 ≤ 4096)
  | 0x22 => p.length == 4 && within 0 15 (fieldN p 0 1) && within 0 1 (fieldN p 1 1) && zeroIn p 2 2
  | 0x32 => p.length == 4 && zeroIn p 2 2
  | 0x33 => p.length == 4 && within 1 4 (fieldN p 2 1)
  | _ => true

/-- A frame is valid (09 R221, R223, R224). -/
def oshOk (f : OshFrame) : Bool :=
  let b := f.bytes
  let n := fieldN b 2 2
  let a := fieldN b 4 2
  f.start == oshStart && b.length == 20 + n && n % 4 == 0 && decide (n ≤ 8192) && fieldN b 1 1 == 1 &&
    oshTypeOk (fieldN b 0 1) && bitsOf a 9 8 != 3 && bitsOf a 15 10 == 0 && bitsOf a 7 4 == f.port &&
    (bitsOf a 9 8 == 0 || bitsOf a 3 0 == 0) && bitsOf (fieldN b 9 1) 7 2 == 0 && zeroIn b 10 6 &&
    fieldN b (16 + n) 4 == crc32 (b.take (16 + n)) &&
    oshPayloadOk (fieldN b 0 1) (fieldN b 8 1) (sliceB b 16 n)

/-- The payload of a frame. -/
def oshPayload (f : OshFrame) : Bytes := sliceB f.bytes 16 (fieldN f.bytes 2 2)

/-- A valid frame of a type reaches the engine on a port that takes frames: the hub discards all but sleep
frames while the group sleeps (09 R243). -/
def State.oshTakes (s : State) (f : OshFrame) (t : Nat) : Bool :=
  s.spUp f.port && oshOk f && fieldN f.bytes 0 1 == t

/-- The next SEQ for an ADDR and type on a port, modulo 65,536 (09 R225). -/
def State.nextSeq (s : State) (p addr type : Nat) : Nat × State :=
  let k := 256 * addr + type
  let n := tgetD (s.sport p).seqs k 0
  (n, s.modSport p fun q => { q with seqs := tset q.seqs k ((n + 1) % 65536) })

/-! ### Management requests (09 R234) -/

/-- ADDR of a target: scope 0 for a module, scope 1 for a hub. -/
def tgtAddr (t : Nat) : Nat := if t < 256 then t else 256 + 16 * (t - 256)

/-- The requests of a target. -/
def State.mgmtQ (s : State) (t : Nat) : MgmtQueue := tgetD s.link.mgmt t { out := none, wait := [] }

/-- Replace the requests of a target. -/
def State.setMgmt (s : State) (t : Nat) (q : MgmtQueue) : State :=
  { s with link := { s.link with mgmt := tset s.link.mgmt t q } }

/-- The attach of a target. -/
def State.att (s : State) (t : Nat) : Attach := tgetD s.link.attach t Attach.blank

/-- Change the attach of a target. -/
def State.modAtt (s : State) (t : Nat) (f : Attach → Attach) : State :=
  { s with link := { s.link with attach := tmod s.link.attach t Attach.blank f } }

/-- A MGMT_REQ payload (09 Table 9-6). -/
def Mgmt.payload (m : Mgmt) : Bytes :=
  toLE 1 m.op ++ [0] ++ toLE 2 m.len ++ toLE 4 m.offset ++ toLE 4 0 ++
    sliceB m.data 0 (up4 m.data.length)

/-- Send the outstanding request of a target; repeats carry the same SEQ and OSH_FLAGS bit 1. -/
def State.mgmtTx (s : State) (t : Nat) (m : Mgmt) (seq rep : Nat) : State :=
  (s.setMgmt t { s.mgmtQ t with out := some (m, seq, rep, s.time.localC) }).linkTx (tgtPort t) 3
    (oshFrame 0x20 (tgtAddr t) seq 0 (if rep = 0 then 0 else 2) m.payload)

/-- CRC-checked 0x0030 block of a site slot: its generation, if the slot holds a valid one (10 R263, Table
10-3). -/
def siteGenOf (b : Bytes) : Option Nat :=
  let n := fieldN b 4 4
  if fieldN b 0 2 = 0x30 ∧ zeroIn b 2 2 ∧ n % 4 = 0 ∧ 56 ≤ n ∧ n ≤ 244 ∧
      fieldN b (8 + n) 4 = crc32 (sliceB b 0 (8 + n)) ∧ 1 ≤ fieldN b 8 4 ∧ zeroIn b 12 4 ∧ zeroIn b 44 4 ∧
      lktOk (sliceB b 48 16) then some (fieldN b 8 4)
  else none

/-- A slot is empty: its first 8 bytes are 0xFF (10 R263). -/
def siteEmpty (b : Bytes) : Bool := fieldN b 0 8 == 0xFFFFFFFFFFFFFFFF

/-- The newest valid slot of a site area: slot and generation (10 R263). -/
def newestSlot (area : Bytes) : Option (Nat × Nat) :=
  match siteGenOf (sliceB area 0 256), siteGenOf (sliceB area 256 256) with
  | some a, some b => if b > a then some (1, b) else some (0, a)
  | some a, none => some (0, a)
  | none, some b => some (1, b)
  | none, none => none

/-- The pose in a site slot: rotation and translation (28 bytes). -/
def sitePose (area : Bytes) (slot : Nat) : Bytes := sliceB area (256 * slot + 16) 28

/-- The 256 bytes a site write puts in a slot (10 R264). -/
def siteBlock (gen : Nat) (pose stamp : Bytes) : Bytes :=
  let b := toLE 2 0x30 ++ toLE 2 0 ++ toLE 4 56 ++ toLE 4 gen ++ toLE 4 0 ++ sliceB pose 0 28 ++ toLE 4 0 ++ stamp
  sliceB (b ++ toLE 4 (crc32 b)) 0 256

/-- A module is attached, matching the image or not. -/
def Attach.isOn (a : Attach) : Bool := a.st == .attached || a.st == .mismatch

/-- Fix what a request sends when its turn comes: a site write picks its slot then (10 R264). The status that ends it: the
module is no longer attached, or its generation is exhausted. -/
def State.fixMgmt (s : State) (t : Nat) (m : Mgmt) : Except Nat Mgmt :=
  match m.use with
  | .siteWrite _ pose c =>
    let a := s.att t
    let base := fieldN a.record 20 4
    let put := fun slot gen =>
      .ok { m with op := 2, offset := base + 256 * slot, len := 256,
                   data := siteBlock gen pose (s.lkt s.time.active), use := .siteWrite slot pose c }
    if !a.isOn then .error stAbsent
    else match newestSlot a.site with
      | none => put 0 1
      | some (k, g) => if g = 0xFFFFFFFF then .error stBadState else put (1 - k) (g + 1)
  | _ => .ok m

/-- The end of a site write: the status for a calibration stage's SITE_RESULT (12 R314), or the command's. -/
def State.siteDone (s : State) (t : Nat) (cmd : Option (Nat × Nat)) (status : Nat) : State :=
  match cmd with
  | some (q, g) => s.complete q g status 0 []
  | none => { s with link := { s.link with calStatus := tset s.link.calStatus t status } }

/-- Send the first of the waiting requests that can be sent; a site write that cannot ends with its status. -/
def State.mgmtNext (s : State) (t : Nat) : List Mgmt → State
  | [] => s.setMgmt t { out := none, wait := [] }
  | m :: r =>
    match s.fixMgmt t m with
    | .ok m' =>
      let (seq, s) := (s.setMgmt t { out := none, wait := r }).nextSeq (tgtPort t) (tgtAddr t) 0x20
      s.mgmtTx t m' seq 0
    | .error st =>
      match m.use with
      | .siteWrite _ _ c => (s.siteDone t c st).mgmtNext t r
      | _ => s.mgmtNext t r

/-- Issue a request: sent, or waiting behind the outstanding one; none when 16 already wait (09 R234). -/
def State.mgmtIssue (s : State) (t : Nat) (m : Mgmt) : Option State :=
  let q := s.mgmtQ t
  if q.out.isNone then some (s.mgmtNext t (q.wait ++ [m]))
  else if q.wait.length < 16 then some (s.setMgmt t { q with wait := q.wait ++ [m] })
  else none

end Sys2Proof.Machine
end

