-- ==== Sys2Proof/Machine/Ident.lean ====
section
/-! DEFINITION. Identity records of hubs and modules: the header, the walk of the blocks, and what the
engine takes from them (10). -/

namespace Sys2Proof.Machine

/-- The header is valid (10 R253). -/
def headerOk (h : Bytes) : Bool :=
  let rl := fieldN h 8 4
  let ms := fieldN h 16 4
  let so := fieldN h 20 4
  fieldN h 0 4 == 0x4948534F && fieldN h 60 4 == crc32 (sliceB h 0 60) && zeroIn h 5 3 && zeroIn h 14 2 &&
    zeroIn h 24 36 && (List.range 5).any (fun i => ms == 65536 * 2 ^ i) && decide (64 ≤ rl) && so % 256 == 0 &&
    decide (rl ≤ so) && decide (so + 512 ≤ ms)

/-- A block of a record as the walk finds it. -/
structure Block where
  type : Nat
  ok : Bool
  payload : Bytes
deriving DecidableEq, Repr

/-- A payload is in its table (10 Table 10-3). -/
def payloadOk (t : Nat) (p : Bytes) : Bool :=
  let n := p.length
  match t with
  | 0x0001 => decide (32 ≤ n) && (decide (fieldN p 0 1 ≤ 4) || decide (128 ≤ fieldN p 0 1)) &&
      bitsOf (fieldN p 1 1) 7 6 == 0 && zeroIn p 18 14
  | 0x0002 => within 1 64 (fieldN p 0 1) && decide (4 + 4 * fieldN p 0 1 ≤ n) && zeroIn p 1 3 &&
      allItems p 4 4 (fieldN p 0 1) fun e => decide (1 ≤ fieldN e 0 1) && zeroIn e 1 1 && decide (fieldN e 2 1 ≤ fieldN e 3 1)
  | 0x0010 => decide (48 ≤ n) && within 0 5 (fieldN p 0 1) && within 0 1 (fieldN p 1 1) && within 0 3 (fieldN p 2 1) &&
      zeroIn p 3 1 && decide (1 ≤ fieldN p 4 2) && (fieldN p 2 1 % 2 == 0 || fieldN p 4 2 % 2 == 0) &&
      decide (2 ≤ fieldN p 6 2) && (fieldN p 1 1 == 0 || zeroIn p 40 4) && zeroIn p 44 4
  | 0x0011 => decide (32 ≤ n) && within 0 5 (fieldN p 0 1) && zeroIn p 1 3
  | 0x0012 => within 0 6 (fieldN p 1 1) && decide (8 + 8 * fieldN p 1 1 ≤ n) && bitsOf (fieldN p 0 1) 7 1 == 0 &&
      zeroIn p 4 4 && allItems p 8 8 (fieldN p 1 1) fun e => within 0 5 (fieldN e 0 1) && zeroIn e 1 1
  | 0x0020 =>
      let c := fieldN p 1 1
      decide (12 + up4 (2 * c) ≤ n) && (within 0 5 (fieldN p 0 1) && within 1 128 c ||
        within 128 131 (fieldN p 0 1) && c == 0) && zeroIn p 2 2 && within 4 65536 (fieldN p 4 4) && zeroIn p 10 2 &&
      zeroIn p (12 + 2 * c) (up4 (2 * c) - 2 * c)
  | 0x0021 => decide (12 ≤ n) && (fieldN p 0 1 == 50 || fieldN p 0 1 == 60) && within 1 3 (fieldN p 1 1) &&
      zeroIn p 2 2 && zeroIn p 10 2
  | _ => decide (0x7F00 ≤ t)

/-- A type the walk checks: Table 10-3, a site block (which is invalid here), or maker-defined. -/
def listedType (t : Nat) : Bool :=
  t == 1 || t == 2 || within 0x10 0x12 t || within 0x20 0x21 t || t == 0x30 || within 0x7F00 0x7FFF t

/-- Walk the blocks from an offset to RECORD_LEN (10 R254, R255); unlisted types are skipped. `fuel` bounds the
blocks. -/
def walkBlocks (r : Bytes) (rl : Nat) : Nat → Nat → List Block
  | 0, _ => []
  | f + 1, off =>
    if rl ≤ off then []
    else
      let t := if rl < off + 2 then 0xFFFF else fieldN r off 2
      let n := fieldN r (off + 4) 4
      if rl < off + 8 ∨ rl < off + 12 + n ∨ n % 4 ≠ 0 then [{ type := t, ok := false, payload := [] }]
      else
        let p := sliceB r (off + 8) n
        let ok := fieldN r (off + 8 + n) 4 == crc32 (sliceB r off (8 + n)) && zeroIn r (off + 2) 2 && payloadOk t p
        let rest := walkBlocks r rl f (off + 12 + n)
        if listedType t then { type := t, ok := ok, payload := p } :: rest else rest

/-- The blocks of a record. -/
def blocksOf (r : Bytes) : List Block := walkBlocks r (fieldN r 8 4) (r.length / 12 + 1) 64

/-- The first valid block of a type. -/
def blockOf (r : Bytes) (t : Nat) : Option Bytes :=
  ((blocksOf r).find? fun b => b.ok && b.type == t).map Block.payload

/-- The first valid block of a type for a slot. -/
def slotBlock (r : Bytes) (t slot : Nat) : Option Bytes :=
  ((blocksOf r).find? fun b => b.ok && b.type == t && fieldN b.payload 0 1 == slot).map Block.payload

/-- The first entry of a slot in block 0x0012: its 8 bytes. -/
def timingOf (r : Bytes) (slot : Nat) : Option Bytes :=
  match blockOf r 0x12 with
  | some p => ((List.range (fieldN p 1 1)).map fun i => sliceB p (8 + 8 * i) 8).find? fun e => fieldN e 0 1 == slot
  | none => none

/-- The invalid blocks of a record and its site area: the types, in order (10 R255, R263). -/
def invalidTypes (r area : Bytes) : List Nat :=
  ((blocksOf r).filter fun b => !b.ok).map Block.type ++
    ([0, 256].filter fun o => !siteEmpty (sliceB area o 256) && (siteGenOf (sliceB area o 256)).isNone).map
      fun o => fieldN area o 2

/-- Required blocks are all valid (10 Table 10-1): 0x0001 and 0x0002, and 0x0012 for a module. -/
def requiredOk (r : Bytes) : Bool :=
  match blockOf r 1 with
  | some p => (blockOf r 2).isSome && (fieldN p 0 1 == 0 || (blockOf r 0x12).isSome)
  | none => false

/-- The range block 0x0002 gives an interface. -/
def levelRange (r : Bytes) (iface : Nat) : Option (Nat × Nat) :=
  match blockOf r 2 with
  | some p => (((List.range (fieldN p 0 1)).map fun i => sliceB p (4 + 4 * i) 4).find? fun e =>
      fieldN e 0 1 == iface).map fun e => (fieldN e 2 1, fieldN e 3 1)
  | none => none

/-- The first interface of 1 to 4 whose level 1 the record leaves out: the interface and its range (10 R257). -/
def levelRefusal (r : Bytes) : Option (Nat × Option (Nat × Nat)) :=
  ([1, 2, 3, 4].find? fun i => match levelRange r i with
    | some (a, b) => !(decide (a ≤ 1) && decide (1 ≤ b))
    | none => true).map fun i => (i, levelRange r i)

/-- Block 0x0001 as a host-assisted attach finds it: the blocks are walked to 0x0002, and its CRC is not checked (10 R270). -/
def plainTypeBlock (r : Bytes) : Option Bytes :=
  (((blocksOf r).takeWhile fun b => b.type != 2).find? fun b => b.type == 1 && decide (32 ≤ b.payload.length)).map Block.payload

/-- Block 0x0001 in device mode, or as host-assisted mode reads it. -/
def typeBlock (r : Bytes) (ha : Bool) : Option Bytes := if ha then plainTypeBlock r else blockOf r 1

/-- CLASS and SERIAL of block 0x0001 as an attach reads it. -/
def recClass (r : Bytes) (ha : Bool) : Nat := match typeBlock r ha with
  | some p => fieldN p 0 1
  | none => 255
def recSerial (r : Bytes) (ha : Bool) : Nat := match typeBlock r ha with
  | some p => fieldN p 8 8
  | none => 0

/-- MAKER, MODEL and FW_LEVEL of block 0x0001. -/
def recMaker (r : Bytes) : Nat := match blockOf r 1 with
  | some p => fieldN p 2 2
  | none => 0
def recModel (r : Bytes) : Nat := match blockOf r 1 with
  | some p => fieldN p 4 2
  | none => 0
def recLevel (r : Bytes) : Nat := match blockOf r 1 with
  | some p => fieldN p 16 2
  | none => 0

/-- A sensor slot is usable (10 R256): a camera slot by blocks 0x0010 and 0x0011, a lidar slot by 0x0020 and
0x0011, both with an entry of 0x0012; a maker-defined module's slot by either; the other classes have none. -/
def slotUsable (r : Bytes) (slot : Nat) : Bool :=
  match blockOf r 1 with
  | some p =>
    let c := fieldN p 0 1
    bitAt (fieldN p 1 1) slot && (slotBlock r 0x11 slot).isSome && (timingOf r slot).isSome &&
      (((c == 1 || decide (128 ≤ c)) && (slotBlock r 0x10 slot).isSome) ||
        ((c == 2 || decide (128 ≤ c)) && (slotBlock r 0x20 slot).isSome))
  | none => false

/-- USABLE. -/
def usableMask (r : Bytes) : Nat := flagBits ((List.range 6).map (slotUsable r))

/-- ZC_DELAY of block 0x0021 in counter units (10 R260). -/
def zcDelay (r : Bytes) : Option Int :=
  (blockOf r 0x21).map fun p => fieldS p 4 4 * nsU + (fieldN p 8 2 * 65536 : Nat)

/-- A transform entry (12 Table 12-1) written by attach: pose, time offset (ns, fraction) and parent. -/
def attachEntry (pose : Bytes) (offNs : Bytes) (frac parent : Nat) : Bytes :=
  sliceB pose 0 28 ++ sliceB offNs 0 4 ++ toLE 2 frac ++ toLE 2 parent ++ [3] ++ List.replicate 11 0

/-- The sensor entries an attach stages (10 R258). -/
def sensorEntries (m : Nat) (r : Bytes) : List (Nat × Bytes) :=
  ((List.range 6).filter (slotUsable r)).filterMap fun k =>
    match slotBlock r 0x11 k, timingOf r k with
    | some p, some e => some (8 * m + k, attachEntry (sliceB p 4 28) (sliceB e 4 4) (fieldN e 2 2) (2048 + m))
    | _, _ => none

/-- The module entry of a pose (10 R258). -/
def moduleEntry (pose : Bytes) : Bytes := attachEntry pose (List.replicate 4 0) 0 0xFFFF

/-- The module entry an attach stages from the newest valid site slot. -/
def siteEntries (m : Nat) (area : Bytes) : List (Nat × Bytes) :=
  match newestSlot area with
  | some (k, _) => [(2048 + m, moduleEntry (sitePose area k))]
  | none => []

/-- The definition an attach of module `m` gives a source (10 R259). -/
def attachSource (m : Nat) (r : Bytes) (d : SourceDef) : SourceDef :=
  if d.kind = 2 ∧ d.originId / 8 = m then
    match slotBlock r 0x10 (d.originId % 8) with
    | some p => if slotUsable r (d.originId % 8) then { d with units := fieldN p 6 2 } else d
    | none => d
  else if d.kind = 3 ∧ d.originId = m then
    match blockOf r 0x21 with
    | some p => { d with period := 65536000000000 / fieldN p 0 1 }
    | none => d
  else d

/-- A module of a class meets the expectation listed for its address (10 R266): its class, and a level in each accepted
range. -/
def expectMet (e : ModExpect) (cls : Nat) (r : Bytes) : Bool :=
  cls == e.cls && e.levels.all fun l => match levelRange r l.1 with
    | some (a, b) => decide (a ≤ l.2.2) && decide (l.2.1 ≤ b)
    | none => false

end Sys2Proof.Machine
end

