-- ==== Sys2Proof/Machine/Pairs.lean ====
section
/-! DEFINITION. Tested pairs of running images (21 R529) and engine commits (19 R480). -/

namespace Sys2Proof.Machine

/-- An image as a pair names it (21 Table 21-6). -/
structure PairImg where
  kind : Nat
  index : Nat
  level : Nat
  maker : Nat
  model : Nat
deriving DecidableEq, Repr

/-- A tested-pair entry names an image: kind 0 names either Keeper slot. -/
def PairEntry.names (e : PairEntry) (i : PairImg) : Bool :=
  e.kind == (if i.kind = 1 then 0 else i.kind) && (i.kind != 4 && i.kind != 5 || (e.maker == i.maker && e.model == i.model)) &&
    decide (e.lo ≤ i.level) && decide (i.level ≤ e.hi)

/-- The firmware slot an index names. -/
def FwSt.slot (f : FwSt) (n : Nat) : Option FwImage := if n = 0 then f.slotA else f.slotB

/-- The booted Keeper firmware. -/
def State.keeperImg (s : State) : Option (PairImg × List PairEntry) :=
  match s.fw.booted with
  | some n => s.fw.bootImg.map fun f =>
      ({ kind := n, index := 0, level := f.level, maker := 0, model := 0 }, f.pairs)
  | none => none

/-- The microcode in use. -/
def State.microImg (s : State) : Option (PairImg × List PairEntry) :=
  s.fw.microRun.map fun f => ({ kind := 2, index := 0, level := f.level, maker := 0, model := 0 }, f.pairs)

/-- The running hive image. -/
def State.hiveImg (s : State) : Option (PairImg × List PairEntry) :=
  s.ep.image.map fun m => ({ kind := 6, index := 0, level := m.gebetex, maker := 0, model := 0 }, m.pairs)

/-- Attached hubs and modules, with no list of their own. -/
def State.moduleImgs (s : State) : List PairImg :=
  (s.link.attach.filter fun a => a.2.st == .attached || a.2.st == .mismatch).map fun a =>
    { kind := if a.1 < 256 then 5 else 4, index := if a.1 < 256 then a.1 else a.1 - 256,
      level := recLevel a.2.record, maker := recMaker a.2.record, model := recModel a.2.record }

/-- Stores whose level check passed. -/
def State.storeImgs (s : State) : List PairImg :=
  ((List.range 8).filter fun r => (s.row r).st == .serving || (s.row r).st == .resync).map fun r =>
    { kind := 3, index := r, level := (s.row r).fwLevel, maker := 0, model := 0 }

/-- SUBJECT and EV_DETAIL of a pair (21 Table 21-9). -/
def pairCode (a b : PairImg) : Nat × Nat :=
  (a.kind + 256 * a.index + 65536 * a.level,
   b.kind + 256 * b.index + 65536 * b.level + 4294967296 * b.maker + 281474976710656 * b.model)

/-- The pair is in neither list. -/
def untested (a b : PairImg × List PairEntry) : Bool :=
  !(a.2.any fun e => e.names b.1) && !(b.2.any fun e => e.names a.1)

/-- The untested pairs running (21 R529). -/
def State.untestedNow (s : State) : List (Nat × Nat) :=
  let peers := (s.microImg.toList ++ (s.storeImgs ++ s.moduleImgs).map (fun i => (i, []))) ++ s.hiveImg.toList
  let withK := match s.keeperImg with
    | some k => (peers.filter fun p => untested k p).map fun p => pairCode k.1 p.1
    | none => []
  let withH := match s.hiveImg, s.microImg with
    | some h, some m => if untested h m then [pairCode h.1 m.1] else []
    | _, _ => []
  withK ++ withH

/-- A pair starts running: its unsolicited event, its fault-record event once per boot. -/
def State.pairStarts (s : State) (p : Nat × Nat) : State :=
  let s := s.unsol 4 (256 * (p.2 % 256))
  if s.fw.pairsSeen.contains p then s
  else ({ s with fw := { s.fw with pairsSeen := s.fw.pairsSeen ++ [p] } }.event 0x10 0 p.1 p.2)

/-- Bring the untested pairs up to date after an image began or stopped running. -/
def State.updatePairs (s : State) : State :=
  let now := s.untestedNow
  let old := s.fw.pairsRunning
  if now = old then s
  else
    let s := { s with fw := { s.fw with pairsRunning := now } }
    let s := (now.filter fun p => !old.contains p).foldl State.pairStarts s
    if now.isEmpty != old.isEmpty then s.panelTouch [2] else s

/-! ### Engine commits (19 R480) -/

/-- A tick is taken as effect tick by another commit. -/
def State.commitAt (s : State) (t : Nat) : Bool :=
  (match s.ep.armed with
   | some a => a.eff == some t
   | none => false) || s.ep.engine.any fun e => e.eff == some t

/-- The first tick from `t` on that no commit takes. -/
def State.freeTick (s : State) : Nat → Nat → Nat
  | 0, t => t
  | f + 1, t => if s.commitAt t then s.freeTick f (t + 1) else t

/-- Issue an engine commit: at the first tick at least D_w + 8 ns on that no other commit takes; across a tree
pause it waits (19 R480, R491). -/
def State.issueEngine (s : State) (m : Nat) (xf : List (Nat × Bytes)) (src : List (Nat × SourceDef)) : State :=
  let eff := if s.wafer.pause.isSome then none
    else some (s.freeTick (s.ep.engine.length + 2) (s.time.tick + s.leadTicks))
  { s with ep := { s.ep with engine := s.ep.engine ++ [{ module := m, xforms := xf, sources := src, eff := eff }] } }

/-- A host commit takes a tick: an engine commit due then takes the next free one (19 R480). -/
def State.yieldTick (s : State) (t : Nat) : State :=
  let next := s.freeTick (s.ep.engine.length + 2) (t + 1)
  { s with ep := { s.ep with engine := s.ep.engine.map fun e => if e.eff = some t then { e with eff := some next } else e } }

end Sys2Proof.Machine
end

