-- ==== Sys2Proof/Machine/Module.lean ====
section
/-! DEFINITION. Hubs and modules: attach, site writes, management responses and the MODULE_* commands (10). -/

namespace Sys2Proof.Machine

/-! ### Attach (10 R250 to R261, R270) -/

/-- Attaches run in start-up step 11 and after it, in READY, RUN and QUIESCE (10 R250). -/
def State.attachTime (s : State) : Bool :=
  match s.unit.state with
  | .bringup => decide (11 ≤ s.unit.step)
  | .ready => true
  | .run => true
  | .quiesce => true
  | _ => false

/-- A target's port is up and its group takes requests. -/
def State.tgtUp (s : State) (t : Nat) : Bool :=
  s.spUp (tgtPort t) && (decide (256 ≤ t) || (s.sport (tgtPort t)).modulesUp.contains (t % 16))

/-- An identity read of an attach. -/
def attachRead (off len : Nat) : Mgmt := { op := 1, offset := off, len := len, data := [], use := .attach }

/-- Complete the MODULE_REATTACH commands of a target whose attach ended (18 Table 18-5). -/
def State.reattachDone (s : State) (t status detail : Nat) : State :=
  let cs := (s.att t).cmds
  cs.foldl (fun s c => s.complete c.1 c.2 status detail []) (s.modAtt t fun a => { a with cmds := [] })

/-- ATTACH_STATE's code. -/
def AttachState.code : AttachState → Nat
  | .down => 0
  | .reading => 1
  | .attached => 2
  | .unused => 3
  | .mismatch => 4
  | .readFailed => 5
  | .hubRefused => 6

/-- An attach that ended or was not begun, in a state: nothing is held of it but what MODULE_READ gives of the last one
(Table 10-6). -/
def Attach.renew (a : Attach) (st : AttachState) : Attach :=
  { Attach.blank with
    st := st, status := a.status, failType := a.failType, failCount := a.failCount, mode := a.mode, ha := a.ha, cmds := a.cmds }

/-- A read of an attach timed out, or found 16 requests waiting (log entry 58): once more after 1 s, then READ_FAILED; a
hub that failed leaves its modules unattached (10 R251). -/
def State.attachTimeout (s : State) (t : Nat) : State :=
  if (s.att t).retried then
    (s.modAtt t fun a => { a with st := .readFailed, status := stTimeout, failType := 0, failCount := 0 }).reattachDone t
      stTimeout AttachState.readFailed.code
  else s.modAtt t fun a => { a with retryDue := true, record := [], site := [] }

/-- Issue a read of an attach, in its place behind what waits for its target (09 R234). -/
def State.issueRead (s : State) (t off len : Nat) : State :=
  match s.mgmtIssue t (attachRead off len) with
  | some s => s
  | none => s.attachTimeout t

/-- Begin reading a target's record. -/
def State.startAttach (s : State) (t : Nat) (again : Bool) : State :=
  (s.modAtt t fun a => { a.renew .reading with retried := again, mode := s.ha 2, ha := s.ha 2 }).issueRead t 0 64

/-- The hub of a port is attached. -/
def State.hubReady (s : State) (p : Nat) : Bool := (s.att (256 + p)).st == .attached

/-- A module whose port is up attaches once its hub has; behind a refused hub it reads HUB_REFUSED (10 R252). -/
def State.tryAttach (s : State) (m : Nat) : State :=
  match (s.att (256 + m / 16)).st with
  | .attached => s.startAttach m false
  | .unused => s.modAtt m fun a => a.renew .hubRefused
  | _ => s.modAtt m fun a => a.renew .reading

/-- When a hub's attach has ended, its modules that are up attach, in ascending hub port. -/
def State.afterHub (s : State) (t : Nat) : State :=
  if t < 256 then s
  else ((s.sport (t - 256)).modulesUp).foldl (fun s n => s.tryAttach (16 * (t - 256) + n)) s

/-- An attach ends without use of the module. -/
def State.attachEnds (s : State) (t : Nat) (st : AttachState) (status failType failCount : Nat) : State :=
  let s := s.modAtt t fun a => { a with st := st, status := status, failType := failType, failCount := failCount }
  (s.reattachDone t status st.code).afterHub t

/-- The VERSION_REFUSED event of a hub or module (21 R528, Table 21-9), kept for FW_READ. -/
def State.refuseModule (s : State) (t cause level iface lo hi : Nat) : State :=
  let kind := if t < 256 then 5 else 4
  let idx := if t < 256 then t else t - 256
  let s := { s with fw := { s.fw with refused := tset s.fw.refused (256 * kind + idx) (iface + 256) } }
  s.event 0x11 cause (kind + 256 * idx + 65536 * level)
    (iface + 256 + (if cause = 1 then 65536 * lo + 16777216 * hi + 4294967296 * kind else 0))

/-- The state the hive image's expectations give an attached module (10 R266). -/
def State.expected (s : State) (t : Nat) (r : Bytes) : AttachState :=
  match s.ep.image with
  | some m => match m.site.modules.find? fun e => e.addr == t with
    | some e => if t < 256 ∧ !expectMet e (recClass r (s.att t).mode) r then .mismatch else .attached
    | none => .attached
  | none => .attached

/-- What an attach of a module changes (10 R258, R259). -/
def State.attachSet (s : State) (t : Nat) (r area : Bytes) : List (Nat × Bytes) × List (Nat × SourceDef) :=
  if t < 256 then
    (sensorEntries t r ++ siteEntries t area,
     ((List.range 16).filter fun i => attachSource t r (s.source i).defn != (s.source i).defn).map
       fun i => (i, attachSource t r (s.source i).defn))
  else ([], [])

/-- What the walk of a record and site area found, and the fills it stages go to an engine commit (10 R255, R258, R261):
whether there are any. -/
def State.walkFills (s : State) (t : Nat) : Bool × State :=
  let a := s.att t
  let set := s.attachSet t a.record a.site
  let bad := invalidTypes a.record a.site
  let none_ := set.1.isEmpty && set.2.isEmpty
  let s := s.modAtt t fun a => { a with
    status := if bad.isEmpty then stOK else stIdentity, failType := bad.headD 0, failCount := bad.length,
    usable := usableMask a.record, ha := a.ha && !none_, committing := !none_ }
  (!none_, if none_ then s else s.issueEngine t set.1 set.2)

/-- The attach is complete: in device mode its changes go to an engine commit, in host-assisted mode the
sensor entries are unset (10 R250, R261, R270). -/
def State.attachWhole (s : State) (t : Nat) : State :=
  let a := s.att t
  let s := { s with fw := { s.fw with refused := terase s.fw.refused (256 * (if t < 256 then 5 else 4) + t % 256) } }
  if a.ha then
    let s := { s with xforms := s.xforms.filter fun e => !(decide (t < 256) && e.1 / 8 == t && decide (e.1 % 8 < 6)) }
    (s.attachEnds t (s.expected t a.record) stOK 0 0).updatePairs
  else
    let (fills, s) := s.walkFills t
    let a := s.att t
    if fills then s else (s.attachEnds t (s.expected t a.record) a.status a.failType a.failCount).updatePairs

/-- The checks after every read (10 R254 to R257); in host-assisted mode that of the levels alone (10 R270). -/
def State.attachCheck (s : State) (t : Nat) : State :=
  let a := s.att t
  let r := a.record
  let s := s.modAtt t fun a => { a with
    cls := recClass r a.mode, serial := recSerial r a.mode,
    siteSlot := match newestSlot a.site with
      | some (k, _) => k + 1
      | none => 0,
    siteGen := match newestSlot a.site with
      | some (_, g) => g
      | none => 0 }
  let bad := if a.ha then [] else invalidTypes r a.site
  match (blockOf r 2).isSome || a.ha, levelRefusal r with
  | true, some (i, rg) =>
    let s := s.refuseModule t (if rg.isSome then 1 else 2) (recLevel r) i (rg.getD (0, 0)).1 (rg.getD (0, 0)).2
    s.attachEnds t .unused stVersion (bad.headD 0) bad.length
  | _, _ =>
    if !a.ha && !requiredOk r then s.attachEnds t .unused stIdentity (bad.headD 0) bad.length
    else s.attachWhole t

/-- A read of an attach was answered: check the header, read on, or check the whole (10 R250, R253). A short
answer leaves its bytes 0. -/
def State.attachGot (s : State) (t off len : Nat) (data : Bytes) : State :=
  let d := sliceB data 0 len
  let a := s.att t
  if a.st ≠ .reading then s
  else if a.record.isEmpty then
    let s := s.modAtt t fun a => { a with record := d }
    if !headerOk d then s.attachEnds t .unused stIdentity 0 0
    else if fieldN d 4 1 ≠ 1 then
      (s.refuseModule t 1 0 2 (fieldN d 4 1) (fieldN d 4 1)).attachEnds t .unused stVersion 0 0
    else if fieldN d 8 4 = 64 then s.issueRead t (fieldN d 20 4) 512
    else s.issueRead t 64 (min 4096 (fieldN d 8 4 - 64))
  else if off = fieldN a.record 20 4 ∧ a.record.length = fieldN a.record 8 4 then
    (s.modAtt t fun a => { a with site := d }).attachCheck t
  else
    let s := s.modAtt t fun a => { a with record := a.record ++ d }
    let rl := fieldN a.record 8 4
    let got := a.record.length + len
    if got < rl then s.issueRead t got (min 4096 (rl - got)) else s.issueRead t (fieldN a.record 20 4) 512

/-- ATTACH_RETRY_TIMER: 1 s after the timeout the whole attach is tried again (10 R251). -/
def execAttachRetryTimer (x : At) (target : Nat) (s : State) : Host.Outcome State Fault Refusal :=
  let s := s.enter x
  .next (if (s.att target).retryDue && s.attachTime && s.tgtUp target then s.startAttach target true else s)

/-! ### Firmware to a hub or module (21 R530) -/

/-- The firmware transfer in progress to a target. -/
def State.fwSend (s : State) (t : Nat) : Option FwSend :=
  s.fw.sends.find? fun f => (if f.target = 4 then 256 + f.index else f.index) == t

/-- End a transfer: its FW_STAGE completes. -/
def State.fwSendEnds (s : State) (t status : Nat) : State :=
  match s.fwSend t with
  | some f => { s with fw := { s.fw with sends := s.fw.sends.erase f } }.complete f.qp f.tag status 0 []
  | none => s

/-- Issue a firmware request, or end the transfer when too many requests wait. -/
def State.fwIssue (s : State) (t op off : Nat) (data : Bytes) : State :=
  match s.mgmtIssue t { op := op, offset := off, len := data.length, data := data, use := .firmware } with
  | some s => s
  | none => s.fwSendEnds t stQueueFull

/-- A firmware request was answered: the next chunk, the end, or the completion. MG_RESULT 5 is an image
rejected, another but 0 is BAD_STATE. -/
def State.fwGot (s : State) (t op result : Nat) : State :=
  match s.fwSend t with
  | none => s
  | some f =>
    if result = 5 then s.fwSendEnds t stImage
    else if result ≠ 0 then s.fwSendEnds t stBadState
    else if op = 5 then s.fwSendEnds t stOK
    else match f.rest with
      | d :: r =>
        { s with fw := { s.fw with sends := s.fw.sends.map fun g =>
            if g = f then { f with rest := r, offset := f.offset + d.length } else g } }.fwIssue t 4 f.offset d
      | [] => s.fwIssue t 5 0 []

/-! ### The end of a request -/

/-- A request ended without an answer (09 R234, R238, R243). -/
def State.mgmtFail (s : State) (t status : Nat) (m : Mgmt) : State :=
  match m.use with
  | .attach => if status = stTimeout then s.attachTimeout t else s
  | .siteWrite _ _ c => s.siteDone t c status
  | .siteRead _ _ c => s.siteDone t c status
  | .firmware => s.fwSendEnds t status

/-- End every request to a target. -/
def State.mgmtFlush (s : State) (t status : Nat) : State :=
  let q := s.mgmtQ t
  let all := (q.out.map Prod.fst).toList ++ q.wait
  all.foldl (fun s m => s.mgmtFail t status m) (s.setMgmt t { out := none, wait := [] })

/-- A request was answered (10 R250, R264). -/
def State.mgmtGot (s : State) (t : Nat) (m : Mgmt) (result : Nat) (data : Bytes) : State :=
  match m.use with
  | .attach => s.attachGot t m.offset m.len data
  | .firmware => s.fwGot t m.op result
  | .siteWrite k pose c =>
    if result ≠ 0 then s.siteDone t c stBadState
    else
      let q := s.mgmtQ t
      s.setMgmt t { q with wait := { m with
        op := 1, data := [], use := .siteRead k pose c } :: q.wait }
  | .siteRead k pose c =>
    let b := sliceB data 0 256
    match siteGenOf b with
    | none => s.siteDone t c stIdentity
    | some g =>
      let s := s.modAtt t fun a => if !a.isOn then a else { a with
        site := sliceB a.site 0 (256 * k) ++ b ++ (a.site.drop (256 * k + 256)), siteSlot := k + 1, siteGen := g }
      let s := if s.ha 2 then s else s.issueEngine t [(2048 + t, moduleEntry pose)] []
      s.siteDone t c stOK

/-- The target a frame from a hub or module names: scope 0 a module, scope 1 the hub. -/
def frameTarget (f : OshFrame) : Nat :=
  let a := fieldN f.bytes 4 2
  if bitsOf a 9 8 = 0 then a % 256 else 256 + f.port

/-- MGMT_RESP: the matching response ends the outstanding request, and the next is sent (09 R234). -/
def execMgmtResp (x : At) (f : OshFrame) (s : State) : Host.Outcome State Fault Refusal :=
  let s := s.enter x
  let t := frameTarget f
  .next (if !(s.oshTakes f 0x21) || (s.sport f.port).group.sleeping then s
    else match (s.mgmtQ t).out with
      | none => s
      | some (m, seq, _, _) =>
        let p := oshPayload f
        if fieldN f.bytes 6 2 ≠ seq ∨ fieldN p 0 1 ≠ m.op then s
        else
          let s := s.setMgmt t { s.mgmtQ t with out := none }
          let s := s.mgmtGot t m (fieldN p 1 1) (sliceB p 12 (if fieldN p 1 1 = 0 then p.length - 12 else 0))
          let q := s.mgmtQ t
          if q.out.isNone then s.mgmtNext t q.wait else s)

/-- MGMT_TIMEOUT: no response within 10 ms, one that arrives at their very end included (03 R77), repeats the request; after
two repeats it ends with TIMEOUT (09 R234). -/
def execMgmtTimeout (x : At) (target : Nat) (s : State) : Host.Outcome State Fault Refusal :=
  let s := s.enter x
  .next (match (s.mgmtQ target).out with
    | none => s
    | some (m, seq, rep, sent) =>
      if s.time.localC ≤ sent + 10000000 * nsU then s
      else if rep < 2 then s.mgmtTx target m seq (rep + 1)
      else
        let s := (s.setMgmt target { s.mgmtQ target with out := none }).mgmtFail target stTimeout m
        let q := s.mgmtQ target
        if q.out.isNone then s.mgmtNext target q.wait else s)

/-! ### Site writes and the MODULE_* commands -/

/-- Why a command addressed to a module is refused (09 R238, R243, 10 R252); a hub has no module port. -/
def State.moduleBlocked (s : State) (t : Nat) : Option Nat :=
  let p := tgtPort t
  if !s.spUp p then some stLinkDown
  else if (s.sport p).group.sleeping then some stAsleep
  else if t < 256 ∧ !(s.sport p).modulesUp.contains (t % 16) then some stAbsent
  else if t < 256 ∧ (s.att (256 + p)).st = .unused then some (s.att (256 + p)).status
  else none

/-- MODULE_READ: attach records (10 Table 10-6). -/
def State.attachRec (s : State) (m : Nat) : Bytes :=
  let a := s.att m
  toLE 1 m ++ toLE 1 a.st.code ++ toLE 2 a.status ++ toLE 2 a.failType ++ toLE 2 a.failCount ++ toLE 1 a.cls ++
    toLE 1 a.usable ++ toLE 1 a.siteSlot ++ toLE 1 (b2n a.mode) ++ toLE 4 a.siteGen ++ toLE 8 a.serial ++
    toLE 4 a.epoch ++ toLE 4 0

/-- MODULE_READ: attach records of the modules asked for, at one tick (10 R269). -/
def execModuleRead (x : At) (qp tag : Nat) (_data : Option Bytes) (s : State) : Host.Outcome State Fault Refusal :=
  .next (s.run x qp tag 0x0305 fun s c =>
    s.complete c.qp c.tag stOK 0
      (catB ((List.range' (fieldN c.params 0 1) (fieldN c.params 2 2)).map s.attachRec)))

/-- MODULE_RECORD_READ: the held copy of record and site area, then zeros (18 Table 18-5). -/
def execModuleRecordRead (x : At) (qp tag : Nat) (_data : Option Bytes) (s : State) :
    Host.Outcome State Fault Refusal :=
  .next (s.run x qp tag 0x0306 fun s c =>
    let m := fieldN c.params 0 1
    let a := s.att m
    match a.st with
    | .hubRefused => s.complete c.qp c.tag (s.att (256 + m / 16)).status 0 []
    | .attached => s.complete c.qp c.tag stOK (fieldN a.record 8 4)
        (sliceB (a.record ++ a.site) (fieldN c.params 4 4) (fieldN c.params 8 4))
    | .mismatch => s.complete c.qp c.tag stOK (fieldN a.record 8 4)
        (sliceB (a.record ++ a.site) (fieldN c.params 4 4) (fieldN c.params 8 4))
    | .unused => s.complete c.qp c.tag stOK (fieldN a.record 8 4)
        (sliceB (a.record ++ a.site) (fieldN c.params 4 4) (fieldN c.params 8 4))
    | _ => s.complete c.qp c.tag stAbsent 0 [])

/-- MODULE_SITE_WRITE: a pose into the alternate site slot (10 R264). -/
def execModuleSiteWrite (x : At) (qp tag : Nat) (_data : Option Bytes) (s : State) :
    Host.Outcome State Fault Refusal :=
  .next (s.run x qp tag 0x0307 fun s c =>
    let m := fieldN c.params 0 1
    match s.moduleBlocked m with
    | some n => s.complete c.qp c.tag n 0 []
    | none =>
      if !(s.att m).isOn then s.complete c.qp c.tag stAbsent 0 []
      else
        let use : MgmtUse := .siteWrite 2 (sliceB c.params 4 28) (some (c.qp, c.tag))
        match (s.setProg c.qp c.tag (.waiting 0 0)).mgmtIssue m { op := 2, offset := 0, len := 256, data := [], use := use } with
        | some s => s.wakeUsed
        | none => s.complete c.qp c.tag stQueueFull 0 [])

/-- MODULE_REATTACH: a fresh attach; the command completes when it ends (10 R250). -/
def execModuleReattach (x : At) (qp tag : Nat) (_data : Option Bytes) (s : State) :
    Host.Outcome State Fault Refusal :=
  .next (s.run x qp tag 0x0308 fun s c =>
    let m := fieldN c.params 0 1
    match s.moduleBlocked m with
    | some n => s.complete c.qp c.tag n 0 []
    | none =>
      let s := s.setProg c.qp c.tag (.waiting 0 0)
      let q := s.mgmtQ m
      let keep := { q with
        out := q.out.filter (fun o => o.1.use != .attach), wait := q.wait.filter (fun r => r.use != .attach) }
      let s := (s.setMgmt m keep).modAtt m fun a => { a with cmds := a.cmds ++ [(c.qp, c.tag)] }
      (s.tryAttach m).wakeUsed)

/-- The image's expectations are checked again at a load (10 R266). -/
def State.recheckModules (s : State) : State :=
  let fix := fun (e : Nat × Attach) =>
    if e.2.isOn then (e.1, { e.2 with st := s.expected e.1 e.2.record }) else e
  { s with link := { s.link with attach := s.link.attach.map fix } }

/-- At a change of module identity to device mode the held copies are walked and their fills committed; until then a module
is served as before (10 R270). -/
def State.identityToDevice (s : State) : State :=
  (s.link.attach.filter fun a => a.2.ha && a.2.isOn).foldl (fun s a => (s.walkFills a.1).2) s

/-- An attach's engine commit took effect in the epoch now in force (10 R261): the attach ends. A commit of a
site write alone ends none. -/
def State.attachCommitted (s : State) (t : Nat) : State :=
  let a := s.att t
  if a.committing then
    ((s.modAtt t fun a => { a with committing := false, ha := false, epoch := s.ep.epoch }).attachEnds t
      (s.expected t a.record) a.status a.failType a.failCount).updatePairs
  else s

/-! ### What a module contributes -/

/-- An imager's data and events are used (10 R256, R266, R270). -/
def State.imagerLive (s : State) (id : Nat) : Bool :=
  let a := s.att (id / 8)
  a.st == .attached && (if a.ha then (tget s.xforms id).isSome else bitAt a.usable (id % 8))

/-- A module's events reach a source (10 R256, R266, R270). -/
def State.sourceFed (s : State) (i : Nat) : Bool :=
  let d := (s.source i).defn
  let m := if d.kind = 2 then d.originId / 8 else d.originId
  let a := s.att m
  a.st == .attached &&
    (if a.ha then a.hostSources.contains i
     else if d.kind = 2 then bitAt a.usable (d.originId % 8) else (blockOf a.record 0x21).isSome)

end Sys2Proof.Machine
end

