-- ==== Sys2Proof/Machine/Link.lean ====
section
/-! DEFINITION. The sensor links: module data and events, delay exchanges, group sleep and the LINK_* commands
(09). -/

namespace Sys2Proof.Machine

/-! ### Data and events (09 R228, R232, 03 R60) -/

/-- Deliver a DATA payload to stage inputs. -/
def State.deliverData (s : State) (key : Nat) (p : Bytes) : State :=
  { s with link := { s.link with data := s.link.data ++ [(key, p)] } }

/-- Deliver an event record to stage inputs. -/
def State.deliverEvent (s : State) (m : Nat) (r : Bytes) : State :=
  { s with link := { s.link with events := s.link.events ++ [(m, r)] } }

/-- A frame of which nothing has arrived. -/
def Frame.blank : Frame := { imager := 0, no := 0, start := none, mode := 0, lines := [] }

/-- The newest frame of an imager with a frame number, among those held. -/
def findFrame (l : List Frame) (id no : Nat) : Option Nat :=
  ((List.range l.length).filter fun i => (l.getD i Frame.blank).imager == id && (l.getD i Frame.blank).no == no).getLast?

/-- Change a frame of an imager, which is taken up when none of its number is held. -/
def State.modFrame (s : State) (id no : Nat) (f : Frame → Frame) : State :=
  let l := s.stg.frames
  match findFrame l id no with
  | some i => { s with stg := { s.stg with frames := lmod l i f } }
  | none => { s with stg := { s.stg with frames := l ++ [f { Frame.blank with imager := id, no := no }] } }

/-- A frame-start event of an imager (11 R272); a start held already begins a new frame of that number. -/
def State.noteStart (s : State) (id no t mode : Nat) : State :=
  let l := s.stg.frames
  let begun := match findFrame l id no with
    | some i => (l.getD i Frame.blank).start.isSome
    | none => false
  let s := if begun then { s with stg := { s.stg with frames := l ++ [{ Frame.blank with imager := id, no := no }] } } else s
  s.modFrame id no fun f => { f with start := some t, mode := mode }

/-- The intrinsics of an imager, block 0x0010 of the record held (10 Table 10-3). -/
def State.intrinsics (s : State) (id : Nat) : Option Bytes := slotBlock (s.att (id / 8)).record 0x10 (id % 8)

/-- The lines of a DATA payload with their tick of arrival (09 Table 9-5, 11 R274); `w` bytes each. -/
def payloadLines (tick w : Nat) (p : Bytes) : List (Nat × Nat × Bytes) :=
  let n := fieldN p 10 2
  (List.range n).map fun i => (fieldN p 8 2 + i, tick, sliceB p (16 + w * i) w)

/-- Image lines of an imager arrive. -/
def State.noteLines (s : State) (id : Nat) (p : Bytes) : State :=
  let w := match s.intrinsics id with
    | some b => lineBytes (fieldN b 2 1) (fieldN b 4 2)
    | none => if fieldN p 10 2 = 0 then 0 else (p.length - 16) / fieldN p 10 2
  let add := payloadLines s.time.tick w p
  s.modFrame id (fieldN p 4 4) fun f => { f with lines := f.lines ++ add }

/-- The module a frame of scope 0 comes from. -/
def frameModule (f : OshFrame) : Option Nat :=
  let a := fieldN f.bytes 4 2
  if bitsOf a 9 8 = 0 then some (a % 256) else none

/-- OSH_DATA: whole lines or returns of a usable sensor slot reach the stages that name them (09 R228, 10
R256); maker-defined data reach `raw` stages. -/
def execOshData (x : At) (_k : Nat) (f : OshFrame) (s : State) : Host.Outcome State Fault Refusal :=
  let s := s.enter x
  .next (if !(s.oshTakes f 1) || (s.sport f.port).group.sleeping then s
    else match frameModule f with
      | none => s
      | some m =>
        let p := oshPayload f
        if 128 ≤ fieldN p 0 1 then
          (if (s.att m).st = .attached then s.deliverData (4096 + m) p else s)
        else if fieldN f.bytes 8 1 < 6 ∧ s.imagerLive (8 * m + fieldN f.bytes 8 1) then
          let id := 8 * m + fieldN f.bytes 8 1
          if fieldN p 0 1 = 0 then s.noteLines id p else s.deliverData id p
        else s)

/-- A domain's value and increment at a tick, of which the present tick `now` is `back` ticks ahead: writes since then do
not count. -/
def Domain.asOf (d : Domain) (now back : Int) : Int × Int :=
  match (d.hist.filter fun h => decide (now - back < (h.1 : Int))).getLast? with
  | some (t, v, i) => ((v : Int) - ((t : Int) - (now - back)) * (8 * i), i)
  | none => ((d.value : Int) - back * (8 * d.incr), d.incr)

/-- A stamp in domain A or B of a local time: by the domain's value and increment at the first schedule tick at
or after it (09 R232). -/
def State.mapStamp (s : State) (d t : Nat) : Nat :=
  let back : Int := ((s.time.localC : Int) - t) / tickU
  let (v, inc) := (s.dom d).asOf s.time.tick back
  (v - ((s.time.localC : Int) - back * tickU - t) * inc / nsU).toNat

/-- The LKT stamp of an event in a domain; a software stamp has CAP_MODE 2, a hub's 1. -/
def State.eventLkt (s : State) (d t mode : Nat) : Bytes :=
  lktBytes d (s.lktFlags d mode false false) (s.mapStamp d t)

/-- A measured event of source `i`. -/
def State.linkEvent (s : State) (i phase t mode fwd : Nat) : PhaseEv :=
  { src := i, phase := phase % phaseMod, stamp := t, stampA := s.eventLkt 1 t mode, stampB := s.eventLkt 2 t mode,
    zEdge := false, zCorr := 0, fwd := fwd, bwd := fwd, encoder := false }

/-- The fraction of a line (03 R60, Table 3-1). -/
def lineFrac (line units : Nat) : Nat := line * 65536 / units

/-- Distance to the next expected event of an imager-line source (03 R62). -/
def nextLine (line stride units : Nat) : Nat :=
  if line + stride < units then lineFrac (line + stride) units - lineFrac line units else 65536 - lineFrac line units

/-- An event of an imager reaches imager-line source `i` (03 R60). -/
def State.lineEvent (s : State) (i code count line t mode : Nat) : State :=
  let p := s.source i
  let d := p.defn
  match code, p.origin0 with
  | 1, none =>
    (s.modSource i fun p => { p with origin0 := some count }).phaseEvent (s.linkEvent i 0 t mode (nextLine 0 d.stride d.units))
  | 1, some f0 =>
    s.phaseEvent (s.linkEvent i ((count + 4294967296 - f0) % 4294967296 * 65536) t mode (nextLine 0 d.stride d.units))
  | 0, some f0 =>
    if line % d.stride = 0 ∧ line < d.units then
      s.phaseEvent (s.linkEvent i ((count + 4294967296 - f0) % 4294967296 * 65536 + lineFrac line d.units) t mode
        (nextLine line d.stride d.units))
    else s
  | _, _ => s

/-- A crossing reaches mains source `i` (03 R60). -/
def State.mainsEvent (s : State) (i code count t mode : Nat) : State :=
  match code, (s.source i).origin0 with
  | 4, none =>
    (s.modSource i fun p => { p with origin0 := some count }).phaseEvent (s.linkEvent i 0 t mode 32768)
  | 4, some c0 =>
    s.phaseEvent (s.linkEvent i ((count + 4294967296 - c0) % 4294967296 / 2 * 65536) t mode 32768)
  | 5, some c0 =>
    s.phaseEvent (s.linkEvent i ((count + 4294967296 - c0) % 4294967296 / 2 * 65536 + 32768) t mode 32768)
  | _, _ => s

/-- The sources an event of a module moves. -/
def State.eventSources (s : State) (m code chan : Nat) : List Nat :=
  (List.range 16).filter fun i =>
    let d := (s.source i).defn
    (s.source i).st != .disabled && s.sourceFed i &&
      (if code ≤ 1 then d.kind == 2 && d.originId == 8 * m + chan
       else within 4 5 code && d.kind == 3 && d.originId == m)

/-- A module's event is used by stages (10 R256). -/
def State.eventLive (s : State) (m code chan : Nat) : Bool :=
  let a := s.att m
  if code ≤ 1 then s.imagerLive (8 * m + chan)
  else a.st == .attached &&
    (a.ha || (if code ≤ 3 then (slotBlock a.record 0x20 (128 + chan)).isSome
              else if code ≤ 5 then (blockOf a.record 0x21).isSome else true))

/-- The local time of an event: its stamp, or the software stamp of its service (04 R104). -/
def State.eventTime (s : State) (r : Bytes) : Nat :=
  if bitAt (fieldN r 2 1) 0 then fieldN r 16 8 * nsU + fieldN r 10 2 * 65536 else s.time.localC

/-- The software capture record of an unstamped event (04 R104). -/
def State.softEvent (s : State) (m : Nat) : State :=
  let n := tgetD s.cap.softSeq (64 + m) 0
  let r := s.capRec 4 m 4 2 n 0 0 0
  { s with cap := { s.cap with softSeq := tset s.cap.softSeq (64 + m) (n + 1), toStages := s.cap.toStages ++ [(128 + m, r)] } }

/-- One event record of a module (09 R232, 10 R260). -/
def State.oshRecord (s : State) (m : Nat) (r : Bytes) : State :=
  let code := fieldN r 0 1
  let chan := fieldN r 1 1
  let hw := bitAt (fieldN r 2 1) 0
  let t := s.eventTime r
  let a := s.att m
  let t' := if within 4 5 code && !a.ha then ((t : Int) - (zcDelay a.record).getD 0).toNat else t
  let mode := if hw then 1 else 2
  let s := if hw || !s.eventLive m code chan then s else s.softEvent m
  let s := if s.eventLive m code chan then s.deliverEvent m (r.take 16 ++ toLE 8 (t / nsU)) else s
  let s := if code = 1 ∧ s.eventLive m code chan then s.noteStart (8 * m + chan) (fieldN r 4 4) t mode else s
  (s.eventSources m code chan).foldl (fun s i =>
    if code ≤ 1 then s.lineEvent i code (fieldN r 4 4) (fieldN r 8 2) t mode
    else s.mainsEvent i code (fieldN r 4 4) t' mode) s

/-- OSH_EVENT: the records of a module, in order. -/
def execOshEvent (x : At) (_k : Nat) (f : OshFrame) (s : State) : Host.Outcome State Fault Refusal :=
  let s := s.enter x
  .next (if !(s.time.running && s.oshTakes f 2) || (s.sport f.port).group.sleeping then s
    else match frameModule f with
      | none => s
      | some m =>
        let p := oshPayload f
        ((List.range (p.length / 24)).map fun i => sliceB p (24 * i) 24).foldl (fun s r => s.oshRecord m r) s)

/-- OSH_DELAY_REQ: a DELAY_RESP is ready to be sent within 2 µs, which the spec does not fix (09 R229); it carries the times
of arrival and of departure at the connector. Capture records keep the times at the PCS boundary (04 R103). -/
def execOshDelayReq (x : At) (k : Nat) (f : OshFrame) (s : State) : Host.Outcome State Fault Refusal :=
  let s := s.enter x
  let k := k % 64
  .next (if !(s.time.running && s.oshTakes f 0x10) then s
    else
      let heard := s.counterAt 0 k
      let (v, s) := s.free
      let seq := fieldN f.bytes 6 2
      let addr := fieldN f.bytes 4 2
      (s.delayRec f.port 0x10 addr seq 2 k).addDue (heard + v % 15453 * capU) (.answer f.port addr seq heard))

/-! ### Scheduled link packets (09 R236, R243) -/

/-- The LINK_PKT action: the buffer's TRIGGER frame leaves with SEQ and FCS filled in; nothing while the port is
down or its group is not awake. -/
def State.linkPkt (s : State) (buf : Nat) : State :=
  match tget s.link.bufs buf with
  | none => s
  | some b =>
    if !s.spUp b.port || (s.sport b.port).group != .awake then s
    else
      let a := fieldN b.frame 4 2
      let (n, s) := s.nextSeq b.port a 3
      s.linkTx b.port 1 (oshFrame 3 a n (fieldN b.frame 8 1) (fieldN b.frame 9 1) (sliceB b.frame 16 16))

/-- LINK_BUF_WRITE: fills a buffer the hive image does not fill (09 R236, 18 Table 18-5). -/
def execLinkBufWrite (x : At) (qp tag : Nat) (_data : Option Bytes) (s : State) : Host.Outcome State Fault Refusal :=
  .next (s.run x qp tag 0x0304 fun s c =>
    let n := fieldN c.params 0 2
    let mine := match s.ep.image with
      | some m => m.site.linkBufs.any fun b => b.1 == n
      | none => false
    if mine then s.complete c.qp c.tag stBadState 0 []
    else
      let b : LinkBuf := { port := fieldN c.params 2 1, frame := sliceB c.params 4 32 }
      { s with link := { s.link with bufs := tset s.link.bufs n b } }.wakeUsed.complete c.qp c.tag stOK 0 [])

/-! ### Link and module ports up and down (09 R238, R244, 10 R267) -/

/-- A module is gone: its requests end, its attach state is DOWN (10 R267). -/
def State.moduleDown (s : State) (m status : Nat) : State :=
  ((s.mgmtFlush m status).reattachDone m status 0).modAtt m fun a => a.renew .down

/-- Nothing waits for a sensor port's transmitter any more, and none of a given place and after it in the order of R226. -/
def State.dropWaiting (s : State) (p cls : Nat) : State :=
  { s with link := { s.link with waiting := s.link.waiting.filter fun e => e.1 != p || decide (e.2.1 < cls) } }

/-- Every module of a port and its hub are gone. -/
def State.portGone (s : State) (p status : Nat) : State :=
  let s := (List.range 16).foldl (fun s n => s.moduleDown (16 * p + n) status) s
  s.moduleDown (256 + p) status

/-- Complete the commands waiting on a group. -/
def State.groupDone (s : State) (p status : Nat) : State :=
  let q := s.sport p
  let s := s.modSport p fun q => { q with sleepCmd := none, wakeCmds := [] }
  let s := q.wakeCmds.foldl (fun s c => s.complete c.1 c.2 status 0 []) s
  s.completeOpt q.sleepCmd status 0 []

/-- A port's uplink is lost: any sleep ends, its commands complete LINK_DOWN (09 R238, R244). -/
def State.sportLost (s : State) (p : Nat) : State :=
  let s := ((s.groupDone p stLinkDown).portGone p stLinkDown).dropWaiting p 0
  (s.modSport p fun q => { SensorPort.down with proposal := q.proposal, cause := q.cause }).updatePairs

/-- SENSOR_LINK_UP: the uplink trains, the group is AWAKE and the hub attaches (09 R244, 10 R250). -/
def execSensorLinkUp (x : At) (port : Nat) (s : State) : Host.Outcome State Fault Refusal :=
  let s := s.enter x
  .next (if s.attachTime && decide (port < 16) && s.unsealed (spSuper port) && !s.cageDark port &&
      !(s.sport port).up then
    let s := s.modSport port fun q => { SensorPort.down with up := true, proposal := q.proposal, cause := q.cause }
    s.startAttach (256 + port) false
    else s)

/-- SENSOR_LINK_DOWN (09 R244). -/
def execSensorLinkDown (x : At) (port : Nat) (s : State) : Host.Outcome State Fault Refusal :=
  let s := s.enter x
  .next (if (s.sport port).up then s.sportLost port else s)

/-- The group is AWAKE: LINK_WAKE commands complete, attaches that sleep ended begin again (09 R247, 10
R251). -/
def State.groupAwake (s : State) (p : Nat) : State :=
  let q := s.sport p
  let s := s.modSport p fun q => { q with
    group := .awake, wakeCmds := [], wakeSent := false, wakeDue := false, reported := [], seqs := [] }
  let s := q.wakeCmds.foldl (fun s c => s.complete c.1 c.2 stOK 0 []) s
  let hub := s.att (256 + p)
  if hub.st = .reading then s.startAttach (256 + p) false
  else (q.modulesUp.filter fun n => (s.att (16 * p + n)).st == .reading).foldl
    (fun s n => s.tryAttach (16 * p + n)) s

/-- The wake is complete: the uplink has relocked and all 16 ports are reported (09 R241, R244). -/
def State.checkAwake (s : State) (p : Nat) : State :=
  let q := s.sport p
  if q.group = .waking ∧ !q.duty ∧ q.reported.length = 16 then s.groupAwake p else s

/-- A module port comes up or goes down; while the group wakes its attach waits for AWAKE (10 R251). -/
def State.setModulePort (s : State) (p n : Nat) (up : Bool) : State :=
  let q := s.sport p
  if up then
    if q.modulesUp.contains n then s
    else
      let s := s.modSport p fun q => { q with modulesUp := sins q.modulesUp n }
      if q.group.sleeping then s.modAtt (16 * p + n) fun a => a.renew .reading
      else if s.attachTime then s.tryAttach (16 * p + n) else s
  else if q.modulesUp.contains n then
    ((s.modSport p fun q => { q with modulesUp := q.modulesUp.erase n }).moduleDown (16 * p + n) stAbsent).updatePairs
  else s

/-- PORT_STATE (09 R238): while the group wakes, the report of all 16 ports makes it AWAKE. -/
def execPortState (x : At) (f : OshFrame) (s : State) : Host.Outcome State Fault Refusal :=
  let s := s.enter x
  .next (if !(s.oshTakes f 0x22) then s
    else
      let p := oshPayload f
      let n := fieldN p 0 1
      let s := s.modSport f.port fun q =>
        if q.group = .waking then { q with reported := sins q.reported n } else q
      (s.setModulePort f.port n (fieldN p 1 1 == 1)).checkAwake f.port)

/-! ### Group sleep (09 R239 to R247) -/

/-- Send SLEEP_PROPOSE to the hub (09 R239). -/
def State.propose (s : State) (p : Nat) (cmd : Option (Nat × Nat)) : State :=
  let a := 256 + 16 * p
  let (n, s) := s.nextSeq p a 0x30
  let s := s.modSport p fun q => { q with
    group := .proposed, proposal := (q.proposal + 1) % 65536, sleepCmd := cmd, wakeSent := false, wakeDue := false }
  s.linkTx p 0 (oshFrame 0x30 a n 0 0 (toLE 2 (s.sport p).proposal ++ toLE 2 0))

/-- SLEEP_IDLE_TIMER: in device mode a hub unused for 1 s is proposed to sleep (09 R245). -/
def execSleepIdleTimer (x : At) (port : Nat) (s : State) : Host.Outcome State Fault Refusal :=
  let s := s.enter x
  .next (if !s.ha 9 && s.spUp port && (s.sport port).group == .awake && !s.portUsed port then s.propose port none
    else s)

/-- The group stops taking requests: what is outstanding or waiting ends with LINK_ASLEEP, an attach ends (09
R243, 10 R251). -/
def State.sleepFlush (s : State) (p : Nat) : State :=
  (((List.range 16).map fun n => 16 * p + n) ++ [256 + p]).foldl (fun s t =>
    ((s.mgmtFlush t stAsleep).reattachDone t stAsleep (s.att t).st.code).modAtt t fun a =>
      if a.st = .reading ∧ !a.committing then a.renew .reading else a) (s.dropWaiting p 3)

/-- SLEEP_COMMIT (09 R239, R243). -/
def execSleepCommit (x : At) (f : OshFrame) (s : State) : Host.Outcome State Fault Refusal :=
  let s := s.enter x
  .next (if s.oshTakes f 0x32 && (s.sport f.port).group == .proposed &&
      fieldN (oshPayload f) 0 2 == (s.sport f.port).proposal then
    let q := s.sport f.port
    let s := s.modSport f.port fun q => { q with group := .committed, cause := 0, sleepCmd := none }
    (s.sleepFlush f.port).completeOpt q.sleepCmd stOK 0 []
    else s)

/-- SLEEP_ABORT: the group is AWAKE (09 R244, R247). -/
def execSleepAbort (x : At) (f : OshFrame) (s : State) : Host.Outcome State Fault Refusal :=
  let s := s.enter x
  .next (if s.oshTakes f 0x33 && (s.sport f.port).group == .proposed &&
      fieldN (oshPayload f) 0 2 == (s.sport f.port).proposal then
    let q := s.sport f.port
    let cause := fieldN (oshPayload f) 2 1
    let s := s.modSport f.port fun q => { q with
      group := .awake, cause := cause, sleepCmd := none, wakeCmds := [], wakeSent := false, wakeDue := false }
    let s := q.wakeCmds.foldl (fun s c => s.complete c.1 c.2 stOK 0 []) s
    s.completeOpt q.sleepCmd stOK (1 + 16 * cause + 256 * fieldN (oshPayload f) 3 1) []
    else s)

/-- SLEEP_ENTRY: 10 µs after the commit instant the transmitter is duty-cycled; a WAKE latched since makes the
group wake (09 R239, R240). -/
def execSleepEntry (x : At) (port : Nat) (s : State) : Host.Outcome State Fault Refusal :=
  let s := s.enter x
  .next (if s.spUp port && (s.sport port).group == .committed then
    s.modSport port fun q => { q with
      group := if q.wakeSent then .waking else .asleep, duty := true, reported := [], exchanges := [] }
    else s)

/-- SLEEP_ON_WINDOW: a pending WAKE is sent throughout the window, else what waits for the transmitter (09 R242). -/
def execSleepOnWindow (x : At) (port : Nat) (s : State) : Host.Outcome State Fault Refusal :=
  let s := s.enter x
  .next (if s.spUp port && (s.sport port).duty then
    if (s.sport port).wakeDue then
      let s := s.modSport port fun q => { q with wakeDue := false, wakeSent := true, group := .waking }
      { s with link := { s.link with wakes := s.link.wakes ++ [(port, none, wakeSet)] } }
    else s.linkNext port s.time.localC
    else s)

/-- SENSOR_UPLINK_RELOCK: the transmitter and receiver leave duty-cycling (09 R241). -/
def execSensorUplinkRelock (x : At) (port : Nat) (s : State) : Host.Outcome State Fault Refusal :=
  let s := s.enter x
  .next (if s.spUp port && (s.sport port).duty then
    ((s.modSport port fun q => { q with group := .waking, duty := false, wakeDue := false }).linkNext port
      s.time.localC).checkAwake port
    else s)

/-- LINK_SLEEP: a proposal in host-assisted mode (09 R247). -/
def execLinkSleep (x : At) (qp tag : Nat) (_data : Option Bytes) (s : State) : Host.Outcome State Fault Refusal :=
  .next (s.run x qp tag 0x0302 fun s c =>
    let p := fieldN c.params 0 1
    if !s.spUp p then s.complete c.qp c.tag stLinkDown 0 []
    else if (s.sport p).group ≠ .awake then s.complete c.qp c.tag stBadState 0 []
    else (s.setProg c.qp c.tag (.waiting 0 0)).propose p (some (c.qp, c.tag)))

/-- LINK_WAKE: at once when awake, else when the group is AWAKE again (09 R247). -/
def execLinkWake (x : At) (qp tag : Nat) (_data : Option Bytes) (s : State) : Host.Outcome State Fault Refusal :=
  .next (s.run x qp tag 0x0303 fun s c =>
    let p := fieldN c.params 0 1
    if !s.spUp p then s.complete c.qp c.tag stLinkDown 0 []
    else if (s.sport p).group = .awake then s.complete c.qp c.tag stOK 1 []
    else ((s.setProg c.qp c.tag (.waiting 0 0)).modSport p fun q => { q with
      wakeCmds := q.wakeCmds ++ [(c.qp, c.tag)] }).wakePort p)

/-! ### LINK_STATE_READ (09 R246) -/

/-- The uplink hop has two exchanges, the last not older than 10 ms (09 R231). -/
def State.uplinkReady (s : State) (p : Nat) : Bool :=
  let e := (s.sport p).exchanges
  s.spUp p && e.length == 2 && decide (s.time.localC ≤ e.headD 0 + 10000000 * nsU)

/-- LINK (09 Table 9-8): 3 its super sealed, 2 up, 1 training once ports are trained (21 step 11). -/
def State.linkCode (s : State) (p : Nat) : Nat :=
  if !s.unsealed (spSuper p) then 3 else if (s.sport p).up then 2 else if s.attachTime then 1 else 0

/-- A link state record; `ready` is STAMP_READY_HI. -/
def State.linkRec (s : State) (p ready : Nat) : Bytes :=
  let q := s.sport p
  toLE 1 p ++ toLE 1 (s.linkCode p) ++ toLE 1 q.group.code ++ [0] ++ toLE 2 (maskOf 16 q.modulesUp) ++
    toLE 2 (ready % 65536 &&& maskOf 16 q.modulesUp) ++ toLE 2 q.proposal ++ toLE 1 q.cause ++
    toLE 1 (b2n (s.uplinkReady p)) ++ toLE 4 0

/-- LINK_STATE_READ: a record per port of the mask, at one tick. How the engine learns of the exchanges on
module ports is not stated: STAMP_READY_HI is free among the ports that are up (log entry 18). -/
def execLinkStateRead (x : At) (qp tag : Nat) (_data : Option Bytes) (s : State) : Host.Outcome State Fault Refusal :=
  .next (s.run x qp tag 0x0301 fun s c =>
    let m := fieldN c.params 0 2
    let recs := catB (((List.range 16).filter fun p => bitAt m p).map fun p =>
      s.linkRec p (Config.freeNat (s.freeCtr + p)))
    { s with freeCtr := s.freeCtr + 16 }.complete c.qp c.tag stOK 0 recs)

end Sys2Proof.Machine
end

