-- ==== Sys2Proof/Machine/Ecc.lean ====
section
/-! DEFINITION. The check codes: the 72-bit word code of cell SRAM (07 Tables 7-1 and 7-2) and the
Reed-Solomon code of store lines (08 R208, R209). -/

namespace Sys2Proof.Machine

/-! ### The word code (07 R174 to R176) -/

/-- The XOR of the low `n` bits of a number. -/
def parityN : Nat → Nat → Bool
  | 0, _ => false
  | n + 1, v => xor (v % 2 == 1) (parityN n (v / 2))

/-- A code position holds a check bit: a power of two. -/
def checkPos (p : Nat) : Bool := p == 1 || p == 2 || p == 4 || p == 8 || p == 16 || p == 32 || p == 64

/-- The code position of each data bit, counted upward from 3 (07 Table 7-1). -/
def dataPositions : List Nat := (List.range' 3 69).filter fun p => !checkPos p

/-- The data bits cj covers, j = 0 to 6, as a mask (07 Table 7-1). -/
def coverMask (j : Nat) : Nat := flagBits (dataPositions.map fun p => bitAt p j)

/-- c0 to c6 of 64 data bits. -/
def hammingBits (d : Nat) : Nat := flagBits ((List.range 7).map fun j => parityN 64 (d &&& coverMask j))

/-- The check byte of 64 data bits: c0 to c6 and the overall parity c7 (07 Table 7-1). -/
def checkByte (d : Nat) : Nat :=
  let h := hammingBits d
  h + 128 * b2n (xor (parityN 64 d) (parityN 7 h))

/-- The syndrome S of a stored word. -/
def wordS (d c : Nat) : Nat := c % 128 ^^^ hammingBits d

/-- The parity P of a stored word: of all 72 bits. -/
def wordP (d c : Nat) : Bool := xor (parityN 64 d) (parityN 8 c)

/-- Classes of a stored word (07 Table 7-2). -/
inductive WordClass where
  | clean | correctable | poison | uncorrectable
deriving DecidableEq, Repr

/-- Classify a stored word by its syndrome and parity (07 Table 7-2). -/
def classify (d c : Nat) : WordClass :=
  let s := wordS d c
  let p := wordP d c
  if s = 0 ∧ !p then .clean
  else if s ≤ 71 ∧ p then .correctable
  else if s = 127 ∧ !p then .poison
  else .uncorrectable

/-- The data of a correctable word: the bit at code position S flipped, a check bit leaving it (07 Table
7-2). -/
def corrected (d c : Nat) : Nat :=
  match dataPositions.findIdx? (· == wordS d c) with
  | some i => d ^^^ 2 ^ i
  | none => d

/-- The poison pattern's check byte: the complement of the correct one (07 R176). -/
def poisonByte (d : Nat) : Nat := 255 - checkByte d

/-! ### The line code (08 R208, R209) -/

/-- Double in GF(2^8) with field polynomial 0x11D. -/
def gfDouble (a : Nat) : Nat := if a ≥ 128 then (2 * a) ^^^ 0x11D else 2 * a

/-- The product in GF(2^8), over the bits of `b` from the lowest. -/
def gfMulN : Nat → Nat → Nat → Nat
  | 0, _, _ => 0
  | n + 1, a, b => (if b % 2 = 1 then a else 0) ^^^ gfMulN n (gfDouble a) (b / 2)

/-- The product in GF(2^8). -/
def gfMul (a b : Nat) : Nat := gfMulN 8 a b

/-- A power in GF(2^8). -/
def gfPow (a : Nat) : Nat → Nat
  | 0 => 1
  | n + 1 => gfMul a (gfPow a n)

/-- The inverse in GF(2^8): a^254. -/
def gfInv (a : Nat) : Nat := gfPow a 254

/-- Multiply a polynomial, highest coefficient first, by (x - r). -/
def polyTimes (p : List Nat) (r : Nat) : List Nat :=
  List.zipWith (· ^^^ ·) (p ++ [0]) (0 :: p.map (gfMul r))

/-- The generator, the product of (x - 2^j) for j = 0 to 7, highest coefficient first (08 R208). -/
def rsGen : List Nat := (List.range 8).foldl (fun p j => polyTimes p (gfPow 2 j)) [1]

/-- One step of the division by the generator: `reg` holds the 8 remainder coefficients, highest first. -/
def rsStep (reg : List Nat) (d : Nat) : List Nat :=
  let f := d ^^^ reg.headD 0
  List.zipWith (· ^^^ ·) (reg.drop 1 ++ [0]) ((rsGen.drop 1).map (gfMul f))

/-- The 8 check symbols of 64 data bytes, symbol 64 first (08 R208). -/
def rsCheck (data : Bytes) : Bytes :=
  ((data.map BitVec.toNat).foldl rsStep (List.replicate 8 0)).map (BitVec.ofNat 8)

/-- The value at 2^j of the line polynomial: symbol i is the coefficient of x^(71-i). -/
def rsEval (line : Bytes) (j : Nat) : Nat :=
  let a := gfPow 2 j
  line.foldl (fun acc b => gfMul acc a ^^^ b.toNat) 0

/-- The syndrome of a line, 8 symbols. -/
def rsSyndrome (line : Bytes) : List Nat := (List.range 8).map (rsEval line)

/-- The poison pattern: the check symbols XORed with 0xFF (08 R208). -/
def flipCheck (line : Bytes) : Bytes := line.take 64 ++ (line.drop 64).map (· ^^^ 0xFF)

/-- The syndrome of the poison pattern. -/
def poisonSyndrome : List Nat := rsSyndrome (List.replicate 64 0 ++ List.replicate 8 0xFF)

/-- A single error at symbol `i` explains a syndrome: its value. -/
def oneError (s : List Nat) (i : Nat) : Option Nat :=
  let x := gfPow 2 (71 - i)
  let e := s.headD 0
  if e ≠ 0 ∧ (List.range 8).all (fun j => s.getD j 0 == gfMul e (gfPow x j)) then some e else none

/-- Errors at symbols `i` and `k` explain a syndrome: their values. -/
def twoErrors (s : List Nat) (i k : Nat) : Option (Nat × Nat) :=
  let x := gfPow 2 (71 - i)
  let y := gfPow 2 (71 - k)
  let e := gfMul (s.getD 1 0 ^^^ gfMul (s.headD 0) y) (gfInv (x ^^^ y))
  let f := s.headD 0 ^^^ e
  if e ≠ 0 ∧ f ≠ 0 ∧ (List.range 8).all (fun j => s.getD j 0 == gfMul e (gfPow x j) ^^^ gfMul f (gfPow y j))
  then some (e, f) else none

/-- XOR a value into symbol `i`. -/
def xorAt (line : Bytes) (i e : Nat) : Bytes := lmod line i fun b => b ^^^ BitVec.ofNat 8 e

/-- The codeword at most 2 symbols from a line, if there is one (08 R209). -/
def rsCorrect (line : Bytes) : Option Bytes :=
  let s := rsSyndrome line
  match (List.range 72).findSome? fun i => (oneError s i).map fun e => xorAt line i e with
  | some l => some l
  | none => (List.range 72).findSome? fun i => (List.range i).findSome? fun k =>
      (twoErrors s i k).map fun p => xorAt (xorAt line i p.1) k p.2

/-- Classify a line by its syndrome (08 R209). -/
def classifyLine (line : Bytes) : WordClass :=
  let s := rsSyndrome line
  if s.all (· == 0) then .clean
  else if s = poisonSyndrome then .poison
  else if (rsCorrect line).isSome then .correctable
  else .uncorrectable

end Sys2Proof.Machine
end

