-- ==== Sys2Proof/Machine/Mem.lean ====
section
/-! DEFINITION. Cell SRAM and store lines: where their bytes stand, and what an access does (07 R172 to
R181, 08 R204, R209, R210). -/

namespace Sys2Proof.Machine

/-! ### The byte list -/

/-- A stored byte; what is not listed reads 0 (log entry 6). -/
def memGet (m : List Host.Cell) (a : Nat) : Byte := tgetD m a 0

/-- Remove an address from a list with rising addresses. -/
def memDrop (m : List Host.Cell) (a : Nat) : List Host.Cell :=
  match m with
  | [] => []
  | (k, b) :: r => if k = a then r else (k, b) :: memDrop r a

/-- Store a byte, in canonical form: a 0 is not listed. -/
def memPut (m : List Host.Cell) (a : Nat) (b : Byte) : List Host.Cell :=
  if b = 0 then memDrop m a else tset m a b

/-- Bytes from an address. -/
def memRead (m : List Host.Cell) (a n : Nat) : Bytes := (List.range n).map fun i => memGet m (a + i)

/-- Store bytes from an address. -/
def memWrite (m : List Host.Cell) (a : Nat) : Bytes → List Host.Cell
  | [] => m
  | b :: bs => memWrite (memPut m a b) (a + 1) bs

/-- The canonical form: addresses strictly rising, no 0 listed. -/
def Memory.wf (m : List Host.Cell) : Bool := tsorted m && m.all fun c => c.2 != 0

/-! ### Cell words -/

/-- Where word `w` (0 to 524,287) of a global cell stands: 8 data bytes and its check byte. -/
def wordAt (gcell w : Nat) : Nat := 9 * (524288 * gcell + w)

/-- The first address past the cells' words. -/
def storeBase : Nat := 9 * (524288 * 9216)

/-- Where the line holding a byte address of row `r`'s store stands: 64 data and 8 check symbols. -/
def lineAt (r addr : Nat) : Nat := storeBase + 72 * (68719476736 * r + addr / 64)

/-- The stored data bits of a word. -/
def State.wordD (s : State) (g w : Nat) : Nat := leNat (memRead s.mem (wordAt g w) 8)

/-- The stored check byte of a word. -/
def State.wordC (s : State) (g w : Nat) : Nat := (memGet s.mem (wordAt g w + 8)).toNat

/-- The first address past the store lines: engine memories (07 R183). -/
def engBase : Nat := lineAt 8 0

/-- Where word `w` of an engine memory of a super stands: DEST_KIND 1 to 6, or 7 for the I/O and bus buffers. -/
def engAt (sup kind w : Nat) : Nat := engBase + 9 * (4194304 * (8 * sup + kind) + w)

/-- The stored data bits and check byte of a word of an engine memory. -/
def State.engD (s : State) (p kind w : Nat) : Nat := leNat (memRead s.mem (engAt p kind w) 8)

def State.engC (s : State) (p kind w : Nat) : Nat := (memGet s.mem (engAt p kind w + 8)).toNat

/-- The class an access to it meets: every poison pattern counts as known poisoned (07 R183). -/
def State.engClass (s : State) (p kind w : Nat) : WordClass := classify (s.engD p kind w) (s.engC p kind w)

/-- Store a word of an engine memory with a check byte. -/
def State.putEng (s : State) (p kind w d c : Nat) : State :=
  { s with mem := memWrite s.mem (engAt p kind w) (toLE 8 d ++ toLE 1 c) }

/-- A read of a word of an engine memory: its data, none where it is uncorrectable or poisoned. It makes no event and counts
toward nothing (07 R183, Table 7-3). -/
def State.readEng (s : State) (p kind w : Nat) : Option Nat × State :=
  let d := s.engD p kind w
  let c := s.engC p kind w
  match s.engClass p kind w with
  | .clean => (some d, s)
  | .correctable =>
    let v := corrected d c
    (some v, s.putEng p kind w v (checkByte v))
  | .uncorrectable => (none, s.putEng p kind w d (poisonByte d))
  | .poison => (none, s)

/-- Bits of a word of an engine memory flip. -/
def State.flipEng (s : State) (p kind w mask : Nat) : State :=
  s.putEng p kind w (s.engD p kind w ^^^ mask % 2 ^ 64) (s.engC p kind w ^^^ mask / 2 ^ 64)

/-- Write bytes of an engine memory by full writes, from a word's first byte on. -/
def State.writeEng (s : State) (p kind off : Nat) (b : Bytes) : State :=
  (List.range ((b.length + 7) / 8)).foldl (fun s i =>
    let v := leNat ((b.drop (8 * i)).take 8)
    s.putEng p kind (off / 8 + i) v (checkByte v)) s

/-- Store a word with a check byte. -/
def State.putWord (s : State) (g w d c : Nat) : State :=
  { s with mem := memWrite s.mem (wordAt g w) (toLE 8 d ++ toLE 1 c) }

/-- A cell is under injection (07 R189). -/
def State.injected (s : State) (g : Nat) : Bool := s.cells.injected.contains g

/-- The class an access meets (07 R175, R176, R189). An unregistered poison pattern is uncorrectable. -/
def State.wordClass (s : State) (g w : Nat) : WordClass :=
  match classify (s.wordD g w) (s.wordC g w) with
  | .poison => if s.injected g || tget s.cells.poison g == some (8 * w) then .poison else .uncorrectable
  | c => c

/-- CLASS of a raw record (07 Table 7-5). -/
def State.rawClass (s : State) (g w : Nat) : Nat :=
  match classify (s.wordD g w) (s.wordC g w) with
  | .clean => 0
  | .correctable => 1
  | .uncorrectable => 2
  | .poison => if s.injected g || tget s.cells.poison g == some (8 * w) then 3 else 4

/-- What an access answers: status, data read, and whether it counts an uncorrectable outcome and a
correctable event for R180. -/
structure Access where
  status : Nat
  data : Nat
  ue : Bool
  ce : Bool
deriving DecidableEq, Repr

/-- Merge bytes of `new` into `old` where the mask bit is set. -/
def mergeBytes (old new mask : Nat) : Nat :=
  leNat ((List.range 8).map fun i => BitVec.ofNat 8 ((if bitAt mask i then new else old) / 256 ^ i))

/-- Poison a word and register it (07 R176, R177). -/
def State.poisonWord (s : State) (g w d : Nat) : State :=
  let s := s.putWord g w d (poisonByte d)
  if s.injected g then s else { s with cells := { s.cells with poison := tset s.cells.poison g (8 * w) } }

/-- A MEM_CE, MEM_UE or POISON_CLEARED event of a cell, none while it is under injection (07 R178, R189). -/
def State.cellEvent (s : State) (kind g detail : Nat) : State :=
  if s.injected g then s else s.event kind 0 g detail

/-- A read of a word (07 Table 7-3). -/
def State.readWord (s : State) (g w : Nat) : Access × State :=
  let d := s.wordD g w
  let c := s.wordC g w
  match s.wordClass g w with
  | .clean => ({ status := stOK, data := d, ue := false, ce := false }, s)
  | .correctable =>
    let v := corrected d c
    ({ status := stCE, data := v, ue := false, ce := !s.injected g },
      (s.putWord g w v (checkByte v)).cellEvent 5 g (w % 16))
  | .uncorrectable =>
    ({ status := stUE, data := 0, ue := !s.injected g, ce := false }, (s.poisonWord g w d).cellEvent 6 g (8 * w))
  | .poison => ({ status := stUE, data := 0, ue := false, ce := false }, s)

/-- A full write of a word (07 Table 7-3, R179): it never reads, and clears known poison. -/
def State.fullWrite (s : State) (g w v : Nat) : State :=
  let known := !s.injected g && tget s.cells.poison g == some (8 * w)
  let s := s.putWord g w v (checkByte v)
  if known then { s with cells := { s.cells with poison := terase s.cells.poison g } }.cellEvent 7 g (8 * w) else s

/-- A write of a word under a byte mask (07 Table 7-3). -/
def State.writeWord (s : State) (g w v mask : Nat) : Access × State :=
  if mask % 256 = 0 then ({ status := stOK, data := 0, ue := false, ce := false }, s)
  else if mask % 256 = 255 then ({ status := stOK, data := 0, ue := false, ce := false }, s.fullWrite g w v)
  else
    let d := s.wordD g w
    let c := s.wordC g w
    match s.wordClass g w with
    | .clean =>
      let n := mergeBytes d v mask
      ({ status := stOK, data := 0, ue := false, ce := false }, s.putWord g w n (checkByte n))
    | .correctable =>
      let n := mergeBytes (corrected d c) v mask
      ({ status := stCE, data := 0, ue := false, ce := !s.injected g },
        (s.putWord g w n (checkByte n)).cellEvent 5 g (w % 16))
    | .uncorrectable =>
      ({ status := stUEPois, data := 0, ue := !s.injected g, ce := false },
        (s.poisonWord g w (mergeBytes d v mask)).cellEvent 6 g (8 * w))
    | .poison =>
      ({ status := stUEPois, data := 0, ue := false, ce := false },
        s.putWord g w (mergeBytes d v mask) (poisonByte (mergeBytes d v mask)))

/-- Write zero over every word of a cell by full writes: at step 9, for a spare, at a load for an injected
cell (07 R171, R190). Words not listed hold 0 with check byte 0. -/
def State.zeroCell (s : State) (g : Nat) : State :=
  { s with
    mem := s.mem.filter fun c => !(decide (wordAt g 0 ≤ c.1) && decide (c.1 < wordAt (g + 1) 0))
    cells := { s.cells with poison := terase s.cells.poison g, injected := s.cells.injected.erase g } }

/-- Count the outcomes of one access for R180: the UE map is programmed at a first counted uncorrectable
outcome, and a cause to retire the cell is answered (2 uncorrectable, 3 correctable count). -/
def State.countAccess (s : State) (g : Nat) (ue : Bool) (banks : List Nat) : Option Nat × State :=
  let full := banks.foldl (fun (p : Bool × State) b =>
    let n := tgetD p.2.cells.ceCount (16 * g + b) 0 + 1
    (p.1 || decide (n ≥ 1024),
      { p.2 with cells := { p.2.cells with ceCount := tset p.2.cells.ceCount (16 * g + b) n } })) (false, s)
  let s := full.2
  if ue && s.flash.ueMap.contains g then (some 2, s)
  else
    let s := if ue then { s with flash := { s.flash with ueMap := sins s.flash.ueMap g } } else s
    (if full.1 then some 3 else none, s)

/-! ### Store lines (08) -/

/-- The 72 symbols of a line. -/
def State.line (s : State) (r addr : Nat) : Bytes := memRead s.mem (lineAt r addr) 72

/-- Store 72 symbols in one store. -/
def State.putLine1 (s : State) (r addr : Nat) (l : Bytes) : State :=
  { s with mem := memWrite s.mem (lineAt r addr) l }

/-- The partner row of a mirrored row (08 R195). -/
def State.partner (s : State) (r : Nat) : Option Nat :=
  if (s.row r).config = 2 then some (if r < 4 then r + 4 else r - 4) else none

/-- Note a write to an extent while a store serves alone (08 R207). -/
def State.noteExtent (s : State) (r addr : Nat) : State :=
  if (s.row r).solo.isSome then s.modRow r fun v => { v with extents := sins v.extents (addr / 1048576) } else s

/-- The rows that hold a write to row `r`: the row and its partner while both serve (08 R204). -/
def State.holders (s : State) (r : Nat) : List Nat :=
  match s.partner r with
  | some p => if (s.row r).serving && (s.row p).serving then [r, p] else [r]
  | none => [r]

/-- The home store of a line (08 R204): by bit 20 of the address while both stores of a pair serve. -/
def State.homeRow (s : State) (r addr : Nat) : Nat :=
  match s.partner r with
  | some p =>
    if (s.row r).serving && (s.row p).serving then
      (if bitAt addr 20 then max r p else min r p)
    else r
  | none => r

/-- Store a whole line wherever it is held (08 R204). -/
def State.putLine (s : State) (r addr : Nat) (l : Bytes) : State :=
  ((s.holders r).foldl (fun s q => s.putLine1 q addr l) s).noteExtent r addr

/-- List a line as poisoned where there is room (08 R210). -/
def State.listPoison (s : State) (r addr : Nat) : State :=
  (s.holders r).foldl (fun s q => s.modRow q fun v =>
    { v with poisoned := if v.poisoned.length < 65536 then sins v.poisoned (addr / 64 * 64) else v.poisoned }) s

/-- A read of a line in row `r`: status and 64 bytes (08 R209, R210). -/
def State.readLine (s : State) (r addr : Nat) : (Nat × Bytes) × State :=
  let l := s.line r addr
  let a := addr / 64 * 64
  match classifyLine l with
  | .clean => ((stOK, l.take 64), s)
  | .correctable =>
    let v := (rsCorrect l).getD l
    ((stCE, v.take 64), (s.putLine1 r addr v).event 5 1 r a)
  | .uncorrectable =>
    ((stUE, List.replicate 64 0),
      ((s.putLine r addr (flipCheck (l.take 64 ++ rsCheck (l.take 64)))).listPoison r addr).event 6 1 r a)
  | .poison => ((stUE, List.replicate 64 0), s)

/-- Merge bytes of a line where the mask bit is set. -/
def mergeLine (old new : Bytes) (mask : Nat) : Bytes :=
  (List.range 64).map fun i => if bitAt mask i then new.getD i 0 else old.getD i 0

/-- A full write of a line; it leaves the list of each row that holds it, with that row's event (08 R204, R210). -/
def State.fullLine (s : State) (r addr : Nat) (d : Bytes) : State :=
  let a := addr / 64 * 64
  let listed := (s.holders r).filter fun q => (s.row q).poisoned.contains a
  listed.foldl (fun s q => (s.modRow q fun v => { v with poisoned := v.poisoned.erase a }).event 7 1 q a)
    (s.putLine r addr (d ++ rsCheck d))

/-- A write of a line under a byte mask of 64 bits (08 R210). -/
def State.writeLine (s : State) (r addr : Nat) (d : Bytes) (mask : Nat) : Nat × State :=
  let l := s.line r addr
  let a := addr / 64 * 64
  let with_ := fun (o : Bytes) => let m := mergeLine o d mask; m ++ rsCheck m
  if mask = 0 then (stOK, s)
  else if mask = 2 ^ 64 - 1 then (stOK, s.fullLine r addr d)
  else match classifyLine l with
    | .clean => (stOK, s.putLine r addr (with_ l))
    | .correctable => (stCE, (s.putLine r addr (with_ ((rsCorrect l).getD l))).event 5 1 r a)
    | .uncorrectable =>
      (stUEPois, ((s.putLine r addr (flipCheck (with_ l))).listPoison r addr).event 6 1 r a)
    | .poison => (stUEPois, s.putLine r addr (flipCheck (with_ l)))

end Sys2Proof.Machine
end

