-- ==== Sys2Proof/Machine/Residency.lean ====
section
/-! DEFINITION. What cells, stores and engine memories answer the engine's own work (07 R178 to R183), and the residency
plan's transfers: what a pending write-back would leave in its lines, and what a lost store makes of it (08 R200 to R206, R212). -/

namespace Sys2Proof.Machine

/-! ### Cell accesses by the engine's own work (07 R178, R180) -/

/-- Count an access to a word; a retirement it causes follows when the work has ended. -/
def State.counted (s : State) (g : Nat) (a : Access) (bank : Nat) : State :=
  let r := s.countAccess g a.ue (if a.ce then [bank] else [])
  match r.1 with
  | some c =>
    if r.2.cells.due.any fun d => d.1 == g then r.2
    else { r.2 with cells := { r.2.cells with due := r.2.cells.due ++ [(g, c)] } }
  | none => r.2

/-- What an access comes to over its words: data, the most severe status and the byte address of the first word or line
that has it (07 R187). -/
structure Total where
  data : Bytes
  status : Nat
  addr : Nat
deriving DecidableEq, Repr

/-- Nothing accessed yet; the first word or line stands at `addr`. -/
def Total.start (addr : Nat) : Total := { data := [], status := stOK, addr := addr }

/-- Severity of an access status. -/
def severity (st : Nat) : Nat := if st = stUEPois then 3 else if st = stUE then 2 else if st = stCE then 1 else 0

/-- Add one word's or line's outcome. -/
def Total.add (t : Total) (data : Bytes) (status addr : Nat) : Total :=
  if severity t.status < severity status then { data := t.data ++ data, status := status, addr := addr }
  else { t with data := t.data ++ data }

/-- Read the words of a cell that hold `n` bytes from `off`. -/
def State.readWords (s : State) (g off n : Nat) : Total × State :=
  let r := (List.range' (off / 8) ((off % 8 + n + 7) / 8)).foldl (fun (p : Total × State) w =>
    let a := p.2.readWord g w
    (p.1.add (toLE 8 a.1.data) a.1.status (8 * w), a.2.counted g a.1 (w % 16))) (Total.start (off / 8 * 8), s)
  ({ r.1 with data := sliceB r.1.data (off % 8) n }, r.2)

/-- Write bytes from `off`: whole words as full writes, the first and last partly covered ones as partial writes (07
R187). -/
def State.writeWords (s : State) (g off : Nat) (b : Bytes) : Total × State :=
  let pre := off % 8
  let d := List.replicate pre 0 ++ b
  (List.range ((d.length + 7) / 8)).foldl (fun (p : Total × State) i =>
    let part := (d.drop (8 * i)).take 8
    let mask := 2 ^ part.length - (if i = 0 then 2 ^ pre else 1)
    let a := p.2.writeWord g (off / 8 + i) (leNat part) mask
    (p.1.add [] a.1.status (off / 8 * 8 + 8 * i), a.2.counted g a.1 ((off / 8 + i) % 16))) (Total.start (off / 8 * 8), s)

/-- Read bytes of a cell, and whether a word read MEM_UE. -/
def State.readCell (s : State) (g off n : Nat) : (Bytes × Bool) × State :=
  let r := s.readWords g off n
  ((r.1.data, r.1.status == stUE), r.2)

/-- Write bytes of a cell. -/
def State.writeCell (s : State) (g off : Nat) (b : Bytes) : State := (s.writeWords g off b).2

/-! ### Residency entries (08 Table 8-3) -/

/-- The fields of a residency entry. -/
structure ResEntry where
  placement : Nat
  lsuper : Nat
  dest : Nat
  mode : Nat
  stage_ : Nat
  lcell : Nat
  addr : Nat
  off : Nat
  len : Nat
  lead : Nat
deriving DecidableEq, Repr

/-- Read an entry. -/
def parseRes (b : Bytes) : ResEntry :=
  { placement := fieldN b 0 1, lsuper := fieldN b 1 1, dest := fieldN b 2 1, mode := fieldN b 3 1, stage_ := fieldN b 4 2,
    lcell := fieldN b 6 1, addr := fieldN b 8 8, off := fieldN b 16 4, len := fieldN b 20 4, lead := fieldN b 24 4 }

/-- The residency plan's entries, by index; those of the placement in use. -/
def State.resEntry (s : State) (i : Nat) : Option ResEntry :=
  s.ep.image.bind fun m => m.residency[i]?.map parseRes

def State.resIndices (s : State) (f : ResEntry → Bool) : List Nat :=
  match s.ep.image with
  | none => []
  | some m => (List.range m.residency.length).filter fun i => match s.resEntry i with
    | some e => e.placement == s.ep.placement && f e
    | none => false

/-- The super whose foragers carry an entry out. -/
def State.resSuper (s : State) (e : ResEntry) : Nat := s.ep.binding.getD e.lsuper 64

/-- Where an entry's words stand in cell SRAM. -/
def State.resCell (s : State) (e : ResEntry) : Option Nat :=
  let site := (s.super (s.resSuper e)).remap.getD e.lcell 255
  if e.dest == 0 && s.unsealed (s.resSuper e) && decide (site < 144) then some (144 * s.resSuper e + site) else none

/-! ### Occupancy tiles (13 Table 13-9, 14 R351) -/

/-- A voxel's key. -/
def voxelKey (x y z : Nat) : Nat := x + 65536 * y + 4294967296 * z

/-- A voxel's value; one not listed is 128 (13 R343). -/
def State.voxel (s : State) (v : Nat) : Nat := (tget s.place.voxels v).getD 128

/-- The tile of a voxel, as tile x + 65,536 y + 2^32 z. -/
def tileOf (v : Nat) : Nat :=
  voxelKey (v % 65536 / 32) (v / 65536 % 65536 / 32) (v / 4294967296 % 65536 / 32)

/-- The voxel of a tile's byte. -/
def tileVoxel (t i : Nat) : Nat :=
  voxelKey (32 * (t % 65536) + i % 32) (32 * (t / 65536 % 65536) + i / 32 % 32) (32 * (t / 4294967296 % 65536) + i / 1024)

/-- A tile's 32 KiB. -/
def State.tileBytes (s : State) (t : Nat) : Bytes := (List.range 32768).map fun i => BitVec.ofNat 8 (s.voxel (tileVoxel t i))

/-- Its occupied map (14 R351). -/
def State.tileMap (s : State) (t : Nat) : Bytes :=
  (List.range 4096).map fun k => BitVec.ofNat 8 (flagBits ((List.range 8).map fun j =>
    s.route.occupied.contains (tileVoxel t (8 * k + j))))

/-- The occupancy tile an entry carries. -/
def State.resTile (s : State) (k : Nat) : Option Nat := s.ep.image.bind fun m => tget m.site.tiles k

/-! ### Write-backs (08 R204, R205, R212) -/

/-- A word as a read would return it; none where it would read uncorrectable or poisoned. -/
def soundWord (c : WordClass) (d k : Nat) : Option Nat :=
  match c with
  | .clean => some d
  | .correctable => some (corrected d k)
  | _ => none

/-- What a write-back of an entry sends as its line `i`; none where a word of it cannot be read (R201). -/
def State.backLine (s : State) (k i : Nat) (e : ResEntry) : Option Bytes :=
  match s.resTile k with
  | some t => some (sliceB (s.tileBytes t ++ s.tileMap t) (64 * i) 64)
  | none =>
    let words := (List.range 8).map fun j =>
      let w := (e.off + 64 * i) / 8 + j
      match e.dest, s.resCell e with
      | 0, none => none
      | 0, some g => soundWord (s.wordClass g w) (s.wordD g w) (s.wordC g w)
      | n, _ =>
        let p := s.resSuper e
        soundWord (s.engClass p n w) (s.engD p n w) (s.engC p n w)
    if words.all Option.isSome then some (catB (words.map fun w => toLE 8 (w.getD 0))) else none

/-- What a pending write-back would leave in the line at an address of row `r`'s store. -/
def State.pendingLine (s : State) (r addr : Nat) (t : Transfer) : Option Bytes :=
  (s.resEntry t.entry).bind fun e =>
    if e.mode = 2 ∧ (s.holders (t.sup / 8)).contains r ∧ e.addr ≤ addr ∧ addr < e.addr + e.len then
      s.backLine t.entry ((addr - e.addr) / 64) e else none

/-- A read of a line by row `r`: of each write not yet completed, the content before it or after it, which one is free (R205). -/
def State.readNow (s : State) (r addr : Nat) : (Nat × Bytes) × State :=
  let p := s.store.transfers.foldl (fun (p : Option Bytes × State) t =>
    match s.pendingLine r addr t with
    | some b =>
      let f := p.2.free
      (if f.1 % 2 = 1 then some b else p.1, f.2)
    | none => p) (none, s)
  match p.1 with
  | some b => ((stOK, b), p.2)
  | none => p.2.readLine r addr

/-- A write not yet complete when its store is lost: each of its lines holds its content from before it or after it, which one
is free, in the lost store and in a serving partner (R212). -/
def State.tornWrite (s : State) (t : Transfer) : State :=
  match s.resEntry t.entry with
  | none => s
  | some e =>
    if e.mode ≠ 2 then s
    else
      let r := t.sup / 8
      let rows := r :: (s.partner r).toList.filter fun q => (s.row q).serving
      (List.range (e.len / 64)).foldl (fun s i => match s.backLine t.entry i e with
        | none => s
        | some b => rows.foldl (fun s q =>
          let f := s.free
          if f.1 % 2 = 1 then f.2.putLine1 q (e.addr + 64 * i) (b ++ rsCheck b) else f.2) s) s

/-- Read the lines of a row's store that hold `n` bytes from `addr` (08 R205, R210). -/
def State.readStore (s : State) (r addr n : Nat) : Total × State :=
  let q := (List.range' (addr / 64) ((addr % 64 + n + 63) / 64)).foldl (fun (p : Total × State) l =>
    let a := p.2.readNow r (64 * l)
    (p.1.add a.1.2 a.1.1 (64 * l), a.2)) (Total.start (addr / 64 * 64), s)
  ({ q.1 with data := sliceB q.1.data (addr % 64) n }, q.2)

/-- Write bytes of a row's store from `addr` (08 R204, R210). -/
def State.writeStore (s : State) (r addr : Nat) (b : Bytes) : Total × State :=
  let pre := addr % 64
  let d := List.replicate pre 0 ++ b
  (List.range ((d.length + 63) / 64)).foldl (fun (p : Total × State) i =>
    let part := sliceB d (64 * i) 64
    let top := min 64 (d.length - 64 * i)
    let mask := 2 ^ top - (if i = 0 then 2 ^ pre else 1)
    let at_ := addr / 64 * 64 + 64 * i
    let a := p.2.writeLine (p.2.homeRow r at_) at_ part mask
    (p.1.add [] a.1 at_, a.2)) (Total.start (addr / 64 * 64), s)

end Sys2Proof.Machine
end

