-- ==== Sys2Proof/Machine/StageOut.lean ====
section
/-! DEFINITION. Regions of the memory plan, stage output records and running instances (02 R44, 07 R183 to R193). -/

namespace Sys2Proof.Machine

/-! ### Regions (07 Table 7-4) -/

/-- No region. -/
def noRegion : Nat := 0xFFFFFFFF

/-- A region of the memory plan in use. -/
def State.region (s : State) (r : Nat) : Option Region := s.ep.image.bind fun m => m.plan[r]?

/-- Where a region stands: its cell and byte offset; none while its super is sealed or its logical cell has no
site. -/
def State.regionAt (s : State) (r : Nat) : Option (Nat × Nat) :=
  match s.region r with
  | none => none
  | some e =>
    let sup := s.ep.binding.getD e.lsuper 64
    let site := (s.super sup).remap.getD e.lcell 255
    if s.unsealed sup && decide (site < 144) then some (144 * sup + site, e.offset) else none

/-- Read a region's bytes; a region that stands nowhere reads nothing. -/
def State.readRegion (s : State) (r off n : Nat) : (Bytes × Bool) × State :=
  match s.regionAt r with
  | some (g, o) => s.readCell g (o + off) n
  | none => (([], false), s)

/-- Write a region's bytes. -/
def State.writeRegion (s : State) (r off : Nat) (b : Bytes) : State :=
  match s.regionAt r with
  | some (g, o) => s.writeCell g (o + off) b
  | none => s

/-! ### Stages of the image in use -/

/-- A stage. -/
def State.stageDesc (s : State) (i : Nat) : Option StageDesc := s.ep.image.bind fun m => m.site.stages[i]?

/-- The entry of the placement in use. -/
def State.perPlace (s : State) (l : List Nat) : Nat := l.getD s.ep.placement noRegion

/-- The three output buffers of a stage that feeds a layer, in the placement in use (15 R384). -/
def State.layerBufs (s : State) (i : Nat) : List Nat := ((s.stageDesc i).map fun d => d.bufs.getD s.ep.placement []).getD []

/-- A layer of a head shows a region. -/
def State.isShown (s : State) (r : Nat) : Bool :=
  s.comp.heads.any fun h => h.layers.any fun l => l.shown.region == some r

/-- The region of a stage's output record: of a stage that feeds a layer, its newest complete one. -/
def State.outRegion (s : State) (i : Nat) : Nat :=
  if (s.layerBufs i).isEmpty then ((s.stageDesc i).map fun d => s.perPlace d.outs).getD noRegion
  else (tget s.comp.newest i).getD ((s.layerBufs i).headD noRegion)

/-- The region a stage writes its next record to: of a stage that feeds a layer, a buffer neither shown nor the newest
complete one (15 R384). -/
def State.writeBuf (s : State) (i : Nat) : Nat :=
  let b := s.layerBufs i
  if b.isEmpty then s.outRegion i
  else (b.find? fun r => tget s.comp.newest i != some r && !s.isShown r).getD (b.headD noRegion)

/-- The physical super of a stage. -/
def State.stageSuper (s : State) (d : StageDesc) : Nat := s.ep.binding.getD (s.perPlace d.sups) 64

/-- A stage's own regions, by index. -/
def State.ownRegions (s : State) (i : Nat) : List Nat :=
  match s.ep.image with
  | none => []
  | some m => (List.range m.plan.length).filter fun r =>
      match m.plan[r]? with
      | some e => e.owner == i && e.placement == s.ep.placement
      | none => false

/-- A weight region waits to be fetched again (07 R186). -/
def State.awaitsRefetch (s : State) (r : Nat) : Bool := (tget s.stg.refetch r).isSome

/-- A logical cell the stage uses, its inputs' records among them, awaits its rebuild (06 R153). -/
def State.rebuildingStage (s : State) (i : Nat) (d : StageDesc) : Bool :=
  (s.ownRegions i ++ d.weights ++ d.inputs.map s.outRegion).any fun r =>
    match s.region r with
    | some e => s.cells.rebuilding.contains (136 * s.ep.binding.getD e.lsuper 64 + e.lcell)
    | none => false

/-! ### Output records (07 Tables 7-6, 7-7) -/

/-- The header of an output record. -/
def recordHead (i : Nat) (r : StageRun) (len : Nat) : Bytes :=
  toLE 2 i ++ toLE 1 (b2n (r.cause != 0) + 2 * b2n r.synth + 4 * b2n r.late + 8 * b2n r.mixed) ++ toLE 1 r.cause ++
    toLE 1 r.origin ++ toLE 3 0 ++ toLE 4 (r.seq % 4294967296) ++ toLE 4 r.epoch ++ toLE 6 r.phase ++ toLE 1 r.src ++
    [0] ++ toLE 4 len ++ toLE 4 0

/-- Bytes whose content the spec leaves unspecified (07 R184). -/
def State.freeBytes (s : State) (n : Nat) : Bytes × State :=
  ((List.range n).map fun i => BitVec.ofNat 8 (Config.freeNat (s.freeCtr + i)), { s with freeCtr := s.freeCtr + n })

/-- An instance meets a cause; the lowest code is kept (07 R184). -/
def StageRun.meets (r : StageRun) (cause origin : Nat) : StageRun :=
  if cause = 0 then r
  else if r.cause = 0 ∨ cause < r.cause then { r with cause := cause, origin := origin } else r

/-- Change a stage's running instance. -/
def State.setRun (s : State) (i : Nat) (r : StageRun) : State := { s with stg := { s.stg with runs := tset s.stg.runs i r } }

/-- Drop a stage's running instance. -/
def State.endRun (s : State) (i : Nat) : State := { s with stg := { s.stg with runs := terase s.stg.runs i } }

/-- Act on a stage of replaced image `k`, whose instances keep the configuration of their firing (19 R479, R488): what
the action leaves in the tables of the new image's stages is its own. Write-backs it issues are carried out by `back`. -/
def State.asOld (s : State) (k : Nat) (f : State → State) (back : State → Nat → State) : State :=
  match s.stg.old[k]? with
  | none => s
  | some o =>
    let ep := s.ep
    let stg := s.stg
    let store := s.store
    let newest := s.comp.newest
    let s := { s with
      ep := { ep with image := some o.img, placement := o.placement, binding := o.binding }
      stg := { stg with runs := o.runs, refetch := [], unfed := [] }
      store := { store with transfers := [], badRegions := [] } }
    let t := f s
    let t := t.store.transfers.foldl (fun t e => back t e.entry) t
    let old := if t.stg.runs.isEmpty then stg.old.eraseIdx k else lmod stg.old k fun o => { o with runs := t.stg.runs }
    { t with
      ep := { t.ep with image := ep.image, placement := ep.placement, binding := ep.binding }
      stg := { t.stg with
        runs := stg.runs, old := old, seqs := stg.seqs, written := stg.written, exports := stg.exports, refetch := stg.refetch,
        unfed := stg.unfed }
      store := { t.store with transfers := store.transfers, badRegions := store.badRegions }
      comp := { t.comp with newest := newest } }

/-- The replaced image of which an instance of a stage still runs, oldest first. -/
def State.oldOf (s : State) (i : Nat) : Option Nat :=
  (List.range s.stg.old.length).find? fun k => match s.stg.old[k]? with
    | some o => (tget o.runs i).isSome
    | none => false

/-- Act on a stage's instance: one of a replaced image first. -/
def State.asFired (s : State) (i : Nat) (f : State → State) (back : State → Nat → State) : State :=
  match s.oldOf i with
  | some k => s.asOld k f back
  | none => f s

/-- Write a stage's output record: payload, then header (07 R184, R193). After an uncorrectable read the payload
is unspecified but for `keep` bytes at its front. -/
def State.putRecord (s : State) (i : Nat) (r : StageRun) (payload : Bytes) (keep : Nat) : State :=
  let s := { s with stg := { s.stg with written := sins s.stg.written i } }
  let o := s.writeBuf i
  let s := if (s.layerBufs i).isEmpty then s else { s with comp := { s.comp with newest := tset s.comp.newest i o } }
  if r.cause = 1 then
    let f := s.freeBytes (payload.length - keep)
    (f.2.writeRegion o 32 (payload.take keep ++ f.1)).writeRegion o 0 (recordHead i r payload.length)
  else if r.cause ≠ 0 then s.writeRegion o 0 (recordHead i r 0)
  else (s.writeRegion o 32 payload).writeRegion o 0 (recordHead i r payload.length)

/-- The status a command waiting on an invalid record completes with (07 Table 7-7). -/
def causeStatus (cause origin : Nat) : Nat :=
  match if cause = 6 then origin else cause with
  | 0 => stOK
  | 1 => stUE
  | 2 => stSkipped
  | 3 => stSealed
  | 4 => stSealed
  | 5 => stUE
  | _ => stTimeout

/-! ### Inputs (07 R185) -/

/-- What a consumer finds of an input: its ORIGIN_CAUSE where it is absent, its payload length and SLOT_SEQ, and
whether a header word read MEM_UE. -/
structure InHead where
  absent : Option Nat
  len : Nat
  seq : Nat
  ue : Bool
deriving DecidableEq, Repr

/-- Read the header of the record in a region. -/
def State.inHead (s : State) (r : Nat) : InHead × State :=
  match s.region r, s.regionAt r with
  | none, _ => ({ absent := some 8, len := 0, seq := 0, ue := false }, s)
  | some _, none => ({ absent := some 3, len := 0, seq := 0, ue := false }, s)
  | some e, some _ =>
    if !s.stg.written.contains e.owner then ({ absent := some 8, len := 0, seq := 0, ue := false }, s)
    else
      let h := s.readRegion r 0 32
      let b := h.1.1
      ({ absent := if h.1.2 then none else if bitAt (fieldN b 2 1) 0 then some (fieldN b 4 1) else none,
         len := fieldN b 24 4, seq := fieldN b 8 4, ue := h.1.2 }, h.2)

/-- Read the payload of the record in a region: absent (with its ORIGIN_CAUSE), or its bytes and whether a word
read MEM_UE. -/
def State.inPayload (s : State) (r : Nat) : (Option Nat × Bytes × Bool) × State :=
  let h := s.inHead r
  match h.1.absent with
  | some c => ((some c, [], false), h.2)
  | none =>
    if h.1.ue then ((none, [], true), h.2)
    else
      let p := h.2.readRegion r 32 h.1.len
      ((none, p.1.1, p.1.2), p.2)

/-- The record in a region carries the synthetic flag (07 Table 7-6). -/
def State.recordSynth (s : State) (r : Nat) : Bool := bitAt (fieldN (s.readRegion r 2 1).1.1 0 1) 1

/-- The output regions of a stage's producers, in input order. -/
def State.inputRegions (s : State) (d : StageDesc) : List Nat := d.inputs.map s.outRegion

/-- The ORIGIN_CAUSE of the lowest-numbered absent input, and whether a header word read MEM_UE. -/
def State.absentInput (s : State) (d : StageDesc) : (Option Nat × Bool) × State :=
  (s.inputRegions d).foldl (fun (p : (Option Nat × Bool) × State) r =>
    let h := p.2.inHead r
    ((if p.1.1.isSome then p.1.1 else h.1.absent, p.1.2 || h.1.ue), h.2)) ((none, false), s)

/-- The local time of a stamp, by its domain's value and increment at the firing tick (12 R302). -/
def localOf (localC : Nat) (doms : List (Nat × Nat)) (lkt : Bytes) : Int :=
  let d := lktDom lkt
  let v : Int := lktVal lkt
  if d = 0 then v
  else
    let p := doms.getD (d - 1) (0, nsU)
    (localC : Int) + (v - p.1) * nsU / p.2

/-- The domains at this tick, as an instance keeps them. -/
def State.domPairs (s : State) : List (Nat × Nat) :=
  [(s.time.domA.value, s.time.domA.incr), (s.time.domB.value, s.time.domB.incr)]

end Sys2Proof.Machine
end

