-- ==== Sys2Proof/Machine/Wafer.lean ====
section
/-! DEFINITION. Sealing, enclosure, the tree pause, retirement of cells and keeper cores, bundles going down, and what a seal
event does to the running image (02 R50, 05 R133 to R139, 06 R143 to R157, 08 R211, R212). -/

namespace Sys2Proof.Machine

/-! ### D_w and the tree pause (05 R137 to R139) -/

/-- A super holds a trunk node: the root in S(3,3), quadrant nodes in S(1,1), S(6,1), S(1,6), S(6,6). -/
def trunk (p : Nat) : Bool := [27, 9, 14, 49, 54].contains p

/-- D_w for the supers sealed (05 Table 5-6). -/
def State.dwFor (s : State) : Nat :=
  if !s.unsealed 27 then 54 else if [9, 14, 49, 54].any fun p => !s.unsealed p then 46 else 38

/-- Choose D_w; a change makes an event with the pause's length in ns (05 R138). -/
def State.chooseDw (s : State) (len : Nat) : State :=
  let n := s.dwFor
  if n = s.wafer.dw then s
  else ({ s with wafer := { s.wafer with dw := n } }.event 0x0A 0 0 (s.wafer.dw + 256 * n + 65536 * len)).mapChanged

/-- A seal of a trunk super starts a tree pause, or extends the one that runs (05 R139). -/
def State.startPause (s : State) (p : Nat) : State :=
  let q := match s.wafer.pause with
    | some w => { w with notices := w.notices ++ [p] }
    | none => { startNs := s.localNs, oldDw := s.wafer.dw, notices := [p] }
  { s with wafer := { s.wafer with pause := some q } }

/-! ### What leaves with a super (05 R128, R134; 06 R147) -/

/-- The contents of a super's cells and engine memories are lost (06 Table 6-3 step 1). -/
def State.wipeSuper (s : State) (p : Nat) : State :=
  let mine := fun (g : Nat) => decide (144 * p ≤ g) && decide (g < 144 * (p + 1))
  let mem := s.mem.filter fun c => !(decide (wordAt (144 * p) 0 ≤ c.1) && decide (c.1 < wordAt (144 * (p + 1)) 0)) &&
    !(decide (engAt p 0 0 ≤ c.1) && decide (c.1 < engAt (p + 1) 0 0))
  let poison := s.cells.poison.filter fun e => !mine e.1
  let injected := s.cells.injected.filter fun g => !mine g
  let testing := s.cells.testing.filter fun e => e.1 / 136 != p
  let due := s.cells.due.filter fun e => !mine e.1
  let rebuilding := s.cells.rebuilding.filter fun l => l / 136 != p
  { s with mem := mem, cells := { s.cells with
      poison := poison, injected := injected, testing := testing, due := due, rebuilding := rebuilding } }

/-- A closed set returned to staged, ahead of what was staged since: the later change of an item stands (19 R477). -/
def StagedSet.onto (a b : StagedSet) : StagedSet :=
  let lay := fun {α : Type} (t l : List (Nat × α)) => l.foldl (fun t e => tset t e.1 e.2) t
  { xforms := lay a.xforms b.xforms, sources := lay a.sources b.sources, modes := lay a.modes b.modes,
    gates := lay a.gates b.gates, codebook := b.codebook.or a.codebook, image := b.image.or a.image }

/-- A host commit armed and not fired is disarmed; its set returns to staged, ahead of what was staged since, or is
discarded (19 R476, R477, R494). A commit that has fired takes effect. -/
def State.disarmCommit (s : State) (status : Nat) (back : Bool) : State :=
  match s.ep.armed with
  | none => s
  | some a =>
    if a.eff.isSome then s
    else
      let staged := if back then a.set.onto s.ep.staged else s.ep.staged
      let entries := s.sched.entries.map fun e =>
        if e.1 = a.entry ∧ e.2.action = 6 then (e.1, { e.2 with st := .free }) else e
      let s := { s with ep := { s.ep with armed := none, staged := staged }, sched := { s.sched with entries := entries } }
      s.complete a.qp a.tag status 0 []

/-- Schedule entries of a super are lost; an arming not complete completes with SEALED (03 R85). A commit entry is
armed again elsewhere (19 R492). -/
def State.dropEntries (s : State) (p : Nat) : State :=
  (s.sched.entries.filter fun e => e.1 / 256 == p).foldl (fun s e =>
    let t := { s with sched := { s.sched with entries := terase s.sched.entries e.1 } }
    match s.ep.armed with
    | some a =>
      if e.2.action = 6 ∧ a.entry = e.1 ∧ a.eff = none ∧ e.2.st ≠ .fired then
        match t.rearmCommit e.2 with
        | some (id, u) => { u with ep := { u.ep with armed := some { a with entry := id } } }
        | none =>
          let u := { t with ep := { t.ep with armed := none, staged := a.set.onto t.ep.staged } }
          u.complete a.qp a.tag stSkipped 0 []
      else t.completeOpt e.2.cmd stSealed 0 []
    | none => t.completeOpt e.2.cmd stSealed 0 []) s

/-- The cells a stage computes in: those of its own and its weight regions. -/
def State.stageCells (s : State) (i : Nat) (d : StageDesc) : List Nat :=
  (s.ownRegions i ++ d.weights).foldl (fun l r => match s.regionAt r with
    | some (g, _) => sins l g
    | none => l) []

/-- A transfer of a running instance goes through the routers of a super: from its cells to its output record, or from its
inputs' records to its cells (05 R134). -/
def State.sendsThrough (s : State) (i : Nat) (d : StageDesc) (p : Nat) : Bool :=
  let cells := s.stageCells i d
  let at_ := fun (r : Nat) => ((s.regionAt r).map Prod.fst).toList
  cells.any fun g => (at_ (s.writeBuf i)).any (fun h => s.crosses g h p) ||
    (s.inputRegions d).any fun r => (at_ r).any fun h => s.crosses h g p

/-- Instances of the image in use that ran on a super end with their output lost. Of one elsewhere with a transfer whose path
goes through the super, whether that transfer is in its routers, and so lost, is free (05 R134; log entry 57). -/
def State.dropOwnRuns (s : State) (p : Nat) : State :=
  s.stg.runs.foldl (fun s e =>
    match s.stageDesc e.1 with
    | some d =>
      if s.stageSuper d = p then (s.putRecord e.1 (e.2.meets 3 3) [] 0).endRun e.1
      else if s.sendsThrough e.1 d p then
        let f := s.free
        if f.1 % 2 = 1 then f.2.setRun e.1 (e.2.meets 3 3) else f.2
      else s
    | none => s) s

/-- Instances that ran on a super end, those of replaced images too. -/
def State.dropRuns (s : State) (p : Nat) : State :=
  (List.range s.stg.old.length).reverse.foldl (fun s k => s.asOld k (fun s => s.dropOwnRuns p) fun s _ => s)
    (s.dropOwnRuns p)

/-- The physical super that holds a track's group. -/
def State.trackSuper (s : State) (id : Nat) : Nat :=
  match s.ep.image with
  | some m => s.ep.binding.getD ((m.site.trackSups.getD s.ep.placement []).getD (id / 1024) 64) 64
  | none => 64

/-- Track slots held in a super are lost (12 R313). -/
def State.dropTracks (s : State) (p : Nat) : State :=
  let ts := s.stg.tracks.map fun e => if s.trackSuper e.1 = p then (e.1, e.2.freed) else e
  { s with stg := { s.stg with tracks := ts } }

/-- STATE of an edge slot (14 Table 14-3). -/
def EdgeSlot.state (e : EdgeSlot) : Nat := if e.unknown then 2 else b2n (decide (e.edge.threshold ≤ e.count))

/-- Make the blocked-edge record of an edge's state, decided `n` ticks from now (14 R356, Table 14-4). -/
def State.reportEdge (s : State) (id src n : Nat) : State :=
  match tget s.route.slots id with
  | none => s
  | some e =>
    let a := s.time.active
    let b := toLE 4 id ++ toLE 1 e.state ++ toLE 1 src ++ toLE 2 0 ++ toLE 4 e.count ++ toLE 4 s.route.bseq ++
      lktBytes a (s.lktFlags a 3 false false) (s.counterAhead a n)
    let r : BlockedRec := { tick := s.time.tick + n, edge := id, state := e.state, rec_ := b }
    { s with route := { s.route with recs := s.route.recs ++ [r], bseq := (s.route.bseq + 1) % 4294967296 } }

/-- An edge's slot becomes unknown (14 R352). -/
def State.unknownEdge (s : State) (id : Nat) (slot : Option Nat) : State :=
  match tget s.route.slots id with
  | none => s
  | some e =>
    let was := e.unknown
    let s := { s with route := { s.route with slots := tset s.route.slots id { e with slot := slot, unknown := true } } }
    if was then s else s.reportEdge id 0xFF 0

/-- Edge slots of a super are unknown and unbound until counted again (14 R369). -/
def State.dropEdges (s : State) (p : Nat) : State :=
  (s.route.slots.filter fun e => match e.2.slot with
    | some k => k / 2048 == p
    | none => false).foldl (fun s e => s.unknownEdge e.1 none) s

/-- Route work on cores that no longer work runs again from its start (14 R369, 21 R525). -/
def State.restartJobs (s : State) (gone : Nat → Bool) : State :=
  let js := s.route.jobs.map fun j => match j.core with
    | some c => if gone c then { j with core := none, shut := [] } else j
    | none => j
  { s with route := { s.route with jobs := js } }

/-- The logical super that scans a shard and the one that coordinates sweeps stand on these physical supers. -/
def State.shardSuper (s : State) (k : Nat) : Nat :=
  match s.ep.image with
  | some m => match m.site.shards.find? fun d => d.shard == k with
    | some d => s.ep.binding.getD (s.perPlace d.sups) 64
    | none => 64
  | none => 64

/-- The super of the sweep coordinator. -/
def State.coordSuper (s : State) : Nat :=
  match s.ep.image with
  | some m => s.ep.binding.getD (s.perPlace m.site.map.coordinator) 64
  | none => 64

/-- What orders a query in the batch queue: re-runs first, then the tick of entry, stages before the host, stage index or queue
pair (13 R325, R330). -/
def Query.key (q : Query) : List Nat :=
  [b2n q.prior.isNone, q.tick] ++ (match q.src with
    | .stage i _ => [0, i]
    | .host p _ => [1, p])

/-- A key comes before another. -/
def keyLt : List Nat → List Nat → Bool
  | a :: as, b :: bs => decide (a < b) || (a == b && keyLt as bs)
  | _, _ => false

/-- Put a query into its place in the queue, after those of the same key. -/
def putQuery (l : List Query) (q : Query) : List Query :=
  l.takeWhile (fun r => !keyLt q.key r.key) ++ q :: l.dropWhile (fun r => !keyLt q.key r.key)

/-- A query whose sweep left a shard incomplete and that is to run again, once, where it asks for it (13 R330). -/
def Merged.reruns (m : Merged) : Bool :=
  !m.found.missing.isEmpty && !m.found.ue && bitAt (fieldN m.query.record 1 1) 1 && m.query.prior.isNone

/-- The query that enters the queue again, at the tick its sweep ended. -/
def Merged.again (m : Merged) : Query := { m.query with tick := m.found.ended, prior := some m.found }

/-- A sweep in progress loses a super's shards; with the coordinator, what is scanned and not merged loses them all (13
R331), and queries that ask for it run again (13 R330). -/
def State.dropSweep (s : State) (p : Nat) : State :=
  let all := s.coordSuper == p
  let sweep := s.place.sweep.map fun w =>
    { w with missing := sinsAll w.missing ((w.shards.map SweepShard.shard).filter fun k => all || s.shardSuper k == p) }
  let merged := s.place.merged.map fun m =>
    if all then { m with found := { m.found with missing := m.found.shards } } else m
  { s with place := { s.place with
    sweep := sweep
    merged := merged.filter fun m => !(all && m.reruns)
    queue := ((if all then merged else []).filter Merged.reruns).foldl (fun l m => putQuery l m.again) s.place.queue } }

/-- A head. -/
def State.head (s : State) (h : Nat) : Head := s.comp.heads.getD h Head.blank

/-- Change a head. -/
def State.modHead (s : State) (h : Nat) (f : Head → Head) : State :=
  { s with comp := { s.comp with heads := lmod s.comp.heads h f } }

/-- The supers of a head's instances a and b (15 R377). -/
def headSuper (h : Nat) (b : Bool) : Nat := (if h = 0 then 0 else 62) + b2n b

/-- The super that drives a head. -/
def State.driver (s : State) (h : Nat) : Nat := headSuper h (s.head h).instB

/-- A head loses its driving super: the frame stops, instance b takes over where it can (15 R377, R379). -/
def State.dropHead (s : State) (h p : Nat) : State :=
  if s.driver h ≠ p then s
  else
    let b := !(s.head h).instB && s.unsealed (headSuper h true)
    let s := s.modHead h fun v => { v with instB := v.instB || b, switched := b, frame := none, link := none }
    if b then s
    else (List.range 16).foldl (fun s l =>
      let c := ((s.head h).layers.getD l Layer.blank).cmd
      (s.modHead h fun v => { v with layers := lmod v.layers l fun y => { y with cmd := none } }).completeOpt c stSealed
        0 []) s

/-! ### The image after a seal (02 R50, 06 R149 to R151) -/

/-- A waiting command that needs the hive image: it ends with it (18 R465). -/
def needsImage (op : Nat) : Bool := [0x0601, 0x0704, 0x0802].contains op

/-- Complete the waiting commands an unload ends. -/
def State.endImageCmds (s : State) (status : Nat) : State :=
  (s.host.accepted.filter fun c => needsImage c.opcode && c.prog != .fresh).foldl
    (fun s c => s.complete c.qp c.tag status 0 []) s

/-- UNIT_QUIESCE commands complete as the quiesce ends (01 R28). -/
def State.endQuiesce (s : State) : State :=
  (s.host.accepted.filter fun c => c.opcode == 0x0104 && c.prog != .fresh).foldl
    (fun s c => s.complete c.qp c.tag stOK 0 []) s

/-- A move is over: a host commit that fell due in it takes effect at the next tick (19 R492). -/
def State.moveOver (s : State) : State :=
  let armed := s.ep.armed.map fun a => match a.eff with
    | some e => if s.wafer.move.isSome && decide (e ≤ s.time.tick) && !a.waits then
        { a with eff := some (s.time.tick + 1), detail := a.detail ||| 2 } else a
    | none => a
  let s := { s with ep := { s.ep with armed := armed }, wafer := { s.wafer with move := none } }
  match s.ep.armed.bind ArmedCommit.eff with
  | some t => s.yieldTick t
  | none => s

/-- Unload the image: its entries, stages, routes, layers and bindings go; the map, the modes and the host's own
entries stay (01 R33, 02 R42, 19 R485; log entry 23). -/
def State.unload (s : State) (status : Nat) : State :=
  let s := (s.endImageCmds status).disarmImage.moveOver
  let s := match s.ep.loading with
    | some l => { s with ep := { s.ep with loading := none } }.complete l.qp l.tag stBadState 0 []
    | none => s
  let ins := s.cap.inputs.map fun e => if e.2.owner = some .image then (e.1, { e.2 with owner := none, edges := 0 }) else e
  let heads := s.comp.heads.map fun h => { h with layers := List.replicate 16 Layer.blank, frame := none }
  let bufs := s.agent.bufs.map fun e => (e.1, { e.2 with image := false })
  { s with
    ep := { s.ep with image := none, placement := 0, binding := [], rolling := none }
    stg := StageSt.reset
    cap := { s.cap with inputs := ins }
    place := { s.place with queue := [], sweep := none, merged := [] }
    route := { s.route with
      deltas := [], granted := s.route.occupied, slots := [], past := [], recs := [], bseq := 0, routes := [], jobs := [] }
    comp := { s.comp with newest := [], heads := heads }
    agent := { s.agent with bindings := [], cache := [], seqs := [], nextGates := [], bufs := bufs }
    store := { s.store with transfers := [], badRegions := [], unread := [], issued := [] }
    cells := { s.cells with rebuilding := [] } }

/-- Enter READY from RUN or QUIESCE (01 Table 1-3). -/
def State.toReady (s : State) : State :=
  let s := ({ s with unit := { s.unit with step := 13 } }.setUnit .ready).endQuiesce
  let s := if s.unit.powerOffPending then { s with unit := { s.unit with poweringDown := true } } else s
  s.updatePairs.evalCapacity

/-- No placement fits: the image is unloaded (06 R151). -/
def State.noPlacement (s : State) : State :=
  let from_ := s.ep.placement
  let s := s.unload stSealed
  ((({ s with unit := { s.unit with noFit := true } }.event 0x12 0 0 (from_ + 16)).unsol 7 1024).panelTouch [2]).toReady

/-- What a seal event comes to (01 R28, 02 R50, 06 R150): 0 no change, 1 a move, 2 no placement fits. -/
def State.sealOutcome (s : State) : Nat × Option (Nat × List Nat) :=
  match s.ep.image with
  | none => (0, none)
  | some m =>
    if s.unit.state = .run then
      if s.wafer.move.isNone && s.stillFits then (0, none)
      else match s.choosePlacement m (s.ep.placement + 1) with
        | some c => (1, some c)
        | none => (2, none)
    else if s.unit.state = .quiesce then
      if s.stillFits || (s.choosePlacement m (s.ep.placement + 1)).isSome then (0, none) else (2, none)
    else (0, none)

/-- A seal event: a move begins or begins again, or the image is unloaded. -/
def State.sealEvent (s : State) : State :=
  let o := s.sealOutcome
  match o.1 with
  | 0 => s
  | 1 => { s with wafer := { s.wafer with move := o.2 } }
  | _ => s.noPlacement

/-- The low byte of a SEAL event's detail: the placement in use after the move, and whether none fits. -/
def State.sealDetail (s : State) : Nat :=
  let o := s.sealOutcome
  match o.2 with
  | some c => c.1
  | none => s.ep.placement + (if o.1 = 2 then 4 else 0)

/-! ### Retirement of cells (06 R152 to R155) -/

/-- The logical cell a site holds. -/
def Super.cellOf (u : Super) (site : Nat) : Option Nat := firstBelow 136 fun l => u.remap.getD l 255 == site

/-- Give a logical cell the lowest spare of its super, to be tested (06 R153, R154). -/
def State.giveSpare (s : State) (p l : Nat) : State :=
  let busy := s.cells.testing.map Prod.snd
  match firstBelow 144 fun i => (s.super p).sites.getD i 3 == 1 && !busy.contains (144 * p + i) with
  | some i =>
    let s := s.modSuper p fun u => { u with remap := lmod u.remap l fun _ => i }
    { s with cells := { s.cells with
        testing := tset s.cells.testing (136 * p + l) (144 * p + i)
        rebuilding := sins s.cells.rebuilding (136 * p + l) } }
  | none =>
    let s := s.modSuper p fun u => { u with remap := lmod u.remap l fun _ => 255 }
    { s with cells := { s.cells with testing := terase s.cells.testing (136 * p + l) } }

/-- Retire a cell: its site is gated, its logical cell takes a spare (06 R153). -/
def State.retire (s : State) (g cause : Nat) : State :=
  let p := g / 144
  let site := g % 144
  let l := (s.super p).cellOf site
  let s := s.modSuper p fun u => { u with sites := lmod u.sites site fun _ => 2 }
  let s := { s with flash := { s.flash with retired := sins s.flash.retired g, sparesIn := s.flash.sparesIn.erase g } }
  let s := (s.zeroCell g).event 2 cause g (l.getD 255)
  let s := match l with
    | some l => s.giveSpare p l
    | none => s
  ((s.mapChanged.evalCapacity).evalReplace).sealEvent

/-- Carry out the retirements an access has caused (07 R180): cells enabled in unsealed supers. -/
def State.retireDue (s : State) : State :=
  let due := s.cells.due
  due.foldl (fun s e =>
    if s.unsealed (e.1 / 144) && (s.super (e.1 / 144)).sites.getD (e.1 % 144) 3 == 0 then s.retire e.1 e.2 else s)
    { s with cells := { s.cells with due := [] } }

/-- SPARE_TEST_COMPLETE: the spare enters service, written with zero (07 R171), or is retired and the next is tried (06
R154). -/
def execSpareTestComplete (x : At) (gcell : Nat) (pass : Bool) (s : State) : Host.Outcome State Fault Refusal :=
  let s := s.enter x
  .next (match s.cells.testing.find? fun e => e.2 == gcell with
    | none => s
    | some (k, _) =>
      let s := { s with cells := { s.cells with testing := terase s.cells.testing k } }
      if pass then
        let s := s.modSuper (gcell / 144) fun u => { u with sites := lmod u.sites (gcell % 144) fun _ => 0 }
        let s := { s with flash := { s.flash with sparesIn := sins s.flash.sparesIn gcell } }
        (((s.zeroCell gcell).event 3 0 gcell (k % 136)).mapChanged.evalCapacity).evalReplace
      else s.retire gcell 4)

/-- The bytes of the image that fill a region: those of its blob, from an offset in it (07 R192). -/
def HiveImg.fillAt (m : HiveImg) (r : Nat) : Option (Nat × Nat) :=
  (m.site.fills.find? fun e => e.1 == r).bind fun (_, w, id, off, len) =>
    (m.blobs.find? fun b => b.1 == w && b.2.1 == id).map fun b => (b.2.2.1 + off, len)

/-- Fill a region of weights or a stage program by full writes: from the image area of its row's store, or where the row
does not serve from the image as presented (07 R186, R190, R199, 19 R489; log entry 4). A line that reads uncorrectable
leaves the region to be fetched again. -/
def State.fillRegion (s : State) (m : HiveImg) (r : Nat) : State :=
  match m.fillAt r, s.region r with
  | some (off, len), some e =>
    let row := s.ep.binding.getD e.lsuper 64 / 8
    if (s.row row).serving then
      let t := s.readStore row (s.store.imageBase + off) len
      if t.1.status = stUE then { t.2 with stg := { t.2.stg with refetch := tset t.2.stg.refetch r [] } }
      else { t.2.writeRegion r 0 t.1.data with stg := { t.2.stg with refetch := terase t.2.stg.refetch r } }
    else s.writeRegion r 0 (sliceB m.bytes off len)
  | _, _ => s

/-- Fill regions from the running image. -/
def State.fillRegions (s : State) (rs : List Nat) : State :=
  match s.ep.image with
  | none => s
  | some m => rs.foldl (fun s r => s.fillRegion m r) s

/-- The regions of the placement in use that stand in a logical cell of a super. -/
def State.regionsOf (s : State) (f : Region → Bool) : List Nat :=
  match s.ep.image with
  | none => []
  | some m => (List.range m.plan.length).filter fun r => match m.plan[r]? with
    | some e => e.placement == s.ep.placement && f e
    | none => false

/-- CELL_REBUILD_COMPLETE: the logical cell's content is rebuilt from the image (06 R153); the residency plan's part
comes with its transfers. -/
def execCellRebuildComplete (x : At) (sup lcell : Nat) (s : State) : Host.Outcome State Fault Refusal :=
  let s := s.enter x
  .next (if s.cells.rebuilding.contains (136 * sup + lcell) && (tget s.cells.testing (136 * sup + lcell)).isNone then
    let s := { s with cells := { s.cells with rebuilding := s.cells.rebuilding.erase (136 * sup + lcell) } }
    (s.fillRegions (s.regionsOf fun e => e.lcell == lcell && s.ep.binding.getD e.lsuper 64 == sup)).retireDue
    else s)

/-! ### Stores lost and bundles down (08 R206, R207, R211, R212) -/

/-- A store begins to serve alone: its generation increments, and it records extents from here on (08 R207). -/
def State.serveAlone (s : State) (r : Nat) : State :=
  if (s.row r).solo.isSome then s
  else s.modRow r fun v => { v with solo := some v.mirrorGen, mirrorGen := (v.mirrorGen + 1) % 4294967296, extents := [] }

/-- A sweep loses the shards read through a row (13 R332). -/
def State.dropRow (s : State) (r : Nat) : State :=
  let sweep := s.place.sweep.map fun w =>
    { w with missing := sinsAll w.missing ((w.shards.filter fun d => d.row == r).map SweepShard.shard) }
  { s with place := { s.place with sweep := sweep } }

/-- A read of a lost row is not delivered: its consumers' coming instance goes unfed, or, where it was one at load, every
instance until it is delivered (08 R202, R212). -/
def State.undelivered (s : State) (k : Nat) : State :=
  match s.resEntry k with
  | none => s
  | some e =>
    if e.mode = 1 then { s with stg := { s.stg with unfed := sins s.stg.unfed e.stage_ } }
    else if e.mode = 0 then { s with store := { s.store with unread := sins s.store.unread k } }
    else s

/-- A row leaves for DOWN or for REFUSED; from SERVING its store is lost (08 R211, R212). -/
def State.rowLeaves (s : State) (r : Nat) (st : RowState) : State :=
  let was := (s.row r).st
  let s := s.modRow r fun v => { v with st := st }
  if was ≠ .serving then s
  else
    let mine := s.store.transfers.filter fun t => t.sup / 8 == r
    let s := mine.foldl State.tornWrite s
    let s := { s with store := { s.store with transfers := s.store.transfers.filter fun t => t.sup / 8 != r } }
    let s := (mine.map Transfer.entry).foldl State.undelivered s
    let s := (s.dropRow r).modRow r fun v => { v with solo := none, extents := [] }
    let s := match s.partner r with
      | some p =>
        if (s.row p).serving then s.serveAlone p
        else if (s.row p).held && (s.row p).st == RowState.down then s.modRow p fun v => { v with held := false }
        else s
      | none => s
    s.sealEvent.retireDue

/-- The last bundle of a row went down. -/
def State.rowDark (s : State) (r : Nat) : State :=
  let s := s.modRow r fun v => { v with serialSet := false }
  if (s.row r).st = .notConfigured ∨ (s.row r).st = .down then s
  else (s.rowLeaves r .down).modRow r fun v => { v with held := false }

/-- A bundle A goes down; with the last of its row the row does (08 R211). -/
def State.bundleDown (s : State) (sup : Nat) : State :=
  let r := sup / 8
  if !(s.row r).up.contains (sup % 8) then s
  else
    let s := if (s.row r).held then s else s.event 8 1 sup 0
    let s := s.modRow r fun v => { v with up := v.up.erase (sup % 8) }
    let s := { s with store := { s.store with retries := terase s.store.retries sup } }
    if (s.row r).up.isEmpty then s.rowDark r else s

/-! ### All that goes with a super (05 R128, R134; 06 R147) -/

/-- Transfers of a super's foragers are lost (05 R134, 08 R212). -/
def State.dropTransfers (s : State) (p : Nat) : State :=
  let s := (s.store.transfers.filter fun t => t.sup == p).foldl State.tornWrite s
  { s with store := { s.store with transfers := s.store.transfers.filter fun t => t.sup != p } }

/-- The I/O of a super is lost (05 R128): PCI Express, network and agent ports, sensor ports, timed outputs, heads. -/
def State.dropIo (s : State) (p : Nat) : State :=
  let s := if p = 15 then s.ppsLow else s
  let s := if (p = 3 ∨ p = 4) ∧ (s.port (p - 3)).up then s.portLost (p - 3) else s
  let s := if p = 2 then s.netPortLost 8 else if p = 5 then s.netPortLost 9 else s
  let agents := if p = 2 then [0, 1, 2, 3] else if p = 5 then [4, 5, 6, 7] else []
  let s := agents.foldl (fun s i => { s with agent := { s.agent with
    poseQs := lmod s.agent.poseQs i fun _ => [], waiting := lmod s.agent.waiting i fun _ => [] } }) s
  let s := ((List.range 16).filter fun i => spSuper i == p && (s.sport i).up).foldl State.sportLost s
  let s := ((List.range 32).filter fun o => tsoSuper o == p).foldl State.outputLow s
  [0, 1].foldl (fun s h => s.dropHead h p) s

/-- Everything that goes with a super as it is sealed or enclosed. -/
def State.dropSuper (s : State) (p : Nat) : State :=
  let s := s.dropRuns p
  let s := ((s.dropTracks p).dropEdges p).dropSweep p
  (((((s.restartJobs fun c => c / 4 == p).dropEntries p).dropIo p).dropTransfers p).wipeSuper p).bundleDown p

/-! ### Sealing (06 R147, R148) -/

/-- Write a seal or enclosure into the summary and the super's seal record, and make its event (06 Table 6-3 step 2). -/
def State.recordSeal (s : State) (p cause : Nat) : State :=
  let u := s.super p
  let bits := s.summary.sealedMask ||| 2 ^ p
  let s := s.modSummary fun m => { m with sealedMask := bits, sealedCount := popcount bits }
  let r : SealRec := { st := u.st, keepers := u.keepers, sites := u.sites, remap := u.remap }
  let s := { s with flash := { s.flash with sealRecs := tset s.flash.sealRecs p r } }
  s.event 1 cause p s.sealDetail

/-- The rails of a region, in the order they are powered (06 R142). -/
def railOrder : List Rail := [.io, .sram, .core]

/-- A region's rails go down together, in the reverse order (06 R141, R142). -/
def State.regionOff (s : State) (p : Nat) : State :=
  if s.unit.regionsOn.contains p then
    { s with unit := { s.unit with
      regionsOn := s.unit.regionsOn.erase p
      railLog := s.unit.railLog ++ railOrder.reverse.map fun r => (p, r, false) } }
  else s

/-- Start-up step 5 powers a region (06 R142). -/
def State.regionOn (s : State) (p : Nat) : State :=
  { s with unit := { s.unit with
    toPower := s.unit.toPower.erase p, regionsOn := sins s.unit.regionsOn p
    railLog := s.unit.railLog ++ railOrder.map fun r => (p, r, true) } }

/-- Step 5 has powered the regions before a super. -/
def State.powerBefore (s : State) (p : Nat) : State :=
  (s.unit.toPower.filter fun q => decide (q < p)).foldl State.regionOn s

/-- A super is sealed or enclosed from here on (05 R133: an enclosed one stays powered). -/
def State.mark (s : State) (p st : Nat) (prov : Option Nat) : State :=
  let s := s.modSuper p fun u => { u with st := st, provisional := prov }
  (if st = 1 then s.regionOff p else s).mapChanged

/-- The supers sealed or enclosed, with the provisional ones or without. -/
def State.shutSet (s : State) (provisionalToo : Bool) : List Nat :=
  (List.range 64).filter fun p => (s.super p).st != 0 && (provisionalToo || (s.super p).provisional.isNone)

/-- The newest trip a provisional seal rests on. -/
def State.lastTrip (s : State) : Option Nat :=
  s.wafer.supers.foldl (fun m u => match m, u.provisional with
    | some a, some b => some (max a b)
    | none, b => b
    | a, none => a) none

/-- Provisional enclosures that permanent seals alone cause are recorded (05 R133, 06 R144). -/
def State.firmEnclosures (s : State) : State :=
  ((enclosures (s.shutSet false)).filter fun q => (s.super q).st == 2).foldl (fun s q =>
    (s.modSuper q fun u => { u with provisional := none }).recordSeal q 6) s

/-- Apply the enclosures the sealed and enclosed supers cause; one that rests on a provisional seal is provisional (05 R133,
06 R144). The enclosure of a super that holds a trunk node starts no tree pause, as its switches do not open; D_w is chosen
anew at once (05 R138, R139; DEDUCED, log entry 33). -/
def State.enclose (s : State) : State :=
  let s := s.firmEnclosures
  let firm := enclosures (s.shutSet false)
  let trip := s.lastTrip
  let new := (enclosures (s.shutSet true)).filter s.unsealed
  if new.isEmpty then s
  else
    let s := new.foldl (fun s p =>
      if firm.contains p then (s.mark p 2 none).recordSeal p 6 else s.mark p 2 trip) s
    let s := if s.wafer.pause.isSome || decide (s.unit.step < 7) then s else s.chooseDw 0
    new.foldl State.dropSuper s.evalCapacity.evalReplace

/-- What follows a seal notice: capacity and replacement criteria, enclosures, paths, and the running image's move (06 Table
6-3 steps 4 to 6). -/
def State.afterNotice (s : State) : State := (s.enclose.fixPaths).sealEvent

/-- Seal a super (06 Table 6-3). A provisional seal is not recorded (06 R144). A super sealed already, or enclosed for good,
only loses its power; one enclosed provisionally is sealed by a trip of its own. While a tree pause runs, and with the one a
trunk super starts, what follows the notice waits with it (05 R139). -/
def State.sealSuper (s : State) (p cause : Nat) (prov : Option Nat) : State :=
  let u := s.super p
  if 64 ≤ p ∨ u.st = 1 ∨ (u.st = 2 ∧ u.provisional = none) then s.regionOff p
  else
    let s := s.mark p 1 prov
    let s := if prov.isNone then s.recordSeal p cause else s
    let drop := fun (s : State) => if u.st = 0 then s.dropSuper p else s
    if s.wafer.pause.isSome ∨ (trunk p ∧ 7 ≤ s.unit.step) then drop (s.startPause p)
    else (drop (s.evalCapacity.evalReplace)).afterNotice

/-- A provisional seal becomes permanent, with the enclosures that rest on it (06 R144). -/
def State.confirmSeal (s : State) (p : Nat) : State :=
  (((s.modSuper p fun u => { u with provisional := none }).recordSeal p 4).firmEnclosures).evalCapacity.evalReplace

/-- Provisional seals that never become permanent are undone with their enclosures (06 R144). -/
def State.undoProvisional (s : State) : State :=
  let us := s.wafer.supers.map fun u => if u.provisional.isSome then { u with st := 0, provisional := none } else u
  { s with wafer := { s.wafer with supers := us } }

/-! ### Keeper cores (06 R156, 21 R525) -/

/-- Remove a keeper core for the life of the module. -/
def State.removeKeeper (s : State) (core cause : Nat) : State :=
  let s := s.modSuper (core / 4) fun u => { u with keepers := maskOf 4 ((List.range 4).filter fun j =>
    bitAt u.keepers j && j != core % 4) }
  let s := { s with flash := { s.flash with keepersGone := sins s.flash.keepersGone core } }
  let s := (s.event 4 cause core 0).restartJobs fun c => c == core
  ((s.mapChanged.evalCapacity).evalReplace).sealEvent

/-- A keeper core works. -/
def State.coreWorks (s : State) (core : Nat) : Bool :=
  s.unsealed (core / 4) && bitAt (s.super (core / 4)).keepers (core % 4)

/-- KEEPER_WATCHDOG_EXPIRY: a core silent for 100 ms is removed (06 R156). -/
def execKeeperWatchdogExpiry (x : At) (core : Nat) (s : State) : Host.Outcome State Fault Refusal :=
  let s := s.enter x
  .next (if s.coreWorks core && decide (8 ≤ s.unit.step) then s.removeKeeper core 2 else s)

/-- KEEPER_CACHE_UE: the core halts; the commands it was executing complete with MEM_UE and its route work runs again
on another core (21 R525). -/
def execKeeperCacheUe (x : At) (core : Nat) (cmds : List (Nat × Nat)) (s : State) :
    Host.Outcome State Fault Refusal :=
  let s := s.enter x
  .next (if s.coreWorks core then
    cmds.foldl (fun s c => match s.findCmd c.1 c.2 with
      | some v => if v.keeper then s.complete c.1 c.2 stUE 0 [] else s
      | none => s) (s.restartJobs fun c => c == core)
    else s)

end Sys2Proof.Machine
end

