-- ==== Sys2Proof/Machine/Vision.lean ====
section
/-! DEFINITION. Vision jobs (11): the frames a job takes, what its two passes compute and publish, and matching by
the host. -/

namespace Sys2Proof.Machine

/-! ### Frames and images (11 R272 to R274) -/

def State.frame (s : State) (j : Nat) : Frame := s.stg.frames.getD j Frame.blank

/-- The index of the frame of greatest start among those a test takes. -/
def newestBy (l : List Frame) (p : Nat → Frame → Bool) : Option Nat :=
  (List.range l.length).foldl (fun (b : Option Nat) j =>
    let f := l.getD j Frame.blank
    match f.start with
    | none => b
    | some t =>
      if !p j f then b
      else match b with
        | none => some j
        | some i => if (((l.getD i Frame.blank).start).getD 0) ≤ t then some j else some i) none

/-- The newest frame of an imager started by a time that a job has not used. -/
def State.newFrame (s : State) (stage imager t : Nat) : Option Nat :=
  newestBy s.stg.frames fun j f => f.imager == imager && decide (f.start.getD 0 ≤ t) && !s.stg.used.contains (stage, j)

/-- The frame of the same imager before one. -/
def State.frameBefore (s : State) (j : Nat) : Option Nat :=
  newestBy s.stg.frames fun i f => f.imager == (s.frame j).imager && decide (f.start.getD 0 < (s.frame j).start.getD 0) && i != j

/-- The frame of a right imager with a left frame's number (R272). -/
def State.frameRight (s : State) (imager j : Nat) : Option Nat :=
  newestBy s.stg.frames fun _ f => f.imager == imager && f.no == (s.frame j).no

/-- A line of a frame that arrived by the tick the buffer's job needed it (R274). -/
def lineBy (v : VeBuf) (f : Frame) (l : Nat) : Option Bytes :=
  (f.lines.find? fun e => e.1 == l && decide (e.2.1 ≤ v.tick + v.lineBase + l * v.linePitch / 1024)).map fun e => e.2.2

/-- What a job's engine holds of a frame (R271): the levels a job of the engine began on the frame, or else those the job
itself begins. -/
def State.veBuf (s : State) (d : StageDesc) (tick j : Nat) : VeBuf :=
  let sup := s.stageSuper d
  (s.stg.levels.find? fun v => v.sup == sup && v.frame == j).getD
    { sup := sup, frame := j, tick := tick, lineBase := d.lineBase, linePitch := d.linePitch, built := 0, bad := [] }

/-- Hold a frame's levels in their engine: those of an imager's earlier frames but one are overwritten (R271, R288). -/
def State.keepBuf (s : State) (v : VeBuf) : State :=
  let id := (s.frame v.frame).imager
  let rest := s.stg.levels.filter fun w => !(w.sup == v.sup && w.frame == v.frame)
  let same := rest.filter fun w => w.sup == v.sup && (s.frame w.frame).imager == id
  let gone := same.take (same.length - 1)
  { s with stg := { s.stg with levels := rest.filter (fun w => !gone.contains w) ++ [v] } }

/-- Level 0 of a frame as its engine took the lines. -/
def State.frameZero (s : State) (d : StageDesc) (tick j : Nat) : Img :=
  let f := s.frame j
  match s.intrinsics f.imager with
  | none => { w := 0, h := 0, rows := [], ok := [] }
  | some b => levelZero (fieldN b 2 1) (fieldN b 4 2) (fieldN b 6 2) (lineBy (s.veBuf d tick j) f)

/-- A rectified image of a frame from its region: its rows, or the ORIGIN_CAUSE of its absence, and MEM_UE (R281). Which of
its rows absent lines of the frame make invalid is free (log entry 60). -/
def State.rectImage (s : State) (d : StageDesc) (tick : Nat) (j : Option Nat) (r w h : Nat) : (Option Nat × Img × Bool) × State :=
  let p := s.inPayload r
  let rows := (List.range h).map fun y => (sliceB p.1.2.1 (w * y) w).map BitVec.toNat
  let whole := match j with
    | some j => (s.frameZero d tick j).ok.all id
    | none => true
  let f := p.2.freeCtr
  let ok := (List.range h).map fun y => whole || Config.freeNat (f + y) % 2 == 1
  ((p.1.1, { w := w, h := h, rows := rows, ok := ok }, p.1.2.2), { p.2 with freeCtr := if whole then f else f + h })

/-- An imager is not usable, its port is down, or its group is not awake (R272). -/
def State.imagerAbsent (s : State) (id : Nat) : Bool :=
  !s.imagerLive id || !s.tgtUp (id / 8) || (s.sport (tgtPort (id / 8))).group != .awake

/-! ### Inputs of a job -/

/-- The descriptor of a stage in the placement in use. -/
def State.veDesc (s : State) (d : StageDesc) : VeDesc := parseVe (d.descs.getD s.ep.placement [])

/-- The corner records of a corners input: absent (ORIGIN_CAUSE), records, MEM_UE. -/
def State.cornerInput (s : State) (r : Nat) : (Option Nat × List Bytes × Bool) × State :=
  let p := s.inPayload r
  let n := fieldN p.1.2.1 8 4
  ((p.1.1, (List.range n).map fun i => sliceB p.1.2.1 (48 + 40 * i) 40, p.1.2.2), p.2)

/-- The image prediction records of a prediction input (12 R317, Table 12-8). -/
def State.predInput (s : State) (r : Nat) : (Option Nat × List Bytes × Bool) × State :=
  let p := s.inPayload r
  ((p.1.1, (List.range (fieldN p.1.2.1 0 4)).map fun i => sliceB p.1.2.1 (16 + 12 * i) 12, p.1.2.2), p.2)

/-- The displacement of a prediction record, rounded to whole pixels half away from zero (R277). -/
def predOf (b : Bytes) : Int × Int := (roundDiv (fieldS b 4 2) 32, roundDiv (fieldS b 6 2) 32)

/-- The displacement a previous item gives: zero where it is not valid. -/
def prevOf (kind : Nat) (b : Bytes) : Int × Int :=
  if bitsOf (fieldN b 6 1) 3 1 ≠ 0 then (0, 0)
  else if kind = 4 then (roundDiv (fieldN b 0 2) 64, 0)
  else (roundDiv (fieldS b 0 2) 32, roundDiv (fieldS b 2 2) 32)

/-- The displacement that a match item's own previous result predicts is not stated: free where that result is valid (log
entry 60). -/
def freePred (f k : Nat) (b : Bytes) : Int × Int :=
  if bitsOf (fieldN b 6 1) 3 1 ≠ 0 then (0, 0)
  else (signedOf 16 (Config.freeNat (f + 2 * k) % 65536), signedOf 16 (Config.freeNat (f + 2 * k + 1) % 65536))

/-- The predictions of a job's `n` items: whether the prediction input was absent, MEM_UE, displacements. -/
def State.predictions (s : State) (i n : Nat) (v : VeDesc) : (Bool × Bool × List (Int × Int)) × State :=
  match v.predSrc with
  | 1 =>
    let p := s.predInput v.predReg
    if p.1.1.isSome then ((true, false, List.replicate n (0, 0)), p.2)
    else ((false, p.1.2.2, (List.range n).map fun k => predOf (p.1.2.1.getD k [])), p.2)
  | 2 =>
    let p := s.inPayload (s.outRegion i)
    let f := p.2.freeCtr
    if p.1.1.isSome then ((false, false, List.replicate n (0, 0)), p.2)
    else ((false, p.1.2.2, (List.range n).map fun k =>
      let b := sliceB p.1.2.1 (48 + 8 * k) 8
      if k < fieldN p.1.2.1 8 4 then if v.kind = 2 then freePred f k b else prevOf v.kind b else (0, 0)),
      { p.2 with freeCtr := if v.kind = 2 then f + 2 * n else f })
  | _ => ((false, false, List.replicate n (0, 0)), s)

/-! ### The images of a job -/

/-- The two images of a job at its level: for flow the earlier and the newer frame, for stereo left and right;
with the ORIGIN_CAUSE of an absent rectified image, and MEM_UE. -/
def State.jobImages (s : State) (d : StageDesc) (v : VeDesc) (r : StageRun) : (Option Nat × Img × Img × Bool) × State :=
  let one := fun (j : Option Nat) => match j with
    | some j => (s.frameZero d r.tick j).level v.level
    | none => { w := 0, h := 0, rows := [], ok := [] }
  match v.kind, d.rect with
  | 4, some (a, b, w, h) =>
    let p := s.rectImage d r.tick r.frame a w h
    let q := p.2.rectImage d r.tick r.frameB b w h
    ((if p.1.1.isSome then p.1.1 else q.1.1, p.1.2.1.level v.level, q.1.2.1.level v.level, p.1.2.2 || q.1.2.2), q.2)
  | 3, _ => ((none, one r.frameB, one r.frame, false), s)
  | _, _ => ((none, one r.frame, one r.frameB, false), s)

/-- The image the corners of an input were found in, where a corners job produced them. -/
def State.cornerImage (s : State) (reg level tick : Nat) : Option Img :=
  match s.region reg with
  | none => none
  | some e => match s.stageDesc e.owner with
    | none => none
    | some d =>
      let v := s.veDesc d
      if d.kind = .veJob ∧ v.kind = 1 then
        let no := fieldN (s.readRegion reg 36 4).1.1 0 4
        (findFrame s.stg.frames v.imager no).map fun j => (s.frameZero d tick j).level level
      else none

/-! ### Publications (11 R287, R292) -/

/-- The payload header (11 Table 11-5). -/
def veHead (v : VeDesc) (stagePass flags no count queued done bad : Nat) (start : Bytes) : Bytes :=
  toLE 1 v.kind ++ toLE 1 stagePass ++ toLE 1 flags ++ toLE 1 v.level ++ toLE 4 no ++ toLE 4 count ++ toLE 4 queued ++
    toLE 4 done ++ toLE 4 bad ++ toLE 8 0 ++ start

/-- The payload header of an instance. -/
def State.vePayloadHead (s : State) (v : VeDesc) (r : StageRun) (stagePass count done bad : Nat) : Bytes :=
  let f := s.frame (r.frame.getD s.stg.frames.length)
  veHead v stagePass r.flags f.no count r.queued.length done bad
    (lktBytes 0 (s.lktFlags 0 f.mode false false) (f.start.getD 0))

/-- Publish a job's items or corner records; P2_DONE is 0 in the p1 publication. -/
def State.publish (s : State) (i : Nat) (v : VeDesc) (r : StageRun) (stagePass : Nat) : State :=
  let done := (r.items.filter VeItem.pass2).length
  let bad := (r.items.filter fun t => t.reason != 0).length
  match v.kind with
  | 1 => s.putRecord i r (s.vePayloadHead v r stagePass r.queries.length 0 0 ++ catB r.queries) 48
  | 0 => if v.outReg = noRegion then s else s.putRecord i r (s.vePayloadHead v r stagePass 0 0 0 ++ catB r.refs) 48
  | _ =>
    let n := if stagePass = 1 then 0 else done
    s.putRecord i r (s.vePayloadHead v r stagePass r.items.length n bad ++ catB (r.items.map (VeItem.bytes v.kind v.cost))) 48

/-- End a job whose instance is invalid: one header with STAGE_PASS 2 (R288). -/
def State.failJob (s : State) (i : Nat) (v : VeDesc) (r : StageRun) : State := (s.publish i v r 2).endRun i

/-! ### Pass 1 (11 R275 to R284) -/

/-- The pattern table of a job (R276). -/
def State.patternOf (s : State) (v : VeDesc) : (Bytes × Bool) × State :=
  if v.patReg = noRegion then (((s.ep.image.map fun m => m.site.pattern).getD [], false), s)
  else s.readRegion v.patReg 0 1024

/-- The corner records of a corners job, at most 65,535, and whether the count was capped (R275). -/
def cornerRecords (g : Img) (v : VeDesc) (pat : Bytes) : List Bytes × Bool :=
  let all := ((List.range 6).map fun l =>
    if bitAt v.level l then
      let im := g.level l
      (im.corners v.cornerT v.tileMax).map fun c => im.cornerRec pat l c
    else []).flatten
  (all.take 65535, decide (all.length > 65535))

/-- The points of a flow or stereo job (R278); a list comes from the prediction input, or else the first
input. -/
def State.jobPoints (s : State) (v : VeDesc) (g : Img) : (Option Nat × List (Int × Int) × Bool) × State :=
  if v.list then
    let p := s.predInput (if v.predReg = noRegion then v.inReg else v.predReg)
    ((p.1.1, p.1.2.1.map fun b => ((fieldN b 0 2 : Int), (fieldN b 2 2 : Int)), p.1.2.2), p.2)
  else ((none, gridPoints g.w g.h v.step, false), s)

/-- Queue for pass 2, and drop what lies beyond P2_MAX (R284). -/
def StageRun.queueTwo (r : StageRun) (v : VeDesc) (items : List VeItem) : StageRun :=
  { r with
    items := if v.p2Max = 0 then items else markDropped v 0 items,
    queued := if v.p2Max = 0 then [] else (List.range items.length).filter fun k => v.queues (items.getD k VeItem.blank) }

/-- Refine the queued items that P2_MAX allows. -/
def refine (v : VeDesc) (r : StageRun) (f : Nat → VeItem → VeItem) : List VeItem :=
  let todo := r.queued.take v.p2Max
  (List.range r.items.length).map fun k =>
    let it := r.items.getD k VeItem.blank
    if todo.contains k then f k it else it

/-- A flow or stereo item refined in pass 2 (R285). -/
def refineBlock (f g : Img) (v : VeDesc) (r : StageRun) (k : Nat) (it : VeItem) : VeItem :=
  let p := r.points.getD k (0, 0)
  let stereo := v.kind == 4
  passTwo stereo (search f g 16 p.1 p.2 (r.preds.getD k (0, 0)) v.window stereo) it

/-- A match item refined in pass 2, at its query's level (R285). -/
def State.refineMatch (s : State) (v : VeDesc) (r : StageRun) (k : Nat) (it : VeItem) : VeItem :=
  let q := r.queries.getD k []
  let image := fun (reg : Nat) => s.cornerImage reg (fieldN q 4 1) r.tick
  matchTwo (fun n => Config.freeNat (r.free0 + 4 * k + n)) (image v.inReg) (image v.refReg) q r.refs it

/-- The p1 publication of a job and its running instance. Each item that pass 2 will refine is seen as pass 1 or as pass 2
leaves it: which is not predictable, so free (R287). A job with a consistency check has no p1 port (R283). -/
def State.publishOne (s : State) (i : Nat) (v : VeDesc) (r : StageRun) (later : List VeItem) : State :=
  let seen := (List.range r.items.length).map fun k =>
    if !v.check && Config.freeNat (s.freeCtr + k) % 2 == 1 then later.getD k VeItem.blank else r.items.getD k VeItem.blank
  let s := { s with freeCtr := s.freeCtr + r.items.length }
  (s.publish i v { r with items := seen } 1).setRun i { r with passed := true }

/-- Pass 1 of a flow or stereo job. -/
def State.passOneBlocks (s : State) (i : Nat) (d : StageDesc) (v : VeDesc) (r : StageRun) (ue : Bool) : State :=
  let m := s.jobImages d v r
  let pts := m.2.jobPoints v m.1.2.1
  let pr := pts.2.predictions i pts.1.2.1.length v
  let stereo := v.kind == 4
  let s := pr.2
  match pts.1.1, m.1.1 with
  | some c, _ => s.failJob i v (r.meets 6 c)
  | none, some c => s.failJob i v (r.meets 6 c)
  | none, none =>
    let r := { r with flags := r.flags + 8 * b2n pr.1.1, points := pts.1.2.1, preds := pr.1.2.2 }
    if ue || m.1.2.2.2 || pts.1.2.2 || pr.1.2.1 then s.failJob i v (r.meets 1 1)
    else
      let items := (List.range r.points.length).map fun k =>
        let p := r.points.getD k (0, 0)
        passOne stereo (search m.1.2.1 m.1.2.2.1 8 p.1 p.2 (r.preds.getD k (0, 0)) v.window stereo)
      let r := r.queueTwo v items
      s.publishOne i v r (refine v r (refineBlock m.1.2.1 m.1.2.2.1 v r))

/-- Pass 1 of a match job. -/
def State.passOneMatch (s : State) (i : Nat) (v : VeDesc) (r : StageRun) (ue : Bool) : State :=
  let q := s.cornerInput v.inReg
  let f := q.2.cornerInput v.refReg
  let pr := f.2.predictions i q.1.2.1.length v
  let s := pr.2
  match q.1.1, f.1.1 with
  | some c, _ => s.failJob i v (r.meets 6 c)
  | none, some c => s.failJob i v (r.meets 6 c)
  | none, none =>
    let r := { r with flags := r.flags + 8 * b2n pr.1.1, queries := q.1.2.1, refs := f.1.2.1, preds := pr.1.2.2 }
    if ue || q.1.2.2 || f.1.2.2 || pr.1.2.1 then s.failJob i v (r.meets 1 1)
    else
      let items := (List.range r.queries.length).map fun k =>
        let q := r.queries.getD k []
        let image := fun (reg : Nat) => s.cornerImage reg (fieldN q 4 1) r.tick
        matchOne (image v.inReg) (image v.refReg) q r.refs (r.preds.getD k (0, 0)) v.window
      let r := { r with free0 := s.freeCtr }
      let s := { s with freeCtr := s.freeCtr + 4 * items.length }
      let r := r.queueTwo v items
      s.publishOne i v r (refine v r (s.refineMatch v r))

/-- Pass 1 of a pyramid or corners job. -/
def State.passOneLevels (s : State) (i : Nat) (d : StageDesc) (v : VeDesc) (r : StageRun) (ue : Bool) : State :=
  let g := s.frameZero d r.tick (r.frame.getD s.stg.frames.length)
  let p := if v.kind = 1 then s.patternOf v else (([], false), s)
  let s := p.2
  let c := if v.kind = 1 then cornerRecords g v p.1.1 else ([], false)
  let lv := if v.kind = 0 then (List.range v.level).map fun l => (g.level l).bytes else []
  let r := { r with queries := c.1, refs := lv, flags := r.flags + 4 * b2n c.2 }
  if ue || p.1.2 then s.failJob i v (r.meets 1 1)
  else
    let r := { r with passed := true }
    (s.publish i v r 1).setRun i r

/-- The function modes of a running instance: matching by the host (11 R294). -/
def StageRun.hostMatch (r : StageRun) (v : VeDesc) : Bool := v.kind == 2 && r.modes.getD 3 false

/-! ### Pass 2 (11 R283, R285) -/

/-- Pass 2 and the consistency check of a flow or stereo job. -/
def State.passTwoBlocks (s : State) (d : StageDesc) (v : VeDesc) (r : StageRun) : (StageRun × Bool) × State :=
  let m := s.jobImages d v r
  let stereo := v.kind == 4
  let f := m.1.2.1
  let g := m.1.2.2.1
  let pt := fun k => r.points.getD k (0, 0)
  let items := refine v r (refineBlock f g v r)
  let items := if v.check then
      (List.range items.length).map fun k => consistent stereo v f g (pt k).1 (pt k).2 (items.getD k VeItem.blank)
    else items
  (({ r with items := items, flags := r.flags + b2n v.check }, m.1.2.2.2), m.2)

/-- Pass 2 of a match job. -/
def State.passTwoMatch (s : State) (v : VeDesc) (r : StageRun) : StageRun := { r with items := refine v r (s.refineMatch v r) }

/-- A host's match item in the record: HOST set, the rest as it wrote it; reason 5 where it wrote none
(11 R294, R295). -/
def hostItem (p : Option Bytes) : Bytes :=
  match p with
  | some b => b.take 6 ++ toLE 1 (fieldN b 6 1 ||| 64) ++ [0]
  | none => toLE 2 0xFFFF ++ toLE 4 0 ++ toLE 1 (2 * 5) ++ [0]

/-- The host's part for a slot of a stage. -/
def State.hostPart (s : State) (i seq : Nat) : Option HostPart := s.stg.hostParts.find? fun p => p.stage == i && p.seq == seq

/-- Drop the host's parts of a stage up to a slot: each applies to its own slot only (01 R34). -/
def State.dropParts (s : State) (i seq : Nat) : State :=
  { s with stg := { s.stg with hostParts := s.stg.hostParts.filter fun p => !(p.stage == i && decide (p.seq ≤ seq)) } }

/-- A match job of the host consumes its items at its final tick (11 R295). -/
def State.hostFinal (s : State) (i : Nat) (v : VeDesc) (r : StageRun) : State :=
  let part := s.hostPart i r.seq
  let n := r.queries.length
  let get := fun k => part.bind fun p => tget p.items k
  let its := (List.range n).map fun k => hostItem (get k)
  let bad := (its.filter fun b => bitsOf (fieldN b 6 1) 3 1 != 0).length
  let r := if part.isNone then r.meets 7 7 else r
  ((s.dropParts i r.seq).putRecord i r (s.vePayloadHead v r 2 n 0 bad ++ catB its) 48).endRun i

/-! ### The start of a job -/

/-- Note the export, or why there is none, of a match job's newest firing. -/
def State.setExport (s : State) (i : Nat) (e : MatchExport) : State :=
  { s with stg := { s.stg with exports := tset s.stg.exports i e } }

/-- Note that an instance's firing made no export. -/
def State.noExport (s : State) (i : Nat) (r : StageRun) (status : Nat) : State :=
  s.setExport i { seq := r.seq, status := status, data := [], queries := 0, refs := 0, synth := r.synth }

/-- The host buffer region of a stage (07 Table 7-4 KIND 5). -/
def State.hostRegion (s : State) (i : Nat) : Option Nat :=
  (s.ownRegions i).find? fun r => match s.region r with
    | some e => e.kind == 5
    | none => false

/-- A query in an export (11 R294): its corner record, the predicted position and the window. -/
def exportQuery (q : Bytes) (p : Int × Int) (code : Nat) : Bytes :=
  sliceB q 0 40 ++ toLEs 2 ((fieldN q 0 2 : Int) + p.1) ++ toLEs 2 ((fieldN q 2 2 : Int) + p.2) ++ toLE 1 code ++
    [0, 0, 0]

/-- Make the export of a host-matched instance at its firing tick (11 R294). -/
def State.makeExport (s : State) (i : Nat) (d : StageDesc) (v : VeDesc) (r : StageRun) : State :=
  let q := s.cornerInput v.inReg
  let f := q.2.cornerInput v.refReg
  let pr := f.2.predictions i q.1.2.1.length v
  let s := pr.2
  let bad := match q.1.1, f.1.1 with
    | some c, _ => some (6, c)
    | none, some c => some (6, c)
    | none, none => if q.1.2.2 || f.1.2.2 || pr.1.2.1 then some (1, 1) else none
  match bad with
  | some (c, o) =>
    ((s.noExport i r (causeStatus c o)).putRecord i (r.meets c o) [] 0).endRun i
  | none =>
    let code := bitsOf (fieldN (d.descs.getD s.ep.placement []) 2 1) 1 0
    let qs := (List.range q.1.2.1.length).map fun k => exportQuery (q.1.2.1.getD k []) (pr.1.2.2.getD k (0, 0)) code
    let data := catB qs ++ catB f.1.2.1
    let s := s.setExport i
      { seq := r.seq, status := 0, data := data, queries := q.1.2.1.length, refs := f.1.2.1.length, synth := r.synth }
    let s := match s.hostRegion i with
      | some h => s.writeRegion h 0 data
      | none => s
    s.setRun i { r with queries := q.1.2.1, refs := f.1.2.1, preds := pr.1.2.2, flags := r.flags + 8 * b2n pr.1.1, passed := true }

/-- The frames of a job: none while an imager of it is not usable, down or asleep (11 R272, 09 R245, 10 R256, R266). -/
def State.veFrames (s : State) (i : Nat) (v : VeDesc) (r : StageRun) : Option (Nat × Nat) :=
  if s.imagerAbsent v.imager || (v.kind == 4 && s.imagerAbsent v.imagerB) then none
  else (s.newFrame i v.imager r.localC).bind fun j => match v.kind with
    | 3 => (s.frameBefore j).map fun k => (j, k)
    | 4 => (s.frameRight v.imagerB j).map fun k => (j, k)
    | _ => some (j, j)

/-- The ORIGIN_CAUSE of the absent point list of a list job (11 R278). -/
def State.listAbsent (s : State) (v : VeDesc) : Option Nat × State :=
  if v.list && within 3 4 v.kind then
    let h := s.inHead (if v.predReg = noRegion then v.inReg else v.predReg)
    (h.1.absent, h.2)
  else (none, s)

/-- VE_FLAGS at the start: bit 1 of items whose cost map is written (11 Table 11-5). -/
def StageRun.startFlags (r : StageRun) (v : VeDesc) : Nat := if v.cost && decide (2 ≤ v.kind) && !r.hostMatch v then 2 else 0

/-- A vision job starts: it takes its frames, or its output is invalid (11 R272, R278). -/
def State.startVe (s : State) (i : Nat) (d : StageDesc) (r : StageRun) : State :=
  let v := s.veDesc d
  let fs := s.veFrames i v r
  let l := s.listAbsent v
  let s := l.2
  match fs, l.1 with
  | some (j, k), none =>
    let s := { s with stg := { s.stg with used := s.stg.used ++ [(i, j)] } }
    let s := (s.keepBuf (s.veBuf d r.tick k))
    let s := (s.keepBuf (s.veBuf d r.tick j))
    let r := { r with frame := some j, frameB := some k, flags := r.startFlags v }
    if r.hostMatch v then s.makeExport i d v r else s.setRun i r
  | fs, o =>
    let r := if fs.isNone then r.meets 8 8 else r
    let r := match o with
      | some c => r.meets 6 c
      | none => r
    let gone := s.imagerAbsent v.imager || (v.kind == 4 && s.imagerAbsent v.imagerB)
    let s := if r.hostMatch v then s.noExport i r (if gone then stAbsent else stTimeout) else s
    s.putRecord i r [] 0

/-! ### The engine's buffers and order of work (11 R286, R288) -/

/-- The levels a pass of a job reads of what its engine holds of a frame: those it works on, and in pass 1 those it forms
missing ones from. -/
def VeDesc.reads (v : VeDesc) (r : StageRun) (b : VeBuf) (second : Bool) : List Nat :=
  let named := match v.kind with
    | 0 => if v.outReg = noRegion then [] else List.range v.level
    | 1 => (List.range 6).filter (bitAt v.level)
    | 2 => if second then r.queued.map fun k => fieldN (r.queries.getD k []) 4 1 else []
    | _ => [v.level]
  if second || v.kind == 2 then named else named ++ List.range' (b.built - 1) ((named.foldl max 0) - (b.built - 1))

/-- A pass of a job reads its engine's buffers and finds the words `bad` uncorrectable, which stay poisoned: true where a word
it read is. -/
def State.readBufs (s : State) (d : StageDesc) (v : VeDesc) (r : StageRun) (bad : List (Nat × Nat)) (second : Bool) :
    Bool × State :=
  [(0, r.frame), (1, r.frameB)].foldl (fun (p : Bool × State) e => match e.2 with
    | none => p
    | some j =>
      let b := p.2.veBuf d r.tick j
      let now := (bad.filter fun w => w.1 == e.1).map Prod.snd
      let rd := v.reads r b second
      let b' := { b with built := max b.built ((rd ++ now).foldl (fun n l => max n (l + 1)) 0), bad := sinsAll b.bad now }
      let levels := p.2.stg.levels.map fun w => if w.sup = b.sup ∧ w.frame = j then b' else w
      (p.1 || !now.isEmpty || rd.any b.bad.contains, { p.2 with stg := { p.2.stg with levels := levels } }))
    (false, s)

/-- An engine's work: its super, the firing and stage of the job, and whether its pass 1 has ended. -/
structure VeWork where
  sup : Nat
  tick : Nat
  stage : Nat
  passed : Bool
deriving DecidableEq, Repr

/-- The order of firing, ascending stage index within one tick. -/
def VeWork.before (a b : VeWork) : Bool := decide (a.tick < b.tick) || (a.tick == b.tick && decide (a.stage < b.stage))

/-- The engines' work of an image's running instances. -/
def veWork (m : HiveImg) (placement : Nat) (binding : List Nat) (runs : List (Nat × StageRun)) : List VeWork :=
  runs.filterMap fun e => (m.site.stages[e.1]?).bind fun d =>
    if d.kind = .veJob && !e.2.hostMatch (parseVe (d.descs.getD placement [])) then
      some { sup := binding.getD (d.sups.getD placement noRegion) 64, tick := e.2.tick, stage := e.1, passed := e.2.passed }
    else none

def State.veWorks (s : State) : List VeWork :=
  (s.stg.old.flatMap fun o => veWork o.img o.placement o.binding o.runs) ++
    (match s.ep.image with
     | some m => veWork m s.ep.placement s.ep.binding s.stg.runs
     | none => [])

/-- A stage's pass is the next work of its engine: pass 1 in the order of firing, and pass 2 in that order while no pass-1 work
waits (R286). -/
def State.veTurn (s : State) (i : Nat) (second : Bool) : Bool :=
  match s.veWorks.find? fun w => w.stage == i && w.passed == second with
  | none => false
  | some w => s.veWorks.all fun u =>
      u.sup != w.sup || u == w || (if second then u.passed && !u.before w else u.passed || !u.before w)

/-- Act on a stage's vision instance that awaits its pass: one of a replaced image first. -/
def State.asPass (s : State) (i : Nat) (second : Bool) (f : State → State) (back : State → Nat → State) : State :=
  match (List.range s.stg.old.length).find? fun k => (s.stg.old[k]?).any fun o =>
      (tget o.runs i).any fun r => r.passed == second with
  | some k => s.asOld k f back
  | none => f s

/-! ### The host's part (11 R294, R295) -/

/-- VE_MATCH_READ: the export of the stage's newest firing (18 Table 18-6), OK_SYNTH_PHASE where that was on extrapolated
phase (03 R67). -/
def execVeMatchRead (x : At) (qp tag : Nat) (_data : Option Bytes) (s : State) : Host.Outcome State Fault Refusal :=
  .next (s.run x qp tag 0x0401 fun s c =>
    let i := fieldN c.params 0 2
    match tget s.stg.exports i with
    | none => s.complete c.qp c.tag stTimeout 0 []
    | some e =>
      if e.status ≠ 0 then s.complete c.qp c.tag e.status e.seq []
      else if e.data.length > fieldN c.params 4 4 then s.complete c.qp c.tag stBadParam e.data.length []
      else
        let ok := if e.synth then stSynth else stOK
        match s.hostRegion i with
        | some h =>
          let r := s.readRegion h 0 e.data.length
          if r.1.2 then r.2.complete c.qp c.tag stUE e.seq [] else r.2.complete c.qp c.tag ok e.seq r.1.1
        | none => s.complete c.qp c.tag ok e.seq e.data).retireDue

/-- Keep host items of a stage for a slot, later ones in place of earlier ones. -/
def State.keepPart (s : State) (i seq : Nat) (items : List (Nat × Bytes)) : State :=
  let old := ((s.hostPart i seq).map HostPart.items).getD []
  let rest := s.stg.hostParts.filter fun p => !(p.stage == i && p.seq == seq)
  { s with stg := { s.stg with
    hostParts := rest ++ [{ stage := i, seq := seq, items := items.foldl (fun t e => tset t e.1 e.2) old }] } }

/-- VE_MATCH_SUBMIT: the host's items for a slot, kept until its final tick; later ones are discarded with
OK_LATE (11 R294, R295). -/
def execVeMatchSubmit (x : At) (qp tag : Nat) (_data : Option Bytes) (s : State) : Host.Outcome State Fault Refusal :=
  .next (s.run x qp tag 0x0402 fun s c =>
    let i := fieldN c.params 0 2
    let n := fieldN c.params 2 2
    let seq := fieldN c.params 4 4
    let first := fieldN c.params 8 4
    let its := (List.range n).map fun k => (first + k, sliceB c.params (16 + 8 * k) 8)
    match tget s.stg.exports i, tget s.stg.runs i with
    | some e, some r =>
      if r.seq = seq ∧ e.seq = seq ∧ e.status = 0 then
        if its.any fun t => decide (fieldN t.2 0 2 ≥ e.refs) && fieldN t.2 0 2 != 0xFFFF then
          s.complete c.qp c.tag stBadParam 0 []
        else (s.keepPart i seq its).complete c.qp c.tag stOK 0 []
      else s.complete c.qp c.tag (if seq ≤ e.seq then stLate else stBadParam) 0 []
    | some e, none => s.complete c.qp c.tag (if seq ≤ e.seq then stLate else stBadParam) 0 []
    | none, _ => s.complete c.qp c.tag stBadParam 0 []).retireDue

end Sys2Proof.Machine
end

