-- ==== Sys2Proof/Machine/Fusion.lean ====
section
/-! DEFINITION. The transform table and the track filters (12): predict and update instances, association by the
engine and by the host, publication to the pose cache. -/

namespace Sys2Proof.Machine

/-! ### Track slots (12 R300, R312) -/

/-- A track slot. -/
def State.track (s : State) (id : Nat) : Track := tgetD s.stg.tracks id Track.free

/-- Replace a track slot. -/
def State.setTrack (s : State) (id : Nat) (k : Track) : State :=
  { s with stg := { s.stg with tracks := tset s.stg.tracks id k } }

/-- The slot's super works. -/
def State.trackHeld (s : State) (id : Nat) : Bool := s.unsealed (s.trackSuper id)

/-- An agent class of the image in use. -/
def State.agentClass (s : State) (c : Nat) : AgentClass :=
  ((s.ep.image.bind fun m => m.site.classes[c]?)).getD { noise := [], initVar := [], wheelVar := 0, cycle := 0, window := 0 }

/-- An agent of the agent table. -/
def State.agentDesc (s : State) (a : Nat) : Option AgentDesc := s.ep.image.bind fun m => m.site.agents.find? fun d => d.id == a

/-- State indices a pose holds (12 Table 12-2). -/
def poseIdx (model : Nat) : List Nat := if model = 2 then [0, 1, 2, 3, 4, 5] else [0, 1, 2]

/-- An agent slot as it starts: from a fused pose and its covariance where there is one, its other states 0 with
the class's variances (12 R312). -/
def startAgentTrack (a : AgentDesc) (c : AgentClass) (t gen : Nat) (p : Option Track) : Track :=
  let base := { Track.free with gen := gen, model := a.model, cls := a.cls, agent := some a.id, tState := t }
  let at_ := fun i => (poseIdx a.model).contains i
  Track.mask <| match p with
  | some k => { base with
      fused := true, tState := k.tState, x := (List.range 12).map fun i => if at_ i then vGet k.x i else fZero,
      p := mkMat 12 12 fun i j =>
        if at_ i && at_ j then mGet k.p i j else if i = j then vGet c.initVar i else fZero }
  | none => { base with p := mDiag ((List.range 12).map (vGet c.initVar)) }

/-- Start an agent's slot again (12 R312, R313). -/
def State.restartAgent (s : State) (a : AgentDesc) : State :=
  s.setTrack a.track (startAgentTrack a (s.agentClass a.cls) s.time.localC (s.track a.track).gen (tget s.stg.fusedPoses a.id))

/-- A slot of which a word read uncorrectable is rewritten: freed, or started again (12 R312). -/
def State.rewriteSlot (s : State) (id : Nat) : State :=
  match (s.track id).agent with
  | some a => match s.agentDesc a with
    | some d => s.restartAgent d
    | none => s.setTrack id (s.track id).freed
  | none => s.setTrack id (s.track id).freed

/-! ### What an instance works on -/

/-- The range of a filter stage. -/
def TfeDesc.ids (d : TfeDesc) : List Nat := List.range' d.first d.count

/-- The filter descriptor of a stage in the placement in use. -/
def State.tfeDesc (s : State) (d : StageDesc) : TfeDesc := parseTfe (d.descs.getD s.ep.placement [])

/-- The stage's 24 noise and variance values, and MEM_UE. -/
def State.noiseTable (s : State) (t : TfeDesc) : (Vec × Bool) × State :=
  let p := s.readRegion t.qReg 0 96
  (((List.range 24).map fun i => fField p.1.1 (4 * i), p.1.2), p.2)

/-- Move one slot to the instance's time (12 R304). -/
def State.moveSlot (s : State) (r : StageRun) (q : Vec) (id : Nat) : State :=
  let k := s.track id
  if !k.inUse then s
  else
    let c := s.agentClass k.cls
    let k' := if k.agent.isSome then k.moveTo r.localC c.noise c.wheelVar else k.moveTo r.localC q fZero
    s.setTrack id { k' with synth := r.synth, epoch := r.epoch }

/-- Free the object slots a test names; answers how many. -/
def State.freeObjects (s : State) (ids : List Nat) (p : Track → Bool) : Nat × State :=
  ids.foldl (fun (a : Nat × State) id =>
    let k := a.2.track id
    if k.inUse && k.agent.isNone && p k then (a.1 + 1, a.2.setTrack id k.freed) else a) (0, s)

/-- Move the whole range and free what its variance ends (12 R304). -/
def State.moveRange (s : State) (r : StageRun) (t : TfeDesc) (q : Vec) : Nat × State :=
  let s := t.ids.foldl (fun s id => s.moveSlot r q id) s
  s.freeObjects t.ids fun k => fLt t.maxVar k.posVar

/-- Publish the fused agent slots of a range to the pose cache (12 R311). -/
def State.publishPoses (s : State) (ids : List Nat) : State :=
  ids.foldl (fun s id =>
    let k := s.track id
    match k.agent with
    | some a =>
      if k.fused && !s.ha 10 then
        { s with stg := { s.stg with fusedPoses := tset s.stg.fusedPoses a { k with samples := [] } } }
      else s
    | none => s) s

/-! ### Predict (12 R304, R305) -/

/-- A site point at a level of an imager, in 1/32 px. -/
def projectAt (xf : List (Nat × Bytes)) (intr : Option Bytes) (imager level : Nat) (q : Vec) : Option (Int × Int) :=
  match chainPose xf imager, intr with
  | some (p, _), some b => (intrinsicsOf b).atLevel level (p.toSensor q) true
  | _, _ => none

/-- The image prediction record of a slot (12 Table 12-8). -/
def State.predRecord (s : State) (r : StageRun) (t : TfeDesc) (id : Nat) : Option Bytes :=
  let k := s.track id
  let now := k.x.take 3
  let q0 := if k.model = 1 then [vGet now 0, vGet now 1, fZero] else now
  let later := ((moveModel k.model k.x none (fSeconds (t.lookahead * nsU))).1).take 3
  let q1 := if k.model = 1 then [vGet later 0, vGet later 1, fZero] else later
  let a := projectAt r.xforms (s.intrinsics t.imager) t.imager t.level q0
  let b := if t.stereo then projectAt r.xforms (s.intrinsics t.imagerB) t.imagerB t.level q0
    else projectAt r.xforms (s.intrinsics t.imager) t.imager t.level q1
  if !k.inUse then none
  else match a, b with
    | some (x, y), some (u, v) =>
      let dx := if t.stereo then x - u else u - x
      let dy := if t.stereo then 0 else v - y
      some (toLEs 2 (roundDiv x 32) ++ toLEs 2 (roundDiv y 32) ++ toLEs 2 dx ++ toLEs 2 dy ++ toLE 2 id ++ toLE 2 k.gen)
    | _, _ => none

/-- The payload of a predict output (12 R317). -/
def State.predictPayload (s : State) (r : StageRun) (t : TfeDesc) (deleted : Nat) : Bytes :=
  let recs := if t.project then t.ids.filterMap (s.predRecord r t) else []
  let sum := fun (f : Track → Nat) => sat32 ((t.ids.map fun id => f (s.track id)).sum)
  toLE 4 recs.length ++ toLE 4 (sum Track.dropped) ++ toLE 4 (sum Track.late) ++ toLE 4 deleted ++ catB recs

/-! ### Update (12 R306 to R309) -/

/-- An observation as an instance takes it: its outcome so far (none: it goes on), the record's fields, its time of
measurement, z' and C'. -/
structure Seen where
  out : Option Nat
  obs : Obs
  t : Int
  z : Vec
  c : Mat
deriving DecidableEq, Repr

/-- Place an observation on the site (12 R299, R306, R316). -/
def placeObs (r : StageRun) (oos : Nat) (b : Bytes) : Seen :=
  let o := parseObs b
  let t := localOf r.localC r.doms o.stamp
  let base := { out := none, obs := o, t := t, z := o.z, c := o.c : Seen }
  if !obsOk b then { base with out := some 6 }
  else if (t - (r.localC : Int)).natAbs > oos * nsU then { base with out := some 4 }
  else
    let p := if o.sensor = 0xFFFF then some (Pose.id, (0 : Int)) else chainPose r.xforms o.sensor
    match p with
    | none => { base with out := some 7 }
    | some (p, off) =>
      let zc := if o.sensor = 0xFFFF then (o.z, o.c) else obsOnSite o p
      { base with t := t + off * 65536, z := zc.1, c := zc.2 }

/-- An observation fits a slot (12 Table 12-5, R307). -/
def Seen.fits (v : Seen) (id : Nat) (k : Track) : Bool :=
  k.inUse && (fitIdx v.obs.kind k.model).isSome &&
    (if k.agent.isSome then v.obs.targeted else v.obs.cls == k.cls) &&
    (!v.obs.targeted || (v.obs.target == id && v.obs.targetGen == k.gen))

/-- A pair within the gate. -/
structure Pair where
  d2 : F32
  obs : Nat
  id : Nat
  inn : Innov
deriving DecidableEq, Repr

/-- The order of association (12 R307). -/
def Pair.before (a b : Pair) : Bool :=
  fLt a.d2 b.d2 || (!fLt b.d2 a.d2 && (decide (a.obs < b.obs) || (a.obs == b.obs && decide (a.id ≤ b.id))))

/-- The fitting slots of an observation with their innovations. -/
def State.innovations (s : State) (ids : List Nat) (v : Seen) : List (Nat × Innov) :=
  if v.out.isSome then []
  else ids.filterMap fun id =>
    let k := s.track id
    if v.fits id k then (innovate v.obs v.z v.c k v.t).map fun i => (id, i) else none

/-- The pairs of an observation that lie within the gate. -/
def gated (gate : F32) (n : Nat) (l : List (Nat × Innov)) : List Pair :=
  l.filterMap fun e => match e.2.d2 with
    | some d => if fLe d gate then some { d2 := d, obs := n, id := e.1, inn := e.2 } else none
    | none => none

/-- Accept pairs in order, each observation and each track once. -/
def accept (l : List Pair) : List Pair :=
  l.foldl (fun acc p => if acc.any fun q => q.obs == p.obs || q.id == p.id then acc else acc ++ [p]) []

/-- The outcome of an observation left unpaired, births apart (12 R307, R309). -/
def unpairedOutcome (v : Seen) (l : List (Nat × Innov)) (inGate : Bool) : Nat :=
  match v.out with
  | some n => n
  | none =>
    if !l.isEmpty && l.all (fun e => e.2.l.isNone) then 5
    else if !l.isEmpty && !inGate then 2
    else 3

/-- An unpaired observation starts a track where it may (12 R309): the slot, or none. -/
def State.birth (s : State) (r : StageRun) (t : TfeDesc) (var0 : Vec) (v : Seen) : Option Nat × State :=
  let model := t.model
  if !(t.birth && (birthIdx v.obs.kind model).isSome) then (none, s)
  else
    let taken := (s.ep.image.map fun m => m.site.agents.map AgentDesc.track).getD []
    match t.ids.find? fun id => !(s.track id).inUse && !taken.contains id with
    | none => (none, s)
    | some id => (some id, s.setTrack id ((s.track id).born model v.obs.cls r.localC r.epoch v.obs v.z v.c var0))

/-- Tracks not updated coast (12 R308). -/
def State.coastOthers (s : State) (ids updated : List Nat) : State :=
  ids.foldl (fun s id =>
    let k := s.track id
    if k.inUse && !updated.contains id then s.setTrack id { k with coast := sat16 (k.coast + 1) } else s) s

/-- Association by the engine: outcomes with their track ids (12 R307 to R309). -/
def State.associate (s : State) (r : StageRun) (t : TfeDesc) (var0 : Vec) (obs : List Seen) :
    List (Nat × Nat) × State :=
  let inns := obs.map (s.innovations t.ids)
  let pairs := ((List.range obs.length).map fun n => gated t.gate n (inns.getD n [])).flatten
  let got := accept (pairs.mergeSort Pair.before)
  let s := got.foldl (fun s p => s.setTrack p.id ((s.track p.id).update p.inn)) s
  let s := s.coastOthers t.ids (got.map Pair.id)
  (List.range obs.length).foldl (fun (a : List (Nat × Nat) × State) n =>
    match got.find? fun p => p.obs == n with
    | some p => (a.1 ++ [(p.id, 0)], a.2)
    | none =>
      let v := obs.getD n (placeObs r 0 [])
      let o := unpairedOutcome v (inns.getD n []) (pairs.any fun p => p.obs == n)
      if o = 2 ∨ o = 3 then
        let b := a.2.birth r t var0 v
        match b.1 with
        | some id => (a.1 ++ [(id, 1)], b.2)
        | none => (a.1 ++ [(0xFFFF, o)], a.2)
      else (a.1 ++ [(0xFFFF, o)], a.2)) ([], s)

/-- One entry of a host association list (12 R320): outcome and track id. -/
def State.hostPair (s : State) (r : StageRun) (t : TfeDesc) (var0 : Vec) (v : Seen) (b : Bytes) : (Nat × Nat) × State :=
  let id := fieldN b 2 2
  match v.out with
  | some n => ((0xFFFF, n), s)
  | none =>
    if id = 0xFFFF then
      let q := s.birth r t var0 v
      match q.1 with
      | some k => ((k, 1), q.2)
      | none => ((0xFFFF, 3), s)
    else
      let k := s.track id
      let fits := k.inUse && (fitIdx v.obs.kind k.model).isSome && (k.agent.isSome || v.obs.cls == k.cls)
      if !(t.ids.contains id && fits && k.gen == fieldN b 4 2) then ((0xFFFF, 6), s)
      else match innovate v.obs v.z v.c k v.t with
        | some i => if i.l.isSome then ((id, 0), s.setTrack id (k.update i)) else ((0xFFFF, 5), s)
        | none => ((0xFFFF, 6), s)

/-- Association by the host's list (12 R320). -/
def State.hostAssociate (s : State) (r : StageRun) (t : TfeDesc) (var0 : Vec) (obs : List Seen)
    (items : List (Nat × Bytes)) : List (Nat × Nat) × State :=
  let q := items.foldl (fun (a : List (Nat × Nat × Nat) × State) e =>
    match obs[e.1]? with
    | some v =>
      let p := a.2.hostPair r t var0 v e.2
      (tset a.1 e.1 p.1, p.2)
    | none => a) ([], s)
  let hit := q.1.filterMap fun e => if e.2.2 ≤ 1 then some e.2.1 else none
  ((List.range obs.length).map fun n => match tget q.1 n with
    | some o => o
    | none => (0xFFFF, match (obs.getD n (placeObs r 0 [])).out with
      | some m => m
      | none => 6), q.2.coastOthers t.ids hit)

/-- SITE_RESULT of a stage: the status of the last site write of its module (12 R314). -/
def State.siteResult (s : State) (d : StageDesc) : Nat :=
  match d.calibrates with
  | some m => tgetD s.link.calStatus m 0
  | none => 0

/-- The payload of an update output (12 R317). -/
def updatePayload (outs : List (Nat × Nat)) (deleted site : Nat) : Bytes :=
  let n := fun o => (outs.filter fun e => e.2 == o).length
  toLE 4 (n 0) ++ toLE 4 (n 1) ++ toLE 4 (n 2) ++ toLE 4 (n 3) ++ toLE 4 (n 4) ++ toLE 4 (n 5) ++ toLE 4 deleted ++
    toLE 4 (site % 65536) ++ catB (outs.map fun e => toLE 2 e.1 ++ toLE 1 e.2 ++ [0])

/-- The records of an observation input; none where it is absent (12 R316). -/
def State.obsInput (s : State) (t : TfeDesc) : (List Bytes × Bool) × State :=
  let p := s.inPayload t.obsReg
  if p.1.1.isSome || fieldN p.1.2.1 4 1 != 1 then (([], p.1.2.2), p.2)
  else (((List.range (min 8192 (fieldN p.1.2.1 0 4))).map fun n => sliceB p.1.2.1 (16 + 168 * n) 168, p.1.2.2), p.2)

/-- A predict or update instance ends (12 R304 to R320). -/
def State.endTfe (s : State) (i : Nat) (d : StageDesc) (r : StageRun) (slotUe : List Nat) (ue : Bool) : State :=
  let t := s.tfeDesc d
  let bad := slotUe.filter t.ids.contains
  let q := s.noiseTable t
  let s := bad.foldl State.rewriteSlot q.2
  let r := if ue || !bad.isEmpty || q.1.2 then r.meets 1 1 else r
  let moved := s.moveRange r t (q.1.1.take 12)
  let s := moved.2
  if t.kind = 0 then
    let noIntr := t.project && r.modes.getD 2 false
    let r := if noIntr then r.meets 8 8 else r
    ((s.putRecord i r (s.predictPayload r t moved.1) 0).publishPoses t.ids).endRun i
  else
    let o := s.obsInput t
    let s := o.2
    let r := if o.1.2 then r.meets 1 1 else r
    let oos := if t.oosMax = noRegion then d.period else t.oosMax
    let obs := o.1.1.map (placeObs r oos)
    let ha := r.modes.getD 4 false
    let part := s.hostPart i r.seq
    if ha && part.isNone then
      ((s.putRecord i (r.meets 7 7) (updatePayload [] moved.1 (s.siteResult d)) 0).publishPoses t.ids).endRun i
    else
      let a := match part with
        | some p => if ha then s.hostAssociate r t (q.1.1.drop 12) obs p.items else s.associate r t (q.1.1.drop 12) obs
        | none => s.associate r t (q.1.1.drop 12) obs
      let f := a.2.freeObjects t.ids fun k => decide (k.coast > t.maxCoast)
      let s := if ha then f.2.dropParts i r.seq else f.2
      ((s.putRecord i r (updatePayload a.1 (moved.1 + f.1) (s.siteResult d)) 0).publishPoses t.ids).endRun i

/-! ### Commands -/

/-- T_FLAGS (12 Table 12-3). -/
def Track.flags (k : Track) : Nat :=
  flagBits [k.inUse, k.agent.isSome, k.fused, k.synth, decide (k.coast > 0)]

/-- A track record (12 Table 12-3); an id of a sealed super reads MODEL 0 (18 Table 18-7). -/
def State.trackRecord (s : State) (id : Nat) : Bytes :=
  let k := if s.trackHeld id then s.track id else { Track.free with gen := (s.track id).gen }
  toLE 2 id ++ toLE 2 k.gen ++ toLE 1 k.model ++ toLE 1 k.cls ++ toLE 1 k.flags ++ [0] ++ toLE 2 (k.agent.getD 0xFFFF) ++
    toLE 2 k.coast ++ toLE 4 k.updates ++
    (if k.inUse then lktBytes 0 (s.lktFlags 0 3 false k.synth) k.tState else List.replicate 16 0) ++
    catB ((List.range 12).map fun i => toLE 4 (vGet k.x i).toNat) ++
    catB ((List.range 12).map fun i => catB ((List.range 12).map fun j => toLE 4 (mGet k.p i j).toNat)) ++
    toLE 4 k.epoch ++ List.replicate 12 0

/-- TRACK_READ: records at one tick (12 R315). -/
def execTrackRead (x : At) (qp tag : Nat) (_data : Option Bytes) (s : State) : Host.Outcome State Fault Refusal :=
  .next (s.run x qp tag 0x0503 fun s c =>
    s.complete c.qp c.tag stOK 0 (catB ((List.range' (fieldN c.params 0 2) (fieldN c.params 2 2)).map s.trackRecord)))

/-- The transform table as the next commits would leave it: with the armed and the staged set. -/
def State.xformsAhead (s : State) (add : List (Nat × Bytes)) : List (Nat × Bytes) :=
  let lay := fun (t l : List (Nat × Bytes)) => l.foldl (fun t e => tset t e.1 e.2) t
  let t := match s.ep.armed with
    | some a => lay s.xforms a.set.xforms
    | none => s.xforms
  lay (lay t s.ep.staged.xforms) add

/-- A chain passes one of the entries `ids` and goes on past `fuel` entries; an entry never written ends it. -/
def chainBad (t : List (Nat × Bytes)) (ids : List Nat) : Nat → Bool → Nat → Bool
  | 0, hit, i => i != 0xFFFF && (tget t i).isSome && (hit || ids.contains i)
  | f + 1, hit, i =>
    i != 0xFFFF && match tget t i with
      | some e => chainBad t ids f (hit || ids.contains i) (xfParent e)
      | none => false

/-- XFORM_WRITE: stages entries; refused for the entries an attach owns in device mode, and where the entries written would make
a cycle or a chain beyond 8 (12 R297, R298). -/
def execXformWrite (x : At) (qp tag : Nat) (_data : Option Bytes) (s : State) : Host.Outcome State Fault Refusal :=
  .next (s.run x qp tag 0x0501 fun s c =>
    let first := fieldN c.params 0 2
    let es := (List.range (fieldN c.params 2 2)).map fun n => (first + n, sliceB c.params (8 + 48 * n) 48)
    let t := s.xformsAhead es
    if first < 2304 ∧ !s.ha 2 then s.complete c.qp c.tag stBadState 0 []
    else if t.any fun e => chainBad t (es.map Prod.fst) 8 false e.1 then s.complete c.qp c.tag stBadParam 0 []
    else (s.stage fun g => { g with xforms := es.foldl (fun t e => tset t e.1 e.2) g.xforms }).complete c.qp c.tag stOK 0 [])

/-- XFORM_READ: entries as the epoch in force holds them (12 R298). -/
def execXformRead (x : At) (qp tag : Nat) (_data : Option Bytes) (s : State) : Host.Outcome State Fault Refusal :=
  .next (s.run x qp tag 0x0502 fun s c =>
    s.complete c.qp c.tag stOK 0 (catB ((List.range' (fieldN c.params 0 2) (fieldN c.params 2 2)).map fun i =>
      sliceB (tgetD s.xforms i []) 0 48)))

/-- A `tfe_update` stage. -/
def State.updateStage (s : State) (i : Nat) : Option TfeDesc :=
  (s.stageDesc i).bind fun d => if d.kind = .tfeUpdate ∧ (s.tfeDesc d).kind = 1 then some (s.tfeDesc d) else none

/-- TFE_OBS_READ: the list the next update slot will consume (12 R319), OK_SYNTH_PHASE where a firing on extrapolated phase wrote
it (03 R67). -/
def execTfeObsRead (x : At) (qp tag : Nat) (_data : Option Bytes) (s : State) : Host.Outcome State Fault Refusal :=
  .next (s.run x qp tag 0x0504 fun s c =>
    let i := fieldN c.params 0 2
    match s.updateStage i with
    | none => s.complete c.qp c.tag stBadParam 0 []
    | some t =>
      let p := s.inPayload t.obsReg
      let seq := tgetD s.stg.seqs i 0
      match p.1.1 with
      | some o => p.2.complete c.qp c.tag (causeStatus 6 o) seq []
      | none =>
        if p.1.2.2 then p.2.complete c.qp c.tag stUE seq []
        else p.2.complete c.qp c.tag (if s.recordSynth t.obsReg then stSynth else stOK) seq
          (p.1.2.1.take (16 + 168 * min 8192 (fieldN p.1.2.1 0 4)))).retireDue

/-- A list names a number twice. -/
def repeats : List Nat → Bool
  | [] => false
  | a :: r => r.contains a || repeats r

/-- TFE_ASSOC_SUBMIT: the host's association list for a slot (12 R319, R320). -/
def execTfeAssocSubmit (x : At) (qp tag : Nat) (_data : Option Bytes) (s : State) : Host.Outcome State Fault Refusal :=
  .next (s.run x qp tag 0x0505 fun s c =>
    let i := fieldN c.params 0 2
    let seq := fieldN c.params 4 4
    let its := (List.range (fieldN c.params 2 2)).map fun n => sliceB c.params (8 + 8 * n) 8
    match s.updateStage i with
    | none => s.complete c.qp c.tag stBadParam 0 []
    | some t =>
      if seq < tgetD s.stg.seqs i 0 then s.complete c.qp c.tag stLate 0 []
      else
        let o := s.obsInput t
        let idx := its.map fun b => fieldN b 0 2
        if (idx.any fun n => decide (o.1.1.length ≤ n)) || repeats idx then o.2.complete c.qp c.tag stBadParam 0 []
        else (o.2.keepPart i seq (its.map fun b => (fieldN b 0 2, b))).complete c.qp c.tag stOK 0 []).retireDue

end Sys2Proof.Machine
end

