-- ==== Sys2Proof/Machine/AgentTx.lean ====
section
/-! DEFINITION. What the agent service sends: agent headers, route and hold segments (16 R414, R417, R418). -/

namespace Sys2Proof.Machine

/-! ### Agent headers (16 Table 16-4, R414) -/

/-- An agent header from the engine with the fields of this tick. -/
def State.agentHead (s : State) (type agent seq len : Nat) : Bytes :=
  toLE 1 type ++ [1] ++ toLE 2 agent ++ toLE 2 seq ++ toLE 2 len ++ toLE 2 s.replyFlags ++ [1, 0] ++
    toLE 4 s.ep.epoch ++ toLE 4 s.epochFrom ++ toLE 4 0

/-- The engine's next AG_SEQ for an agent and type. -/
def State.nextAgSeq (s : State) (agent type : Nat) : Nat × State :=
  let n := tgetD s.agent.seqs (256 * agent + type) 0
  (n, { s with agent := { s.agent with seqs := tset s.agent.seqs (256 * agent + type) ((n + 1) % 65536) } })

/-- Send an agent message to a binding on queue 5 with PCP 5 (16 R403, R407). -/
def State.agentTx (s : State) (b : Binding) (msg : Bytes) : State :=
  s.txFrame b.port 5 (ethFrame b.mac (s.unit.macs.getD b.port []) (b.vlan.map fun v => (5, v)) 0x88B5 msg)

/-! ### Route segments (16 R417, R418, Table 16-9) -/

/-- An agent of the agent table. -/
def State.agentClassOf (s : State) (a : Nat) : Nat := ((s.agentDesc a).map fun d => d.cls).getD 16

/-- The roadmap of a class. -/
def State.roadmap (s : State) (c : Nat) : Option Roadmap :=
  s.ep.image.bind fun m => m.roadmaps.find? fun r => r.cls == c

/-- The roadmap of an agent's class. -/
def State.agentMap (s : State) (a : Nat) : Option Roadmap := s.roadmap (s.agentClassOf a)

/-- An edge of a class's roadmap by id. -/
def Roadmap.edge (r : Roadmap) (id : Nat) : Option Edge := r.edges.find? fun e => e.id == id

/-- An edge entry of a segment: ids, knots' number, the FROM node's position and heading, the knots. -/
def edgeEntry (r : Roadmap) (id : Nat) : Bytes :=
  match r.edge id with
  | none => []
  | some e => toLE 4 e.id ++ toLE 4 e.start ++ toLE 4 e.stop ++ toLE 1 (e.knots.length / 16) ++ toLE 3 0 ++
      sliceB (r.nodes.getD e.start []) 0 16 ++ e.knots

/-- Split entries into runs that keep AG_LEN at 1,472 or below; `room` is what the present run may still take. -/
def packEntries : List Bytes → List Bytes → Nat → List (List Bytes)
  | [], run, _ => [run]
  | e :: r, run, room =>
    if e.length ≤ room then packEntries r (run ++ [e]) (room - e.length)
    else run :: packEntries r [e] (1448 - e.length)

/-- The payloads of a route's segments. -/
def routeSegs (r : Roadmap) (v : Route) : List Bytes :=
  let runs := packEntries (v.edges.map (edgeEntry r)) [] 1448
  (List.range runs.length).map fun i =>
    let run := runs.getD i []
    toLE 4 v.version ++ toLE 2 i ++ toLE 2 runs.length ++ toLE 2 (((runs.take i).map List.length).sum) ++
      toLE 1 run.length ++ [0] ++ toLE 4 v.goal ++ toLE 2 v.edges.length ++ toLE 6 0 ++ catB run

/-- A hold segment of the version in force. -/
def holdSeg (v : Route) (blocked : Bool) : Bytes :=
  toLE 4 v.version ++ toLE 2 0 ++ toLE 2 1 ++ toLE 2 0 ++ [0] ++ toLE 1 (1 + 2 * b2n blocked) ++ toLE 4 v.goal ++
    toLE 2 v.edges.length ++ toLE 6 0

/-- An agent's route. -/
def Route.none : Route :=
  { st := .idle, version := 0, goal := 0, current := 0, edges := [], issued := List.replicate 16 0, fromHost := false,
    heldCurrent := false, segsOk := 0, holdDue := .none, hostWait := .none, waitOver := false }

def State.routeOf (s : State) (a : Nat) : Route := tgetD s.route.routes a Route.none

/-- Replace an agent's route. -/
def State.setRoute (s : State) (a : Nat) (v : Route) : State :=
  { s with route := { s.route with routes := tset s.route.routes a v } }

/-- The engine begins to wait for a host route for an agent: `HOST_ROUTE_WAIT`, by default the agent's cycle, in µs (14 R376). -/
def State.awaitHost (s : State) (a edge : Nat) : State :=
  let wait := (s.ep.image.bind fun m => m.site.route.hostWait).getD (s.agentClass (s.agentClassOf a)).cycle
  s.setRoute a { s.routeOf a with hostWait := some (edge, s.time.tick + 125 * wait) }

/-- Send a ROUTE_SEG payload to an agent's binding, if it has one. -/
def State.sendSeg (s : State) (a : Nat) (payload : Bytes) : State :=
  match tget s.agent.bindings a with
  | none => s
  | some b =>
    let q := s.nextAgSeq a 5
    q.2.agentTx b (q.2.agentHead 5 a q.1 payload.length ++ payload)

/-- Send the segments of an agent's route from an index on. -/
def State.sendRoute (s : State) (a from_ : Nat) : State :=
  match s.agentMap a with
  | none => s
  | some r => ((routeSegs r (s.routeOf a)).drop from_).foldl (fun s p => s.sendSeg a p) s

/-- Drop the segments of older versions of an agent that still wait for a gate (16 R417). -/
def State.dropOldSegs (s : State) (a : Nat) : State :=
  match tget s.agent.bindings a with
  | none => s
  | some b =>
    let off := if b.vlan.isSome then 18 else 14
    let old := fun (e : Nat × Bytes) => e.1 == 5 && fieldN e.2 off 2 == 0x0105 && fieldN e.2 (off + 2) 2 == a &&
      fieldN e.2 (off + 24) 4 != (s.routeOf a).version
    { s with agent := { s.agent with waiting := lmod s.agent.waiting b.port fun l => l.filter fun e => !old e } }

/-- Send a hold segment, which then awaits HOLDING (16 R418, R420). -/
def State.sendHold (s : State) (a : Nat) (blocked : Bool) : State :=
  let v := s.routeOf a
  (s.setRoute a { v with holdDue := some blocked }).sendSeg a (holdSeg v blocked)

end Sys2Proof.Machine
end

