-- ==== Sys2Proof/Machine/Route.lean ====
section
/-! DEFINITION. The occupied-bit filter, edge checkers, and the route service (14). -/

namespace Sys2Proof.Machine

/-! ### Voxels, the filter and the checkers (14 R350 to R356) -/

/-- A voxel lies in an edge's swept volume (14 R350). -/
def Edge.holds (e : Edge) (v : Nat) : Bool :=
  let x := v % 65536
  let y := v / 65536 % 65536
  let z := v / 4294967296 % 65536
  let side := if e.scale = 1 then 128 else 32
  let n := if e.scale = 1 then 1024 * ((z - e.az) / 4) + 32 * ((y - e.ay) / 4) + (x - e.ax) / 4
    else 1024 * (z - e.az) + 32 * (y - e.ay) + (x - e.ax)
  decide (e.ax ≤ x) && decide (x < e.ax + side) && decide (e.ay ≤ y) && decide (y < e.ay + side) &&
    decide (e.az ≤ z) && decide (z < e.az + side) && bitAt (e.bitmap.getD (n / 8) 0).toNat (n % 8)

/-- The count of an edge over the granted voxels (14 R352, R354). -/
def State.recount (s : State) (e : Edge) : Nat := (s.route.granted.filter e.holds).length

/-- A class-4 waggle word: CLASS, ORIGIN and the delta of 14 Table 14-2 (05 Table 5-7). -/
def deltaWord (v : Nat) (set : Bool) (src origin : Nat) : Nat :=
  v + 2 ^ 48 * b2n set + 2 ^ 49 * (src % 16) + 2 ^ 70 * (origin % 64) + 2 ^ 76 * 4

/-- Words a super's tap holds (05 R136), and how many it can. -/
def State.tapped (s : State) (origin : Nat) : Nat := (s.route.deltas.filter fun w => bitsOf w 75 70 == origin).length

def tapSize : Nat := 16384

/-- The occupied-bit filter: a delta passes when it changes its voxel's bit, and its word then waits in its super's tap for its
grant (05 R136, 14 R351). -/
def State.occDelta (s : State) (v : Nat) (set : Bool) (src origin : Nat) : Bool × State :=
  if s.route.occupied.contains v = set then (false, s)
  else
    let o := if set then sins s.route.occupied v else s.route.occupied.erase v
    (true, { s with route := { s.route with occupied := o, deltas := s.route.deltas ++ [deltaWord v set src origin] } })

/-- The super that executes a command, S(3,0) or S(4,0) by its queue pair's port (05 R126; log entry 57). -/
def State.cmdSuper (s : State) (c : Cmd) : Nat := 3 + (s.qp c.qp).port

/-- OCC_INJECT: up to 256 words pass the filter in order (14 R370, R374); while the tap lacks room for them it waits (05
R136). -/
def execOccInject (x : At) (qp tag : Nat) (_data : Option Bytes) (s : State) : Host.Outcome State Fault Refusal :=
  .next (s.run x qp tag 0x0703 fun s c =>
    let ws := (List.range (fieldN c.params 0 2)).map fun i => fieldN c.params (8 + 8 * i) 8
    let ext := match s.ep.image with
      | some m => m.site.route.extent
      | none => (0, 0, 0)
    let inside := fun (w : Nat) => decide (bitsOf w 15 0 < ext.1) && decide (bitsOf w 31 16 < ext.2.1) &&
      decide (bitsOf w 47 32 < ext.2.2)
    let p := s.cmdSuper c
    if !ws.all inside then s.complete c.qp c.tag stBadParam 0 []
    else if tapSize < s.tapped p + ws.length then s
    else
      let r := ws.foldl (fun (q : Nat × State) w =>
        let d := q.2.occDelta (bitsOf w 47 0) (bitAt w 48) 15 p
        (q.1 + b2n d.1, d.2)) (0, s)
      r.2.complete c.qp c.tag stOK r.1 [])

/-- Whole schedule ticks from a grant to its decision, D_w + 2 fabric cycles later (14 R353). -/
def State.decideTicks (s : State) : Nat := (1000 * s.wafer.dw + 1667) / 8000

/-- A bound slot applies a delta: its count, and a record where it crosses the threshold (14 R352, R353). -/
def State.slotDelta (s : State) (id v : Nat) (set : Bool) (src : Nat) : State :=
  match tget s.route.slots id with
  | none => s
  | some e =>
    if !e.edge.holds v || e.slot.isNone then s
    else
      let n := if set then e.count + 1 else e.count - 1
      let s := { s with route := { s.route with slots := tset s.route.slots id { e with count := n } } }
      let was := decide (e.edge.threshold ≤ e.count)
      if e.unknown || was == decide (e.edge.threshold ≤ n) then s else s.reportEdge id src s.decideTicks

/-- A slot word that reads uncorrectable makes the slot unknown (14 R355). -/
def State.slotWordUe (s : State) (id : Nat) : State :=
  match tget s.route.slots id with
  | none => s
  | some e =>
    let s := s.unknownEdge id e.slot
    { s with route := { s.route with slots := tmod s.route.slots id e fun v => { v with bad := true } } }

/-- OCC_DELTA_GRANT: the oldest waiting word is granted and every slot tests it; no word is granted in a tree pause (14
R353, 05 R139). `slotUe`: edges of which the test read a bad word. -/
def execOccDeltaGrant (x : At) (slotUe : List Nat) (s : State) : Host.Outcome State Fault Refusal :=
  let s := s.enter x
  .next (match s.route.deltas with
    | [] => s
    | w :: rest =>
      if s.wafer.pause.isSome then s
      else
        let v := bitsOf w 47 0
        let g := if bitAt w 48 then sins s.route.granted v else s.route.granted.erase v
        let s := { s with route := { s.route with deltas := rest, granted := g } }
        let s := (sinsAll [] slotUe).foldl State.slotWordUe s
        (s.route.slots.map Prod.fst).foldl (fun s id => s.slotDelta id v (bitAt w 48) (bitsOf w 52 49)) s)

/-- The placement and binding slots are counted for: those a move goes to, else those in use. -/
def State.nextBinding (s : State) : Nat × List Nat :=
  match s.wafer.move with
  | some m => m
  | none => (s.ep.placement, s.ep.binding)

/-- The physical slot of an edge under a placement and binding; none where its super is sealed (14 R349). -/
def State.slotFor (s : State) (id p : Nat) (binding : List Nat) : Option Nat :=
  match s.ep.image with
  | none => none
  | some m =>
    ((m.slots.getD p []).find? fun e => e.2 == id).bind fun e =>
      let sup := binding.getD (e.1 / 2048) 64
      if s.unsealed sup then some (2048 * sup + e.1 % 2048) else none

/-- A recount completes: the slot is known again and its state is reported (14 R354). -/
def State.countSlot (s : State) (id : Nat) (slot : Option Nat) : State :=
  match tget s.route.slots id with
  | none => s
  | some e =>
    let e' := { e with slot := slot, count := s.recount e.edge, unknown := false, bad := false }
    let s := { s with route := { s.route with slots := tset s.route.slots id e' } }
    if e.unknown then s.reportEdge id 0xFF 0 else s

/-- A super's edge slots have batches of a rolling change still to come (19 R486). -/
def State.slotsRoll (s : State) (p : Nat) : Bool :=
  s.ep.rolling.any fun r => r.parts.contains (RollPart.slots p)

/-- RECOUNT_COMPLETE: an unknown slot of an unsealed super is counted; one whose word was bad needs its row's store (14
R354, R355). -/
def execRecountComplete (x : At) (edge : Nat) (s : State) : Host.Outcome State Fault Refusal :=
  let s := s.enter x
  .next (match tget s.route.slots edge with
    | none => s
    | some e =>
      let slot := s.slotFor edge s.nextBinding.1 s.nextBinding.2
      match slot with
      | none => s
      | some k => if e.unknown && !s.slotsRoll (k / 2048) && (!e.bad || (s.row (k / 16384)).serving) then s.countSlot edge slot else s)

/-! ### Route events, versions, holds (14 R356, R358, R373; 16 R417, R418) -/

/-- ROUTE_QP of the image. -/
def State.routeQp (s : State) : Option Nat := s.ep.image.map fun m => m.site.route.qp

/-- Complete a ROUTE_EVENT_READ with what the buffer holds (18 Table 18-9). -/
def State.readEvents (s : State) (c : Cmd) : State :=
  let n := fieldN c.params 0 2
  let out := s.route.events.take n
  let lost := s.route.eventsLost
  let s := { s with route := { s.route with events := s.route.events.drop n, eventsLost := 0 } }
  s.complete c.qp c.tag (if out.any fun r => fieldN r 2 1 == 2 then stRouteNone else stOK) (sat32 lost) (catB out)

/-- Place a route event for ROUTE_QP (14 Table 14-9); a waiting read takes it. -/
def State.routeEvent (s : State) (a ev cause : Nat) : State :=
  if s.route.events.length ≥ 4096 then { s with route := { s.route with eventsLost := s.route.eventsLost + 1 } }
  else
    let r := toLE 2 a ++ toLE 1 ev ++ [0] ++ toLE 4 (s.routeOf a).version ++ toLE 4 cause ++ toLE 4 0 ++
      s.lkt s.time.active
    let s := { s with route := { s.route with events := s.route.events ++ [r] } }
    match s.routeQp.bind fun q => s.waitingRead q 0x0707 with
    | some c => s.readEvents c
    | none => s

/-- No edge, no node. -/
def noId : Nat := 0xFFFFFFFF

/-- Drop the searches for an agent, its goal commands apart. -/
def State.dropJobs (s : State) (a : Nat) : State :=
  let keep := fun (j : RouteJob) => j.agent != a || (match j.what with
    | .goal _ _ _ _ => true
    | _ => false)
  { s with route := { s.route with jobs := s.route.jobs.filter keep } }

/-- Issue a route as the agent's next version and hand it to the agent service (14 R358). -/
def State.issueRoute (s : State) (a : Nat) (edges : List Nat) (goal cur : Nat) (host : Bool) (cause : Nat) : State :=
  let r := s.routeOf a
  let v := (r.version + 1) % 4294967296
  let s := s.setRoute a { r with
    st := .active, version := if v = 0 then 1 else v, goal := goal, current := min cur (edges.length - 1),
    edges := edges, issued := s.lkt s.time.active, fromHost := host, heldCurrent := false, segsOk := 0,
    holdDue := none, hostWait := none, waitOver := false }
  ((s.dropOldSegs a).sendRoute a 0).routeEvent a 0 cause

/-- Send a hold segment and enter HOLD (14 R360, R362, R376). -/
def State.holdAgent (s : State) (a : Nat) (current ended : Bool) (ev cause : Nat) : State :=
  let s := s.sendHold a current
  (s.setRoute a { s.routeOf a with st := .hold, heldCurrent := current, hostWait := none, waitOver := ended }).routeEvent
    a ev cause

/-- The route ends: the agent is IDLE, nothing is resent (14 Table 14-1, 16 R420). -/
def State.endRoute (s : State) (a ev : Nat) : State :=
  let s := s.dropJobs a
  (s.setRoute a { s.routeOf a with
    st := .idle, heldCurrent := false, holdDue := none, hostWait := none, waitOver := false }).routeEvent a ev noId

/-- Queue work of the route service. -/
def State.addJob (s : State) (a : Nat) (w : RouteWork) (tick : Nat) : State :=
  let j : RouteJob := { agent := a, what := w, tick := tick, core := none, shut := [], version := 0, mode := .idle,
                        cur := 0, full := false, runs := 0 }
  { s with route := { s.route with jobs := s.route.jobs ++ [j] } }

/-! ### Blocked-edge records reach the route service (14 R356, R360, R364) -/

/-- A blocked or clear edge meets an agent's route. -/
def State.edgeMeets (s : State) (r : BlockedRec) (cls a : Nat) : State :=
  let v := s.routeOf a
  if r.state = 1 ∧ v.st = .active then
    if v.edges[v.current]? = some r.edge then s.holdAgent a true false 1 r.edge
    else if !(v.edges.drop v.current).contains r.edge then s
    else if s.ha 7 then
      if v.hostWait.isSome then s else s.awaitHost a r.edge
    else s.addJob a (.repair r.edge) r.tick
  else if r.state = 0 ∧ v.st = .hold then
    if v.heldCurrent then
      if v.edges[v.current]? = some r.edge then s.issueRoute a v.edges v.goal v.current v.fromHost noId else s
    else if s.agentClassOf a == cls && !s.ha 7 &&
        !s.route.jobs.any (fun j => j.agent == a && j.what == .replan && j.core.isNone) then
      s.addJob a .replan r.tick
    else s
  else s

/-- The next record: the earliest decision tick, then the lowest edge. -/
def nextRec (l : List BlockedRec) : Option BlockedRec :=
  l.foldl (fun b r => match b with
    | none => some r
    | some q => if r.tick < q.tick ∨ (r.tick = q.tick ∧ r.edge < q.edge) then some r else some q) none

/-- BLOCKED_RECORD_DELIVERED: the next record reaches the buffer and the route service, which takes agents in ascending
id. -/
def execBlockedRecordDelivered (x : At) (s : State) : Host.Outcome State Fault Refusal :=
  let s := s.enter x
  .next (match nextRec s.route.recs with
    | none => s
    | some r =>
      if s.time.tick < r.tick then s
      else
        let full := decide (4096 ≤ s.route.blocked.length)
        let s := { s with route := { s.route with
          recs := s.route.recs.erase r
          blocked := if full then s.route.blocked else s.route.blocked ++ [r.rec_]
          blockedLost := s.route.blockedLost + b2n full } }
        let cls := match tget s.route.slots r.edge with
          | some e => e.edge.cls
          | none => 16
        if s.unit.state = .run then (s.route.routes.map Prod.fst).foldl (fun s a => s.edgeMeets r cls a) s else s)

/-! ### Searches (14 R357, R361) -/

/-- A search under way: open nodes with their totals, the least cost to a node with the edge that gives it, and nodes
closed. Costs are in 2^-32 µs. -/
structure Seek where
  opened : List (Nat × Nat)
  best : List (Nat × Nat × Nat)
  closed : List Nat
deriving DecidableEq, Repr

/-- One microsecond of cost. -/
def costU : Nat := 4294967296

/-- A node's x, y or z in 2^-149 m. -/
def nodePos (r : Roadmap) (n i : Nat) : Int := fInt (fField (r.nodes.getD n []) (4 * i))

/-- The heuristic at a node: straight-line distance to the goal at the class's maximum speed, rounded down (14 R357). -/
def Roadmap.toGo (r : Roadmap) (goal : Option Nat) (n : Nat) : Nat :=
  match goal with
  | none => 0
  | some g =>
    let d := fun i => (nodePos r n i - nodePos r g i).natAbs
    let v := fMag r.maxSpeed
    if v = 0 ∨ fSign r.maxSpeed then 0
    else isqrt ((d 0 * d 0 + d 1 * d 1 + d 2 * d 2) * (1000000 * costU) * (1000000 * costU)) / v

/-- The open node of the lowest total, then of the lowest id (14 R357). -/
def leastOpen (l : List (Nat × Nat)) : Option (Nat × Nat) :=
  l.foldl (fun b e => match b with
    | none => some e
    | some q => if e.1 < q.1 ∨ (e.1 = q.1 ∧ e.2 < q.2) then some e else some q) none

/-- The edges that leave a node, in ascending id. -/
def Roadmap.from_ (r : Roadmap) (n : Nat) : List Edge :=
  ((r.edges.filter fun e => e.start == n).foldl (fun t e => tset t e.id e) []).map Prod.snd

/-- Follow an edge from a node reached at cost `g`. -/
def Seek.relax (r : Roadmap) (ok : Edge → Bool) (goal : Option Nat) (g : Nat) (k : Seek) (e : Edge) : Seek :=
  if !ok e || k.closed.contains e.stop then k
  else
    let c := g + e.cost * costU
    let better : Bool := match tget k.best e.stop with
      | some b => decide (c < b.1)
      | none => true
    if better then
      { k with best := tset k.best e.stop (c, e.id), opened := k.opened ++ [(c + r.toGo goal e.stop, e.stop)] }
    else k

/-- Close nodes until the goal is closed or none is open; `fuel` bounds their number. -/
def Roadmap.seekOn (r : Roadmap) (ok : Edge → Bool) (goal : Option Nat) : Nat → Seek → Seek
  | 0, k => k
  | f + 1, k =>
    match leastOpen k.opened with
    | none => k
    | some (_, n) =>
      let k := { k with opened := k.opened.filter (fun e => e.2 != n), closed := sins k.closed n }
      if goal = some n then k
      else r.seekOn ok goal f ((r.from_ n).foldl (Seek.relax r ok goal (tgetD k.best n (0, 0)).1) k)

/-- An A* search from a node, to a goal or over all it reaches. -/
def Roadmap.seek (r : Roadmap) (ok : Edge → Bool) (start : Nat) (goal : Option Nat) : Seek :=
  r.seekOn ok goal (r.edges.length + 1) { opened := [(r.toGo goal start, start)], best := [(start, 0, noId)], closed := [] }

/-- The edges of the path a search found to a node. -/
def Roadmap.pathTo (r : Roadmap) (k : Seek) (start : Nat) : Nat → Nat → List Nat
  | 0, _ => []
  | f + 1, n =>
    if n = start then []
    else match tget k.best n with
      | some (_, id) => match r.edge id with
        | some e => r.pathTo k start f e.start ++ [id]
        | none => []
      | none => []

/-- The nodes within `hops` of a set, whatever the direction (14 R361). -/
def Roadmap.area (r : Roadmap) : Nat → List Nat → List Nat
  | 0, set => set
  | h + 1, set =>
    r.area h (r.edges.foldl (fun t e =>
      let t := if set.contains e.start then sins t e.stop else t
      if set.contains e.stop then sins t e.start else t) set)

/-- The node before position `k` of a list of edges; after the last one, its end. -/
def Roadmap.nodeAt (r : Roadmap) (es : List Nat) (k : Nat) : Nat :=
  match es[k]? with
  | some id => ((r.edge id).map fun e => e.start).getD noId
  | none => ((es.getLast?.bind r.edge).map fun e => e.stop).getD noId

/-- The cost of a list of edges. -/
def Roadmap.costOf (r : Roadmap) (es : List Nat) : Nat :=
  (es.map fun id => ((r.edge id).map fun e => e.cost * costU).getD 0).sum

/-- Where a repair of position `ib` starts: the latest node of the area before the blocked edge's own start, or the end
of the current edge where the blocked edge follows it (14 R361). -/
def Roadmap.repairFrom (r : Roadmap) (es : List Nat) (cur ib : Nat) (area : List Nat) : Nat :=
  (((List.range' (cur + 1) (ib - cur - 1)).reverse).find? fun k => area.contains (r.nodeAt es k)).getD (max (cur + 1) ib)

/-- Repair a route around blocked edge `b`: the new edges, and those it adds (14 R361). -/
def Roadmap.repair (r : Roadmap) (es : List Nat) (cur radius b : Nat) (ok : Edge → Bool) : Option (List Nat × List Nat) :=
  match (List.range es.length).find? fun k => decide (cur < k) && es.getD k noId == b with
  | none => none
  | some ib =>
    let area := r.area radius [r.nodeAt es ib]
    let ku := r.repairFrom es cur ib area
    let u := r.nodeAt es ku
    let k := r.seek (fun e => ok e && area.contains e.start && area.contains e.stop) u none
    let best := (List.range' (ib + 1) (es.length - ib)).foldl (fun (m : Option (Nat × Nat)) w =>
      let n := r.nodeAt es w
      if area.contains n && k.closed.contains n then
        let c := (tgetD k.best n (0, 0)).1 + r.costOf (es.drop w)
        match m with
        | some q => if c < q.1 then some (c, w) else m
        | none => some (c, w)
      else m) none
    match best with
    | none => none
    | some (_, w) =>
      let det := r.pathTo k u (r.edges.length + 1) (r.nodeAt es w)
      let new := es.take ku ++ det ++ es.drop w
      if new.length ≤ 4096 then some (new, det) else none

/-- Plan in full after a prefix that is kept: the new edges, and those it adds (14 R357, R362). -/
def Roadmap.plan (r : Roadmap) (keep : List Nat) (start goal : Nat) (ok : Edge → Bool) : Option (List Nat × List Nat) :=
  let k := r.seek ok start (some goal)
  if !k.closed.contains goal then none
  else
    let p := r.pathTo k start (r.edges.length + 1) goal
    if keep.length + p.length ≤ 4096 then some (keep ++ p, p) else none

/-! ### The route service's work (14 R360 to R363) -/

/-- An agent's roadmap with the removed edges its routes still name. -/
def State.workMap (s : State) (a : Nat) : Option Roadmap :=
  (s.agentMap a).map fun r => { r with edges := r.edges ++ (s.route.past.map Prod.snd).filter fun e => (r.edge e.id).isNone }

/-- An edge is clear: its slot is known and below its threshold (14 R352). -/
def State.edgeClear (s : State) (id : Nat) : Bool :=
  match tget s.route.slots id with
  | some e => e.state == 0
  | none => false

/-- The edges of a roadmap that are not clear. -/
def State.shutEdges (s : State) (r : Roadmap) : List Nat :=
  (r.edges.map fun e => e.id).filter fun id => !s.edgeClear id

/-- The repair radius of a class (14 Table 14-5, `route_params`). -/
def State.radius (s : State) (r : Roadmap) : Nat :=
  match s.ep.image with
  | some m => tgetD m.site.route.radius r.cls r.radius
  | none => r.radius

/-- The keeper cores of the route service: physical core numbers. -/
def State.routeCores (s : State) : List Nat :=
  match s.ep.image with
  | some m => m.site.route.cores.map fun c => 4 * s.ep.binding.getD c.1 64 + c.2
  | none => []

/-- A free working core of the route service. -/
def State.freeCore (s : State) : Option Nat :=
  s.routeCores.find? fun c => s.coreWorks c && !s.route.jobs.any fun j => j.core == some c

/-- The next work to start: the earliest decision tick, then the lowest agent, one at a time per agent (14 R360). -/
def State.nextJob (s : State) : Option RouteJob :=
  let idle := s.route.jobs.filter fun j =>
    j.core.isNone && !s.route.jobs.any fun k => k.agent == j.agent && k.core.isSome
  idle.foldl (fun b j => match b with
    | none => some j
    | some q => if j.tick < q.tick ∨ (j.tick = q.tick ∧ j.agent < q.agent) then some j else some q) none

/-- Work is still wanted when its turn comes (14 R360, R364, R368). -/
def State.jobWanted (s : State) (j : RouteJob) : Bool :=
  let v := s.routeOf j.agent
  match j.what with
  | .repair b => v.st == .active && (v.edges.drop (v.current + 1)).contains b &&
      (match tget s.route.slots b with
       | some e => e.state == 1
       | none => false)
  | .full _ => v.st != .idle && !v.edges.isEmpty
  | .replan => v.st == .hold && !v.heldCurrent
  | .goal _ _ _ _ => true

/-- Replace the first piece of work that equals one; none: remove it. -/
def State.putJob (s : State) (j : RouteJob) (n : Option RouteJob) : State :=
  let l := s.route.jobs
  let i := (l.findIdx? fun k => k == j).getD l.length
  { s with route := { s.route with jobs := l.take i ++ n.toList ++ l.drop (i + 1) } }

/-- Work begins a run: the clear set, the version and the place of the agent as they stand (14 R361, R363). -/
def State.beginRun (s : State) (j : RouteJob) (core : Nat) (full : Bool) (runs : Nat) : RouteJob :=
  let v := s.routeOf j.agent
  { j with
    core := some core, full := full, runs := runs, version := v.version, mode := v.st, cur := v.current,
    shut := ((s.workMap j.agent).map s.shutEdges).getD [] }

/-- REPAIR_START: a free core takes the next work; work no longer wanted is dropped. -/
def execRepairStart (x : At) (agent : Nat) (s : State) : Host.Outcome State Fault Refusal :=
  let s := s.enter x
  .next (match s.nextJob, s.freeCore with
    | some j, some c =>
      if j.agent ≠ agent then s
      else if !s.jobWanted j then s.putJob j none
      else
        let full := match j.what with
          | .repair _ => false
          | _ => true
        s.putJob j (some (s.beginRun j c full 0))
    | _, _ => s)

/-- The edge a search is about, for the route event. -/
def RouteWork.cause : RouteWork → Nat
  | .repair b => b
  | .full b => b
  | _ => noId

/-- What a search finds with the clear set of its run. -/
def State.searchResult (s : State) (j : RouteJob) : Option (List Nat × List Nat) :=
  match s.workMap j.agent with
  | none => none
  | some r =>
    let v := s.routeOf j.agent
    let ok := fun (e : Edge) => !j.shut.contains e.id
    let onward := r.nodeAt v.edges (j.cur + 1)
    match j.what with
    | .repair b => if j.full then r.plan (v.edges.take (j.cur + 1)) onward v.goal ok else
        r.repair v.edges j.cur (s.radius r) b ok
    | .goal g start _ _ =>
      if start ≠ noId then r.plan [] start g ok
      else if v.edges.isEmpty then none
      else r.plan (v.edges.take (j.cur + 1)) onward g ok
    | _ => r.plan (v.edges.take (j.cur + 1)) onward v.goal ok

/-- No route: a command learns of it, an active route is held (14 R362, Table 14-1). -/
def State.noRoute (s : State) (j : RouteJob) : State :=
  let s := s.putJob j none
  match j.what with
  | .goal _ _ q t => s.complete q t stRouteNone 0 []
  | .replan => s
  | w => if (s.routeOf j.agent).st = .active then s.holdAgent j.agent false false 2 w.cause else s

/-- A route is issued, and completes the command that asked for it (14 R358). -/
def State.routeFound (s : State) (j : RouteJob) (edges : List Nat) : State :=
  let s := s.putJob j none
  let v := s.routeOf j.agent
  match j.what with
  | .goal g start q t =>
    let s := s.issueRoute j.agent edges g (if start = noId then v.current else 0) false noId
    s.complete q t stOK (s.routeOf j.agent).version []
  | w => s.issueRoute j.agent edges v.goal v.current false w.cause

/-- A run ends: its added edges are checked against the clear set of this tick, at most three runs (14 R362, R363). A
result made stale by a new version or state is not issued. -/
def State.endSearch (s : State) (j : RouteJob) : State :=
  let v := s.routeOf j.agent
  let goal : Bool := match j.what with
    | .goal _ _ _ _ => true
    | _ => false
  let core := j.core.getD 0
  if s.unit.state ≠ .run ∨ (!goal ∧ (v.version ≠ j.version ∨ v.st ≠ j.mode)) then s.putJob j none
  else
    let again := if j.full then s.noRoute j else s.putJob j (some (s.beginRun j core true 0))
    match s.searchResult j with
    | none => again
    | some (es, added) =>
      if added.all s.edgeClear then s.routeFound j es
      else if j.runs + 1 < 3 then s.putJob j (some (s.beginRun j core j.full (j.runs + 1)))
      else again

/-- The work of an agent that runs. -/
def State.runningJob (s : State) (a : Nat) (full : Bool) : Option RouteJob :=
  s.route.jobs.find? fun j => j.agent == a && j.core.isSome && j.full == full

/-- REPAIR_COMPLETE (14 R361 to R363). -/
def execRepairComplete (x : At) (agent : Nat) (s : State) : Host.Outcome State Fault Refusal :=
  let s := s.enter x
  .next (match s.runningJob agent false with
    | some j => s.endSearch j
    | none => s)

/-- FULL_PLAN_COMPLETE (14 R362, R363). -/
def execFullPlanComplete (x : At) (agent : Nat) (s : State) : Host.Outcome State Fault Refusal :=
  let s := s.enter x
  .next (match s.runningJob agent true with
    | some j => s.endSearch j
    | none => s)

/-- HOST_ROUTE_WAIT_EXPIRY: no host route came; one at the very tick the wait ends would win (14 R376, 03 R77). -/
def execHostRouteWaitExpiry (x : At) (agent : Nat) (s : State) : Host.Outcome State Fault Refusal :=
  let s := s.enter x
  let v := s.routeOf agent
  .next (match v.hostWait with
    | none => s
    | some (e, due) =>
      if s.time.tick ≤ due then s
      else if v.st = .active then s.holdAgent agent false true 1 e
      else s.setRoute agent { v with hostWait := none })

/-! ### Commands (14 R358, R371, R373, R375; 18 Table 18-9) -/

/-- An edge slot record (14 Table 14-3). -/
def State.edgeRecord (s : State) (id : Nat) : Bytes :=
  match tget s.route.slots id with
  | none => toLE 4 id ++ toLE 4 noId ++ List.replicate 24 0
  | some e => toLE 4 id ++ toLE 4 (e.slot.getD noId) ++ toLE 1 e.state ++ toLE 1 e.edge.scale ++ toLE 1 e.edge.cls ++
      [0] ++ toLE 2 e.edge.ax ++ toLE 2 e.edge.ay ++ toLE 2 e.edge.az ++ toLE 2 e.edge.threshold ++ toLE 4 e.count ++
      toLE 8 0

/-- EDGE_READ: records at one tick (14 R371). -/
def execEdgeRead (x : At) (qp tag : Nat) (_data : Option Bytes) (s : State) : Host.Outcome State Fault Refusal :=
  .next (s.run x qp tag 0x0701 fun s c =>
    s.complete c.qp c.tag stOK 0 (catB ((List.range' (fieldN c.params 0 4) (fieldN c.params 4 4)).map s.edgeRecord)))

/-- BLOCKED_READ: records oldest first, from ROUTE_QP alone (14 R356). -/
def execBlockedRead (x : At) (qp tag : Nat) (_data : Option Bytes) (s : State) : Host.Outcome State Fault Refusal :=
  .next (s.run x qp tag 0x0702 fun s c =>
    if s.routeQp ≠ some c.qp then s.complete c.qp c.tag stBadState 0 []
    else
      let n := fieldN c.params 0 2
      let out := s.route.blocked.take n
      let lost := s.route.blockedLost
      let s := { s with route := { s.route with blocked := s.route.blocked.drop n, blockedLost := 0 } }
      s.complete c.qp c.tag stOK (sat32 lost) (catB out))

/-- ROUTE_EVENT_READ: events at once, or a wait for one (14 R373, 18 R464). -/
def execRouteEventRead (x : At) (qp tag : Nat) (_data : Option Bytes) (s : State) : Host.Outcome State Fault Refusal :=
  .next (s.run x qp tag 0x0707 fun s c =>
    if s.routeQp ≠ some c.qp then s.complete c.qp c.tag stBadState 0 []
    else if fieldN c.params 2 1 = 0 ∨ !s.route.events.isEmpty then s.readEvents c
    else if (s.waitingRead c.qp 0x0707).isSome then s.complete c.qp c.tag stBadState 0 []
    else
      s.setProg c.qp c.tag (.waiting c.timeout.1 c.timeout.2))

/-- ROUTE_GOAL_SET: a full plan is queued; it completes at the issue or at the no-route outcome (14 R358). -/
def execRouteGoalSet (x : At) (qp tag : Nat) (_data : Option Bytes) (s : State) : Host.Outcome State Fault Refusal :=
  .next (s.run x qp tag 0x0704 fun s c =>
    let a := fieldN c.params 0 2
    let goal := fieldN c.params 4 4
    let start := fieldN c.params 8 4
    let v := s.routeOf a
    match s.agentMap a with
    | none => s.complete c.qp c.tag stBadParam 0 []
    | some r =>
      if s.ha 7 then s.complete c.qp c.tag stBadState 0 []
      else if r.nodes.length ≤ goal ∨ (start ≠ noId ∧ r.nodes.length ≤ start) ∨
          (start = noId ∧ (v.st = .idle ∨ v.edges.isEmpty)) then s.complete c.qp c.tag stBadParam 0 []
      else (s.addJob a (.goal goal start c.qp c.tag) s.time.tick).setProg c.qp c.tag (.waiting 0 0))

/-- ROUTE_CANCEL (14 Table 14-1). -/
def execRouteCancel (x : At) (qp tag : Nat) (_data : Option Bytes) (s : State) : Host.Outcome State Fault Refusal :=
  .next (s.run x qp tag 0x0705 fun s c =>
    let a := fieldN c.params 0 2
    if (s.agentDesc a).isNone then s.complete c.qp c.tag stBadParam 0 []
    else
      let s := match (s.routeOf a).st with
        | .idle => s
        | .active => (s.sendHold a false).endRoute a 4
        | .hold => s.endRoute a 4
      s.complete c.qp c.tag stOK 0 [])

/-- R_STATE's code (14 Table 14-8). -/
def RouteMode.code : RouteMode → Nat
  | .idle => 0
  | .active => 1
  | .hold => 2

/-- A repair of an agent's route is pending. -/
def State.repairPending (s : State) (a : Nat) : Bool :=
  (s.routeOf a).hostWait.isSome || s.route.jobs.any fun j => j.agent == a && (match j.what with
    | .repair _ => true
    | .full _ => true
    | _ => false)

/-- ROUTE_READ: the route header and the edge ids (14 R373). -/
def execRouteRead (x : At) (qp tag : Nat) (_data : Option Bytes) (s : State) : Host.Outcome State Fault Refusal :=
  .next (s.run x qp tag 0x0706 fun s c =>
    let a := fieldN c.params 0 2
    let v := s.routeOf a
    let b := toLE 2 a ++ toLE 1 v.st.code ++
      toLE 1 (b2n (s.repairPending a) + 2 * b2n v.fromHost + 4 * b2n v.heldCurrent) ++ toLE 4 v.version ++
      toLE 4 v.goal ++ toLE 2 v.current ++ toLE 2 v.edges.length ++ v.issued
    s.complete c.qp c.tag stOK 0 (b ++ catB (v.edges.map (toLE 4))))

/-- Successive edges connect. -/
def Roadmap.joined (r : Roadmap) : List Nat → Bool
  | a :: b :: t =>
    ((r.edge a).map fun e => e.stop) == ((r.edge b).map fun e => e.start) && r.joined (b :: t)
  | _ => true

/-- ROUTE_SUBMIT: the host's edge list is the next version (14 R375, R376). For a held agent, a list that does not go on from its
current edge is its whole route (log entry 61). -/
def execRouteSubmit (x : At) (qp tag : Nat) (data : Option Bytes) (s : State) : Host.Outcome State Fault Refusal :=
  .next (s.run x qp tag 0x0708 fun s c =>
    let a := fieldN c.params 0 2
    let n := fieldN c.params 2 2
    let goal := fieldN c.params 4 4
    match dataOf c.params 8 16 (4 * n) data, s.agentMap a, s.workMap a with
    | none, _, _ => s.complete c.qp c.tag stBadParam 0xFFFFFFFF []
    | some b, some r, some w =>
      let es := (List.range n).map fun i => fieldN b (4 * i) 4
      let v := s.routeOf a
      let starts := (((es.head?).bind r.edge).map fun e => e.start).getD noId
      let onward := !v.edges.isEmpty && starts == w.nodeAt v.edges (v.current + 1)
      let keep := if v.st = .idle || !onward then [] else v.edges.take (v.current + 1)
      if !es.all (fun id => (r.edge id).isSome) || !r.joined es || decide (4096 < keep.length + n) ||
          (v.st == .active && !v.edges.isEmpty && !onward) then
        s.complete c.qp c.tag stBadParam 0 []
      else
        let late := v.waitOver && v.hostWait.isNone
        let s := s.issueRoute a (keep ++ es) goal (if keep.isEmpty then 0 else v.current) true noId
        s.complete c.qp c.tag (if late then stLate else stOK) (s.routeOf a).version []
    | _, _, _ => s.complete c.qp c.tag stBadParam 0 [])

end Sys2Proof.Machine
end

