-- ==== Sys2Proof/Machine/Agent.lean ====
section
/-! DEFINITION. The agent service (16): agent frames and bindings, pose requests and the pose cache, odometry,
acknowledgements, transmit gates and buffers. -/

namespace Sys2Proof.Machine

/-! ### Accepting frames (16 R405) -/

/-- AG_LEN of a gateway's message types (16 Table 16-5). -/
def gatewayLen (type : Nat) (payload : Bytes) : Option Nat :=
  match type with
  | 1 => some 16
  | 2 => some 8
  | 4 => some (8 + 56 * fieldN payload 0 1)
  | 6 => some 16
  | _ => none

/-- An odometry sample is in its layout (16 Table 16-8). -/
def odoSampleOk (b : Bytes) : Bool :=
  bitsOf (fieldN b 0 2) 13 8 == 0 && decide (fieldN b 4 4 ≤ 999999999) && bitsOf (fieldN b 16 1) 7 4 == 0 &&
    zeroIn b 17 3 && zeroIn b 52 4

/-- A gateway's payload is in its layout (16 Tables 16-6, 16-8). -/
def gatewayPayloadOk (type : Nat) (p : Bytes) : Bool :=
  match type with
  | 1 => within 0 15 (fieldN p 0 1) && decide (fieldN p 1 1 ≤ fieldN p 2 1) && zeroIn p 3 5
  | 2 => within 0 20000000 (fieldN p 0 4) && zeroIn p 4 4
  | 4 => within 1 24 (fieldN p 0 1) && zeroIn p 1 7 && allItems p 8 56 (fieldN p 0 1) odoSampleOk
  | 6 => bitsOf (fieldN p 8 1) 7 2 == 0 && zeroIn p 9 7
  | _ => false

/-- An agent frame's payload. -/
def agPayload (f : EthFrame) : Bytes := sliceB f.body 24 (fieldN f.body 6 2)

/-- The agent a frame names. -/
def agAgent (f : EthFrame) : Nat := fieldN f.body 2 2

/-- A frame of a type is accepted (16 R405); any other is discarded. -/
def State.agentTakes (s : State) (f : EthFrame) (type : Nat) : Bool :=
  let own := f.dst == s.unit.macs.getD f.port [] || (type == 1 && f.dst == List.replicate 6 255)
  let p := agPayload f
  s.agentPortUp f.port && f.fcsOk && own && f.ethertype == 0x88B5 && fieldN f.body 0 1 == type &&
    fieldN f.body 1 1 == 1 && decide ((agAgent f) < 4096) && gatewayLen type p == some (fieldN f.body 6 2) &&
    decide (24 + fieldN f.body 6 2 ≤ f.body.length) && zeroIn f.body 8 16 && gatewayPayloadOk type p

/-! ### HELLO and bindings (16 R406, R407, R417) -/

/-- H_RESULT of a HELLO. -/
def State.helloResult (s : State) (f : EthFrame) : Nat :=
  let p := agPayload f
  match s.agentDesc (agAgent f) with
  | none => 1
  | some d => if d.cls ≠ fieldN p 0 1 then 2 else if within (fieldN p 1 1) (fieldN p 2 1) 1 then 0 else 3

/-- HELLO: answered to its source; result 0 binds the agent, and a route it awaits is sent, in RUN (01 Table 1-4). -/
def execHello (x : At) (_k : Nat) (f : EthFrame) (s : State) : Host.Outcome State Fault Refusal :=
  let s := s.enter x
  .next (if !s.agentTakes f 1 then s
    else
      let a := agAgent f
      let n := s.helloResult f
      let c := s.agentClass (s.agentClassOf a)
      let v := s.routeOf a
      let b : Binding := { port := f.port, mac := f.src, vlan := f.vlan }
      let body := if n = 0 then toLE 4 v.version ++ toLE 4 c.cycle ++ toLE 4 c.window else toLE 12 0
      let fresh := n == 0 && (tget s.agent.bindings a).isNone
      let s := if n = 0 then { s with agent := { s.agent with bindings := tset s.agent.bindings a b } } else s
      let s := s.agentTx b (s.agentHead 1 a (fieldN f.body 4 2) 16 ++ toLE 1 n ++ toLE 3 0 ++ body)
      if fresh && v.st != .idle && s.unit.state == .run then
        let s := s.sendRoute a v.segsOk
        match v.holdDue with
        | some h => s.sendSeg a (holdSeg v h)
        | none => s
      else s)

/-! ### The pose cache and propagation (16 R410 to R412, R422 to R424) -/

/-- What the pose cache holds for an agent. -/
def State.cacheOf (s : State) (a : Nat) : PoseEntry :=
  tgetD s.agent.cache a { pose := none, host := false, stamp := none, sample := none }

/-- The pose of the mode in force: the host's, or the last fused publication. -/
def State.poseOf (s : State) (a : Nat) : Option Track := if s.ha 10 then (s.cacheOf a).pose else tget s.stg.fusedPoses a

/-- The local time of a pose's T_STATE. -/
def State.poseTime (s : State) (a : Nat) (k : Track) : Int :=
  match s.ha 10, (s.cacheOf a).stamp with
  | true, some b => localOf s.time.localC s.domPairs b
  | _, _ => k.tState

/-- A local time in the active domain. -/
def State.activeAt (s : State) (t : Int) : Nat :=
  let d := s.dom s.time.active
  ((d.value : Int) + (t - s.time.localC) * d.incr / nsU).toNat

/-- An LKT value in the active domain; one of that domain stands as it is. -/
def State.activeOf (s : State) (b : Bytes) : Nat :=
  if lktDom b = s.time.active then lktVal b else s.activeAt (localOf s.time.localC s.domPairs b)

/-- T_STATE of a pose in the active domain. -/
def State.poseStamp (s : State) (a : Nat) (k : Track) : Nat :=
  match s.ha 10, (s.cacheOf a).stamp with
  | true, some b => s.activeOf b
  | _, _ => s.activeAt k.tState

/-- An LKT of the active domain with the flags of this tick. -/
def State.activeLkt (s : State) (mode v : Nat) : Bytes :=
  lktBytes s.time.active (s.lktFlags s.time.active mode false false) v

/-- INVALID_WHY, 0 for a valid reply (16 R412). -/
def State.invalidWhy (s : State) (a : Nat) : Nat :=
  if s.unit.state ≠ .run then 1
  else if (s.agentDesc a).isNone then 3
  else if (s.poseOf a).isSome then 0
  else if s.ha 10 then 4
  else 2

/-- The sample whose rates a propagation takes: the entry's, when it is after T_STATE. -/
def State.poseSample (s : State) (a : Nat) (t0 : Int) : Option Sample :=
  match (s.cacheOf a).sample with
  | some (_, p) => if t0 < (p.stamp : Int) then some p else none
  | none => none

/-- Propagate a pose over one interval (16 R411): model 2 takes no acceleration. -/
def poseMove (k : Track) (p : Option Sample) (dt : F32) : Vec :=
  if k.model = 1 then (moveOne k.x p dt).1
  else (moveTwo k.x (p.map fun q => { q with valid := q.valid % 8 }) dt).1

/-- The pose dimensions of a state vector: x, y, z, roll, pitch, yaw. -/
def poseDims (model : Nat) : List (Option Nat) :=
  if model = 1 then [some 0, some 1, none, none, none, some 2] else (List.range 6).map some

/-- A state's pose dimension; one the model lacks is 0. -/
def poseVal (x : Vec) (i : Option Nat) : F32 := (i.map (vGet x)).getD fZero

/-- The upper triangle of the pose covariance P + diag(q)·|Δt| (16 R411). -/
def poseCov (k : Track) (q : Vec) (dt : F32) : Bytes :=
  let d := poseDims k.model
  let a : F32 := dt &&& 0x7FFFFFFF
  catB ((List.range 6).map fun i => catB ((List.range' i (6 - i)).map fun j =>
    match d.getD i none, d.getD j none with
    | some m, some n =>
      let v := mGet k.p m n
      toLE 4 (if m = n then fAdd v (fMul (vGet q m) a) else v).toNat
    | _, _ => toLE 4 0))

/-- Position, attitude, velocity and yaw rate (16 Table 16-7). -/
def poseBody (k : Track) (x : Vec) (p : Option Sample) : Bytes :=
  let w := fun (v : F32) => toLE 4 v.toNat
  let pos := catB ((poseDims k.model).map fun i => w (poseVal x i))
  let vel := if k.model = 1 then [fMul (vGet x 3) (fCos (vGet x 2)), fMul (vGet x 3) (fSin (vGet x 2)), fZero]
    else [vGet x 6, vGet x 7, vGet x 8]
  let rate := if k.model = 1 then vGet x 4 else match p.bind Sample.gyroZ with
    | some g => fSub g (vGet x 11)
    | none => fZero
  pos ++ catB (vel.map w) ++ w rate

/-- The payload of a POSE_REP (16 Table 16-7): propagated from the entry to `ahead` ns after t_req, which is `tl` on the
local counter and `tv` in the active domain. -/
def State.posePayload (s : State) (a ahead mode : Nat) (tl : Int) (tv : Nat) : Bytes :=
  let why := s.invalidWhy a
  let k := (s.poseOf a).getD Track.free
  let flags := b2n (why == 0) + 2 * b2n (why == 0 && s.ha 10) + 4 * b2n (why == 0 && k.model == 1)
  let head := toLE 1 flags ++ toLE 1 why ++ toLE 2 k.coast ++ toLE 4 ahead ++ s.activeLkt mode tv ++
    s.activeLkt 3 (tv + ahead * nsU)
  if why ≠ 0 then head ++ List.replicate 140 0
  else
    let t0 := s.poseTime a k
    let p := s.poseSample a t0
    let dt := fSeconds (tl + ((ahead * nsU : Nat) : Int) - t0)
    head ++ s.activeLkt 3 (s.poseStamp a k) ++ poseBody k (poseMove k p dt) p ++
      poseCov k (s.agentClass (s.agentClassOf a)).noise dt

/-- A reply as of this tick: t_req is `k` capture steps and 0.1 ns into it, the medium-boundary stamp 28.5 ns and `k`
steps after its start, less the receive delay (16 R408). -/
def State.poseReply (s : State) (a seq ahead k : Nat) : Bytes :=
  let tv := s.counterAt s.time.active (228 + k) - rxDelay
  let tl := s.counterAt 0 (228 + k) - rxDelay
  s.agentHead 3 a seq 180 ++ s.posePayload a ahead 1 (tl : Int) tv

/-- A write of an entry is seen by the requests of the same tick (16 R410). -/
def State.refreshPoses (s : State) (as : List Nat) : State :=
  let qs := s.agent.poseQs.map fun q => q.map fun r =>
    if r.tick = s.time.tick ∧ as.contains r.agent then
      { r with frame := s.poseReply r.agent r.seq r.ahead r.step } else r
  { s with agent := { s.agent with poseQs := qs } }

/-- A unit in this state answers pose requests (01 R30). -/
def UnitState.poses : UnitState → Bool
  | .ready => true
  | .run => true
  | .quiesce => true
  | _ => false

/-- POSE_REQ: the request enters its port's queue of 65, as of the tick of t_req (16 R408, R410, R414). -/
def execPoseReq (x : At) (k : Nat) (f : EthFrame) (s : State) : Host.Outcome State Fault Refusal :=
  let s := s.enter x
  .next (if !s.agentTakes f 2 || !s.unit.state.poses || decide (65 ≤ (s.agent.poseQs.getD f.port []).length) then s
    else
      let ahead := fieldN (agPayload f) 0 4
      let seq := fieldN f.body 4 2
      let r : PoseReq := { agent := (agAgent f), seq := seq, ahead := ahead, mac := f.src, vlan := f.vlan,
                           tick := s.time.tick, step := k % 64, frame := s.poseReply (agAgent f) seq ahead (k % 64) }
      { s with agent := { s.agent with poseQs := lmod s.agent.poseQs f.port fun q => q ++ [r] } })

/-- POSE_ANSWER: the oldest request of a port is answered on queue 7 (16 R403, R407, R408). -/
def execPoseAnswer (x : At) (port : Nat) (s : State) : Host.Outcome State Fault Refusal :=
  let s := s.enter x
  .next (match s.agent.poseQs.getD port [] with
    | [] => s
    | r :: rest =>
      let s := { s with agent := { s.agent with poseQs := lmod s.agent.poseQs port fun _ => rest } }
      s.txFrame port 7 (ethFrame r.mac (s.unit.macs.getD port []) (r.vlan.map fun v => (7, v)) 0x88B5 r.frame))

/-- POSE_READ: the payload propagated to the time named, or to the tick of acceptance (16 R422). -/
def execPoseRead (x : At) (qp tag : Nat) (_data : Option Bytes) (s : State) : Host.Outcome State Fault Refusal :=
  .next (s.run x qp tag 0x0901 fun s c =>
    let a := fieldN c.params 0 2
    let b := sliceB c.params 8 16
    let t := if fieldN c.params 2 1 = 0 then ((c.localC : Int), c.activeC)
      else (localOf s.time.localC s.domPairs b, s.activeOf b)
    s.complete c.qp c.tag stOK 0 (s.posePayload a 0 3 t.1 t.2))

/-- POSE_WRITE: in host-assisted mode the host's pose takes the entry's place (16 R423). -/
def execPoseWrite (x : At) (qp tag : Nat) (_data : Option Bytes) (s : State) : Host.Outcome State Fault Refusal :=
  .next (s.run x qp tag 0x0902 fun s c =>
    let a := fieldN c.params 0 2
    if (s.agentDesc a).isNone then s.complete c.qp c.tag stBadParam 0 []
    else
      let f := fun (i : Nat) => fField c.params (72 + 4 * i)
      let k := { Track.free with
        model := fieldN c.params 2 1, coast := fieldN c.params 4 2,
        x := (List.range 12).map fun i => fField c.params (24 + 4 * i),
        p := mkMat 12 12 fun i j => f (12 * i + j) }
      let e := { s.cacheOf a with pose := some k, host := true, stamp := some (sliceB c.params 8 16) }
      let s := { s with agent := { s.agent with cache := tset s.agent.cache a e } }
      (s.refreshPoses [a]).complete c.qp c.tag stOK 0 [])

/-- Every cached pose is cleared at a change of the agent-pose mode (16 R424). -/
def State.clearPoses (s : State) : State :=
  let c := s.agent.cache.map fun e => (e.1, { e.2 with pose := none, host := false, stamp := none })
  { s with agent := { s.agent with cache := c }, stg := { s.stg with fusedPoses := [] } }

/-! ### Odometry (16 R413, 12 R302) -/

/-- A sample of an ODO message, its stamp in local time. -/
def odoSample (localC : Nat) (doms : List (Nat × Nat)) (b : Bytes) : Sample :=
  let w := fun (o : Nat) => fField b o
  { stamp := (localOf localC doms b).toNat, valid := fieldN b 16 1, wheelV := w 20, wheelW := w 24,
    gyro := [w 28, w 32, w 36], accel := [w 40, w 44, w 48] }

/-- Of two samples, the later; the first on a tie. -/
def laterSample (a : Option (Bytes × Sample)) (b : Bytes × Sample) : Option (Bytes × Sample) :=
  match a with
  | some p => if p.2.stamp < b.2.stamp then some b else some p
  | none => some b

/-- ODO: samples in domain A or B go to the agent's slot in message order, the newest to the cache. -/
def execOdo (x : At) (_k : Nat) (f : EthFrame) (s : State) : Host.Outcome State Fault Refusal :=
  let s := s.enter x
  .next (if !s.agentTakes f 4 then s
    else match s.agentDesc (agAgent f) with
      | none => s
      | some d =>
        let p := agPayload f
        let all := (List.range (fieldN p 0 1)).map fun i => sliceB p (8 + 56 * i) 56
        let use := (all.filter fun b => within 1 2 (lktDom b)).map fun b =>
          (sliceB b 0 16, odoSample s.time.localC s.domPairs b)
        let s := if s.trackHeld d.track then
          s.setTrack d.track (use.foldl (fun k e => k.addSample e.2) (s.track d.track)) else s
        let e := s.cacheOf d.id
        let e := { e with sample := match use.foldl laterSample none, e.sample with
          | some n, some o => if o.2.stamp < n.2.stamp then some n else some o
          | some n, none => some n
          | none, o => o }
        { s with agent := { s.agent with cache := tset s.agent.cache d.id e } }.refreshPoses [d.id])

/-! ### Acknowledgements and resending (14 R359, 16 R419, R420) -/

/-- ROUTE_ACK: progress for the version in force; DONE ends the route. -/
def execRouteAck (x : At) (_k : Nat) (f : EthFrame) (s : State) : Host.Outcome State Fault Refusal :=
  let s := s.enter x
  .next (if !s.agentTakes f 6 then s
    else
      let a := agAgent f
      let p := agPayload f
      let v := s.routeOf a
      if v.st = .idle ∨ v.version ≠ fieldN p 0 4 then s
      else
        let due := if bitAt (fieldN p 8 1) 1 then none else v.holdDue
        let s := s.setRoute a { v with
          segsOk := fieldN p 4 2, current := min (fieldN p 6 2) (v.edges.length - 1), holdDue := due }
        if bitAt (fieldN p 8 1) 0 && v.st == .active then s.endRoute a 3 else s)

/-- ROUTE_RETRY_TIMER: what is not acknowledged is sent again, in RUN (01 Table 1-4). -/
def execRouteRetryTimer (x : At) (agent : Nat) (s : State) : Host.Outcome State Fault Refusal :=
  let s := s.enter x
  let v := s.routeOf agent
  .next (if v.st = .idle ∨ s.unit.state ≠ .run then s
    else
      let s := s.sendRoute agent v.segsOk
      match v.holdDue with
      | some h => s.sendSeg agent (holdSeg v h)
      | none => s)

/-! ### Gate lists and transmit buffers (16 R402, R404, R421) -/

/-- A cycle of a port's list starts in this tick. -/
def State.cycleStarts (s : State) (port : Nat) : Bool :=
  match tget s.agent.gates port with
  | none => true
  | some g =>
    let pos := ((s.counter g.baseDom : Int) - g.base) % (g.cycle : Int)
    pos == 0 || decide ((g.cycle : Int) < pos + s.domLater g.baseDom (8 * nsU) - s.counter g.baseDom)

/-- TSN_LIST_SWITCH: at a cycle start of the old list the committed list takes effect. -/
def execTsnListSwitch (x : At) (port : Nat) (s : State) : Host.Outcome State Fault Refusal :=
  let s := s.enter x
  .next (match tget s.agent.nextGates port with
    | none => s
    | some g =>
      if !s.cycleStarts port then s
      else
        let a := { s.agent with gates := tset s.agent.gates port g, nextGates := terase s.agent.nextGates port }
        { s with agent := a }.startWaiting port s.time.localC)

/-- TSN_GATE_EVENT: gates open or close, and waiting frames start. -/
def execTsnGateEvent (x : At) (port : Nat) (s : State) : Host.Outcome State Fault Refusal :=
  let s := s.enter x
  .next (s.startWaiting port s.time.localC)

/-- A committed gate list waits for its cycle start; with no list in force it takes effect at once (16 R404). -/
def State.commitGate (s : State) (port : Nat) (g : GateList) : State :=
  if (tget s.agent.gates port).isSome then
    { s with agent := { s.agent with nextGates := tset s.agent.nextGates port g } }
  else { s with agent := { s.agent with gates := tset s.agent.gates port g } }

/-- TSN_LIST_WRITE: a list is staged. -/
def execTsnListWrite (x : At) (qp tag : Nat) (_data : Option Bytes) (s : State) : Host.Outcome State Fault Refusal :=
  .next (s.run x qp tag 0x0904 fun s c =>
    let p := c.params
    let items := (List.range (fieldN p 1 1)).map fun i => (fieldN p (24 + 8 * i) 1, fieldN p (28 + 8 * i) 4)
    let g : GateList := { baseDom := fieldN p 2 1, base := lktVal (sliceB p 8 16), items := items }
    (s.stage fun t => { t with gates := tset t.gates (fieldN p 0 1) g }).complete c.qp c.tag stOK 0 [])

/-- AGENT_BUF_WRITE: refused for a buffer that the image fills. -/
def execAgentBufWrite (x : At) (qp tag : Nat) (_data : Option Bytes) (s : State) : Host.Outcome State Fault Refusal :=
  .next (s.run x qp tag 0x0903 fun s c =>
    let p := c.params
    let n := fieldN p 0 2
    let held : Bool := match tget s.agent.bufs n with
      | some b => b.image
      | none => false
    if held then s.complete c.qp c.tag stBadState 0 []
    else
      let b : AgentBuf := { port := fieldN p 2 1, queue := fieldN p 3 1, frame := sliceB p 8 (fieldN p 4 2),
                            image := false }
      { s with agent := { s.agent with bufs := tset s.agent.bufs n b } }.complete c.qp c.tag stOK 0 [])

/-- The fields the engine fills in an agent frame whose header stands at `o`. -/
def State.fillAgent (s : State) (b : Bytes) (o : Nat) : Bytes × State :=
  let q := s.nextAgSeq (fieldN b (o + 2) 2) (fieldN b o 1)
  let b := putBytes b (o + 4) (toLE 2 q.1)
  let b := putBytes b (o + 8) (toLE 2 s.replyFlags)
  let b := putBytes b (o + 10) (toLE 1 (fieldN b (o + 10) 1 ||| 1))
  (putBytes b (o + 12) (toLE 4 s.ep.epoch ++ toLE 4 s.epochFrom), q.2)

/-- AGENT_PKT: the buffer's frame is queued on its port (16 R421). -/
def State.agentPkt (s : State) (buf : Nat) : State :=
  match tget s.agent.bufs buf with
  | none => s
  | some b =>
    let t := (b.frame.drop 12).take 2
    let o := if t = netOrder 2 0x88B5 then 14
      else if t = netOrder 2 0x8100 ∧ (b.frame.drop 16).take 2 = netOrder 2 0x88B5 then 18 else 0
    let r := if o = 0 then (b.frame, s) else s.fillAgent b.frame o
    r.2.txFrame b.port b.queue r.1

end Sys2Proof.Machine
end

