-- ==== Sys2Proof/Machine/Compose.lean ====
section
/-! DEFINITION. Layer composition, displays, write-back and the front panel (15). -/

namespace Sys2Proof.Machine

/-! ### Descriptors and head records (15 Tables 15-2, 15-6) -/

/-- Bytes of a pixel by PIX_FMT. -/
def pxSize (fmt : Nat) : Nat := [4, 4, 2, 1].getD fmt 4

/-- A layer descriptor. -/
structure LayerDesc where
  visible : Bool
  colorKey : Bool
  bilinear : Bool
  fmt : Nat
  kind : Nat
  alpha : Nat
  sw : Nat
  sh : Nat
  dx : Int
  dy : Int
  dw : Nat
  dh : Nat
  stride : Nat
  ref : Nat
  addr : Nat
  key : Nat
  fill : Nat
deriving DecidableEq, Repr

/-- The fields of a layer descriptor. -/
def parseLayer (b : Bytes) : LayerDesc :=
  { visible := bitAt (fieldN b 0 1) 0, colorKey := bitAt (fieldN b 0 1) 1, bilinear := bitAt (fieldN b 0 1) 2,
    fmt := fieldN b 1 1, kind := fieldN b 2 1, alpha := fieldN b 3 1, sw := fieldN b 4 2, sh := fieldN b 6 2,
    dx := fieldS b 8 2, dy := fieldS b 10 2, dw := fieldN b 12 2, dh := fieldN b 14 2, stride := fieldN b 16 4,
    ref := fieldN b 20 4, addr := fieldN b 24 8, key := fieldN b 32 4, fill := fieldN b 36 4 }

/-- A head record of the image in use. -/
def State.headRec (s : State) (h : Nat) : Option Bytes := s.ep.image.bind fun m => m.layouts.bind fun l => l.heads[h]?

/-- The placement in use composes (15 R380). -/
def State.composes (s : State) : Bool :=
  match s.ep.image with
  | some m => m.layouts.isSome && !m.site.dropsComp.getD s.ep.placement false
  | none => false

/-- Both instances of a head are sealed (15 R377). -/
def State.headDark (s : State) (h : Nat) : Bool :=
  !s.unsealed (headSuper h false) && !s.unsealed (headSuper h true)

/-- A layer of a head. -/
def State.layer (s : State) (h l : Nat) : Layer := (s.head h).layers.getD l Layer.blank

/-- Change a layer. -/
def State.modLayer (s : State) (h l : Nat) (f : Layer → Layer) : State :=
  s.modHead h fun v => { v with layers := lmod v.layers l f }

/-- What a descriptor names exists: a stage, an entry of the memory plan. -/
def State.layerRefOk (s : State) (d : LayerDesc) : Bool :=
  match d.kind with
  | 0 => (s.stageDesc d.ref).isSome
  | 1 => (s.region d.ref).isSome
  | _ => true

/-- Why a layer command is refused, but for its parameters (15 R377, R380, R383). -/
def State.layerRefusal (s : State) (h l : Nat) : Option Nat :=
  if !s.composes then some stNoResource
  else if s.headDark h then some stSealed
  else if (s.layer h l).committed then some stBadState
  else none

/-- LAYER_WRITE: the pending descriptor (15 R382, R383). -/
def execLayerWrite (x : At) (qp tag : Nat) (_data : Option Bytes) (s : State) : Host.Outcome State Fault Refusal :=
  .next (s.run x qp tag 0x0801 fun s c =>
    let h := fieldN c.params 0 1
    let l := fieldN c.params 1 1
    let b := sliceB c.params 8 64
    match s.layerRefusal h l with
    | some st => s.complete c.qp c.tag st 0 []
    | none =>
      if !s.layerRefOk (parseLayer b) then s.complete c.qp c.tag stBadParam 0 []
      else (s.modLayer h l fun v => { v with pend := b }).complete c.qp c.tag stOK 0 [])

/-- Bytes a visible layer fetches for a frame. -/
def LayerDesc.fetch (d : LayerDesc) : Nat := if d.visible && d.kind != 3 then d.sw * d.sh * pxSize d.fmt else 0

/-- The layers of a head fetch at most 24 GB/s with a layer's pending descriptor taken (15 Table 15-7). -/
def State.fetchOk (s : State) (h l : Nat) : Bool :=
  match s.headRec h with
  | none => true
  | some b =>
    let n := ((List.range 16).map fun i =>
      let y := s.layer h i
      (parseLayer (if i = l ∨ y.committed then y.pend else y.active)).fetch).sum
    decide (n * (fieldN b 20 4 * 1000) ≤ 24000000000 * (fieldN b 6 2 * fieldN b 8 2))

/-- LAYER_COMMIT: the pending descriptor is committed; it completes when it is taken (15 R382). -/
def execLayerCommit (x : At) (qp tag : Nat) (_data : Option Bytes) (s : State) : Host.Outcome State Fault Refusal :=
  .next (s.run x qp tag 0x0802 fun s c =>
    let h := fieldN c.params 0 1
    let l := fieldN c.params 1 1
    match s.layerRefusal h l with
    | some st => s.complete c.qp c.tag st 0 []
    | none =>
      if !s.fetchOk h l then s.complete c.qp c.tag stBadParam 0 []
      else (s.modLayer h l fun v => { v with committed := true, cmd := some (c.qp, c.tag) }).setProg c.qp c.tag
        (.waiting 0 0))

/-- LAYER_UPLOAD: raster content into a host buffer of the memory plan (15 R400, 18 Table 18-10). -/
def execLayerUpload (x : At) (qp tag : Nat) (data : Option Bytes) (s : State) : Host.Outcome State Fault Refusal :=
  .next (s.run x qp tag 0x0803 fun s c =>
    let p := c.params
    let n := fieldN p 8 4
    match s.region (fieldN p 0 4), dataOf p 16 24 n data with
    | none, _ => s.complete c.qp c.tag stBadParam 0 []
    | some e, d =>
      if e.kind ≠ 5 ∨ e.placement ≠ s.ep.placement ∨ e.len < fieldN p 4 4 + n then s.complete c.qp c.tag stBadParam 0 []
      else match d, s.regionAt (fieldN p 0 4) with
        | none, _ => s.complete c.qp c.tag stBadParam 0xFFFFFFFF []
        | _, none => s.complete c.qp c.tag stBadState 0 []
        | some b, some (g, o) =>
          let r := s.writeWords g (o + fieldN p 4 4) b
          (r.2.complete c.qp c.tag r.1.status r.1.addr []).retireDue)

/-! ### Pixels (15 R387, R388) -/

/-- An 8-bit ARGB pixel. -/
structure Px where
  a : Nat
  r : Nat
  g : Nat
  b : Nat
deriving DecidableEq, Repr

/-- The bytes of ARGB8888, most significant field first. -/
def pxOf (v : Nat) : Px := { a := bitsOf v 31 24, r := bitsOf v 23 16, g := bitsOf v 15 8, b := bitsOf v 7 0 }

/-- A source pixel as ARGB (15 R388). -/
def toPx (fmt v : Nat) : Px :=
  match fmt with
  | 0 => pxOf v
  | 1 => { pxOf v with a := 255 }
  | 2 =>
    let r := bitsOf v 15 11
    let g := bitsOf v 10 5
    let b := bitsOf v 4 0
    { a := 255, r := r * 8 + r / 4, g := g * 4 + g / 16, b := b * 8 + b / 4 }
  | _ => { a := 255, r := v, g := v, b := v }

/-- A pixel of the key colour is transparent. -/
def LayerDesc.keyed (d : LayerDesc) (p : Px) : Px :=
  if d.colorKey && p.r == bitsOf d.key 23 16 && p.g == bitsOf d.key 15 8 && p.b == bitsOf d.key 7 0 then
    { p with a := 0 } else p

/-- The pixel at column `x` of a source row. -/
def LayerDesc.pixel (d : LayerDesc) (row : Bytes) (x : Nat) : Px :=
  d.keyed (toPx d.fmt (fieldN row (pxSize d.fmt * x) (pxSize d.fmt)))

/-- The nearest source position of destination offset `o` (15 R387). -/
def nearestPos (o src dst : Nat) : Nat := (2 * o + 1) * src / (2 * dst)

/-- The bilinear source position with 16 fraction bits, truncated, clamped to the source's edges (15 R387). -/
def linearPos (o src dst : Nat) : Nat := min ((2 * o + 1) * src * 65536 / (2 * dst) - 32768) ((src - 1) * 65536)

/-- The weighted sum of a channel over four pixels, rounded half up. -/
def mix (fx fy p00 p10 p01 p11 : Nat) : Nat :=
  ((65536 - fx) * (65536 - fy) * p00 + fx * (65536 - fy) * p10 + (65536 - fx) * fy * p01 + fx * fy * p11 + 2147483648) /
    4294967296

/-- The sample at destination offset `ox` from the two source rows and the vertical fraction. -/
def LayerDesc.sample (d : LayerDesc) (row0 row1 : Bytes) (fy ox : Nat) : Px :=
  if d.bilinear then
    let p := linearPos ox d.sw d.dw
    let x0 := p / 65536
    let x1 := min (x0 + 1) (d.sw - 1)
    let a := d.pixel row0 x0
    let b := d.pixel row0 x1
    let c := d.pixel row1 x0
    let e := d.pixel row1 x1
    let m := fun (f : Px → Nat) => mix (p % 65536) fy (f a) (f b) (f c) (f e)
    { a := m Px.a, r := m Px.r, g := m Px.g, b := m Px.b }
  else d.pixel row0 (nearestPos ox d.sw d.dw)

/-- Blend a pixel of a layer over what is below it (15 R388). -/
def LayerDesc.blend (d : LayerDesc) (below p : Px) : Px :=
  let a := (p.a * d.alpha + 127) / 255
  let m := fun (s o : Nat) => (a * s + (255 - a) * o + 127) / 255
  { a := 0, r := m p.r below.r, g := m p.g below.g, b := m p.b below.b }

/-! ### Frame starts (15 R384, R385, R400) -/

/-- A stage fires and has not completed: its layer's record in use is late. -/
def State.stageLate (s : State) (i : Nat) : Bool := (tget s.stg.runs i).isSome

/-- Fix the content of a layer for the frame: what it shows and its L_STATE (15 R384, R385). A late layer keeps what it
showed; one that showed nothing takes the newest complete record (log entry 51). `kept`: in host-assisted mode nothing was
taken for this frame. -/
def State.fixLayer (s : State) (h l : Nat) (switched kept : Bool) : State :=
  let y := s.layer h l
  let d := parseLayer y.active
  let base := b2n d.visible + 16 * b2n switched + 32 * b2n y.host
  let put := fun (s : State) (r : Option Nat) (seq : Nat) (late invalid : Bool) =>
    s.modLayer h l fun v => { v with shown := { region := r, seq := seq, state := base + 2 * b2n late + 4 * b2n invalid } }
  if !d.visible then put s none 0 false false
  else if d.kind ≠ 0 then put s none 0 kept false
  else if s.ha 8 then put s y.shown.region y.shown.seq kept y.shown.region.isNone
  else
    let late := s.stageLate d.ref
    match tget s.comp.newest d.ref with
    | none => put s y.shown.region y.shown.seq late y.shown.region.isNone
    | some r =>
      let k := s.inHead r
      if k.1.absent.isSome || k.1.ue then put k.2 y.shown.region y.shown.seq late true
      else if late && y.shown.region.isSome then put k.2 y.shown.region y.shown.seq true false
      else put k.2 (some r) k.1.seq late false

/-- Take a layer's committed descriptor at a frame start (15 R382). -/
def State.takeLayer (s : State) (h l seq : Nat) : State :=
  let y := s.layer h l
  let s := s.modLayer h l fun v => { v with
    active := v.pend, committed := false, cmd := none, lseq := v.lseq + 1, epoch := s.ep.epoch, host := s.ha 8,
    shown := if v.active = v.pend then v.shown else { region := none, seq := 0, state := 0 } }
  s.completeOpt y.cmd stOK seq []

/-- The write-back header at a frame start: WB_VALID clear (15 Table 15-4). -/
def State.frameHeader (s : State) (h : Nat) (rec_ : Bytes) : Bytes :=
  let v := s.head h
  let flags := 4 * b2n v.instB + 8 * b2n v.switched + 16 * b2n s.ep.rolling.isSome
  let layers := (List.range 16).map fun l =>
    let y := s.layer h l
    toLE 4 y.lseq ++ toLE 4 y.epoch ++ toLE 4 y.shown.seq ++ toLE 1 y.shown.state ++ toLE 3 0
  toLE 4 v.frameSeq ++ toLE 1 h ++ toLE 1 flags ++ toLE 2 0 ++ toLE 4 s.ep.epoch ++ toLE 2 (fieldN rec_ 2 2) ++
    toLE 2 (fieldN rec_ 4 2) ++ s.lkt s.time.active ++ toLE 32 0 ++ catB layers

/-- Write bytes of a frame's write-back buffer; false where the destination cannot be written (15 R389, R390). -/
def State.wbWrite (s : State) (rec_ : Bytes) (seq off : Nat) (b : Bytes) : Bool × State :=
  let ref := fieldN rec_ 30 2
  let at_ := fieldN rec_ 32 8 + seq % max 1 (fieldN rec_ 29 1) * fieldN rec_ 40 4 + off
  match fieldN rec_ 28 1 with
  | 1 => ((s.regionAt ref).isSome, s.writeRegion ref at_ b)
  | 2 => if (s.row ref).serving then (true, (s.writeStore ref at_ b).2) else (false, s)
  | 3 =>
    if (s.port ref).up then
      (true, { s with comp := { s.comp with hostWrites := s.comp.hostWrites ++ [(ref, at_, b)] } })
    else (false, s)
  | _ => (true, s)

/-- A head composes: its driving super works, its record enables it, the placement composes. -/
def State.headRuns (s : State) (h : Nat) : Bool :=
  (s.unit.state == .run || s.unit.state == .quiesce) && s.composes && s.unsealed (s.driver h) &&
    (match s.headRec h with
     | some b => bitAt (fieldN b 0 1) 0
     | none => false)

/-- FRAME_START: commits are taken, content is fixed, the header is written. -/
def execFrameStart (x : At) (head : Nat) (s : State) : Host.Outcome State Fault Refusal :=
  let s := s.enter x
  .next (match s.headRec head with
    | none => s
    | some b =>
      if !s.headRuns head || (s.head head).frame.isSome then s
      else
        let seq := (s.head head).frameSeq
        let taken := (List.range 16).filter fun l => (s.layer head l).committed
        let s := taken.foldl (fun s l => s.takeLayer head l seq) s
        let kept := s.ha 8 && taken.isEmpty
        let s := (List.range 16).foldl (fun s l => s.fixLayer head l (taken.contains l) kept) s
        let hd := s.frameHeader head b
        let s := (s.wbWrite b seq 0 hd).2
        (s.modHead head fun v => { v with
          frame := some { seq := seq, header := hd, placement := s.ep.placement }, switched := false }).retireDue)

/-! ### Frame ends (15 R386, R389) -/

/-- Fetch a source row of a layer; none: a word or line of it could not be had (15 R386). -/
def State.fetchRow (s : State) (d : LayerDesc) (shown : Option Nat) (row : Nat) : Option Bytes × State :=
  let off := d.addr + row * d.stride
  let n := d.sw * pxSize d.fmt
  let fromRegion := fun (r : Nat) (o : Nat) =>
    if (s.regionAt r).isNone then (none, s)
    else
      let k := s.readRegion r o n
      (if k.1.2 then none else some k.1.1, k.2)
  match d.kind with
  | 0 => match shown with
    | some r => fromRegion r (32 + off)
    | none => (some [], s)
  | 1 => fromRegion d.ref off
  | 2 =>
    if (s.row d.ref).serving then
      let k := s.readStore d.ref off n
      (if k.1.status = stUE then none else some k.1.data, k.2)
    else (none, s)
  | _ => (some [], s)

/-- Draw a layer's part of an output row over what is below; false where words were missing. -/
def State.drawRow (s : State) (h l y : Nat) (below : List Px) : (List Px × Bool) × State :=
  let v := s.layer h l
  let d := parseLayer v.active
  let oy := (y : Int) - d.dy
  if !d.visible || decide (oy < 0) || decide ((d.dh : Int) ≤ oy) || (d.kind == 0 && v.shown.region.isNone) then
    ((below, true), s)
  else
    let p := if d.bilinear then linearPos oy.toNat d.sh d.dh else 65536 * nearestPos oy.toNat d.sh d.dh
    let y0 := p / 65536
    let a := s.fetchRow d v.shown.region y0
    let b := if d.bilinear then a.2.fetchRow d v.shown.region (min (y0 + 1) (d.sh - 1)) else a
    match a.1, b.1 with
    | some r0, some r1 =>
      let row := (List.range below.length).map fun x =>
        let ox := ((x : Nat) : Int) - d.dx
        let under := below.getD x (pxOf 0)
        if ox < 0 ∨ (d.dw : Int) ≤ ox then under
        else if d.kind = 3 then d.blend under (d.keyed (pxOf d.fill))
        else d.blend under (d.sample r0 r1 (p % 65536) ox.toNat)
      ((row, true), b.2)
    | _, _ => ((below, false), b.2)

/-- What a frame has come to as its rows are sent: the bytes sent, the layers with missing lines, whether write-back is
whole. -/
structure Sending where
  pixels : Bytes
  missing : List Nat
  whole : Bool
deriving DecidableEq, Repr

/-- Send one output row: compose it, and write it back (15 R386, R389). -/
def State.sendRow (s : State) (h : Nat) (rec_ : Bytes) (seq : Nat) (spoiled : Bool) (acc : Sending) (y : Nat) :
    Sending × State :=
  let w := fieldN rec_ 2 2
  let back := List.replicate w (pxOf (fieldN rec_ 24 4 % 16777216))
  let seen := (List.range 16).filter fun l => (parseLayer (s.layer h l).active).visible
  let r := if spoiled then ((back, sinsAll acc.missing seen), s)
    else seen.foldl (fun (p : (List Px × List Nat) × State) l =>
      let k := p.2.drawRow h l y p.1.1
      ((k.1.1, if k.1.2 then p.1.2 else sins p.1.2 l), k.2)) ((back, acc.missing), s)
  let b := catB (r.1.1.map fun p => toLE 4 (65536 * p.r + 256 * p.g + p.b))
  let k := r.2.wbWrite rec_ seq (4096 + y * (4 * w)) b
  ({ pixels := acc.pixels ++ b, missing := r.1.2, whole := acc.whole && k.1 }, k.2)

/-- The final header: WB_VALID, WB_INCOMPLETE, LINES_MISSING per layer. -/
def finalHeader (hd : Bytes) (a : Sending) : Bytes :=
  let hd := putBytes hd 5 (toLE 1 (fieldN hd 5 1 + 1 + 2 * b2n (!a.whole)))
  a.missing.foldl (fun b l => putBytes b (76 + 16 * l) (toLE 1 (fieldN b (76 + 16 * l) 1 ||| 8))) hd

/-- FRAME_END: every row has been sent and written back, and the header is marked valid. -/
def execFrameEnd (x : At) (head : Nat) (faults : FrameFaults) (s : State) : Host.Outcome State Fault Refusal :=
  let s := s.enter x
  .next (match (s.head head).frame, s.headRec head with
    | some f, some b =>
      if !s.headRuns head then s
      else
        let k := (List.range (fieldN b 4 2)).foldl (fun (p : Sending × State) y =>
          p.2.sendRow head b f.seq (faults.rows.contains y) p.1 y)
          (({ pixels := [], missing := [], whole := true } : Sending), s)
        let s := (k.2.wbWrite b f.seq 0 (finalHeader f.header k.1)).2
        (s.modHead head fun v => { v with
          frame := none, frameSeq := (f.seq + 1) % 4294967296,
          sent := if v.link.isSome then k.1.pixels else v.sent }).retireDue
    | _, _ => s)

/-! ### Links and reads (15 R391, R392, R399) -/

/-- The training fallback sequence from HBR3 × 4: lanes and rate code. -/
def linkSequence : List (Nat × Nat) :=
  [(4, 3), (4, 2), (4, 1), (4, 0), (2, 3), (2, 2), (2, 1), (2, 0), (1, 3), (1, 2), (1, 1), (1, 0)]

/-- The payload of a configuration in kb/s: lanes × rate × 0.8 (15 R392). -/
def linkPayload (c : Nat × Nat) : Nat := c.1 * [1620000, 2700000, 5400000, 8100000].getD c.2 0 * 8 / 10

/-- A configuration carries a head's mode. -/
def State.linkCarries (s : State) (h : Nat) (c : Nat × Nat) : Bool :=
  match s.headRec h with
  | some b => decide (fieldN b 20 4 * 24 ≤ linkPayload c)
  | none => true

/-- HOT_PLUG_DETECT: the head trains; `works`: the configurations in which training succeeds. -/
def execHotPlugDetect (x : At) (head : Nat) (works : List (Nat × Nat)) (s : State) :
    Host.Outcome State Fault Refusal :=
  let s := s.enter x
  .next (if !(s.time.running && s.unsealed (s.driver head) && decide (head < 2)) then s
    else s.modHead head fun v => { v with
      sink := true, link := linkSequence.find? fun c => works.contains c && s.linkCarries head c })

/-- HOT_PLUG_LOST: the main link goes idle; composition goes on. -/
def execHotPlugLost (x : At) (head : Nat) (s : State) : Host.Outcome State Fault Refusal :=
  let s := s.enter x
  .next (s.modHead head fun v => { v with sink := false, link := none })

/-- A head's record (15 R399). -/
def State.headState (s : State) (h : Nat) : Bytes :=
  let v := s.head h
  let enabled : Bool := match s.headRec h with
    | some b => bitAt (fieldN b 0 1) 0
    | none => false
  let st := if s.headDark h || !s.composes || !enabled then 0 else if !v.sink then 1 else if v.link.isNone then 2 else 3
  let c := v.link.getD (0, 0)
  toLE 1 st ++ toLE 1 (b2n v.instB) ++ toLE 1 c.1 ++ toLE 1 c.2 ++ toLE 4 v.frameSeq ++ toLE 8 0

/-- DISPLAY_READ: both heads (15 R399). -/
def execDisplayRead (x : At) (qp tag : Nat) (_data : Option Bytes) (s : State) : Host.Outcome State Fault Refusal :=
  .next (s.run x qp tag 0x0804 fun s c => s.complete c.qp c.tag stOK 0 (s.headState 0 ++ s.headState 1))

/-! ### The front panel (15 R393 to R399) -/

/-- What a panel region is drawn from (15 Table 15-5). -/
def State.panelContent (s : State) (r : Nat) : Bytes :=
  match r with
  | 1 => toLE 8 s.unit.serial ++ toLE 8 s.wafer.serial ++ (match s.fw.booted, s.fw.bootImg with
    | some n, some i => toLE 1 (n + 1) ++ toLE 2 i.level
    | _, _ => toLE 3 0)
  | 2 => toLE 1 s.unit.state.code ++ toLE 1 s.capacity ++ toLE 1 (b2n (!s.fw.pairsRunning.isEmpty))
  | 3 => if s.summary.replaceReq then toLE 1 s.summary.causes ++ s.summary.stamp else []
  | _ => s.panel.lastFault

/-- Command the content of some regions. -/
def State.drawRegions (s : State) (rs : List Nat) : State :=
  rs.foldl (fun s r => { s with panel := { s.panel with drawn := tset s.panel.drawn r (s.panelContent r) } }) s

/-- PANEL_UPDATE_STEP_COMPLETE: band black, regions, band white; then the replacement block's own update, or the pending
set (15 R394 to R396). -/
def execPanelUpdateStepComplete (x : At) (s : State) : Host.Outcome State Fault Refusal :=
  let s := s.enter x
  .next (if s.unit.state = .off then s
    else match s.panel.update with
      | none => s
      | some (1, rs) =>
        let s := s.drawRegions rs
        { s with panel := { s.panel with update := some (2, rs) } }
      | some (2, rs) => { s with panel := { s.panel with update := some (3, rs), bandBlack := false } }
      | some (_, _) =>
        let p := s.panel
        if p.replFirst then
          { s with panel := { p with
              update := some (1, [3]), replFirst := false, pendingSet := p.pendingSet.erase 3, bandBlack := true } }
        else if p.pendingSet.isEmpty then { s with panel := { p with update := none } }
        else { s with panel := { p with update := some (1, p.pendingSet), pendingSet := [], bandBlack := true } })

/-- The bytes of a region of `rows` rows: white where nothing is drawn, else as the base controller draws it. -/
def State.panelRegion (s : State) (r rows : Nat) : Bytes :=
  match tget s.panel.drawn r with
  | none => List.replicate (100 * rows) 0
  | some b => if b.isEmpty then List.replicate (100 * rows) 0
      else (List.range (100 * rows)).map fun i => Config.panelByte r b i

/-- PANEL_READ: the image last commanded and whether an update runs (15 R399). -/
def execPanelRead (x : At) (qp tag : Nat) (_data : Option Bytes) (s : State) : Host.Outcome State Fault Refusal :=
  .next (s.run x qp tag 0x0805 fun s c =>
    let band := List.replicate 1200 (if s.panel.bandBlack then 0xFF else 0)
    s.complete c.qp c.tag stOK 0 (band ++ s.panelRegion 1 48 ++ s.panelRegion 2 60 ++ s.panelRegion 3 100 ++
      s.panelRegion 4 80 ++ toLE 4 (b2n s.panel.update.isSome)))

end Sys2Proof.Machine
end

