-- ==== Sys2Proof/Machine/Place.lean ====
section
/-! DEFINITION. Place recognition and the map (13), and map distribution (17 R456). -/

namespace Sys2Proof.Machine

/-! ### Codebooks, codes and tables (13 R321 to R323) -/

/-- An fp16 number as fp32. -/
def fOfHalf (v : Nat) : F32 :=
  let neg := bitAt v 15
  let e := bitsOf v 14 10
  let m := bitsOf v 9 0
  if e = 31 then (if m = 0 then fInf neg else fNaN)
  else if e = 0 then fRound neg m (2 ^ 24)
  else fRound neg ((1024 + m) * 2 ^ e) (2 ^ 25)

/-- A non-negative number rounded to a whole number, half to even, and kept within 16 bits; none of NaN. -/
def fSat16 (x : F32) : Option Nat :=
  if fIsNaN x then none
  else if fIsInf x then some 65535
  else
    let n := fMag x
    let q := n / 2 ^ 149
    let r := n % 2 ^ 149
    some (min 65535 (if 2 ^ 148 < r ∨ (r = 2 ^ 148 ∧ q % 2 = 1) then q + 1 else q))

/-- GEN and DT_SCALE of a codebook (Table 13-2). -/
def bookGen (b : Bytes) : Nat := fieldN b 1 1
def bookScale (b : Bytes) : F32 := BitVec.ofNat 32 (fieldN b 4 4)

/-- A codebook is in its layout (Table 13-2). -/
def bookOk (b : Bytes) : Bool :=
  b.length == 131088 && fieldN b 0 1 == 1 && zeroIn b 2 2 && zeroIn b 8 8 && fLt fZero (bookScale b)

/-- A centroid's dimension. -/
def centroid (b : Bytes) (j c d : Nat) : F32 := fOfHalf (fieldN b (16 + 2 * (2048 * j + 8 * c + d)) 2)

/-- A descriptor's dimension (Table 13-3). -/
def descDim (q : Bytes) (i : Nat) : F32 := fOfHalf (fieldN q (2 * i) 2)

/-- The squared distance of subspace j of a descriptor from a centroid, dimensions ascending (R322, R323). -/
def subDist (b q : Bytes) (j c : Nat) : F32 :=
  (List.range 8).foldl (fun acc d =>
    let x := fSub (descDim q (8 * j + d)) (centroid b j c d)
    fAdd acc (fMul x x)) fZero

/-- The nearest centroid of a subspace, the lower index on a tie; none where a distance is not a number. -/
def nearest (b q : Bytes) (j : Nat) : Option Nat :=
  let ds := (List.range 256).map (subDist b q j)
  if ds.any fIsNaN then none
  else some ((List.range 256).foldl (fun best c => if fLt (ds.getD c fZero) (ds.getD best fZero) then c else best) 0)

/-- Encode a descriptor (R321); the byte of a subspace with no nearest centroid is free (log entry 7). -/
def State.encode (s : State) (b q : Bytes) : Bytes × State :=
  ((List.range 32).map fun j => BitVec.ofNat 8 ((nearest b q j).getD (Config.freeNat (s.freeCtr + j))),
   { s with freeCtr := s.freeCtr + 32 })

/-- The descriptor a code stands for under its codebook (R336). -/
def rebuild (b code : Bytes) : Bytes :=
  (List.range 32).flatMap fun j => sliceB b (16 + 2 * (2048 * j + 8 * (code.getD j 0).toNat)) 16

/-- The distance table of a descriptor under a codebook (R323, Table 13-3); the entry of a sum that is not a number is
free (log entry 7). -/
def State.buildTable (s : State) (b q : Bytes) : Bytes × State :=
  ((List.range 8192).flatMap fun i =>
     toLE 2 ((fSat16 (fMul (bookScale b) (subDist b q (i / 256) (i % 256)))).getD (Config.freeNat (s.freeCtr + i) % 65536)),
   { s with freeCtr := s.freeCtr + 8192 })

/-- The distance of a code by a table (R323). -/
def codeDist (t code : Bytes) : Nat := ((List.range 32).map fun j => fieldN t (2 * (256 * j + (code.getD j 0).toNat)) 2).sum

/-- The codebooks live: the one in use, and during a migration the one migrated to. -/
def State.liveBooks (s : State) : List Bytes := s.place.book.toList ++ s.place.next.toList

/-- Their generations. -/
def State.liveGens (s : State) : List Nat := s.liveBooks.map bookGen

/-- A migration runs: a rolling change with shards still to switch (R335, 19 R485). -/
def State.migrating (s : State) : Bool :=
  s.ep.rolling.any fun r => r.parts.any fun p => match p with
    | .shard _ => true
    | _ => false

/-- CODEBOOK_LOAD: stage a codebook of a generation that is not live (R335). -/
def execCodebookLoad (x : At) (qp tag : Nat) (data : Option Bytes) (s : State) : Host.Outcome State Fault Refusal :=
  .next (s.run x qp tag 0x0602 fun s c => match data with
    | none => s.complete c.qp c.tag stBadParam 0xFFFFFFFF []
    | some d =>
      let b := sliceB d 0 131088
      if s.migrating then s.complete c.qp c.tag stBadState 0 []
      else if !bookOk b || s.liveGens.contains (bookGen b) then s.complete c.qp c.tag stBadParam 0 []
      else { s with ep := { s.ep with staged := { s.ep.staged with codebook := some b } } }.complete c.qp c.tag stOK 0 [])

/-! ### Shards (13 R324) -/

/-- The residency plan's shards. -/
def State.shardPlans (s : State) : List ShardPlan := (s.ep.image.map fun m => m.site.shards).getD []

/-- A shard; before it is first written it has the generation in use. -/
def State.shard (s : State) (k : Nat) : Shard :=
  (tget s.place.shards k).getD { gen := (s.place.book.map bookGen).getD 0, count := 0, shadowDone := false, alt := false }

def State.setShard (s : State) (k : Nat) (v : Shard) : State :=
  { s with place := { s.place with shards := tset s.place.shards k v } }

/-- The row a shard is read through: its own, or that of a partner that serves; none: neither serves. -/
def State.readRow (s : State) (d : ShardPlan) : Option Nat :=
  if (s.row d.row).serving then some d.row
  else match s.partner d.row with
    | some p => if (s.row p).serving then some p else none
    | none => none

/-- A shard's codes are resident: the row it is read through, where its engine's super is unsealed. -/
def State.resident (s : State) (d : ShardPlan) : Option Nat :=
  if s.unsealed (s.shardSuper d.shard) then s.readRow d else none

/-- Shard and position of a code index. -/
def codeShard (i : Nat) : Nat := i / 134217728
def codePos (i : Nat) : Nat := i % 134217728

/-- A shard's place in the residency plan. -/
def State.shardPlan (s : State) (k : Nat) : Option ShardPlan := s.shardPlans.find? fun d => d.shard == k

/-- Where a shard's codes stand in its row's store, or their shadow copy (R336, log entry 62). -/
def State.codeArea (s : State) (d : ShardPlan) (shadow : Bool) : Nat :=
  if (s.shard d.shard).alt != shadow then d.codes.2 else d.codes.1

/-- The positions of the codes of line `l` of `n` codes, two to a line. -/
def linePos (n l : Nat) : List Nat := [2 * l, 2 * l + 1].filter fun i => decide (i < n)

/-- The metadata of a code; none where it reads uncorrectable. -/
def State.codeInfo (s : State) (d : ShardPlan) (row pos : Nat) : Option Bytes × State :=
  let m := s.readStore row (d.info + 32 * pos) 32
  (if m.1.status = stUE then none else some m.1.data, m.2)

/-- The descriptor kept of a code (Table 13-6 KF_FLAGS); none where none is, or it reads uncorrectable. -/
def State.codeDesc (s : State) (d : ShardPlan) (row pos : Nat) : Option Bytes × State :=
  let m := s.codeInfo d row pos
  if (m.1.map fun b => bitAt (fieldN b 28 1) 0).getD false then
    let r := m.2.readStore row (d.desc + 512 * pos) 512
    (if r.1.status = stUE then none else some r.1.data, r.2)
  else (none, m.2)

/-! ### The batch queue (13 R325) -/

/-- A query enters the batch queue. -/
def State.enqueue (s : State) (q : Query) : State := { s with place := { s.place with queue := putQuery s.place.queue q } }

/-- The tables of a descriptor, one for each live generation (R337). -/
def State.tablesOf (s : State) (q : Bytes) : List (Nat × Bytes) × State :=
  s.liveBooks.foldl (fun (p : List (Nat × Bytes) × State) b =>
    let t := p.2.buildTable b q
    (p.1 ++ [(bookGen b, t.1)], t.2)) ([], s)

/-- A `cse_query` stage submits a query: its record, its descriptor, its own keyframe. -/
def State.stageQuery (s : State) (i : Nat) (q : Bytes × Bytes × Nat) : State :=
  let t := s.tablesOf q.2.1
  t.2.enqueue { src := .stage i q.2.2, record := q.1, desc := some q.2.1, tables := t.1, tick := s.time.tick, prior := none }

/-- The tables a host query gives, by generation (Table 13-4). -/
def hostTables (p d : Bytes) : List (Nat × Bytes) :=
  let a := fieldN p 44 1
  let b := fieldN p 45 1
  if a = b then [(a, sliceB d 0 16384)] else [(a, sliceB d 0 16384), (b, sliceB d 16384 16384)]

/-- PLACE_QUERY: a host query enters the queue with its tables (R337, R345); it completes with QUERY_COMPLETE. -/
def execPlaceQuery (x : At) (qp tag : Nat) (data : Option Bytes) (s : State) : Host.Outcome State Fault Refusal :=
  .next (s.run x qp tag 0x0601 fun s c =>
    let given := bitAt (fieldN c.params 1 1) 2
    let two := fieldN c.params 44 1 != fieldN c.params 45 1
    match dataOf c.params 48 64 (if given then (if two then 32768 else 16384) else 512) data with
    | none => s.complete c.qp c.tag stBadParam 0xFFFFFFFF []
    | some d =>
      let t := if given then (hostTables c.params d, s) else s.tablesOf d
      if !s.liveGens.all (fun g => t.1.any fun e => e.1 == g) then s.complete c.qp c.tag stBadParam 0 []
      else
        let q : Query := { src := .host c.qp c.tag, record := sliceB c.params 0 64, desc := if given then none else some d,
                           tables := t.1, tick := s.time.tick, prior := none }
        (t.2.enqueue q).setProg c.qp c.tag (.waiting 0 0))

/-! ### Batches and sweeps (13 R325 to R327, R330 to R333) -/

/-- A shard whose shadow copy is complete takes the new generation (R336). -/
def State.switchShard (s : State) (k g : Nat) : State :=
  let s := s.setShard k { s.shard k with gen := g, shadowDone := false, alt := !(s.shard k).alt }
  let rolling := s.ep.rolling.map fun r => { r with parts := r.parts.filter fun p => p != RollPart.shard k }
  { s with
    place := { s.place with badLines := s.place.badLines.filter fun e => e.1 != k }
    ep := { s.ep with rolling := rolling } }

/-- Every shard that is ready switches; with the last, the old codebook is released (R336, R338). -/
def State.switchShards (s : State) : State :=
  match s.place.next with
  | none => s
  | some b =>
    let s := (s.place.shards.filter fun e => e.2.shadowDone).foldl (fun s e => s.switchShard e.1 (bookGen b)) s
    if s.place.shards.all (fun e => e.2.gen == bookGen b) then
      { s with place := { s.place with book := some b, next := none } }
    else s

/-- A re-run may join the next batch: every shard its first sweep missed is resident again (R330). -/
def State.mayRerun (s : State) (q : Query) : Bool :=
  match q.prior with
  | none => true
  | some r => r.missing.all fun k => s.shardPlans.any fun d => d.shard == k && (s.resident d).isSome

/-- A query with a descriptor gets the tables of the generations that went live since it was built (R337, log entry 47). -/
def State.fullTables (s : State) (q : Query) : Query × State :=
  match q.desc with
  | none => (q, s)
  | some d => (s.liveBooks.filter fun b => (tget q.tables (bookGen b)).isNone).foldl (fun (p : Query × State) b =>
      let t := p.2.buildTable b d
      ({ p.1 with tables := p.1.tables ++ [(bookGen b, t.1)] }, t.2)) (q, s)

/-- A batch closes and its sweep starts. Shards switch generation, re-runs whose shards are not resident go
to their completion, the first 256 queries join (R325, R330, R336). -/
def State.closeBatch (s : State) : State :=
  if s.place.sweep.isSome || s.place.queue.isEmpty || s.wafer.move.isSome then s
  else
    let s := s.switchShards
    let held := s.shardPlans.filter fun d => (s.shard d.shard).count != 0
    let shards : List SweepShard := held.filterMap fun d => (s.resident d).map fun r =>
      { shard := d.shard, gen := (s.shard d.shard).gen, count := (s.shard d.shard).count, row := r }
    let missing := (held.filter fun d => (s.resident d).isNone).map ShardPlan.shard
    let late := s.place.queue.filter fun q => !s.mayRerun q
    let ready := s.place.queue.filter s.mayRerun
    let answered := late.filterMap fun q => q.prior.map fun r => ({ query := q, found := r } : Merged)
    let b := (ready.take 256).foldl (fun (p : List Query × State) q =>
      let t := p.2.fullTables q
      (p.1 ++ [t.1], t.2)) ([], s)
    let s := b.2
    let w : Sweep := { seq := (s.place.sweepSeq + 1) % 4294967296, start := s.lkt s.time.active, queries := b.1,
                       shards := shards, missing := sinsAll [] missing }
    { s with place := { s.place with
        merged := s.place.merged ++ answered
        queue := ready.drop 256
        sweepSeq := if ready.isEmpty then s.place.sweepSeq else w.seq
        sweep := if ready.isEmpty then none else some w } }

/-- A ranked code comes before another: by distance, then by code index (R327). -/
def rankLt (a b : Nat × Nat × Nat) : Bool := decide (a.1 < b.1) || (a.1 == b.1 && decide (a.2.1 < b.2.1))

/-- Put a code into a ranking of at most `m`. -/
def putRank (m : Nat) (l : List (Nat × Nat × Nat)) (e : Nat × Nat × Nat) : List (Nat × Nat × Nat) :=
  (l.takeWhile (fun r => rankLt r e) ++ e :: l.dropWhile (fun r => rankLt r e)).take m

/-- K and M of a query record (Table 13-4, R327). -/
def queryK (b : Bytes) : Nat := fieldN b 2 1
def queryM (b : Bytes) : Nat := if fieldN b 4 2 = 0 then queryK b else fieldN b 4 2

/-- What an engine scanned of a shard: the codes read, by code index, and how many it did not get. -/
structure Scanned where
  shard : SweepShard
  codes : List (Nat × Bytes)
  excluded : Nat
deriving DecidableEq, Repr

/-- Note a code line that reads uncorrectable. -/
def State.noteBadLine (s : State) (k l : Nat) : State :=
  if s.place.badLines.contains (k, l) then s
  else { s with place := { s.place with badLines := s.place.badLines ++ [(k, l)] } }

/-- Scan a line of a shard, but for codes whose words of the code buffer read uncorrectable; a line that reads uncorrectable or
poisoned excludes its codes, until it is rewritten (R333). -/
def State.scanLine (s : State) (d : SweepShard) (area : Nat) (buf : List Nat) (l : Nat) : (List (Nat × Bytes) × Nat) × State :=
  let a := s.readNow d.row (area + 64 * l)
  let ids := (linePos d.count l).map fun i => 134217728 * d.shard + i
  if a.1.1 = stUE then (([], ids.length), a.2.noteBadLine d.shard l)
  else
    let good := ids.filter fun i => !buf.contains i
    ((good.map fun i => (i, sliceB a.1.2 (32 * (i % 2)) 32), ids.length - good.length), a.2)

/-- Scan a shard, every line once (R326). -/
def State.scanShard (s : State) (d : SweepShard) (buf : List Nat) : Scanned × State :=
  let area := ((s.shardPlan d.shard).map fun p => s.codeArea p false).getD 0
  (List.range ((d.count + 1) / 2)).foldl (fun (p : Scanned × State) l =>
    let a := p.2.scanLine d area buf l
    ({ p.1 with codes := p.1.codes ++ a.1.1, excluded := p.1.excluded + a.1.2 }, a.2))
    ({ shard := d, codes := [], excluded := 0 }, s)

/-- The shards complete in a sweep, scanned. -/
def State.scanAll (s : State) (w : Sweep) (buf : List Nat) : List Scanned × State :=
  (w.shards.filter fun d => !w.missing.contains d.shard).foldl (fun (p : List Scanned × State) d =>
    let a := p.2.scanShard d buf
    (p.1 ++ [a.1], a.2)) ([], s)

/-- A query's ranking over the codes of shards, each by the table of its shard's generation (R327, R337). -/
def rankOf (q : Query) (l : List Scanned) : List (Nat × Nat × Nat) :=
  l.foldl (fun r c => match tget q.tables c.shard.gen with
    | some t => c.codes.foldl (fun r e => putRank (queryM q.record) r (codeDist t e.2, e.1, c.shard.gen)) r
    | none => r) []

/-- What a sweep found for a query, filters apart. A shard of a generation that the query has no table of is incomplete for it
(log entry 47). -/
def sweepFound (w : Sweep) (l : List Scanned) (tick : Nat) (ue : Bool) (q : Query) : Ranked :=
  let l := l.filter fun c => (tget q.tables c.shard.gen).isSome
  let dark := (w.shards.filter fun d => (tget q.tables d.gen).isNone).map SweepShard.shard
  { seq := w.seq, start := w.start, ranked := rankOf q l, passed := [], shards := sinsAll w.missing (w.shards.map SweepShard.shard),
    missing := sinsAll w.missing dark, excluded := (l.map Scanned.excluded).sum, scanned := (l.map fun c => c.codes.length).sum,
    ue := ue, ended := tick }

/-- A code's metadata passes a query's filters (R328). -/
def passes (q info : Bytes) : Bool :=
  let t := fieldN info 0 8
  let cls := fieldN info 15 1
  decide (fieldN q 16 8 ≤ t) && decide (t ≤ fieldN q 24 8) &&
    (List.range 3).all (fun i => decide (fieldN q (32 + 2 * i) 2 ≤ fieldN info (8 + 2 * i) 2) &&
      decide (fieldN info (8 + 2 * i) 2 ≤ fieldN q (38 + 2 * i) 2)) &&
    bitAt (fieldN q 8 4) (fieldN info 14 1) && (cls == 0xFF || bitAt (fieldN q 6 2) cls)

/-- The ranked codes that pass a query's filters, by their metadata in the store; whether a code passes whose metadata reads
uncorrectable is free (log entry 62). -/
def State.filterCodes (s : State) (w : Sweep) (q : Query) (ranked : List (Nat × Nat × Nat)) : List Nat × State :=
  ranked.foldl (fun (p : List Nat × State) e =>
    let k := codeShard e.2.1
    match w.shards.find? fun d => d.shard == k, p.2.shardPlan k with
    | some d, some pl =>
      let i := p.2.codeInfo pl d.row (codePos e.2.1)
      let f := i.2.free
      let r := match i.1 with
        | some b => (passes q.record b, i.2)
        | none => (f.1 % 2 == 1, f.2)
      (if r.1 then p.1 ++ [e.2.1] else p.1, r.2)
    | _, _ => p) ([], s)

/-- A query with an incomplete sweep enters the queue again, once, where it asks for it (R330). -/
def State.rerunOr (s : State) (m : Merged) (f : State → State) : State := if m.reruns then s.enqueue m.again else f s

/-- A query's share of a sweep that ended. -/
def State.mergeQuery (s : State) (w : Sweep) (l : List Scanned) (ue : Bool) (q : Query) : State :=
  let found := sweepFound w l s.time.tick ue q
  let p := s.filterCodes w q found.ranked
  let m : Merged := { query := q, found := { found with passed := p.1 } }
  p.2.rerunOr m fun s => { s with place := { s.place with merged := s.place.merged ++ [m] } }

/-- SWEEP_SCAN_END: every engine has finished, and the coordinator merges. `excluded`: the codes whose words of the code buffer
read uncorrectable (07 R183); `tableUe`: the queries a table word of which did (R326, R333). -/
def execSweepScanEnd (x : At) (excluded tableUe : List Nat) (s : State) : Host.Outcome State Fault Refusal :=
  let s := s.enter x
  .next (match s.place.sweep with
    | none => s
    | some w =>
      let a := { s with place := { s.place with sweep := none } }.scanAll w excluded
      (List.range w.queries.length).foldl (fun s i => match w.queries[i]? with
        | none => s
        | some q => s.mergeQuery w a.1 (tableUe.contains i) q) a.2)

/-! ### Results (13 R328 to R330, R337, R339) -/

/-- What a query comes to: status, entries returned, codes that failed the filters, both generations used. -/
structure Answer where
  status : Nat
  entries : List (Nat × Nat × Nat)
  filtered : Nat
  both : Bool
deriving DecidableEq, Repr

/-- The codes considered: those ranked of the shards complete for the query (R330, R331). -/
def Ranked.considered (r : Ranked) : List (Nat × Nat × Nat) := r.ranked.filter fun e => !r.missing.contains (codeShard e.2.1)

/-- Filter a query's ranking and settle its status (R328, R330, R333, R337; 18 R463). -/
def Merged.answer (m : Merged) : Answer :=
  let ok := m.found.considered.filter fun e => m.found.passed.contains e.2.1
  let es := ok.take (queryK m.query.record)
  let both := es.any fun a => es.any fun b => a.2.2 != b.2.2
  let none_ := fun (st : Nat) => ({ status := st, entries := [], filtered := 0, both := false } : Answer)
  if m.found.ue then none_ stUE
  else if !m.found.missing.isEmpty && !bitAt (fieldN m.query.record 1 1) 0 then none_ stShard
  else
    { status := if es.length < queryK m.query.record then stFewer else if both then stMixed else stOK,
      entries := es, filtered := m.found.considered.length - ok.length, both := both }

/-- A query result (Table 13-5). -/
def resultBytes (m : Merged) (a : Answer) : Bytes :=
  let f := m.found
  let shut := a.status == stShard
  toLE 4 (fieldN m.query.record 12 4) ++ toLE 1 a.entries.length ++
    toLE 1 (b2n (!f.missing.isEmpty && !shut) + 2 * b2n m.query.prior.isSome + 4 * b2n a.both) ++ toLE 2 a.filtered ++
    toLE 4 f.seq ++ toLE 4 f.excluded ++ toLE 8 f.scanned ++ toLE 8 (maskOf 64 f.missing) ++ f.start ++
    toLE 2 (if shut then 0 else f.considered.length) ++ List.replicate 14 0 ++
    a.entries.flatMap fun e => toLE 8 e.2.1 ++ toLE 4 e.1 ++ toLE 1 e.2.2 ++ [0, 0, 0]

/-- A candidate of a loop closure enters the queue of 4,096; a full one keeps the lowest distances, the lower code index
on a tie (R339). -/
def putCand (l : List LoopCand) (c : LoopCand) : List LoopCand :=
  if l.length < 4096 then l ++ [c]
  else
    let worse := fun (a b : LoopCand) => decide (b.dist < a.dist) || (a.dist == b.dist && decide (b.code < a.code))
    match l.foldl (fun (w : Option LoopCand) a => match w with
      | none => some a
      | some b => if worse a b then some a else some b) none with
    | none => l ++ [c]
    | some w => if worse w c then l.erase w ++ [c] else l

/-- The candidates a stage query's entries give (R339). -/
def State.addCands (s : State) (own : Nat) (es : List (Nat × Nat × Nat)) : State :=
  let max := (s.ep.image.map fun m => m.site.map.maxCandDist).getD 0
  let new := (es.filter fun e => e.2.1 != own && decide (e.1 ≤ max)).map fun e =>
    ({ node := own, code := e.2.1, dist := e.1, gen := e.2.2 } : LoopCand)
  { s with place := { s.place with cands := new.foldl putCand s.place.cands } }

/-- A stage's query ends: its result joins the output record, which is written with the last one (R327, R345). -/
def State.stageAnswer (s : State) (i own : Nat) (m : Merged) (a : Answer) : State :=
  match s.stageDesc i, tget s.stg.runs i with
  | some d, some r =>
    let s := if d.loop then s.addCands own a.entries else s
    let r := if a.status = stUE then r.meets 1 0 else { r with results := r.results ++ resultBytes m a }
    let r := { r with open_ := r.open_ - 1 }
    if r.open_ = 0 then (s.putRecord i r r.results 0).endRun i else s.setRun i r
  | _, _ => s

/-- QUERY_COMPLETE: the oldest query merged is filtered and ends, or enters the queue again where its coordinator was lost
(R330, R331, R345). -/
def execQueryComplete (x : At) (s : State) : Host.Outcome State Fault Refusal :=
  let s := s.enter x
  .next (match s.place.merged with
    | [] => s
    | m :: rest =>
      let s := { s with place := { s.place with merged := rest } }
      s.rerunOr m fun s =>
        let a := m.answer
        match m.query.src with
        | .host qp tag =>
          s.complete qp tag a.status (a.entries.length + 256 * a.filtered) (if a.status = stUE then [] else resultBytes m a)
        | .stage i own => (s.asFired i (fun s => s.stageAnswer i own m a) fun s _ => s).retireDue)

/-! ### Codebook migration (13 R336) -/

/-- The new code of a code: from the descriptor kept, or from what the code stands for under its own codebook. Where neither
is held (a code that reads uncorrectable, a codebook of another generation lost with the regions), it is free (log entry
7). -/
def State.reencode (s : State) (new : Bytes) (old code : Option Bytes) (d : ShardPlan) (row pos : Nat) : Bytes × State :=
  let p := s.codeDesc d row pos
  let from_ := p.1.or (old.bind fun b => code.map fun c => rebuild b c)
  match from_ with
  | some q => p.2.encode new q
  | none => p.2.freeBytes 32

/-- Encode every code of a shard into its shadow copy, line by line, in the store it is read from (R336). -/
def State.shadowShard (s : State) (k : Nat) : State :=
  match s.place.next, s.shardPlan k with
  | some new, some d =>
    let old := s.place.book.filter fun b => bookGen b == (s.shard k).gen
    let row := (s.readRow d).getD d.row
    let n := (s.shard k).count
    let s := (List.range ((n + 1) / 2)).foldl (fun s l =>
      let a := s.readNow row (s.codeArea d false + 64 * l)
      let v := (linePos n l).foldl (fun (p : Bytes × State) i =>
        let c := p.2.reencode new old (if a.1.1 = stUE then none else some (sliceB a.1.2 (32 * (i % 2)) 32)) d row i
        (p.1 ++ c.1, c.2)) ([], a.2)
      (v.2.writeStore row (s.codeArea d true + 64 * l) (sliceB v.1 0 64)).2) s
    s.setShard k { s.shard k with shadowDone := true }
  | _, _ => s

/-! ### Repair of code lines (13 R333) -/

/-- Map maintenance encodes the codes of a line from their descriptors and writes the line whole, which clears its poison; a
line with a descriptor that cannot be read stays. -/
def State.repairLine (s : State) (k l : Nat) : State :=
  match s.shardPlan k, s.liveBooks.find? fun b => bookGen b == (s.shard k).gen with
  | some d, some book =>
    match s.readRow d with
    | none => s
    | some row =>
      let r := (linePos (s.shard k).count l).foldl (fun (p : Option Bytes × State) i =>
        let q := p.2.codeDesc d row i
        match p.1, q.1 with
        | some b, some v =>
          let c := q.2.encode book v
          (some (b ++ c.1), c.2)
        | _, _ => (none, q.2)) (some [], s)
      match r.1 with
      | none => r.2
      | some b =>
        let s := (r.2.writeStore row (r.2.codeArea d false + 64 * l) (sliceB b 0 64)).2
        { s with place := { s.place with badLines := s.place.badLines.erase (k, l) } }
  | _, _ => s

/-- Map maintenance repairs lines found unreadable, under KEEP_DESC; which of them it has come to is free (log entry 62). -/
def State.repairLines (s : State) : State :=
  if !((s.ep.image.map fun m => m.site.map.keepDesc).getD false) then s
  else s.place.badLines.foldl (fun s e =>
    let f := s.free
    if f.1 % 2 = 1 then f.2.repairLine e.1 e.2 else f.2) s

/-! ### Keyframes and the graph (13 R334, R341) -/

/-- The shard a keyframe goes to: of those whose row serves and that have room, the one of fewest codes, then of lowest
number (R334). -/
def State.shardFor (s : State) : Option Nat :=
  let open_ := (s.shardPlans.filter fun d => (s.row d.row).serving && decide ((s.shard d.shard).count < 134217728)).map
    ShardPlan.shard
  let n := fun (k : Nat) => (s.shard k).count
  open_.foldl (fun (b : Option Nat) k => match b with
    | none => some k
    | some j => if n k < n j ∨ (n k = n j ∧ k < j) then some k else some j) none

/-- A pose-graph node (Table 13-7). -/
def nodeBytes (id : Nat) (pose : Bytes) (seq : Nat) : Bytes := toLE 8 id ++ sliceB pose 0 28 ++ toLE 4 seq ++ toLE 8 0

/-- A pose-graph edge (Table 13-8). -/
def edgeBytes (a b kind : Nat) (rel info : Bytes) : Bytes :=
  toLE 8 a ++ toLE 8 b ++ toLE 1 kind ++ toLE 3 0 ++ sliceB rel 0 28 ++ sliceB info 0 84 ++ toLE 4 0

/-- Add edges to the graph, in order. -/
def State.addEdges (s : State) (es : List Bytes) : State := { s with place := { s.place with edges := s.place.edges ++ es } }

/-- Write a keyframe's parts into its shard's store: its code, the code of the shadow copy, its metadata, its feature set and,
where it is kept, its descriptor (R334, Table 13-6). -/
def State.storeKeyframe (s : State) (p : ShardPlan) (pos : Nat) (code : Bytes) (shadow : Option Bytes) (k : Keyframe) : State :=
  let keep := (s.ep.image.map fun m => m.site.map.keepDesc).getD false
  let write := fun (s : State) (a : Nat) (b : Bytes) => (s.writeStore p.row a b).2
  let s := write s (s.codeArea p false + 32 * pos) code
  let s := match shadow with
    | some c => write s (s.codeArea p true + 32 * pos) c
    | none => s
  let s := write s (p.info + 32 * pos) (sliceB k.info 0 28 ++ toLE 1 (b2n keep) ++ toLE 3 0)
  let s := write s (fieldN k.info 16 8) k.features
  if keep then write s (p.desc + 512 * pos) (sliceB k.desc 0 512) else s

/-- Append a keyframe: its code index, or none where no shard can take it (R334, R341). -/
def State.addKeyframe (s : State) (k : Keyframe) : Option Nat × State :=
  match s.shardFor, s.place.book with
  | some d, some book =>
    let sh := s.shard d
    let id := 134217728 * d + sh.count
    let v := s.encode book k.desc
    let w := match v.2.place.next with
      | some n =>
        if sh.gen = bookGen n then
          let u := v.2.encode n k.desc
          ((u.1, none), u.2)
        else
          let u := v.2.encode n k.desc
          ((v.1, some u.1), u.2)
      | none => ((v.1, none), v.2)
    let s := match w.2.shardPlan d with
      | some p => w.2.storeKeyframe p sh.count w.1.1 w.1.2 k
      | none => w.2
    let s := s.setShard d { sh with count := sh.count + 1 }
    let s := { s with place := { s.place with
      nodes := tset s.place.nodes id (nodeBytes id k.pose 0)
      lastKf := tset s.place.lastKf k.agent id } }
    let s := match tget v.2.place.lastKf k.agent with
      | some p => s.addEdges [edgeBytes p id 0 (sliceB k.odo 0 28) (sliceB k.odo 28 84)]
      | none => s
    (some id, s)
  | _, _ => (none, s)

/-! ### Map distribution (17 R456) -/

/-- The datagrams of an item to one destination. -/
def distFrames (stream dseq epoch : Nat) (stamp item : Bytes) : List Bytes :=
  let n := (item.length + 8191) / 8192
  (List.range n).map fun i =>
    toLE 1 stream ++ [0] ++ toLE 2 (i % 256 + 256 * (n % 256)) ++ toLE 4 ((dseq + i) % 4294967296) ++ toLE 4 epoch ++ toLE 4 0 ++
      stamp ++ sliceB item (8192 * i) (min 8192 (item.length - 8192 * i))

/-- Send an item of a stream to every destination that takes it. -/
def State.distribute (s : State) (stream : Nat) (item : Bytes) : State :=
  (List.range s.host.dists.length).foldl (fun s i => match s.host.dists[i]? with
    | none => s
    | some d =>
      if !bitAt d.streams stream || !s.netUp d.via then s
      else
        let fs := distFrames stream d.dseq s.ep.epoch (s.lkt s.time.active) item
        let s := s.netSend d.via d.ip d.udp fs
        { s with host := { s.host with dists := lmod s.host.dists i fun d =>
            { d with dseq := (d.dseq + fs.length) % 4294967296 } } }) s

/-- MAP_DIST_SET: the destinations, each with its sequence from 0. -/
def execMapDistSet (x : At) (qp tag : Nat) (_data : Option Bytes) (s : State) : Host.Outcome State Fault Refusal :=
  .next (s.run x qp tag 0x0607 fun s c =>
    let ds : List MapDist := (List.range (fieldN c.params 0 1)).map fun i =>
      let b := sliceB c.params (8 + 12 * i) 12
      { ip := leNat (sliceB b 0 4).reverse, udp := fieldN b 4 2, streams := fieldN b 6 1, via := fieldN b 7 1, dseq := 0 }
    { s with host := { s.host with dists := ds } }.complete c.qp c.tag stOK 0 [])

/-! ### Optimisation and the host's part (13 R342, R346, R347) -/

/-- Write poses of nodes that exist as one commit, and distribute it (R342). -/
def State.commitPoses (s : State) (ns : List Bytes) : State :=
  let seq := (s.place.optSeq + 1) % 4294967296
  let new := (ns.filter fun b => (tget s.place.nodes (fieldN b 0 8)).isSome).map fun b =>
    nodeBytes (fieldN b 0 8) (sliceB b 8 28) seq
  let nodes := new.foldl (fun t b => tset t (fieldN b 0 8) b) s.place.nodes
  { s with place := { s.place with nodes := nodes, optSeq := seq } }.distribute 1 new.flatten

/-- LOOP_CAND_READ: candidates, oldest first (R346). -/
def execLoopCandRead (x : At) (qp tag : Nat) (_data : Option Bytes) (s : State) : Host.Outcome State Fault Refusal :=
  .next (s.run x qp tag 0x0603 fun s c =>
    let n := fieldN c.params 0 2
    let b := (s.place.cands.take n).flatMap fun k => toLE 8 k.node ++ toLE 8 k.code ++ toLE 4 k.dist ++ toLE 1 k.gen ++ toLE 3 0
    { s with place := { s.place with cands := s.place.cands.drop n } }.complete c.qp c.tag stOK 0 b)

/-- LOOP_CLOSE_SUBMIT: the host's closure edges, all or none (R346). -/
def execLoopCloseSubmit (x : At) (qp tag : Nat) (_data : Option Bytes) (s : State) : Host.Outcome State Fault Refusal :=
  .next (s.run x qp tag 0x0604 fun s c =>
    let es := (List.range (fieldN c.params 0 2)).map fun i => sliceB c.params (8 + 136 * i) 136
    let known := fun (b : Bytes) => (tget s.place.nodes (fieldN b 0 8)).isSome && (tget s.place.nodes (fieldN b 8 8)).isSome
    if es.all known then (s.addEdges es).complete c.qp c.tag stOK 0 [] else s.complete c.qp c.tag stBadParam 0 [])

/-- What a graph record belongs to cannot be read: its shard's rows do not serve. -/
def State.graphAway (s : State) (node : Nat) : Bool :=
  s.shardPlans.any fun d => d.shard == codeShard node && (s.readRow d).isNone

/-- MAP_GRAPH_READ: nodes or edges up to the first of an unavailable shard (R347, 18 Table 18-8). -/
def execMapGraphRead (x : At) (qp tag : Nat) (_data : Option Bytes) (s : State) : Host.Outcome State Fault Refusal :=
  .next (s.run x qp tag 0x0605 fun s c =>
    let first := fieldN c.params 8 8
    let all := if fieldN c.params 0 1 = 0 then (s.place.nodes.filter fun e => decide (first ≤ e.1)).map Prod.snd
      else s.place.edges.drop first
    let want := all.take (fieldN c.params 4 4)
    let got := want.takeWhile fun b => !s.graphAway (fieldN b 0 8)
    s.complete c.qp c.tag (if got.length < want.length then stShard else stOK) got.length got.flatten)

/-- MAP_POSE_WRITE: the host's node poses, together at one tick (R347). -/
def execMapPoseWrite (x : At) (qp tag : Nat) (_data : Option Bytes) (s : State) : Host.Outcome State Fault Refusal :=
  .next (s.run x qp tag 0x0606 fun s c =>
    let ns := (List.range (fieldN c.params 0 1)).map fun i => sliceB c.params (8 + 48 * i) 48
    if ns.all (fun b => (tget s.place.nodes (fieldN b 0 8)).isSome) then (s.commitPoses ns).complete c.qp c.tag stOK 0 []
    else s.complete c.qp c.tag stBadParam 0 [])

/-! ### The occupancy grid (13 R343, R344) -/

/-- Store a voxel's value. -/
def State.setVoxel (s : State) (v n : Nat) : State :=
  { s with place := { s.place with voxels := if n = 128 then terase s.place.voxels v else tset s.place.voxels v n } }

/-- Apply an observation: the voxel's new value, and the delta its crossing emits (R343). -/
def State.observe (s : State) (v : Nat) (hit : Bool) : Option Bool × State :=
  match s.ep.image with
  | none => (none, s)
  | some m =>
    let p := m.site.map
    let a := s.voxel v
    let b := if hit then min 255 (a + p.lHit) else a - p.lMiss
    let d := if a < p.occHi ∧ p.occHi ≤ b then some true
      else if p.occLo < a ∧ b ≤ p.occLo then some false else none
    (d, s.setVoxel v b)

end Sys2Proof.Machine
end

