-- ==== Sys2Proof/Machine/Forage.lean ====
section
/-! DEFINITION. Residency transfers and the occupancy tiles they carry (07 R186, 08 R200 to R203, 13 R344). -/

namespace Sys2Proof.Machine

/-! ### Who reads what a transfer brings (08 R201, R202) -/

/-- The stage kinds that read an engine memory, by DEST_KIND (08 Table 8-3). -/
def destReads : Nat → StageKind → Bool
  | 1, .veJob => true
  | 2, .cseQuery => true
  | 3, .tfePredict => true
  | 3, .tfeUpdate => true
  | 4, .routeParams => true
  | 5, .layer => true
  | _, _ => false

/-- A stage reads the engine memory of its super that an entry without a stage is for. -/
def State.engineReader (s : State) (i : Nat) (e : ResEntry) : Bool :=
  e.stage_ == 0xFFFF && match s.stageDesc i with
    | some d => destReads e.dest d.kind && s.perPlace d.sups == e.lsuper
    | none => false

/-- A stage reads the memory an entry is for: the entry names it, or lies in its own or its weight regions, or in the memory of
its engine. -/
def State.resReader (s : State) (i : Nat) (e : ResEntry) : Bool :=
  e.stage_ == i || s.engineReader i e ||
    (e.stage_ == 0xFFFF && e.dest == 0 && (s.ownRegions i ++ ((s.stageDesc i).map StageDesc.weights).getD []).any fun r =>
      match s.region r with
      | some g => g.lsuper == e.lsuper && g.lcell == e.lcell && decide (e.off < g.offset + g.len) &&
          decide (g.offset < e.off + e.len)
      | none => false)

/-- A region a stage reads was left with an error (R201). -/
def State.badRegion (s : State) (i : Nat) : Bool :=
  s.store.badRegions.any fun k => match s.resEntry k with
    | some e => s.resReader i e
    | none => false

/-! ### Occupancy tiles (13 Table 13-9, R344) -/

/-- Apply an observation and pass on the delta it emits (13 R343, 14 R351). -/
def State.observeDelta (s : State) (v : Nat) (hit : Bool) (src origin : Nat) : State :=
  let o := s.observe v hit
  match o.1 with
  | some set => (o.2.occDelta v set src origin).2
  | none => o.2

/-- Apply a tile's log, in log order, by map maintenance (13 R344, 14 Table 14-2). -/
def State.applyLog (s : State) (t origin : Nat) : State :=
  let mine := s.place.coldLog.filter fun e => tileOf e.1 == t
  let s := { s with place := { s.place with coldLog := s.place.coldLog.filter fun e => tileOf e.1 != t } }
  mine.foldl (fun s e => s.observeDelta e.1 e.2 14 origin) s

/-- Write a tile's voxels and occupied map to the store. -/
def State.tileStore (s : State) (e : ResEntry) (t row : Nat) : State :=
  let s := (s.writeStore row e.addr (sliceB (s.tileBytes t ++ s.tileMap t) 0 (min e.len 36864))).2
  { s with place := { s.place with stored := sins s.place.stored t } }

/-- A tile in the store takes what map maintenance made of it. -/
def State.tileKept (s : State) (t : Nat) : State :=
  match ((s.resIndices fun _ => true).find? fun k => s.resTile k == some t).bind s.resEntry with
  | some e => if s.place.stored.contains t then s.tileStore e t (s.resSuper e / 8) else s
  | none => s

/-- Map maintenance applies a free number of the first observations logged, and has repaired a free choice of the code lines
found unreadable (13 R333, R344): when fill work comes to them is not stated (log entry 62). -/
def State.mapMaintenance (s : State) : State :=
  let f := s.repairLines.free
  let g := f.2.free
  let n := f.1 % (g.2.place.coldLog.length + 1)
  let now := g.2.place.coldLog.take n
  let s := now.foldl (fun s e => s.observeDelta e.1 e.2 14 (g.1 % 64))
    { g.2 with place := { g.2.place with coldLog := g.2.place.coldLog.drop n } }
  (now.foldl (fun l e => sins l (tileOf e.1)) []).foldl State.tileKept s

/-- MAP_OPTIMISE_COMMIT: a window's new poses, `nodes` (log entry 8), in RUN, with the other map maintenance since. In
host-assisted mode no optimisation runs (13 R342, R347). -/
def execMapOptimiseCommit (x : At) (nodes : List (List Byte)) (s : State) : Host.Outcome State Fault Refusal :=
  let s := s.enter x
  .next (if s.unit.state = .run then
      let t := s.mapMaintenance
      if s.ha 6 || nodes.isEmpty then t else t.commitPoses nodes
    else s)

/-! ### Transfers (08 R200 to R202) -/

/-- A transfer among those issued: by tick of issue, then by entry (R200). -/
def addTransfer (t : Transfer) : List Transfer → List Transfer
  | [] => [t]
  | u :: r => if t.tick < u.tick ∨ (t.tick = u.tick ∧ t.entry < u.entry) then t :: u :: r else u :: addTransfer t r

/-- Issue a transfer of an entry; of a row that does not serve, its read is not delivered (R202). -/
def State.issueTransfer (s : State) (k : Nat) : State :=
  match s.resEntry k with
  | none => s
  | some e =>
    let p := s.resSuper e
    let kept := s.store.transfers.filter fun t => t.entry != k || e.mode == 2
    if (s.row (p / 8)).serving && s.unsealed p then
      { s with store := { s.store with transfers := addTransfer { entry := k, sup := p, tick := s.time.tick } kept } }
    else s.undelivered k

/-- The LEADs of a stage's per-slot reads, the largest first. -/
def State.leadsOf (s : State) (stage : Nat) : List Nat :=
  let es := (s.resIndices fun e => e.mode == 1 && e.stage_ == stage).filterMap s.resEntry
  (es.foldl (fun l e => sins l e.lead) []).reverse

/-- RESIDENCY_READ_ISSUE: LEAD ns ahead of its slot, the per-slot reads of a stage with that LEAD are issued: the ones of the
largest LEAD first, those of the next with the next command (R200). -/
def execResidencyReadIssue (x : At) (stage : Nat) (s : State) : Host.Outcome State Fault Refusal :=
  let s := s.enter x
  let n := tgetD s.store.issued stage 0
  .next (match (s.leadsOf stage)[n]? with
    | some l => (s.resIndices fun e => e.mode == 1 && e.stage_ == stage && e.lead == l).foldl State.issueTransfer
        { s with store := { s.store with issued := tset s.store.issued stage (n + 1) } }
    | none => s)

/-- The sweep streams of the supers' code-scan engines are issued at a sweep start (R200). -/
def State.issueStreams (s : State) : State := (s.resIndices fun e => e.mode == 3).foldl State.issueTransfer s

/-- BATCH_CLOSE: a batch closes and its sweep starts, with the sweep streams of its engines (13 R325, 08 R200); map maintenance
has gone on until then. -/
def execBatchClose (x : At) (s : State) : Host.Outcome State Fault Refusal :=
  let s := s.enter x
  let t := (if s.unit.state = .run then s.mapMaintenance else s).closeBatch
  .next (if s.place.sweep.isNone && t.place.sweep.isSome then t.issueStreams else t)

/-- Carry out a read: lines that read whole go to their words by full writes; true where one did not (R201). -/
def State.fetchLines (s : State) (e : ResEntry) (row : Nat) : Bool × State :=
  (List.range (e.len / 64)).foldl (fun (p : Bool × State) i =>
    let a := p.2.readNow row (e.addr + 64 * i)
    if a.1.1 = stUE then (true, a.2)
    else if e.dest ≠ 0 then (p.1, a.2.writeEng (s.resSuper e) e.dest (e.off + 64 * i) a.1.2)
    else match a.2.resCell e with
      | some g => (p.1, a.2.writeCell g (e.off + 64 * i) a.1.2)
      | none => (p.1, a.2)) (false, s)

/-- Read a line's bytes of an engine memory, and whether a word was uncorrectable or poisoned. -/
def State.readEngLine (s : State) (p kind off : Nat) : (Bytes × Bool) × State :=
  (List.range 8).foldl (fun (a : (Bytes × Bool) × State) j =>
    let w := a.2.readEng p kind (off / 8 + j)
    ((a.1.1 ++ toLE 8 (w.1.getD 0), a.1.2 || w.1.isNone), w.2)) (([], false), s)

/-- Carry out a write-back: whole lines from their words; a line with a word that reads uncorrectable is not written. -/
def State.sendLines (s : State) (e : ResEntry) (row : Nat) : State :=
  (List.range (e.len / 64)).foldl (fun s i =>
    let off := e.off + 64 * i
    let w := if e.dest ≠ 0 then s.readEngLine (s.resSuper e) e.dest off
      else match s.resCell e with
        | some g => s.readCell g off 64
        | none => (([], true), s)
    if w.1.2 then w.2 else (w.2.writeStore row (e.addr + 64 * i) w.1.1).2) s

/-- A tile's voxels as the store holds them, but for lines that read uncorrectable: true where one did. -/
def State.tileLines (s : State) (e : ResEntry) (t row : Nat) : Bool × State :=
  (List.range 512).foldl (fun (p : Bool × State) i =>
    let a := p.2.readNow row (e.addr + 64 * i)
    if a.1.1 = stUE then (true, a.2)
    else (p.1, (List.range 64).foldl (fun s j =>
      s.setVoxel (tileVoxel t (64 * i + j)) (a.1.2.getD j 128).toNat) a.2)) (false, s)

/-- A tile comes to the wafer: as the store holds it, where it was written back; one that lost a word before it ever was starts
again; then its log is applied (13 R343, R344, 08 R214). -/
def State.tileIn (s : State) (e : ResEntry) (t row : Nat) : Bool × State :=
  let lost := s.place.reload.contains t
  let s := { s with place := { s.place with reload := s.place.reload.erase t } }
  let r := if s.place.stored.contains t then s.tileLines e t row
    else if lost then (false, { s with place := { s.place with voxels := s.place.voxels.filter fun v => tileOf v.1 != t } })
    else (false, s)
  (r.1, r.2.applyLog t (r.2.resSuper e))

/-- A tile is written back, and sent to those who follow tiles (13 R344, 17 R456). -/
def State.tileOut (s : State) (e : ResEntry) (t row : Nat) : State :=
  (s.tileStore e t row).distribute 0
    (toLE 2 t ++ toLE 2 (t / 65536) ++ toLE 2 (t / 4294967296) ++ [0, 0] ++ s.tileBytes t ++ s.tileMap t)

/-- An entry has brought its part of the weight regions that wait for it; a region none of whose entries is left is fetched
again (07 R186). -/
def State.refetched (s : State) (k : Nat) : State :=
  let left := s.stg.refetch.map fun r => (r.1, r.2.erase k)
  { s with stg := { s.stg with refetch := left.filter fun r => !r.2.isEmpty } }

/-- Carry out the transfer of an entry; an error leaves its region bad, and an at-load region is fetched again from the
next tick on (R201). -/
def State.transfer (s : State) (k : Nat) : State :=
  match s.resEntry k with
  | none => s
  | some e =>
    let row := s.resSuper e / 8
    let tile := s.resTile k
    match e.mode, tile with
    | 2, some t => s.tileOut e t row
    | 2, none => s.sendLines e row
    | _, _ =>
      let r := match tile with
        | some t => s.tileIn e t row
        | none => s.fetchLines e row
      let s := r.2
      if r.1 then
        let s := { s with store := { s.store with badRegions := sins s.store.badRegions k } }
        if e.mode = 0 then
          let again : Transfer := { entry := k, sup := s.resSuper e, tick := s.time.tick + 1 }
          { s with store := { s.store with transfers := addTransfer again s.store.transfers } }
        else s
      else { s with store := { s.store with badRegions := s.store.badRegions.erase k } }.refetched k

/-- The transfers under way: each super's foragers serve the 16 issued first (R200). -/
def State.underWay (s : State) : List Transfer :=
  (List.range 64).flatMap fun p => (s.store.transfers.filter fun t => t.sup == p && decide (t.tick ≤ s.time.tick)).take 16

/-- FORAGER_TRANSFER_COMPLETE: a transfer under way of an entry completes (R200, R201). -/
def execForagerTransferComplete (x : At) (idx : Nat) (s : State) : Host.Outcome State Fault Refusal :=
  let s := s.enter x
  .next (match s.underWay.find? fun t => t.entry == idx && (s.row (t.sup / 8)).serving with
    | none => s
    | some t =>
      let s := { s with store := { s.store with transfers := s.store.transfers.erase t } }
      (s.transfer idx).retireDue)

/-- A weight region read uncorrectable is fetched again: by its residency entry at that entry's next slot, at once where it
is one at load, and from the image copy where no entry is for it (07 R186). -/
def State.refetchWeight (s : State) (r : Nat) : State :=
  if s.awaitsRefetch r then s
  else
    let own := s.resIndices fun e => match s.region r with
      | some g => e.dest == 0 && g.lsuper == e.lsuper && g.lcell == e.lcell && decide (e.off < g.offset + g.len) &&
          decide (g.offset < e.off + e.len) && e.mode != 2
      | none => false
    let row := match s.region r with
      | some g => s.ep.binding.getD g.lsuper 64 / 8
      | none => 8
    if own.isEmpty then (if (s.row row).serving then s.fillRegions [r] else s)
    else
      let s := { s with stg := { s.stg with refetch := tset s.stg.refetch r own } }
      (own.filter fun k => ((s.resEntry k).map fun e => e.mode).getD 1 == 0).foldl State.issueTransfer s

end Sys2Proof.Machine
end

