-- ==== Sys2Proof/Machine/StageGo.lean ====
section
/-! DEFINITION. The start and the end of stage instances, vision jobs' passes among them (02 R44, 06 R149, R153, 07 R184,
R185, 11 R284 to R288, 12 R314, 13 R325, R334, R340, R343). -/

namespace Sys2Proof.Machine

/-! ### Start (02 R44, 03 R72) -/

/-- The instance a firing starts: phase and source are those of the entry that fired (07 Table 7-6). -/
def State.newRun (s : State) (seq src : Nat) (synth late : Bool) : StageRun :=
  { seq := seq, tick := s.time.tick, localC := s.time.localC, doms := s.domPairs, epoch := s.ep.epoch, phase := s.phase src,
    src := src, synth := synth, late := late, mixed := s.ep.rolling.isSome, cause := 0, origin := 0, xforms := s.xforms,
    modes := s.ep.modes, frame := none, frameB := none, flags := 0, items := [], preds := [], points := [], queries := [],
    refs := [], queued := [], passed := false, free0 := 0, spoiled := false, open_ := 0, results := [],
    begins := 48 * s.time.tick + 320 }

/-- A stage's regions are not yet filled by a rolling replacement, or those of its inputs (19 R489). -/
def State.unfilledStage (s : State) (i : Nat) (d : StageDesc) : Bool :=
  (s.ownRegions i ++ d.weights ++ s.inputRegions d).any s.stg.unfilled.contains

/-- A read of the stage's memory has not completed or was not delivered, at load or for its slot (08 R202, R212). -/
def State.unfedStage (s : State) (i : Nat) : Bool :=
  s.stg.unfed.contains i || s.store.unread.any (fun k => match s.resEntry k with
    | some e => s.resReader i e
    | none => false) || s.store.transfers.any fun t => match s.resEntry t.entry with
    | some e => (e.mode == 1 || (e.mode == 0 && !s.store.badRegions.contains t.entry)) && s.resReader i e
    | none => false

/-- Stage kinds that do not run with an absent input (07 R185). -/
def needsAll : StageKind → Bool
  | .network => true
  | .verify => true
  | .mapUpdate => true
  | _ => false

/-- A region the stage reads holds no valid content until it is fetched again (07 R186, 08 R201). -/
def State.spoiled (s : State) (i : Nat) (d : StageDesc) : Bool := s.badRegion i || d.weights.any s.awaitsRefetch

/-- A module or imager whose data a stage takes is not usable, down or asleep. -/
def State.sensorAbsent (s : State) (d : StageDesc) : Bool :=
  d.imagers.any s.imagerAbsent || d.modules.any fun m => (s.moduleBlocked m).isSome || !(s.att m).isOn

/-- What a slot's instance meets before it runs: whether it does not run, and the instance with the lowest cause it has met; one
that runs with a header that read uncorrectable, or a region without valid content, is spoiled (07 R184, R185). A module or imager whose
data the stage takes and that is not usable, down or asleep is an absent input (09 R245, 10 R256, R266). -/
def State.slotCauses (s : State) (i : Nat) (d : StageDesc) (r : StageRun) : (Bool × StageRun) × State :=
  let r := if (tget s.stg.runs i).isSome then r.meets 2 2 else r
  let r := if s.wafer.move.isSome then r.meets 4 4 else r
  let dropped := r.cause ≠ 0
  let r := if s.rebuildingStage i d then r.meets 5 5 else r
  let r := if s.unfilledStage i d || s.unfedStage i then r.meets 8 8 else r
  let a := if needsAll d.kind && !dropped then s.absentInput d else ((none, false), s)
  let r := match a.1.1 with
    | some o => r.meets 6 o
    | none => if needsAll d.kind && s.sensorAbsent d then r.meets 6 8 else r
  let bad := s.spoiled i d || a.1.2
  let stops := r.cause ≠ 0
  let r := if !bad then r else if stops then r.meets 1 1 else { r with spoiled := true }
  ((stops, r), a.2)

/-- The cells that run a stage's program (07 R170, Table 7-4 KIND 6). -/
def State.programCells (s : State) (i : Nat) : List Nat :=
  ((s.ownRegions i).filter fun r => (s.region r).any fun e => e.kind == 6).foldl (fun l r => match s.regionAt r with
    | some (g, _) => sins l g
    | none => l) []

/-- Another stage runs on a cell of this one's, fired at or before a time (07 R170). -/
def State.cellsBusy (s : State) (i begins : Nat) : Bool :=
  let mine := s.programCells i
  s.stg.runs.any fun e => e.1 != i && decide (e.2.begins < begins) && (s.programCells e.1).any mine.contains

/-- The sequencers save the context of fill work that runs on the cells a stage starts on to its fill-state regions (07 R170).
Whether fill work runs on a cell, and what its context is, is free (log entry 57). -/
def State.saveFill (s : State) (i : Nat) : State :=
  let busy := s.stg.runs.flatMap fun e => s.programCells e.1
  let cells := (s.programCells i).filter fun g => !busy.contains g
  let rs := (s.regionsOf fun e => e.kind == 3).filter fun r => (s.regionAt r).any fun a => cells.contains a.1
  rs.foldl (fun s r =>
    let f := s.free
    if f.1 % 2 = 1 then
      let b := f.2.freeBytes (((s.region r).map Region.len).getD 0)
      b.2.writeRegion r 0 b.1
    else f.2) s

/-- An instance's first instruction has begun, and no instance fired before it holds one of its cells (07 R170). -/
def State.mayEnd (s : State) (i : Nat) (r : StageRun) : Bool :=
  (s.programCells i).isEmpty || (decide (r.begins ≤ 48 * s.time.tick) && !s.cellsBusy i r.begins)

/-- The status a command waiting on a slot that did not run completes with. -/
def State.slotStatus (s : State) (i : Nat) (d : StageDesc) (r : StageRun) : Nat :=
  if r.cause = 8 ∧ s.unfedStage i then stShard
  else if r.cause = 6 ∧ r.origin = 8 ∧ s.sensorAbsent d then stAbsent
  else causeStatus r.cause r.origin

/-- An instance hands its matching to the host: of a match job, or of a network stage marked as a matching stage (11 R294). -/
def State.handsOff (s : State) (d : StageDesc) (r : StageRun) : Bool :=
  (d.kind == .veJob || d.kind == .network) && r.hostMatch (s.veDesc d)

/-- START_STAGE: an instance starts, or its slot's output record is invalid at once (02 R44). -/
def State.startStage (s : State) (i src : Nat) (synth late : Bool) : State :=
  match s.stageDesc i with
  | none => s
  | some d =>
    let seq := tgetD s.stg.seqs i 0
    let s := { s with stg := { s.stg with seqs := tset s.stg.seqs i (seq + 1) } }
    let c := s.slotCauses i d (s.newRun seq src synth late)
    let r := c.1.2
    let st := c.2.slotStatus i d r
    let s := { c.2 with
      stg := { c.2.stg with unfed := c.2.stg.unfed.erase i }
      store := { c.2.store with issued := terase c.2.store.issued i } }
    if c.1.1 then
      let s := if s.handsOff d r && r.cause != 2 then s.noExport i r st else s
      s.putRecord i r [] 0
    else if d.kind = .veJob then s.startVe i d r
    else if s.handsOff d r then (s.saveFill i).makeExport i d (s.veDesc d) r
    else (s.saveFill i).setRun i r

/-! ### End (07 R184) -/

/-- A stage reads the words it names; a weight region that reads uncorrectable is fetched again (07 R184, R186). -/
def State.stageReads (s : State) (d : StageDesc) (l : List (Nat × Nat)) : Bool × State :=
  l.foldl (fun (p : Bool × State) e =>
    let a := p.2.readRegion e.1 e.2 8
    if a.1.2 then (true, if d.weights.contains e.1 then a.2.refetchWeight e.1 else a.2) else (p.1, a.2)) (false, s)

/-- Bits of the memories of the stage's super flip, and the stage reads words of them: true where one read uncorrectable or
poisoned (07 R183). -/
def State.engineReads (s : State) (d : StageDesc) (v : StageResult) : Bool × State :=
  let p := s.stageSuper d
  let s := v.engFlips.foldl (fun s e => s.flipEng p (e.1 % 8) e.2.1 e.2.2) s
  v.engReads.foldl (fun (q : Bool × State) e =>
    let w := q.2.readEng p (e.1 % 8) e.2
    (q.1 || w.1.isNone, w.2)) (false, s)

/-- The record's transfer is lost: its region stands in a super sealed or enclosed since (05 R134). -/
def State.outLost (s : State) (i : Nat) : Bool :=
  (s.region (s.writeBuf i)).any fun e => !s.unsealed (s.ep.binding.getD e.lsuper 64)

/-- The causes an instance that ran has met at its end. -/
def State.endCauses (s : State) (i : Nat) (d : StageDesc) (r : StageRun) (ue : Bool) : StageRun :=
  let r := if ue || s.spoiled i d then r.meets 1 1 else r
  let r := if s.outLost i then r.meets 3 3 else r
  if s.rebuildingStage i d then r.meets 5 5 else r

/-- The output record of a stage as it stands is valid. -/
def State.outValid (s : State) (i : Nat) : Bool :=
  match s.regionAt (s.outRegion i) with
  | some (g, o) => !bitAt (s.wordD g (o / 8)) 16
  | none => false

/-- A calibrating stage's valid output issues a site write, at most once per second per module (12 R314). -/
def State.calibrate (s : State) (d : StageDesc) (pose : Bytes) : State :=
  match d.calibrates with
  | none => s
  | some m =>
    let soon := match tget s.link.calNs m with
      | some t => decide (s.localNs < t + 1000000000)
      | none => false
    if soon then s
    else
      let s := { s with link := { s.link with calNs := tset s.link.calNs m s.localNs } }
      match s.moduleBlocked m with
      | some st => { s with link := { s.link with calStatus := tset s.link.calStatus m st } }
      | none =>
        if !(s.att m).isOn then { s with link := { s.link with calStatus := tset s.link.calStatus m stAbsent } }
        else match s.mgmtIssue m { op := 2, offset := 0, len := 256, data := [], use := .siteWrite 2 (sliceB pose 0 28) none } with
          | some s => s.wakeUsed
          | none => { s with link := { s.link with calStatus := tset s.link.calStatus m stQueueFull } }

/-- A verify instance's closures join the graph, and the candidates it took leave the queue (13 R340, R341). -/
def State.verified (s : State) (r : StageRun) (v : StageResult) : State :=
  if r.modes.getD 5 false then s
  else
    let es := v.closures.map fun b => edgeBytes (fieldN b 0 8) (fieldN b 8 8) 1 (sliceB b 20 28) (sliceB b 48 84)
    let cands := s.place.cands.filter fun k => !v.tried.contains (k.node, k.code)
    { s with place := { s.place with cands := cands } }.addEdges es

/-- A map_update instance applies its observations and adds its keyframe; false where no shard took it (13 R334, R343,
R344). -/
def State.mapUpdated (s : State) (d : StageDesc) (v : StageResult) : (Bool × Bytes) × State :=
  let s := v.occ.foldl (fun s o =>
    if o.2.2 then s.observeDelta o.1 o.2.1 d.occSrc (s.stageSuper d)
    else { s with place := { s.place with coldLog := s.place.coldLog ++ [(o.1, o.2.1)] } }) s
  match v.keyframe with
  | none => ((true, v.payload), s)
  | some k =>
    let a := s.addKeyframe k
    match a.1 with
    | some id => ((true, toLE 8 id ++ v.payload), a.2)
    | none => ((false, v.payload), a.2)

/-- What an instance that met no cause does beside its output record: the record's instance and payload. -/
def State.stageEffect (s : State) (d : StageDesc) (r : StageRun) (v : StageResult) : (StageRun × Bytes) × State :=
  if r.cause ≠ 0 then ((r, v.payload), s)
  else match d.kind with
    | .verify => ((r, v.payload), s.verified r v)
    | .mapUpdate =>
      let m := s.mapUpdated d v
      ((if m.1.1 then r else r.meets 8 8, m.1.2), m.2)
    | _ => ((r, v.payload), s)

/-- The per-slot write-backs of a stage are issued (08 R200). -/
def State.issueBacks (s : State) (i : Nat) : State :=
  (s.resIndices fun e => e.mode == 2 && e.stage_ == i).foldl State.issueTransfer s

/-- The agents whose tracks an update or predict stage publishes. -/
def State.stageAgents (s : State) (d : StageDesc) : List Nat :=
  (s.tfeDesc d).ids.filterMap fun id => (s.track id).agent

/-- A query stage's instance: its queries enter the batch queue, and it ends with the last of them (13 R325). -/
def State.endQueries (s : State) (i : Nat) (r : StageRun) (v : StageResult) : State :=
  if r.open_ ≠ 0 then s
  else if r.cause ≠ 0 ∨ v.queries.isEmpty then (s.putRecord i r [] 0).endRun i
  else v.queries.foldl (fun s q => s.stageQuery i q) (s.setRun i { r with open_ := v.queries.length })

/-- The end of a stage's running instance: what it read, the causes it has met, its effect and its record. A track slot of
which it read a word uncorrectable is rewritten, whatever the stage (12 R312). -/
def State.endStage (s : State) (stage : Nat) (d : StageDesc) (run : StageRun) (r : StageResult) : State :=
  let a := s.stageReads d r.reads
  let b := a.2.engineReads d r
  let tfe := d.kind == .tfePredict || d.kind == .tfeUpdate
  let ue := a.1 || b.1 || !r.tileUe.isEmpty || run.spoiled || (!tfe && !r.slotUe.isEmpty)
  let s := { b.2 with place := { b.2.place with reload := sinsAll b.2.place.reload r.tileUe } }
  let s := if tfe then s else r.slotUe.foldl State.rewriteSlot s
  let run := s.endCauses stage d run ue
  let s := match d.kind with
    | .tfePredict => (s.endTfe stage d run r.slotUe false).refreshPoses (s.stageAgents d)
    | .tfeUpdate => (s.endTfe stage d run r.slotUe false).refreshPoses (s.stageAgents d)
    | .cseQuery => s.endQueries stage run r
    | .network =>
      if s.handsOff d run then s.hostFinal stage (s.veDesc d) run
      else
        let e := s.stageEffect d run r
        (e.2.putRecord stage e.1.1 e.1.2 0).endRun stage
    | _ =>
      let e := s.stageEffect d run r
      (e.2.putRecord stage e.1.1 e.1.2 0).endRun stage
  let s := if s.outValid stage && d.kind != StageKind.cseQuery then s.calibrate d r.pose else s
  s.issueBacks stage

/-- STAGE_INSTANCE_COMPLETE: an instance ends and writes its record; one that has not begun (07 R170), or that waits at a full
waggle tap (05 R136), does not end yet. Vision jobs end with their passes. -/
def execStageInstanceComplete (x : At) (stage : Nat) (r : StageResult) (s : State) : Host.Outcome State Fault Refusal :=
  .next ((s.enter x).asFired stage (fun s => match s.stageDesc stage, tget s.stg.runs stage with
    | some d, some run =>
      if d.kind = .veJob ∨ run.open_ ≠ 0 ∨ !s.mayEnd stage run then s
      else
        let t := s.endStage stage d run r
        if tapSize < t.tapped (s.stageSuper d) then s else t
    | _, _ => s) State.transfer).retireDue

/-! ### The passes of a vision job (11 R283 to R288) -/

/-- The write-backs of a vision job whose instance ended (08 R200). -/
def State.veEnded (s : State) (i : Nat) : State := if (tget s.stg.runs i).isNone then s.issueBacks i else s

/-- PASS1_COMPLETE: every item has its pass-1 result and the p1 publication is written (11 R284, R287, R288), when it is the
next work of its engine (R286); a match job in host-assisted mode has none (R295). -/
def execPass1Complete (x : At) (stage : Nat) (bad : List (Nat × Nat)) (s : State) : Host.Outcome State Fault Refusal :=
  let t := s.enter x
  .next (if !t.veTurn stage false then t.retireDue else
    (t.asPass stage false (fun s => match tget s.stg.runs stage, s.stageDesc stage with
    | some r, some d =>
      let v := s.veDesc d
      if d.kind ≠ StageKind.veJob ∨ r.passed then s
      else
        let b := s.readBufs d v r bad false
        let s := b.2
        let ue := b.1
        let r := s.endCauses stage d r r.spoiled
        let t := if r.cause ≠ 0 then s.failJob stage v r
          else match v.kind with
            | 2 => s.passOneMatch stage v r ue
            | 3 => s.passOneBlocks stage d v r ue
            | 4 => s.passOneBlocks stage d v r ue
            | _ => s.passOneLevels stage d v r ue
        t.veEnded stage
    | _, _ => s) State.transfer).retireDue)

/-- PASS2_COMPLETE: pass 2 and any consistency check end and the final header is written (11 R287, R288), in the engine's order
(R286); a match job of the host consumes its items (R295). -/
def execPass2Complete (x : At) (stage : Nat) (bad : List (Nat × Nat)) (s : State) : Host.Outcome State Fault Refusal :=
  let turn := (s.enter x).veTurn stage true
  .next ((s.enter x).asPass stage true (fun s => match tget s.stg.runs stage, s.stageDesc stage with
    | some r, some d =>
      let v := s.veDesc d
      if d.kind ≠ StageKind.veJob then s
      else if r.hostMatch v then (s.hostFinal stage v (s.endCauses stage d r r.spoiled)).veEnded stage
      else if !r.passed || !turn then s
      else
        let b := s.readBufs d v r bad true
        let s := b.2
        let ue := b.1
        let p := match v.kind with
          | 2 => ((s.passTwoMatch v r, false), s)
          | 3 => s.passTwoBlocks d v r
          | 4 => s.passTwoBlocks d v r
          | _ => ((r, false), s)
        let r := s.endCauses stage d (if ue || p.1.2 then p.1.1.meets 1 1 else p.1.1) false
        ((p.2.publish stage v r 2).endRun stage).veEnded stage
    | _, _ => s) State.transfer).retireDue

end Sys2Proof.Machine
end

