-- ==== Sys2Proof/Machine/Fire.lean ====
section
/-! DEFINITION. Schedule entries at work: an arming takes effect, an entry fires and issues its action (03 R69 to R79,
R83, 19 R478). -/

namespace Sys2Proof.Machine

/-! ### Leads and fine instants (03 R78, 19 R478) -/

/-- How many ticks ahead an entry is evaluated: 24 ns for a timed output, 64 ns for a commit. -/
def leadOf (action : Nat) : Nat := if action = 3 then 3 else if action = 6 then 8 else 0

/-- The phase or time an entry is compared with, `n` ticks and `k` capture steps of 125 ps ahead: ph, or 1/65,536 ns. -/
def State.fineAt (s : State) (e : Entry) (n k : Nat) : Nat :=
  let step := fun (d : Nat) => (if d = 0 then nsU else (s.dom d).incr) * k / 8
  if e.tkind = 0 then
    let p := s.source e.src
    if p.defn.kind = 4 then p.defn.synthPhase (s.counterAhead p.defn.origin n + step p.defn.origin)
    else p.phaseAt s.time.tick (s.time.localC + n * tickU + k * capU)
  else (s.counterAhead (e.tkind - 1) n + step (e.tkind - 1)) / 65536

/-- The value at the tick before, as it was predicted then. -/
def State.finePrev (s : State) (e : Entry) (n : Nat) : Nat :=
  if e.tkind = 0 then s.phasePrev e.src n
  else
    let d := e.tkind - 1
    (s.counterPrev d + n * (8 * (if d = 0 then nsU else (s.dom d).incr))) / 65536

/-- A crossing of an entry's target at this tick (R69): forward, or in reverse. -/
inductive Crossing where
  | none | forward | reverse
deriving DecidableEq, Repr

/-- The crossing that fires an entry at this tick; none on a source in STARTING (03 R60), and in reverse on an encoder only
(03 R64). -/
def State.crossing (s : State) (e : Entry) : Crossing :=
  let n := leadOf e.action
  if e.tkind = 0 then
    if (s.source e.src).st = .starting then .none else
    let d0 := dphase e.target (s.finePrev e n)
    let d1 := dphase e.target (s.fineAt e n 0)
    if d0 > 0 ∧ d1 ≤ 0 then .forward
    else if e.either ∧ (s.source e.src).defn.kind = 1 ∧ d1 > 0 ∧ d0 ≤ 0 then .reverse
    else .none
  else if e.target ≤ s.fineAt e n 0 then .forward
  else .none

/-! ### Repeats (R71) -/

/-- An entry after a firing, and the repetitions dropped at it. -/
def State.afterFiring (s : State) (e : Entry) (rev : Bool) : Entry × Nat :=
  let now := s.fineAt e (leadOf e.action) 0
  let e1 := { e with seq := (e.seq + 1) % 4294967296 }
  if e.interval = 0 then ({ e1 with st := .fired }, 0)
  else if e.tkind = 0 then
    let past := if rev then dphase e.target now - 1 else -dphase e.target now
    let m := past.toNat / e.interval
    let by_ : Int := ((m + 1) * e.interval : Nat)
    ({ e1 with target := phaseAdd e.target (if rev then -by_ else by_) }, m)
  else
    let m := (now - e.target) / (e.interval * 65536)
    ({ e1 with target := e.target + (m + 1) * (e.interval * 65536) }, m)

/-! ### Actions (03 Table 3-2) -/

/-- What a firing carries: late, dropped repetitions, reverse crossing, and the instant of a timed output's edge. -/
structure Firing where
  late : Bool
  dropped : Nat
  edge : Nat
deriving DecidableEq, Repr

/-- The instant of a timed output's edge (R78): where the target is reached within the tick 24 ns ahead, to the 125 ps step,
else 24 ns after this tick (log entry 29). -/
def State.edgeInstant (s : State) (e : Entry) (rev : Bool) : Nat :=
  let reached := fun (k : Nat) =>
    let v := s.fineAt e 2 k
    if e.tkind = 0 then (if rev then decide (dphase e.target v > 0) else decide (dphase e.target v ≤ 0))
    else decide (e.target ≤ v)
  match (List.range 65).find? reached with
  | some 0 => s.time.localC + tsoLead
  | some k => s.time.localC + 2 * tickU + k * capU
  | none => s.time.localC + tsoLead

/-- The snapshot record of a source (03 Table 3-6). SNAP_FLAGS bit 4 is set where the phase is not that of the last event and
a rate carried it there, also past the limit under SYNTH, and never for a synthetic source, which has no events (DESIGN
CHOICE, log entry 56). -/
def State.snapshot (s : State) (id : Nat) (e : Entry) (f : Firing) : Bytes :=
  let i := e.arg % 16
  let p := s.source i
  let own := e.tkind == 0 && (s.source e.src).st == .stalledSynth
  let synth := own || p.st == .stalledSynth
  let moving := p.defn.kind != 4 && p.defn.kind != 0 && p.cur.den != 0 && s.phase i != p.cur.phase
  let flags := flagBits [synth, p.st == .stalledSynth || p.st == .stalledHold, f.late, bitAt (s.sflags i) 0, moving]
  toLE 2 id ++ toLE 1 i ++ toLE 1 flags ++ toLE 4 e.seq ++ toLE 6 (s.phase i) ++ toLE 2 (sat16 f.dropped) ++
    s.lktAt 1 0 3 f.late synth ++ s.lktAt 2 0 3 f.late synth

/-- Issue an entry's action. `e` is the entry as it fired. -/
def State.act (s : State) (id : Nat) (e : Entry) (f : Firing) : State :=
  let synth := e.tkind == 0 && (s.source e.src).st == .stalledSynth
  match e.action with
  | 1 => s.startStage e.arg e.src synth f.late
  | 2 =>
    let r := s.snapshot id e f
    match e.owner with
    | .image => { s with sched := { s.sched with snaps := s.sched.snaps ++ [(id, r)] } }
    | .queue q => s.pushRec q s.time.localC r
  | 3 => s.drive id (bitsOf e.arg 4 0) (bitsOf e.arg 6 5) (bitsOf e.arg 31 8) f.edge
  | 4 => if (s.carriers 4 e.arg).contains (id / 256) then s.agentPkt e.arg else s
  | 5 => if (s.carriers 5 e.arg).contains (id / 256) then s.linkPkt e.arg else s
  | 6 =>
    match s.ep.armed with
    | none => s
    | some a =>
      if a.entry ≠ id then s
      else
        let t := s.time.tick + 8
        let mark := fun (c : Cmd) => if c.qp = a.qp ∧ c.tag = a.tag then { c with synth := synth } else c
        let s := { s with
          ep := { s.ep with armed := some { a with eff := some t, waits := s.wafer.pause.isSome } }
          host := { s.host with accepted := s.host.accepted.map mark } }
        if s.wafer.pause.isSome then s else s.yieldTick t
  | _ => s

/-- A forward step of this tick carried a time entry's domain past its target: its firing is late (04 R94). -/
def State.stepped (s : State) (e : Entry) : Bool :=
  e.tkind != 0 && e.action != 3 && match s.counterUnwritten (e.tkind - 1) with
    | some v => decide (v / 65536 < e.target) && decide (e.target ≤ s.fineCounter (e.tkind - 1) 0)
    | none => false

/-- Fire an entry at this tick. -/
def State.fire (s : State) (id : Nat) (e : Entry) (rev late : Bool) : State :=
  let r := s.afterFiring e rev
  let edge := if late then s.time.localC + tsoLead else s.edgeInstant e rev
  let f : Firing := { late := late || decide (0 < r.2), dropped := r.2, edge := edge }
  (s.setEntry id r.1).act id e f

/-- An arming takes effect at this tick (R75, R76). -/
def State.armingDue (s : State) (e : Entry) : Bool :=
  (e.st == .arming && decide (e.tick < s.time.tick)) || (e.st == .held && (s.source e.src).st != .starting)

/-- A commit is to be applied at this tick: not one whose word waits across a pause, or that waits for a move (19 R478 to
R480, R491, R492). -/
def State.commitDue (s : State) : Bool :=
  let due := fun (e : Option Nat) => match e with
    | some t => decide (t ≤ s.time.tick)
    | none => false
  (match s.ep.armed with
   | some a => due a.eff && !a.waits && s.wafer.move.isNone
   | none => false) || s.ep.engine.any fun e => due e.eff

/-- An entry fires at this tick: it is armed since an earlier one, and its target is crossed. -/
def State.fires (s : State) (e : Entry) : Bool :=
  s.time.running && e.st == .armed && decide (e.tick < s.time.tick) && s.crossing e != .none

/-- What comes before an entry's firing in its super's order at this tick has been done: armings, the commit, the entries of
lower id (R70). -/
def State.turnOf (s : State) (id : Nat) : Bool :=
  !s.commitDue && !s.sched.entries.any fun e => e.1 / 256 == id / 256 &&
    (s.armingDue e.2 || (decide (e.1 < id) && s.fires e.2))

/-- ENTRY_FIRES: an armed entry's target is crossed or reached at this tick, and its turn has come (R69, R70). -/
def execEntryFires (x : At) (id : Nat) (s : State) : Host.Outcome State Fault Refusal :=
  let s := s.enter x
  .next (match s.entry id with
    | none => s
    | some e =>
      if !s.fires e || !s.turnOf id then s
      else match s.crossing e with
        | .none => s
        | .forward => (s.fire id e false (s.stepped e)).retireDue
        | .reverse => (s.fire id e true false).retireDue)

/-! ### An arming takes effect (R75, R76) -/

/-- The entry with its target absolute, and how far the present phase or time is past it. -/
def State.settled (s : State) (e : Entry) : Entry × Int :=
  let now := s.fineAt e (leadOf e.action) 0
  match e.rel with
  | none => (e, s.lateness e (leadOf e.action))
  | some r =>
    let t := if e.tkind = 0 then phaseAdd now r else ((now : Int) + r).toNat
    ({ e with rel := none, target := t }, -r)

/-- A commit entry's arming takes effect: on a STARTING source with no late test; past under the phase or time 64 ns ahead,
or its source disabled, it is not made and its set returns to staged (R76, 19 R477). -/
def State.takeCommit (s : State) (id : Nat) (e : Entry) : State :=
  let src := (s.source e.src).st
  if e.tkind = 0 ∧ src = .disabled then s.disarmCommit stBadState true
  else if ¬(e.tkind = 0 ∧ src = .starting) ∧ s.targetPast e (leadOf 6) then s.disarmCommit stSkipped true
  else s.setEntry id { e with st := .armed, tick := s.time.tick }

/-- An arming takes effect at this tick and its command completes. In QUIESCE no entry is armed: one accepted or held before
is not made, as one whose source was disabled (01 R29; DEDUCED, log entry 56). -/
def State.takeArming (s : State) (id : Nat) (e0 : Entry) : State :=
  if e0.action = 6 then s.takeCommit id e0
  else if s.unit.state = .quiesce ∨ (e0.tkind = 0 ∧ (s.source e0.src).st = .disabled) then
    (s.setEntry id { e0 with st := .free, cmd := none }).completeOpt e0.cmd stBadState 0 []
  else
    let r := s.settled e0
    let e := { r.1 with st := .armed, seq := 0, tick := s.time.tick, cmd := none }
    let gone := { e with st := .free }
    let done := fun (s : State) (status detail : Nat) => s.completeOpt e0.cmd status detail (armResult id)
    if r.2 < 0 then done (s.setEntry id e) stOK 0
    else if e.late = 0 then
      let n := if e.tkind = 0 then r.2.toNat else r.2.toNat / 65536
      let synth := e.tkind = 0 ∧ (s.source e.src).st = .stalledSynth
      done (s.fire id e false true) (if synth then stSynth else stLate) (sat32 n)
    else if e.late = 1 then (s.setEntry id gone).completeOpt e0.cmd stSkipped 0 []
    else
      let step := if e.tkind = 0 then 65536 else e.interval * 65536
      if step = 0 then (s.setEntry id gone).completeOpt e0.cmd stSkipped 0 []
      else
        let n := r.2.toNat / step + 1
        let now := s.fineAt e0 (leadOf e.action) 0
        let t := if e.tkind = 0 then phaseAdd e.target (n * step : Nat) else ((now : Int) - r.2 + (n * step : Nat)).toNat
        done (s.setEntry id { e with target := t }) stOK n

/-- ARMING_TAKES_EFFECT: at the first tick after the keeper core wrote the entry. -/
def execArmingTakesEffect (x : At) (id : Nat) (s : State) : Host.Outcome State Fault Refusal :=
  let s := s.enter x
  .next (match s.entry id with
    | some e => if e.st = .arming ∧ s.armingDue e then (s.takeArming id e).retireDue else s
    | none => s)

/-- HELD_ARMING_RELEASED: the source runs, or a commit has disabled it (R76). -/
def execHeldArmingReleased (x : At) (id : Nat) (s : State) : Host.Outcome State Fault Refusal :=
  let s := s.enter x
  .next (match s.entry id with
    | some e => if e.st = .held ∧ s.armingDue e then (s.takeArming id e).retireDue else s
    | none => s)

end Sys2Proof.Machine
end

