-- ==== Sys2Proof/Machine/Store.lean ====
section
/-! DEFINITION. Companion stores (08): bundles and their training, row states, mirrored pairs, loss and return (06 R157,
22 R554). -/

namespace Sys2Proof.Machine

/-! ### Versions (21 R527, R528) -/

/-- A range an image provides meets a requirement: none, or the cause of its failure with the range (21 R527). -/
def unmet (prov : List (Nat × Nat × Nat)) (q : IfaceReq) : Option (Nat × Nat × Nat) :=
  match prov.find? fun p => p.1 == q.iface with
  | none => some (2, 0, 0)
  | some (_, lo, hi) => if lo ≤ q.level ∧ q.level ≤ hi then none else some (1, lo, hi)

/-- The first of some requirements that fails, with its cause and the range. -/
def firstUnmet (prov : List (Nat × Nat × Nat)) (qs : List IfaceReq) : Option (IfaceReq × Nat × Nat × Nat) :=
  qs.findSome? fun q => (unmet prov q).map fun u => (q, u)

/-- The VERSION_REFUSED event of an image, kept for FW_READ (21 R528, Table 21-9); `by_` is the providing kind. -/
def State.refuseImage (s : State) (kind idx level : Nat) (u : IfaceReq × Nat × Nat × Nat) (by_ : Nat) : State :=
  let need := u.1.iface + 256 * u.1.level
  let s := { s with fw := { s.fw with refused := tset s.fw.refused (256 * kind + idx) need } }
  s.event 0x11 u.2.1 (kind + 256 * idx + 65536 * level)
    (need + 65536 * u.2.2.1 + 16777216 * u.2.2.2 + 4294967296 * by_)

/-! ### The image area (08 R199, R213) -/

/-- A row's control range records the image, with no unflushed extent in the image area. -/
def State.areaMatches (s : State) (r : Nat) (m : HiveImg) : Bool :=
  (s.row r).image == some (m.id, m.crc) && (s.row r).unflushed.all fun e => decide (262144 ≤ e)

/-- Write an image into a row's image area with full line writes; the area lists no unflushed extent then. -/
def State.writeArea (s : State) (r base : Nat) (m : HiveImg) : State :=
  (s.writeStore r base (m.bytes ++ List.replicate ((64 - m.bytes.length % 64) % 64) 0)).2.modRow r fun v =>
    { v with image := some (m.id, m.crc), unflushed := v.unflushed.filter fun e => decide (262144 ≤ e) }

/-- The image the image areas are to hold: the running one, or the one a load brings (08 R199, R213). -/
def State.areaImage (s : State) : Option HiveImg := s.ep.image.or (s.ep.loading.map Loading.img)

/-- Bring a serving row's image area to that image (08 R199, R213). -/
def State.checkArea (s : State) (r : Nat) : State :=
  match s.areaImage with
  | none => s
  | some m => if s.areaMatches r m then s else s.writeArea r s.store.imageBase m

/-! ### BUNDLE_A of the wafer map (05 Table 5-9) -/

/-- BUNDLE_A of a super: 0 up, 1 down, 2 no store configured for the row. -/
def State.bundleA (s : State) (p : Nat) : Nat :=
  let v := s.row (p / 8)
  if v.config = 0 then 2 else if v.up.contains (p % 8) && !v.held then 0 else 1

/-- Act, and count a change of the wafer map where a bundle's code changed (05 R140). -/
def State.mapped (s : State) (f : State → State) : State :=
  let t := f s
  if (List.range 64).map t.bundleA = (List.range 64).map s.bundleA then t else t.mapChanged

/-! ### Rows that serve (08 R202, R204, R207, R211, R215) -/

/-- At-load reads not delivered are issued again as their row serves (08 R202, R213; log entry 57). -/
def State.readAgain (s : State) (r : Nat) : State :=
  let due := s.store.unread.filter fun k => ((s.resEntry k).map fun e => s.resSuper e / 8) == some r
  due.foldl (fun s k => { s with store := { s.store with unread := s.store.unread.erase k } }.issueTransfer k) s

/-- A row's bundles are held down: each that was up makes its event; `gone`: they also lose their training. -/
def State.holdRow (s : State) (r : Nat) (gone : Bool) : State :=
  let s := (s.row r).up.foldl (fun s x => s.event 8 1 (8 * r + x) 0) s
  s.modRow r fun v => { v with held := true, up := if gone then [] else v.up, serialSet := v.serialSet && !gone }

/-- While the mirror link is down, the row beside a serving one that does not serve is held down (08 R206). -/
def State.holdPartner (s : State) (r : Nat) : State :=
  match s.partner r with
  | none => s
  | some p =>
    if !(s.row r).mirrorUp && (s.row r).serving && ((s.row p).st == RowState.checking || (s.row p).st == RowState.resync) then
      (s.rowLeaves p .down).holdRow p true
    else s

/-- A row enters SERVING (08 R207, R211, R213, R215). -/
def State.serveRow (s : State) (r : Nat) : State :=
  let s := s.modRow r fun v => { v with st := .serving }
  let s := (s.row r).up.foldl (fun s x => s.event 9 0 (8 * r + x) 0) s
  let s := (s.row r).ueDue.foldl (fun s e => s.event 6 1 r (1048576 * e)) s
  let s := s.modRow r fun v => { v with ueDue := [] }
  let alone := match s.partner r with
    | some p => !(s.row p).serving
    | none => false
  let s := if alone then s.serveAlone r else s
  (((s.checkArea r).readAgain r).holdPartner r).updatePairs.evalCapacity

/-! ### Bundles (06 R157, 08 R211, 22 R554) -/

/-- BUNDLE_LINK_LOST: a bundle A goes down; with the last of its row the row does (08 R211). -/
def execBundleLinkLost (x : At) (sup : Nat) (s : State) : Host.Outcome State Fault Refusal :=
  let s := s.enter x
  .next (s.mapped fun s => if !(s.row (sup / 8)).up.contains (sup % 8) then s else (s.bundleDown sup).updatePairs.evalCapacity)

/-- A bundle is one the engine trains: a configured row, an unsealed super, from start-up step 10 on, not lost, not held. -/
def State.trains (s : State) (sup : Nat) : Bool :=
  let v := s.row (sup / 8)
  v.config != 0 && s.unsealed sup && decide (10 ≤ s.unit.step) && !bitAt s.summary.lostBundles sup && !v.held &&
    !v.up.contains (sup % 8)

/-- BUNDLE_RETRY_TIMER: a retry that fails while another bundle of the row is up counts; three in turn lose the bundle for
good, a seal event (06 R157, 01 R28). A retry that trains is followed by BUNDLE_TRAINED. -/
def execBundleRetryTimer (x : At) (sup : Nat) (trains : Bool) (s : State) : Host.Outcome State Fault Refusal :=
  let s := s.enter x
  .next (if !s.trains sup || trains then s
    else if (s.row (sup / 8)).up.isEmpty then
      { s with store := { s.store with retries := terase s.store.retries sup } }
    else
      let n := tgetD s.store.retries sup 0 + 1
      let s := { s with store := { s.store with retries := tset s.store.retries sup n } }.event 8 2 sup 0
      if n < 3 then s
      else
        let s := (s.modSummary fun m => { m with lostBundles := m.lostBundles ||| 2 ^ sup }).event 8 3 sup 0
        ((s.evalCapacity).evalReplace).sealEvent)

/-- The row must wait for its partner: the mirror link is down and the partner serves (08 R206). -/
def State.mirrorBars (s : State) (r : Nat) : Bool :=
  match s.partner r with
  | some p => !(s.row r).mirrorUp && (s.row p).serving
  | none => false

/-- BUNDLE_TRAINED: the link trains where its port and store serial are the row's; the first of a row sets the serial and
takes the row to CHECKING (08 R211, 22 R554). -/
def execBundleTrained (x : At) (sup serial linkPort : Nat) (s : State) : Host.Outcome State Fault Refusal :=
  let s := s.enter x
  let r := sup / 8
  .next (s.mapped fun s => if !s.trains sup then s
    else if s.mirrorBars r then s.modRow r fun v => { v with held := true }
    else if linkPort ≠ sup % 8 ∨ ((s.row r).serialSet ∧ (s.row r).serial ≠ serial) then
      if s.store.miscabled.contains sup then s
      else { s with store := { s.store with miscabled := sins s.store.miscabled sup } }.event 8 1 sup 0
    else
      let s := { s with store := { s.store with
        miscabled := s.store.miscabled.erase sup, retries := terase s.store.retries sup } }
      let s := s.modRow r fun v => { v with
        up := sins v.up (sup % 8), serial := serial, serialSet := true, st := if v.st = .down then .checking else v.st }
      s.evalCapacity)

/-! ### Store reports (08 R207, R211, R215, R216) -/

/-- Restore the extents a store could not flush as poisoned lines (08 R215). -/
def State.poisonExtents (s : State) (r : Nat) (es : List Nat) : State :=
  es.foldl (fun s e => (List.range 16384).foldl (fun s i =>
    let a := 1048576 * e + 64 * i
    let d := (s.line r a).take 64
    s.putLine1 r a (flipCheck (d ++ rsCheck d))) s) s

/-- A store has restored its content: the extents it could not flush stand as poisoned lines and are listed, and its next entry
into SERVING makes their events (08 R215). -/
def State.restoreRow (s : State) (r : Nat) (es : List Nat) : State :=
  (s.poisonExtents r es).modRow r fun v => { v with unflushed := es, ueDue := es, restored := es.length }

/-- STORE_READY: the store's levels are checked; it serves, copies from its partner, or is refused (08 R211, R216, 21
R527). -/
def execStoreReady (x : At) (row : Nat) (rep : StoreReport) (s : State) : Host.Outcome State Fault Refusal :=
  let s := s.enter x
  .next (s.mapped fun s => if (s.row row).st ≠ .checking then s
    else
      let s := s.modRow row fun v => { v with
        fwLevel := rep.fwLevel, mirrorGen := rep.mirrorGen, image := rep.image, solo := none, extents := [] }
      let s := if rep.restored then s.restoreRow row rep.unflushed else s
      let qs := ((s.fw.bootImg.map FwImage.reqs).getD []).filter fun q => q.iface == 9 || q.iface == 10
      match firstUnmet rep.prov qs with
      | some u => ((s.refuseImage 3 row rep.fwLevel u 3).holdRow row false).rowLeaves row .refused |>.evalCapacity
      | none =>
        let s := { s with fw := { s.fw with refused := terase s.fw.refused (768 + row) } }
        match s.partner row with
        | some p =>
          if (s.row p).serving then (s.modRow row fun v => { v with st := .resync }).updatePairs.evalCapacity
          else s.serveRow row
        | none => s.serveRow row)

/-- The extents a copy to a returning row covers; none: the whole store but its control range (08 R207). -/
def State.copyExtents (s : State) (r p : Nat) : Option (List Nat) :=
  if (s.row p).solo = some (s.row r).mirrorGen then some (sinsAll (s.row p).extents (s.row r).unflushed) else none

/-- Copy a line of store `p` into store `r` by a full line write: the data a read of it gives, with fresh check symbols. One
that reads uncorrectable is poisoned in both, and listed while the list has room (08 R207, R210; log entry 57). -/
def State.copyLine (s : State) (r p a : Nat) : State :=
  let v := s.readLine p a
  if v.1.1 = stUE then
    (v.2.putLine1 r a (v.2.line p a)).modRow r fun v =>
      { v with poisoned := if v.poisoned.length < 65536 then sins v.poisoned a else v.poisoned }
  else v.2.putLine1 r a (v.1.2 ++ rsCheck v.1.2)

/-- Copy lines of store `p` into store `r` (08 R207); a line of which nothing is listed holds 0. -/
def State.copyLines (s : State) (r p : Nat) (inside : Nat → Bool) : State :=
  let n := 72 * 68719476736
  let held := fun (q : Nat) (c : Host.Cell) => decide (lineAt q 0 ≤ c.1) && decide (c.1 < lineAt q 0 + n) &&
    inside ((c.1 - lineAt q 0) / 72 * 64)
  let lines := (s.mem.filter (held p)).foldl (fun l c => sins l ((c.1 - lineAt p 0) / 72 * 64)) []
  lines.foldl (fun s a => s.copyLine r p a) { s with mem := s.mem.filter fun c => !held r c }

/-- MIRROR_COPY_COMPLETE: the copy is whole, and the partner row serves (08 R207). Full writes clear listed poison (R210). -/
def execMirrorCopyComplete (x : At) (row : Nat) (s : State) : Host.Outcome State Fault Refusal :=
  let s := s.enter x
  .next (s.mapped fun s => match s.partner row with
    | none => s
    | some p =>
      if (s.row row).st ≠ .resync ∨ !(s.row p).serving then s
      else
        let ext := s.copyExtents row p
        let inside := fun (a : Nat) => decide (a < 0x3FFC0000000) && (match ext with
          | some es => es.contains (a / 1048576)
          | none => true)
        let clear := (s.row row).poisoned.filter inside
        let s := s.modRow row fun v => { v with poisoned := v.poisoned.filter fun a => !inside a }
        let s := (clear.foldl (fun s a => s.event 7 1 row a) s).copyLines row p inside
        let gen := (s.row p).mirrorGen
        let image := (s.row p).image
        let s := s.modRow row fun v => { v with mirrorGen := gen, image := image, unflushed := [] }
        (s.modRow p fun v => { v with solo := none, extents := [] }).serveRow row)

/-- Set the mirror link of a pair. -/
def State.setMirror (s : State) (r : Nat) (up : Bool) : State :=
  [r % 4, r % 4 + 4].foldl (fun s q => s.modRow q fun v => { v with mirrorUp := up }) s

/-- MIRROR_LINK_LOST: one row goes on serving, the other is held down (08 R206). -/
def execMirrorLinkLost (x : At) (row : Nat) (s : State) : Host.Outcome State Fault Refusal :=
  let s := s.enter x
  let k := row % 4
  .next (s.mapped fun s => if (s.row k).config ≠ 2 ∨ !(s.row k).mirrorUp then s
    else
      let s := s.setMirror k false
      let s := if (s.row k).serving && (s.row (k + 4)).serving then (s.holdRow (k + 4) true).rowLeaves (k + 4) .down
        else [k, k + 4].foldl (fun s r => s.holdPartner r) s
      let s := [k, k + 4].foldl (fun s r =>
        if (s.row r).st = .resync then (s.holdRow r true).rowLeaves r .down else s) s
      s.updatePairs.evalCapacity)

/-- MIRROR_LINK_UP: the held row's bundles may train again (08 R206). -/
def execMirrorLinkUp (x : At) (row : Nat) (s : State) : Host.Outcome State Fault Refusal :=
  let s := s.enter x
  let k := row % 4
  .next (s.mapped fun s => if (s.row k).config ≠ 2 then s
    else
      let s := s.setMirror k true
      [k, k + 4].foldl (fun s r =>
        if (s.row r).held && (s.row r).st == RowState.down then s.modRow r fun v => { v with held := false } else s) s)

/-! ### STORE_READ (08 R218) -/

/-- A store status record (Table 8-4). -/
def State.storeRec (s : State) (r : Nat) : Bytes :=
  let v := s.row r
  let home := v.serving && (match s.partner r with
    | some p => !(s.row p).serving
    | none => true)
  let same := match s.ep.image with
    | some m => v.image == some (m.id, m.crc)
    | none => false
  toLE 1 r ++ toLE 1 v.config ++ toLE 1 v.st.code ++ toLE 1 (if v.held then 0 else maskOf 8 v.up) ++
    toLE 1 ((s.partner r).getD 255) ++ toLE 1 (b2n home + 2 * b2n v.mirrorUp + 4 * b2n same) ++ toLE 2 v.fwLevel ++
    toLE 8 v.serial ++ toLE 4 v.mirrorGen ++ toLE 4 v.restored ++ toLE 8 0

/-- STORE_READ: the eight records at one tick. -/
def execStoreRead (x : At) (qp tag : Nat) (_data : Option Bytes) (s : State) : Host.Outcome State Fault Refusal :=
  .next (s.run x qp tag 0x0103 fun s c => s.complete c.qp c.tag stOK 0 (catB ((List.range 8).map s.storeRec)))

end Sys2Proof.Machine
end

