-- ==== Sys2Proof/Machine/Img.lean ====
section
/-! DEFINITION. The hive image format and the checks of 02 R55 step 1 (02 Tables 2-4 to 2-7, 03 R84, 07 R191, R192, 08
R198, R217, 13 Table 13-2, 14 R372, 15 R398, 20 R514, 21 R534, R535), and the comparison of two images' regions (19
R489). No check is made that R55 or the section's own chapter does not name; what a section's counts name beyond its end
reads 0 (log entry 25). -/

namespace Sys2Proof.Machine

/-! ### Header and section table (02 R52) -/

/-- A section: type, CRC, offset, length. -/
structure Section where
  typ : Nat
  crc : Nat
  off : Nat
  len : Nat
deriving DecidableEq, Repr

/-- The sections of the table (Table 2-5). -/
def sectionsOf (b : Bytes) : List Section :=
  (List.range (fieldN b 16 2)).map fun i =>
    let e := sliceB b (64 + 24 * i) 24
    { typ := fieldN e 0 2, crc := fieldN e 4 4, off := fieldN e 8 8, len := fieldN e 16 8 }

/-- Two byte ranges do not overlap. -/
def apart (a m b n : Nat) : Bool := decide (a + m ≤ b) || decide (b + n ≤ a) || m == 0 || n == 0

/-- The header and the section table hold (R55 step 1, R54 for the types). -/
def imageHeadOk (b : Bytes) : Bool :=
  let secs := sectionsOf b
  let n := fieldN b 16 2
  let types := secs.map Section.typ
  let known := [0x0001, 0x0002, 0x0010, 0x0011, 0x0012, 0x0013, 0x0020, 0x0030, 0x0031, 0x0040, 0x0041, 0x0042, 0x0043,
    0x0060, 0x0070, 0x0080, 0x0090, 0x7F00]
  decide (64 ≤ b.length) && fieldN b 0 4 == 0x56484B4C && fieldN b 4 1 == 2 && fieldN b 6 2 == 64 &&
    fieldN b 60 4 == crc32 (b.take 60) && fieldN b 8 8 == b.length && decide (b.length ≤ 274877906944) &&
    within 1 512 n && within 1 4 (fieldN b 18 1) && zeroIn b 19 5 && zeroIn b 44 16 &&
    decide (64 + 24 * n ≤ b.length) &&
    (List.range n).all (fun i => zeroIn b (64 + 24 * i + 2) 2) &&
    secs.all (fun c => c.off % 64 == 0 && decide (c.off + c.len ≤ b.length) && apart 0 (64 + 24 * n) c.off c.len &&
      c.crc == crc32 (sliceB b c.off c.len)) &&
    (List.range n).all (fun i => (List.range i).all fun j =>
      match secs[i]?, secs[j]? with
      | some x, some y => apart x.off x.len y.off y.len && x.typ != y.typ
      | _, _ => true) &&
    types.all (fun t => known.contains t || within 0x0050 0x005F t) &&
    [0x0001, 0x0020, 0x0070, 0x0090].all types.contains &&
    (List.range 4).all fun i => types.contains (0x0010 + i) == decide (i < fieldN b 18 1)

/-- The bytes of a section; none where the image has none of the type. -/
def sectionOf (b : Bytes) (t : Nat) : Option Bytes :=
  ((sectionsOf b).find? fun c => c.typ == t).map fun c => sliceB b c.off c.len

/-! ### Placements (02 R53, 14 R372) -/

/-- The logical supers of a placement section. -/
def parsePlacement (b : Bytes) : List LogReq :=
  (List.range (fieldN b 1 1)).map fun l =>
    let e := sliceB b (8 + 8 * l) 8
    { pinned := fieldN e 0 1 == 1, phys := fieldN e 1 1, cells := fieldN e 2 1, keepers := fieldN e 3 1,
      rowMask := fieldN e 4 1, storeBound := bitAt (fieldN e 5 1) 0 }

/-- A requirement block holds (Table 2-6). -/
def placementOk (b : Bytes) (i : Nat) : Bool :=
  let n := fieldN b 1 1
  decide (520 ≤ b.length) && fieldN b 0 1 == i && within 1 64 n && zeroIn b 2 6 &&
    (List.range 64).all fun l =>
      let e := sliceB b (8 + 8 * l) 8
      if l < n then
        within 1 2 (fieldN e 0 1) && (if fieldN e 0 1 = 1 then within 0 63 (fieldN e 1 1) else fieldN e 1 1 == 0) &&
          within 0 136 (fieldN e 2 1) && within 0 4 (fieldN e 3 1) && within 0 1 (fieldN e 5 1) && zeroIn e 6 2
      else zeroIn e 0 8

/-- The edge-checker part of a placement section, taken to follow the requirement block (R372; log entry 25): edge id by
slot 2,048 L + j. -/
def edgePart (b : Bytes) : List (Nat × Nat) :=
  if b.length < 520 + 524288 then []
  else (List.range 131072).filterMap fun k =>
    let id := fieldN b (520 + 4 * k) 4
    if id = 0xFFFFFFFF then none else some (k, id)

/-- Every edge of the image stands in one slot of a placement, of a logical super it has (02 R47). -/
def edgePartOk (part : List (Nat × Nat)) (logicals : Nat) (ids : List Nat) : Bool :=
  part.all (fun e => decide (e.1 / 2048 < logicals) && ids.contains e.2) &&
    ids.all fun id => (part.filter fun e => e.2 == id).length == 1

/-! ### The schedule section (03 R84) -/

/-- The reserved bits of ARG are zero (Table 3-2). -/
def argReserved (action arg : Nat) : Bool :=
  if action = 2 then decide (arg < 16) else if action = 3 then bitsOf arg 7 7 == 0 else decide (arg < 65536)

/-- An image entry passes R55 and R84: its reserved fields are zero, its action is 1 to 5, its stage one of the image. A LATE
policy of 3, which no table gives, fails too (log entry 25). -/
def imageEntryOk (e : Bytes) (stages : Nat) : Bool :=
  let act := fieldN e 2 1
  bitsOf (fieldN e 0 1) 7 6 == 0 && bitsOf (fieldN e 1 1) 7 3 == 0 && bitsOf (fieldN e 1 1) 2 1 != 3 &&
    bitsOf (fieldN e 3 1) 6 6 == 0 && zeroIn e 6 2 && (bitsOf (fieldN e 0 1) 5 4 != 0 || (zeroIn e 14 2 && zeroIn e 26 2)) &&
    within 1 5 act && argReserved act (fieldN e 28 4) && (act != 1 || decide (fieldN e 28 4 < stages))

/-- The reserved fields of a source definition are zero; a disabled one holds 0 throughout (R80). A KIND that Table 3-3 does
not give fails too (log entry 25). -/
def imageSourceOk (b : Bytes) : Bool :=
  zeroIn b 11 1 && zeroIn b 20 4 && zeroIn b 36 4 && bitsOf (fieldN b 10 1) 7 3 == 0 && within 0 4 (parseSource b).kind &&
    ((parseSource b).kind != 0 || zeroIn b 0 48)

/-- One placement's block from offset `off`: its entries by logical super, and the offset after it. -/
def schedBlock (b : Bytes) (off : Nat) : List (List Bytes) × Nat :=
  (List.range 64).foldl (fun acc l =>
    let n := fieldN b (off + 2 * l) 2
    (acc.1 ++ [(List.range n).map fun k => sliceB b (acc.2 + 32 * k) 32], acc.2 + 32 * n)) ([], off + 128)

/-- The blocks of all placements, and the offset after the last. -/
def schedBlocks (b : Bytes) (n : Nat) : List (List (List Bytes)) × Nat :=
  (List.range n).foldl (fun acc _ =>
    let r := schedBlock b acc.2
    (acc.1 ++ [r.1], r.2)) ([], 784)

/-- Section 0x0020 passes R55 and R84. -/
def schedSectionOk (b : Bytes) (placements stages : Nat) : Bool :=
  let r := schedBlocks b placements
  zeroIn b 3 13 && (List.range 16).all (fun i => imageSourceOk (sliceB b (16 + 48 * i) 48)) &&
    r.1.all fun p => p.all fun es => decide (es.length + fieldN b 2 1 ≤ 256) && es.all fun e => imageEntryOk e stages

/-! ### Levels and pairs (21 R534, R535) -/

/-- The required entries of section 0x0001. -/
def parseReqs (b : Bytes) (off n : Nat) : List IfaceReq :=
  (List.range n).map fun i => { iface := fieldN b (off + 4 * i) 1, level := fieldN b (off + 4 * i + 1) 1 }

/-- No interface is named twice. -/
def ifacesOnce (l : List Nat) : Bool := (List.range l.length).all fun i => !(l.take i).contains (l.getD i 0)

/-- Section 0x0001 holds. -/
def levelsOk (b : Bytes) : Bool :=
  let n := fieldN b 2 2
  let rs := parseReqs b 8 n
  zeroIn b 1 1 && zeroIn b 6 2 && allItems b 8 4 n (fun e => zeroIn e 2 2) && rs.all (fun r => within 7 8 r.iface) &&
    ifacesOnce (rs.map IfaceReq.iface)

/-- Tested-pair entries (Table 21-7). -/
def parsePairs (b : Bytes) (off n : Nat) : List PairEntry :=
  (List.range n).map fun i =>
    let e := sliceB b (off + 12 * i) 12
    { kind := fieldN e 0 1, maker := fieldN e 2 2, model := fieldN e 4 2, lo := fieldN e 6 2, hi := fieldN e 8 2 }

/-- A tested-pair entry is in its layout; kind 1 is invalid (R535). -/
def pairOk (e : Bytes) : Bool :=
  let k := fieldN e 0 1
  within 0 6 k && k != 1 && zeroIn e 1 1 && zeroIn e 10 2 && decide (fieldN e 6 2 ≤ fieldN e 8 2) &&
    (within 4 5 k || zeroIn e 2 4)

/-- The reserved fields of section 0x0002 are zero, and no entry is of kind 1. -/
def pairsSectionOk (b : Bytes) : Bool :=
  zeroIn b 1 1 && zeroIn b 4 4 &&
    allItems b 8 12 (fieldN b 2 2) fun e => zeroIn e 1 1 && zeroIn e 10 2 && fieldN e 0 1 != 1

/-! ### Residency, memory plan, blobs (08 R198, R217, 07 R191, R192) -/

/-- A residency entry passes the checks of R217 and keeps out of store control (R198). -/
def residencyOk (e : Bytes) : Bool :=
  within 0 6 (fieldN e 2 1) && within 0 3 (fieldN e 3 1) && zeroIn e 7 1 && fieldN e 8 8 % 64 == 0 && fieldN e 20 4 % 64 == 0 &&
    decide (fieldN e 8 8 + fieldN e 20 4 ≤ 0x3FFC0000000) && zeroIn e 28 4

/-- Section 0x0030 holds. -/
def residencySectionOk (b : Bytes) : Bool :=
  zeroIn b 1 3 && zeroIn b 8 8 && allItems b 16 32 (fieldN b 4 4) residencyOk

/-- The memory plan (Table 7-4). -/
def parsePlan (b : Bytes) : List Region :=
  (List.range (fieldN b 4 4)).map fun i =>
    let e := sliceB b (8 + 16 * i) 16
    { placement := fieldN e 0 1, lsuper := fieldN e 1 1, lcell := fieldN e 2 1, kind := fieldN e 3 1,
      offset := fieldN e 4 4, len := fieldN e 8 4, owner := fieldN e 12 2 }

/-- Section 0x0031 holds; the plan's other values are not checked (R191). -/
def planSectionOk (b : Bytes) : Bool :=
  zeroIn b 1 3 && allItems b 8 16 (fieldN b 4 4) fun e => within 0 6 (fieldN e 3 1) && zeroIn e 14 2

/-- The blobs of a section that stands at `base`: section, BLOB_ID, offset in the image, length, CRC (R192). -/
def parseBlobs (weights : Bool) (b : Bytes) (base : Nat) : List (Bool × Nat × Nat × Nat × Nat) :=
  (List.range (fieldN b 4 4)).map fun i =>
    let e := sliceB b (8 + 32 * i) 32
    (weights, fieldN e 0 2, base + fieldN e 8 8, fieldN e 16 8, fieldN e 24 4)

/-- The reserved fields of section 0x0040 or 0x0041 are zero. -/
def blobSectionOk (b : Bytes) : Bool :=
  zeroIn b 1 3 && allItems b 8 32 (fieldN b 4 4) fun e => zeroIn e 2 6 && zeroIn e 28 4

/-! ### Roadmaps (14 R372) -/

/-- Bytes of the node records, padded. -/
def nodeLen (n : Nat) : Nat := (24 * n + 63) / 64 * 64

/-- An edge record (Table 14-7). -/
def parseEdge (cls : Nat) (r : Bytes) : Edge :=
  { id := fieldN r 0 4, cls := cls, start := fieldN r 4 4, stop := fieldN r 8 4,
    knots := sliceB r 64 (16 * fieldN r 12 1), scale := fieldN r 13 1, threshold := fieldN r 14 2, ax := fieldN r 16 2,
    ay := fieldN r 18 2, az := fieldN r 20 2, cost := fieldN r 24 4, length := fieldN r 28 4,
    bitmap := sliceB r 576 4096 }

/-- The knots rise strictly from 0 and end at the edge's own length and time; unused slots are zero. -/
def knotsOk (r : Bytes) : Bool :=
  let k := fieldN r 12 1
  let s := fun (i : Nat) => fieldN r (64 + 16 * i) 4
  let t := fun (i : Nat) => fieldN r (64 + 16 * i + 12) 4
  s 0 == 0 && t 0 == 0 && (List.range (k - 1)).all (fun i => decide (s i < s (i + 1)) && decide (t i < t (i + 1))) &&
    s (k - 1) == fieldN r 28 4 && t (k - 1) == fieldN r 24 4 && zeroIn r (64 + 16 * k) (16 * (32 - k))

/-- An edge record is in its layout. -/
def edgeOk (r : Bytes) (nodes : Nat) : Bool :=
  decide (fieldN r 0 4 < 131072) && decide (fieldN r 4 4 < nodes) && decide (fieldN r 8 4 < nodes) &&
    within 2 32 (fieldN r 12 1) && within 0 1 (fieldN r 13 1) && decide (1 ≤ fieldN r 14 2) && zeroIn r 22 2 &&
    zeroIn r 32 32 && knotsOk r

/-- A heading lies in (−π, π]. -/
def headingOk (h : F32) : Bool := fLt (fNeg fPi) h && fLe h fPi

/-- Section 0x0050 + c holds. -/
def roadmapOk (b : Bytes) (c : Nat) : Bool :=
  let n := fieldN b 4 4
  let e := fieldN b 8 4
  fieldN b 0 1 == 1 && fieldN b 1 1 == c && zeroIn b 2 2 && within 1 1048576 n && within 0 131072 e &&
    within 1 64 (fieldN b 20 1) && zeroIn b 21 11 && b.length == 32 + nodeLen n + 4672 * e &&
    (List.range n).all (fun i =>
      let r := sliceB b (32 + 24 * i) 24
      fieldN r 0 4 == i && headingOk (BitVec.ofNat 32 (fieldN r 16 4)) && zeroIn r 20 4) &&
    zeroIn b (32 + 24 * n) (nodeLen n - 24 * n) && allItems b (32 + nodeLen n) 4672 e fun r => edgeOk r n

/-- A class's roadmap. -/
def parseRoadmap (b : Bytes) (c : Nat) : Roadmap :=
  let n := fieldN b 4 4
  let nodes := (List.range n).map fun i => sliceB b (32 + 24 * i + 4) 16
  let edges := (List.range (fieldN b 8 4)).map fun i => parseEdge c (sliceB b (32 + nodeLen n + 4672 * i) 4672)
  { cls := c, maxSpeed := BitVec.ofNat 32 (fieldN b 12 4), radius := fieldN b 20 1, nodes := nodes, edges := edges }

/-- The roadmaps of an image. -/
def parseRoadmaps (b : Bytes) : List Roadmap :=
  (List.range 16).filterMap fun c => (sectionOf b (0x0050 + c)).map fun r => parseRoadmap r c

/-- Edge ids of some roadmaps. -/
def edgeIds (l : List Roadmap) : List Nat := (l.map fun r => r.edges.map Edge.id).flatten

/-! ### Formulas, layouts, modes (20 R514, 15 R398, 02) -/

/-- Section 0x0070 holds; its values are not used. -/
def formulasOk (b : Bytes) : Bool :=
  zeroIn b 2 2 && zeroIn b 8 8 && allItems b 16 48 (fieldN b 4 4) fun r =>
    within 1 17 (fieldN r 0 2) && zeroIn r 33 1 && zeroIn r 36 12

/-- A head record is in its layout (15 Table 15-6). -/
def headOk (r : Bytes) : Bool :=
  let ha := fieldN r 2 2
  let va := fieldN r 4 2
  let k := fieldN r 28 1
  within 0 7 (fieldN r 0 1) && zeroIn r 1 1 && within 640 3840 ha && within 480 2160 va && decide (ha < fieldN r 6 2) &&
    decide (va < fieldN r 8 2) && zeroIn r 18 2 && within 25000 600000 (fieldN r 20 4) && zeroIn r 27 1 && within 0 3 k &&
    zeroIn r 44 20 &&
    (k == 0 || (within 1 8 (fieldN r 29 1) && fieldN r 32 8 % 4096 == 0 && fieldN r 40 4 % 4096 == 0 &&
      decide (4096 + 4 * ha * va ≤ fieldN r 40 4))) &&
    (k != 2 || within 0 7 (fieldN r 30 2)) && (k != 3 || within 0 1 (fieldN r 30 2))

/-- Section 0x0080 holds. -/
def layoutsOk (b : Bytes) : Bool :=
  b.length == 16 + 2 * 64 + 32 * 64 && fieldN b 0 1 == 1 && zeroIn b 1 15 && allItems b 16 64 2 headOk &&
    allItems b 144 64 32 layerDescOk

/-- The layouts of section 0x0080. -/
def parseLayouts (b : Bytes) : Layouts :=
  { heads := (List.range 2).map fun h => sliceB b (16 + 64 * h) 64
    layers := (List.range 32).map fun l => sliceB b (144 + 64 * l) 64 }

/-- The reserved bytes of section 0x0090 are zero (02). -/
def modesOk (b : Bytes) : Bool := zeroIn b 11 5

/-- An optional section, where present, holds. -/
def optOk (b : Bytes) (t : Nat) (ok : Bytes → Bool) : Bool :=
  match sectionOf b t with
  | some c => ok c
  | none => true

/-- The engine descriptors of the stages are in their layouts, for an image with `n` regions (11 R293, 12 R318); a network stage
marked as a matching stage has a match job's (log entry 60). -/
def stageDescsOk (n : Nat) (sd : SiteDesc) : Bool :=
  sd.stages.all fun d =>
    let ve := veOk n (d.rect.map fun r => (r.2.2.1, r.2.2.2))
    match d.kind with
    | .veJob => d.descs.all ve
    | .network => d.descs.all fun b => ve b && fieldN b 0 1 == 2
    | .tfePredict => d.descs.all (tfeOk 0 n)
    | .tfeUpdate => d.descs.all (tfeOk 1 n)
    | _ => true

/-! ### The whole image -/

/-- Every check of R55 step 1. -/
def imageOk (b : Bytes) (sd : SiteDesc) : Bool :=
  let n := fieldN b 18 1
  let sec := fun (t : Nat) => (sectionOf b t).getD []
  let ids := edgeIds (parseRoadmaps b)
  imageHeadOk b && (List.range n).all (fun i => placementOk (sec (0x0010 + i)) i) && schedSectionOk (sec 0x0020) n sd.stages.length &&
    levelsOk (sec 0x0001) && formulasOk (sec 0x0070) && modesOk (sec 0x0090) && optOk b 0x0002 pairsSectionOk &&
    optOk b 0x0030 residencySectionOk && optOk b 0x0031 planSectionOk && optOk b 0x0040 blobSectionOk &&
    optOk b 0x0041 blobSectionOk && optOk b 0x0060 bookOk && optOk b 0x0080 layoutsOk &&
    (List.range 16).all (fun c => optOk b (0x0050 + c) fun r => roadmapOk r c) && ifacesOnce ids &&
    (List.range n).all (fun i => edgePartOk (edgePart (sec (0x0010 + i))) (fieldN (sec (0x0010 + i)) 1 1) ids) &&
    stageDescsOk (fieldN (sec 0x0031) 4 4) sd

/-- A presented image, where every check of R55 step 1 holds. -/
def parseImage (b : Bytes) (sd : SiteDesc) : Option HiveImg :=
  if imageOk b sd then
    let n := fieldN b 18 1
    let sec := fun (t : Nat) => (sectionOf b t).getD []
    let sch := sec 0x0020
    let lev := sec 0x0001
    let prs := sec 0x0002
    let res := sec 0x0030
    let entries := (schedBlocks sch n).1.map fun p => p.map fun es => es.map parseEntry
    let modes := (List.range 11).map fun i => fieldN (sec 0x0090) i 1 == 1
    let blobs := [0x0040, 0x0041].map fun t =>
      match (sectionsOf b).find? fun c => c.typ == t with
      | some c => parseBlobs (t == 0x0040) (sec t) c.off
      | none => []
    let slots := (List.range n).map fun i => edgePart (sec (0x0010 + i))
    let placements := (List.range n).map fun i => parsePlacement (sec (0x0010 + i))
    some
      { id := sliceB b 24 16, len := b.length, crc := fieldN b 60 4, formatLevel := fieldN b 5 1, bMig := fieldN b 40 4,
        placements := placements, hostEntries := fieldN sch 2 1,
        sources := (List.range 16).map (fun i => parseSource (sliceB sch (16 + 48 * i) 48)), entries := entries,
        reqs := parseReqs lev 8 (fieldN lev 2 2), gebetex := fieldN lev 4 2, pairs := parsePairs prs 8 (fieldN prs 2 2),
        modes := modes, site := sd, plan := parsePlan (sec 0x0031), codebook := sectionOf b 0x0060,
        roadmaps := parseRoadmaps b, slots := slots, layouts := (sectionOf b 0x0080).map parseLayouts,
        residency := (List.range (fieldN res 4 4)).map (fun i => sliceB res (16 + 32 * i) 32), bytes := b,
        blobs := blobs.flatten }
  else none

/-! ### Step 2: interface levels (21 R527, R528) -/

/-- The first interface requirement the running firmware and microcode do not meet, with the kind that should provide it
(log entry 25): 6 and 8 Keeper firmware, 7 cell microcode. -/
def State.imageUnmet (s : State) (m : HiveImg) : Option ((IfaceReq × Nat × Nat × Nat) × Nat) :=
  let prov := fun (i : Option FwImage) => ((i.map FwImage.prov).getD []).map fun p => (p.iface, p.lo, p.hi)
  ({ iface := 6, level := m.formatLevel } :: m.reqs).findSome? fun q =>
    let micro := q.iface == 7
    (unmet (prov (if micro then s.fw.microRun else s.fw.bootImg)) q).map fun u =>
      ((q, u), if micro then 2 else s.fw.booted.getD 0)

/-- The VERSION_REFUSED event of a presented image (21 R528). -/
def State.refuseHive (s : State) (m : HiveImg) (u : (IfaceReq × Nat × Nat × Nat) × Nat) : State :=
  s.event 0x11 u.1.2.1 (6 + 65536 * m.gebetex)
    (u.1.1.iface + 256 * u.1.1.level + 65536 * u.1.2.2.1 + 16777216 * u.1.2.2.2 + 4294967296 * u.2)

/-! ### What a replacement keeps (19 R489) -/

/-- CRC of the blob that fills a region. -/
def HiveImg.fillCrc (m : HiveImg) (r : Nat) : Option Nat :=
  (m.site.fills.find? fun e => e.1 == r).bind fun e =>
    (m.blobs.find? fun b => b.1 == e.2.1 && b.2.1 == e.2.2.1).map fun b => b.2.2.2.2

/-- A region of a new image stands as the old one left it: the same cell under the new binding, the same kind, place and
blob (R489). -/
def sameRegion (old new : HiveImg) (oldPl : Nat) (oldB newB : List Nat) (r : Nat) : Bool :=
  match new.plan[r]? with
  | none => false
  | some e => (List.range old.plan.length).any fun k => match old.plan[k]? with
    | none => false
    | some o => o.placement == oldPl && oldB.getD o.lsuper 64 == newB.getD e.lsuper 64 && o.lcell == e.lcell &&
        o.kind == e.kind && o.offset == e.offset && o.len == e.len && old.fillCrc k == new.fillCrc r &&
        (new.fillCrc r).isSome

end Sys2Proof.Machine
end

