-- ==== Sys2Proof/Machine/Install.lean ====
section
/-! DEFINITION. An image comes into use: the commit that arms a loaded image, and the commit of a replacement (02 R42; 03 R74,
R84; 07 R190; 08 R199, R200; 12 R296, R313; 13 R336; 14 R354, R366, R368; 15 R398; 16 R404, R406, R421; 19 R474, R481,
R485 to R490). -/

namespace Sys2Proof.Machine

/-! ### The epoch (19 R474, R477, R481) -/

/-- The number of the next commit. -/
def State.nextEpoch (s : State) : Nat := if s.ep.epoch = 4294967295 then 1 else s.ep.epoch + 1

/-- A commit takes effect: the epoch moves on, and ARG of an armed host commit with it. -/
def State.bumpEpoch (s : State) : State :=
  let s := { s with ep := { s.ep with epoch := s.nextEpoch, commitTick := some s.time.tick } }
  match s.ep.armed with
  | none => s
  | some a =>
    let fix := fun (e : Nat × Entry) =>
      if e.1 = a.entry ∧ e.2.action = 6 ∧ a.eff.isNone then (e.1, { e.2 with arg := s.nextEpoch }) else e
    { s with sched := { s.sched with entries := s.sched.entries.map fix } }

/-- The rolling part of a commit begins; `from_` is the epoch in force just before it. -/
def State.startRolling (s : State) (from_ : Nat) (parts : List RollPart) : State :=
  if parts.isEmpty then s
  else
    let unfilled := parts.filterMap fun p => match p with
      | .region r => some r
      | _ => none
    { s with
      ep := { s.ep with rolling := some { fromEpoch := from_, since := s.time.tick, parts := parts } }
      stg := { s.stg with unfilled := unfilled } }

/-! ### Single items -/

/-- A source definition takes effect: a changed source starts again (03 R60, 19 Table 19-1). -/
def State.commitSource (s : State) (i : Nat) (d : SourceDef) : State :=
  if (s.source i).defn = d then s else s.modSource i fun _ => d.start s.time.tick s.time.localC

/-- A function mode takes effect, with what its change brings (04 R110, 10 R270, 16 R424). -/
def State.commitMode (s : State) (f : Nat) (ha : Bool) : State :=
  if s.ha f = ha then s
  else
    let s := { s with ep := { s.ep with modes := lmod s.ep.modes f fun _ => ha } }
    match f with
    | 0 => if ha then s else
      let fresh := fun (v : Servo) => { v with offsets := [], last := none }
      { s with time := { s.time with servoA := fresh s.time.servoA, servoB := fresh s.time.servoB } }
    | 2 => if ha then s else s.identityToDevice
    | 10 => s.clearPoses
    | _ => s

/-- The shards planned get a record of their generation. -/
def State.planShards (s : State) (gen : Nat) : State :=
  s.shardPlans.foldl (fun s d =>
    if (tget s.place.shards d.shard).isSome then s
    else s.setShard d.shard { gen := gen, count := 0, shadowDone := false, alt := false }) s

/-- The planned shards not of a generation, as parts of a migration (13 R336). -/
def State.shardParts (s : State) (gen : Nat) : List RollPart :=
  (s.shardPlans.filter fun d => (s.shard d.shard).gen != gen).map fun d => .shard d.shard

/-- A codebook takes effect: the migration of the planned shards to it begins (13 R335, R336, 19 R485). -/
def State.commitBook (s : State) (b : Bytes) : List RollPart × State :=
  let g := bookGen b
  let old := s.liveBooks.find? fun c => bookGen c != g
  let s := s.planShards ((old.map bookGen).getD g)
  let parts := s.shardParts g
  if parts.isEmpty then ([], { s with place := { s.place with book := some b, next := none } })
  else (parts, { s with place := { s.place with book := old, next := some b } })

/-- Host sources of a set feed their modules' sources in host-assisted identity (10 R270). -/
def State.noteSources (s : State) (is : List Nat) : State :=
  let fix := fun (e : Nat × Attach) => if e.2.ha then (e.1, { e.2 with hostSources := sinsAll e.2.hostSources is }) else e
  { s with link := { s.link with attach := s.link.attach.map fix } }

/-- The atomic items of a set, but for its image (19 Table 19-1). -/
def State.commitItems (s : State) (t : StagedSet) : State :=
  let xf := t.xforms.foldl (fun l (e : Nat × Bytes) => tset l e.1 e.2) s.xforms
  let s := { s with xforms := xf }
  let s := (t.sources.foldl (fun s e => s.commitSource e.1 e.2) s).noteSources (t.sources.map Prod.fst)
  let s := t.gates.foldl (fun s e => s.commitGate e.1 e.2) s
  t.modes.foldl (fun s e => s.commitMode e.1 e.2) s

/-! ### Parts of an image -/

/-- The configuration of the rows (08 R195); a row made absent goes dark, each bundle with its event (08 R211). -/
def State.configRows (s : State) (cfg : List Nat) : State :=
  (List.range 8).foldl (fun s r =>
    let c := cfg.getD r 0
    let v := s.row r
    if v.config = c then s
    else if c = 0 then
      let s := if v.held then s else v.up.foldl (fun s x => s.event 8 1 (8 * r + x) 0) s
      (s.rowLeaves r .notConfigured).modRow r fun v => { v with config := 0, up := [], held := false }
    else s.modRow r fun v => { v with config := c, st := if v.config = 0 then .down else v.st }) s

/-- The `time` key takes effect (04 R87, 21 R519): a domain that follows another PTP domain or port starts its servo
again, and PPS_OUT falls where the domain it is cut to is not valid (R111). -/
def State.loadTime (s : State) (t : TimeSettings) : State :=
  let o := s.time.settings
  let servoA := if o.ptpA = t.ptpA ∧ o.portA = t.portA ∧ o.asA = t.asA ∧ o.udpA = t.udpA then s.time.servoA else Servo.blank
  let servoB := if o.ptpB = t.ptpB ∧ o.portB = t.portB ∧ o.asB = t.asB ∧ o.udpB = t.udpB then s.time.servoB else Servo.blank
  let free := t.refExternal && (s.time.refFree || !s.time.refPresent)
  let marked := if o.ppsDomain = t.ppsDomain then s.time.ppsMarked else none
  let s := { s with time := { s.time with
      settings := t, refFree := free, servoA := servoA, servoB := servoB, ppsMarked := marked } }
  (if s.ppsValid then s else s.ppsLow).checkAuto

/-- The image's edge inputs (04 R105): those of an earlier image are released. -/
def State.takeInputs (s : State) (m : HiveImg) : State :=
  let free := s.cap.inputs.map fun e => if e.2.owner = some .image then (e.1, { e.2 with owner := none, edges := 0 }) else e
  m.site.inputs.foldl (fun s e =>
    s.setCapIn e.1 { owner := some .image, edges := e.2, seq := 0, last := none, missed := 0 })
    { s with cap := { s.cap with inputs := free } }

/-- The link and agent buffers the image fills (09 R236, 16 R421). -/
def State.fillBufs (s : State) (m : HiveImg) : State :=
  let link := m.site.linkBufs.foldl (fun l (e : Nat × Nat × Bytes) => tset l e.1 { port := e.2.1, frame := e.2.2 }) s.link.bufs
  let old := s.agent.bufs.map fun e => (e.1, { e.2 with image := false })
  let bufs := m.site.agentBufs.foldl (fun l (e : Nat × Nat × Nat × Bytes) =>
    tset l e.1 { port := e.2.1, queue := e.2.2.1, frame := e.2.2.2, image := true }) old
  { s with link := { s.link with bufs := link }, agent := { s.agent with bufs := bufs } }

/-- Entries 2,304 to 4,095 of the transform table take the image's values (12 R296). -/
def State.loadXforms (s : State) (m : HiveImg) : State :=
  { s with xforms := m.site.xforms.foldl (fun l e => tset l e.1 e.2) (s.xforms.filter fun e => decide (e.1 < 2304)) }

/-- A gate control list of the image (16 R404). -/
def gateOf (t : TsnList) : GateList := { baseDom := t.dom, base := t.base, items := t.items }

/-- The image's gate control lists, but those an image it replaces gave alike. -/
def State.loadGates (s : State) (m : HiveImg) (old : Option HiveImg) : State :=
  (m.site.tsn.filter fun t => !((old.map fun (o : HiveImg) => o.site.tsn).getD []).contains t).foldl
    (fun s t => s.commitGate t.port (gateOf t)) s

/-- A layer's descriptor in an image. -/
def HiveImg.layer (m : HiveImg) (h l : Nat) : Bytes :=
  ((m.layouts.map Layouts.layers).getD []).getD (16 * h + l) (List.replicate 64 0)

/-- The descriptors of a loaded image become the active ones (15 R398); FRAME_SEQ counts since the load (Table 15-4). -/
def State.loadLayouts (s : State) (m : HiveImg) : State :=
  (List.range 32).foldl (fun s k => s.modLayer (k / 16) (k % 16) fun _ => { Layer.blank with
    active := m.layer (k / 16) (k % 16), pend := m.layer (k / 16) (k % 16), epoch := s.ep.epoch, host := s.ha 8 })
    ((List.range 2).foldl (fun s h => s.modHead h fun v => { v with frameSeq := 0 }) s)

/-- Where a region stands: super, logical cell, kind, offset, length. -/
def HiveImg.spot (m : HiveImg) (b : List Nat) (r : Nat) : Option (Nat × Nat × Nat × Nat × Nat) :=
  m.plan[r]?.map fun e => (b.getD e.lsuper 64, e.lcell, e.kind, e.offset, e.len)

/-- The region of another placement or image that stands where region `r` stood. -/
def movedRegion (old new : HiveImg) (ob nb : List Nat) (p r : Nat) : Option Nat :=
  (List.range new.plan.length).find? fun k =>
    (new.plan[k]?.map Region.placement) == some p && (old.spot ob r).isSome && new.spot nb k == old.spot ob r

/-- What the layers show and the newest buffers, named by the regions in use from now on; a buffer that stands nowhere else
is shown no more. -/
def State.moveShown (s : State) (move : Nat → Option Nat) (keepNewest : Bool) : State :=
  let layer := fun (v : Layer) => { v with shown := { v.shown with region := v.shown.region.bind move } }
  let heads := s.comp.heads.map fun h => { h with layers := h.layers.map layer }
  let newest := if keepNewest then s.comp.newest.filterMap (fun e => (move e.2).map fun r => (e.1, r)) else []
  { s with comp := { s.comp with heads := heads, newest := newest } }

/-- A layout change is a commit of each changed layer (15 R398); the pending descriptor of any other becomes its active one,
but for one committed (15 R382). -/
def State.changeLayouts (s : State) (o m : HiveImg) : State :=
  let changed := (List.range 32).filter fun k => o.layer (k / 16) (k % 16) != m.layer (k / 16) (k % 16)
  if changed.isEmpty then s
  else (List.range 32).foldl (fun s k => s.modLayer (k / 16) (k % 16) fun v =>
    if changed.contains k then { v with pend := m.layer (k / 16) (k % 16), committed := true }
    else if v.committed then v
    else { v with pend := v.active }) s

/-- With a placement that does not compose no head sends a frame, and the commits that wait complete with NO_RESOURCE (15
R380). -/
def State.stopHeads (s : State) : State :=
  if s.composes then s
  else (List.range 32).foldl (fun s k =>
    let c := (s.layer (k / 16) (k % 16)).cmd
    let s := s.modHead (k / 16) fun v => { v with frame := none }
    (s.modLayer (k / 16) (k % 16) fun v => { v with committed := false, cmd := none }).completeOpt c stNoResource 0 []) s

/-! ### Roadmaps and edge slots (14 R354, R368, 19 Table 19-1, R486) -/

/-- The edges of an image. -/
def HiveImg.edges (m : HiveImg) : List Edge := (m.roadmaps.map Roadmap.edges).flatten

/-- The physical slot of an edge in the placement in use. -/
def State.slotNow (s : State) (id : Nat) : Option Nat := s.slotFor id s.ep.placement s.ep.binding

/-- The slots of a loaded image, counted before the load completes. -/
def State.loadEdges (s : State) (m : HiveImg) : State :=
  let s := { s with route := { s.route with granted := s.route.occupied, deltas := [], past := [], recs := [], bseq := 0 } }
  let slots := m.edges.foldl (fun t e =>
    let k := s.slotNow e.id
    tset t e.id { slot := k, edge := e, count := s.recount e, unknown := k.isNone, bad := false }) []
  { s with route := { s.route with slots := slots, routes := [], jobs := [] } }

/-- A slot holds an edge's content: bitmap, anchor, scale and threshold. -/
def EdgeSlot.keeps (o : EdgeSlot) (e : Edge) : Bool :=
  o.edge.bitmap == e.bitmap && o.edge.ax == e.ax && o.edge.ay == e.ay && o.edge.az == e.az && o.edge.scale == e.scale &&
    o.edge.threshold == e.threshold

/-- The supers of the slots a roadmap change changes: of new edges, of edges with other content, of removed ones. -/
def State.slotChanges (s : State) (es : List Edge) : List Nat :=
  let new := es.filterMap fun e =>
    let kept := match tget s.route.slots e.id with
      | some o => o.keeps e
      | none => false
    if kept then none else (s.slotNow e.id).map fun k => k / 2048
  let gone := s.route.slots.filterMap fun o =>
    if es.any (fun e => e.id == o.1) then none else o.2.slot.map fun k => k / 2048
  new ++ gone

/-- The slots of a replacement: kept edges keep their counts, the others are unknown until counted again; the parts where
the change rolls. -/
def State.changeEdges (s : State) (m : HiveImg) : List RollPart × State :=
  let ch := s.slotChanges m.edges
  let sups := ch.foldl sins []
  let count := fun (p : Nat) => (ch.filter fun q => q == p).length
  let roll := sups.any fun p => decide (64 < count p)
  let parts : List RollPart := if roll then sups.flatMap fun p => List.replicate ((count p + 63) / 64) (RollPart.slots p) else []
  let slots := m.edges.foldl (fun t e =>
    let k := s.slotNow e.id
    let blank : EdgeSlot := { slot := k, edge := e, count := 0, unknown := true, bad := false }
    tset t e.id (match tget s.route.slots e.id with
      | some o => if o.keeps e then { o with edge := e, slot := k } else blank
      | none => blank)) []
  (parts, { s with route := { s.route with slots := slots } })

/-- A batch of a super's changed slots is counted and switches, in ascending slot index (19 R486). -/
def State.applySlots (s : State) (p : Nat) : State :=
  let due := s.route.slots.foldl (fun t e => match s.slotNow e.1 with
    | some k => if e.2.unknown && k / 2048 == p then tset t k e.1 else t
    | none => t) []
  (due.take 64).foldl (fun s e => s.countSlot e.2 (some e.1)) s

/-- Routes that use a removed edge are planned whole again; in host-assisted mode they wait for the host (14 R368, Table
14-1). -/
def State.changeRoutes (s : State) (o : HiveImg) : State :=
  s.route.routes.foldl (fun s e =>
    let a := e.1
    let v := e.2
    let known := fun (id : Nat) => ((s.agentMap a).bind fun r => r.edge id).isSome
    let gone := v.edges.filter fun id => !known id
    let past := o.edges.foldl (fun t (x : Edge) => if gone.contains x.id then tset t x.id x else t) s.route.past
    match (v.edges.drop v.current).find? fun id => !known id with
    | none => s
    | some id =>
      if v.st = .idle then s
      else
        let s := { s with route := { s.route with past := past } }
        if s.ha 7 then
          (if v.st = .active ∧ v.hostWait.isNone then s.awaitHost a id else s)
        else s.addJob a (.full id) s.time.tick) s

/-! ### Agents and tracks (12 R312, 14 R366, 16 R406, 19 Table 19-2) -/

/-- An agent is kept: in both agent tables with the same class and track id (19 R490). -/
def keptAgent (o m : HiveImg) (a : Nat) : Bool :=
  match o.site.agents.find? fun d => d.id == a, m.site.agents.find? fun d => d.id == a with
  | some x, some y => x.cls == y.cls && x.track == y.track
  | _, _ => false

/-- A filter stage of the image in use covers an id with a model. -/
def State.covered (s : State) (id model : Nat) : Bool :=
  match s.ep.image with
  | none => false
  | some m => m.site.stages.any fun d =>
      let t := s.tfeDesc d
      (d.kind == StageKind.tfePredict || d.kind == StageKind.tfeUpdate) && t.ids.contains id && t.model == model

/-- Agent slots start as the image's agent table has them. -/
def State.startAgents (s : State) (m : HiveImg) (f : AgentDesc → Bool) : State :=
  (m.site.agents.filter f).foldl State.restartAgent s

/-- What the agents that are not kept leave: pose, binding, route. -/
def State.dropAgents (s : State) (kept : Nat → Bool) : State :=
  let s := s.route.jobs.foldl (fun s j => match j.what with
    | .goal _ _ q t => if kept j.agent then s else s.complete q t stBadState 0 []
    | _ => s) s
  { s with
    agent := { s.agent with
      bindings := s.agent.bindings.filter (fun e => kept e.1), cache := s.agent.cache.filter (fun e => kept e.1),
      seqs := s.agent.seqs.filter (fun e => kept (e.1 / 256)) }
    route := { s.route with
      routes := s.route.routes.filter (fun e => kept e.1), jobs := s.route.jobs.filter (fun j => kept j.agent) }
    stg := { s.stg with fusedPoses := s.stg.fusedPoses.filter fun e => kept e.1 } }

/-- Track slots over a replacement: `was` is the super of an id before it. -/
def State.changeTracks (s : State) (o m : HiveImg) (was : Nat → Nat) : State :=
  let keep := fun (id : Nat) (k : Track) => match k.agent with
    | some a => keptAgent o m a
    | none => was id == s.trackSuper id && s.covered id k.model
  let ts := s.stg.tracks.map fun e => if keep e.1 e.2 then e else (e.1, e.2.freed)
  ({ s with stg := { s.stg with tracks := ts } }.dropAgents (keptAgent o m)).startAgents m fun d => !keptAgent o m d.id

/-! ### Regions and residency (07 R190, 08 R200, 19 R489) -/

/-- A residency entry writes into a region. -/
def State.resIn (s : State) (e : ResEntry) (r : Nat) : Bool :=
  match s.region r with
  | some g => e.dest == 0 && g.lsuper == e.lsuper && g.lcell == e.lcell && decide (e.off < g.offset + g.len) &&
      decide (g.offset < e.off + e.len)
  | none => false

/-- The at-load entries of a region. -/
def State.loadsOf (s : State) (r : Nat) : List Nat := s.resIndices fun e => e.mode == 0 && s.resIn e r

/-- Carry out an at-load transfer where its row serves. -/
def State.loadNow (s : State) (k : Nat) : State :=
  match s.resEntry k with
  | some e => if (s.row (s.resSuper e / 8)).serving && s.unsealed (s.resSuper e) then s.transfer k else s
  | none => s

/-- The regions of the placement in use to be filled that an earlier image did not leave as they are, in the order of their
filling: by super, at-load residency, weights, stage programs. -/
def State.toFill (s : State) (m : HiveImg) (kept : Nat → Bool) : List Nat :=
  let cls := fun (r : Nat) => if !(s.loadsOf r).isEmpty then 0 else if (m.plan[r]?.map Region.kind) == some 0 then 1 else 2
  let rs := (s.regionsOf fun _ => true).filter fun r =>
    (m.site.fills.any (fun e => e.1 == r) || !(s.loadsOf r).isEmpty) && !kept r
  (List.range 64).flatMap fun p => [0, 1, 2].flatMap fun c => rs.filter fun r =>
    (m.plan[r]?.map fun e => s.ep.binding.getD e.lsuper 64) == some p && cls r == c

/-- Fill a region: its at-load transfers, its blob. -/
def State.applyRegion (s : State) (r : Nat) : State :=
  let s := ((s.loadsOf r).foldl State.loadNow s).fillRegions [r]
  { s with stg := { s.stg with unfilled := s.stg.unfilled.erase r } }

/-- Issue the at-load transfers that fill no region of the plan. -/
def State.issueLoads (s : State) : State :=
  let rs := s.regionsOf fun _ => true
  (s.resIndices fun e => e.mode == 0 && !rs.any (s.resIn e)).foldl State.issueTransfer s

/-! ### The commits -/

/-- Bytes of the whole lines an image fills. -/
def padLine (n : Nat) : Nat := (n + 63) / 64 * 64

/-- Where an image is staged while one runs: at the low or the high end of the image area, so that two images of together at
most 256 GiB, in whole lines, do not meet (19 R487; log entry 25). -/
def State.stageBase (s : State) (m : HiveImg) : Nat := if s.store.imageBase = 0 then 274877906944 - padLine m.len else 0

/-- The image, its placement and binding are those in use; what belonged to an earlier image's plan goes. -/
def State.putImage (s : State) (m : HiveImg) (p : Nat) (b : List Nat) : State :=
  { s with
    ep := { s.ep with image := some m, placement := p, binding := b, hostEntries := m.hostEntries }
    unit := { s.unit with noFit := false }
    store := { s.store with transfers := [], badRegions := [], unread := [], issued := [] } }

/-- The serving rows' image areas hold the image in use from a replacement's commit on. -/
def State.adoptAreas (s : State) (m : HiveImg) : State :=
  let base := s.stageBase m
  let s := (List.range 8).foldl (fun s r =>
    if !(s.row r).serving then s
    else if s.store.stagedRows.contains (r, m.id, m.crc) then s.modRow r fun v => { v with image := some (m.id, m.crc) }
    else s.writeArea r base m) s
  { s with store := { s.store with imageBase := base, stagedRows := [] } }

/-- The arming commit of a loaded image (21 Table 21-1 step 15). -/
def State.armImage (s : State) (m : HiveImg) (p : Nat) (b : List Nat) : State :=
  let old := s.ep.epoch
  let s := s.cells.injected.foldl State.zeroCell s
  let shards := s.place.shards.map fun e => (e.1, { e.2 with shadowDone := false })
  let s := { s.bumpEpoch.putImage m p b with
    stg := { StageSt.reset with frames := s.stg.frames, levels := s.stg.levels }
    place := { s.place with
      queue := [], sweep := none, merged := [], sweepSeq := 0, cands := [], shards := shards }
    agent := { s.agent with bindings := [], cache := [], seqs := [] } }
  let s := (((s.loadTime m.site.time).loadXforms m).takeInputs m).fillBufs m
  let s := (List.range m.sources.length).foldl (fun s i => s.commitSource i (m.sources.getD i SourceDef.disabled)) s
  let s := (List.range 11).foldl (fun s f => s.commitMode f (m.modes.getD f false)) s
  let s := ((s.loadGates m none).loadEdges m).loadLayouts m
  let s := (s.resIndices fun e => e.mode == 0).foldl State.loadNow s
  let s := (s.fillRegions (s.regionsOf fun _ => true)).startAgents m fun _ => true
  let k := match m.codebook with
    | some c => s.commitBook c
    | none => ([], { s with place := { s.place with book := none, next := none } })
  let s := (k.2.armEntries (m.entries.getD p []) b).startRolling old k.1
  s.recheckModules.wakeUsed.updatePairs.evalCapacity

/-- The commit of a replacement, but for the set's other items, its codebook and its migration (19 R488 to R490): the
parts that roll. -/
def State.replaceImage (s : State) (m : HiveImg) (p : Nat) (b : List Nat) : List RollPart × State :=
  match s.ep.image with
  | none => ([], s)
  | some o =>
    let op := s.ep.placement
    let ob := s.ep.binding
    let was := fun (id : Nat) => s.trackSuper id
    let left : List OldImage :=
      if s.stg.runs.isEmpty then [] else [{ img := o, placement := op, binding := ob, runs := s.stg.runs }]
    let s := s.disarmImage.adoptAreas m
    let s := { s.putImage m p b with stg := { s.stg with
      runs := [], old := s.stg.old ++ left, seqs := [], written := [], used := [], exports := [], unfilled := [], refetch := [],
      unfed := [] } }
    let s := (((s.loadTime m.site.time).loadXforms m).takeInputs m).fillBufs m
    let s := (List.range m.sources.length).foldl (fun s i => s.commitSource i (m.sources.getD i SourceDef.disabled)) s
    let s := (List.range 11).foldl (fun s f => s.commitMode f (m.modes.getD f false)) s
    let s := ((s.loadGates m (some o)).moveShown (movedRegion o m ob b p) false).changeLayouts o m |>.stopHeads
    let s := s.changeTracks o m was
    let c := s.changeEdges m
    let s := (c.2.changeRoutes o).issueLoads
    let fill := s.toFill m fun r => sameRegion o m op ob b r
    let s := s.armEntries (m.entries.getD p []) b
    (fill.map RollPart.region ++ c.1, s)

/-! ### The end of a placement move (02 R50, 06 R149, 08 R203, 12 R313, 14 R354) -/

/-- The move's commit: the new binding is in use, its regions stand as they were or are filled, slots are counted, agents'
slots that were lost start again, the image's entries are armed. -/
def State.endMove (s : State) : State :=
  match s.wafer.move, s.ep.image with
  | some (p, b), some m =>
    let op := s.ep.placement
    let ob := s.ep.binding
    let unfilled := s.stg.unfilled
    let from_ := fun (r : Nat) => movedRegion m m b ob op r
    let same := fun (r : Nat) => (from_ r).isSome && sameRegion m m op ob b r
    let left : List OldImage :=
      if s.stg.runs.isEmpty then [] else [{ img := m, placement := op, binding := ob, runs := s.stg.runs }]
    let s := s.moveOver
    let bad := s.store.badRegions
    let s := (s.putImage m p b).moveShown (movedRegion m m ob b p) true
    let all := s.toFill m fun _ => false
    let wait := all.filter fun r => match from_ r with
      | some k => unfilled.contains k
      | none => false
    let written := s.stg.written.filter fun i => (from_ (s.outRegion i)).isSome
    let stays := fun (e : ResEntry) => all.any fun r => same r && s.resIn e r &&
      bad.any fun k => (s.resEntry k).any fun o => (from_ r).any (s.resIn o)
    let s := { s with
      stg := { s.stg with
        runs := [], old := s.stg.old ++ left, seqs := [], written := written, unfilled := wait, refetch := [], unfed := [] }
      store := { s.store with badRegions := s.resIndices stays } }
    let s := ((all.filter fun r => !wait.contains r && !same r).foldl State.applyRegion s).issueLoads
    let rolling := s.ep.rolling.map fun v => { v with parts := wait.map RollPart.region ++ v.parts.filter fun q => match q with
      | .region _ => false
      | .slots q => b.contains q
      | .shard _ => true }
    let s := { s with ep := { s.ep with rolling := rolling } }
    let due := fun (e : Nat × EdgeSlot) => match s.slotNow e.1 with
      | some k => e.2.slot != some k ||
          (e.2.unknown && !(((rolling.map Rolling.parts).getD []).contains (.slots (k / 2048))))
      | none => false
    let s := (s.route.slots.filter due).foldl (fun s e => s.countSlot e.1 (s.slotNow e.1)) s
    let s := (s.startAgents m fun d => !(s.track d.track).inUse).disarmImage.armEntries (m.entries.getD p []) b
    ((s.stopHeads.bumpEpoch.event 0x12 0 0 (op + 4 * p)).unsol 7 (256 * p)).evalCapacity
  | _, _ => s

end Sys2Proof.Machine
end

