-- ==== Sys2Proof/Machine/Power.lean ====
section
/-! DEFINITION. The unit's life cycle: power requests, start-up steps, resets and shutdowns (01 R26 to R29, 17 R457, 21
R516 to R524, 22 R541), protective trips and the tree pause's end (05 R139, 06 R143 to R145), entry to QUIESCE (01
R29). -/

namespace Sys2Proof.Machine

/-! ### Regions down (03 R85, 06 R142, 17 R457, 21 R516) -/

/-- Every timed output that is high goes low with its region. -/
def State.outputsLow (s : State) : State :=
  (List.range 32).foldl State.outputLow s.ppsLow

/-- Every bundle that is up goes down with the regions, and makes its event (08 R211). -/
def State.bundlesDown (s : State) : State :=
  (List.range 64).foldl (fun s p =>
    let v := s.row (p / 8)
    if v.up.contains (p % 8) && !v.held then s.event 8 1 p 0 else s) s

/-- A store row while the regions are off: its link is down, what the store itself holds stays (08 R211). -/
def StoreRow.unlinked (v : StoreRow) : StoreRow :=
  { v with st := if v.config = 0 then .notConfigured else .down, up := [], held := false, serialSet := false, solo := none,
           extents := [] }

/-- An encoder input not measured: its levels are those of its pins. -/
def EncIn.fresh (e : EncIn) : EncIn :=
  { EncIn.blank with a := e.pinA, b := e.pinB, z := e.pinZ, pinA := e.pinA, pinB := e.pinB, pinZ := e.pinZ }

/-- All that is lost when the regions power down: every command, entry, image, epoch, link and cell content. The flash,
the stores' contents, the network ports' settings, the outputs' logs and the map the stores hold stay (log entry 26); no
provisional seal becomes permanent (06 R144). -/
def State.volatileReset (s : State) : State :=
  let s := (s.store.transfers.foldl State.tornWrite s).outputsLow
  let s := s.unit.regionsOn.reverse.foldl State.regionOff s.undoProvisional
  let mem := s.mem.filter fun c => decide (lineAt 0 0 ≤ c.1) && decide (c.1 < engBase)
  let rows := s.store.rows.map StoreRow.unlinked
  let ports := s.host.ports.map fun p => { PciePort.down with sent := p.sent }
  let refused := s.fw.refused.filter fun e => decide (e.1 < 768)
  let tiles := s.place.voxels.foldl (fun l v => sins l (tileOf v.1)) s.place.reload
  { s with
    unit := { s.unit with regionsOn := [], toPower := [], poweringDown := false, powerOffPending := false, powerOnHeld := false }
    wafer := { s.wafer with pause := none, trips := [], move := none, paths := none }
    time := { TimeSt.reset with tick := s.time.tick, settings := s.time.settings }
    cap := CapSt.reset
    sched := { SchedSt.reset with tsoLog := s.sched.tsoLog, enc := s.sched.enc.map EncIn.fresh }
    host := { HostSt.reset with
      ports := ports, completions := s.host.completions, netPorts := s.host.netPorts, netOut := s.host.netOut,
      resultOk := s.host.resultOk, cqOk := s.host.cqOk }
    ep := EpochSt.reset
    fw := { s.fw with
      booted := none, bootImg := none, microRun := none, trying := none, transfers := [], sends := [], refused := refused,
      pairsRunning := [], pairsSeen := [] }
    store := { StoreSt.reset with rows := rows, imageBase := s.store.imageBase }
    cells := CellSt.reset
    mem := mem
    link := { LinkSt.reset with tx := s.link.tx, wakes := s.link.wakes }
    xforms := []
    stg := StageSt.reset
    place := { PlaceSt.reset with
      shards := s.place.shards, badLines := s.place.badLines, nodes := s.place.nodes, edges := s.place.edges,
      optSeq := s.place.optSeq, voxels := s.place.voxels, coldLog := s.place.coldLog, stored := s.place.stored,
      reload := tiles }
    route := { RouteSt.reset with occupied := s.route.occupied, granted := s.route.occupied }
    comp := { CompSt.reset with hostWrites := s.comp.hostWrites }
    agent := { AgentSt.reset with sent := s.agent.sent }
    due := [] }

/-- The panel region that showed a booted firmware slot, where one had booted (15 Table 15-5). -/
def State.identityShown (s : State) : List Nat := if s.fw.booted.isSome then [1] else []

/-- The regions are down and the unit is in STANDBY. -/
def State.powerDown (s : State) : State :=
  let shown := s.identityShown
  let s := s.volatileReset
  ((({ s with unit := { s.unit with step := 4 } }.setUnit .standby).panelTouch shown)).evalCapacity

/-- Start-up step 5 begins: the regions of supers not recorded as sealed are to be powered, the boot is counted, the timebase
starts and the epoch is 1 (04 R89, 06 R142, 19 R474, 21 R519). -/
def State.beginStep5 (s : State) : State :=
  let on := (List.range 64).filter fun p => (s.super p).st == 0
  let s := { s with
    unit := { s.unit with step := 5, toPower := on, coolantHold := false, shortfall := false }
    time := { TimeSt.reset with
      tick := s.time.tick, running := true, settings := s.fw.held.getD TimeSettings.default
      active := (s.fw.held.getD TimeSettings.default).activeDefault } }
  (s.modSummary fun m => { m with bootCount := m.bootCount + 1 }).setUnit .bringup

/-- A power-on request (01 Table 1-3, 06 R145, 21 R516, Table 21-1 step 4). -/
def State.powerOn (s : State) (flowLow : Bool) : State :=
  if s.unit.state ≠ .standby then s
  else if !s.unit.step4Done then { s with unit := { s.unit with powerOnHeld := true } }
  else if s.unit.fusesBad || flowLow then s
  else s.beginStep5

/-! ### Entry to QUIESCE (01 R29, 03 R85, 19 R494) -/

/-- Every agent with an active route is sent a hold; the route service's work ends, a goal not planned with BAD_STATE. -/
def State.quiesceRoutes (s : State) : State :=
  let s := s.route.jobs.foldl (fun s j => match j.what with
    | .goal _ _ q t => s.complete q t stBadState 0 []
    | _ => s) s
  let s := { s with route := { s.route with jobs := [] } }
  (s.route.routes.filter fun r => r.2.st == .active).foldl (fun s r => s.holdAgent r.1 false false 1 noId) s

/-- The running image begins an orderly stop; a placement move in progress is given up (log entry 27). -/
def State.startQuiesce (s : State) : State :=
  if s.unit.state ≠ .run then s
  else
    let s := (s.setUnit .quiesce).moveOver
    (s.disarmImage.disarmCommit stBadState true).quiesceRoutes

/-- A power-off request (01 Table 1-3, 21 R516). -/
def State.powerOff (s : State) : State :=
  match s.unit.state with
  | .off => s
  | .standby => s
  | .run => ({ s with unit := { s.unit with powerOffPending := true } }).startQuiesce
  | .quiesce => { s with unit := { s.unit with powerOffPending := true } }
  | _ => { s with unit := { s.unit with poweringDown := true } }

/-! ### The rows of power -/

/-- STANDBY_RAIL_RISES: the unit enters STANDBY and start-up goes on with step 2 (21 R517); nothing is
drawn before step 3 (15 R397). -/
def execStandbyRailRises (x : At) (s : State) : Host.Outcome State Fault Refusal :=
  let s := s.enter x
  .next (if s.unit.state = .off then
    { ({ s with unit := { s.unit with step := 2, step4Done := false, powerOnHeld := false } }.setUnit .standby) with
      panel := s.panel }
    else s)

/-- STANDBY_RAIL_LOST: the unit is OFF; nothing runs, and what the flash holds stays (01 R28, 03 R85). -/
def execStandbyRailLost (x : At) (s : State) : Host.Outcome State Fault Refusal :=
  let s := s.enter x
  .next (if s.unit.state = .off then s
    else
      let s := s.volatileReset
      { s with
        unit := { s.unit with
          state := .off, step := 0, step4Done := false, coolantHold := false, shortfall := false, fusesBad := false }
        panel := { s.panel with update := none, pendingSet := [], replFirst := false, bandBlack := false, lastFault := [] } })

/-- STANDBY_POWER_ON_TIMER: 2 s after the rail rose, a power-on request. -/
def execStandbyPowerOnTimer (x : At) (flowLow : Bool) (s : State) : Host.Outcome State Fault Refusal :=
  .next ((s.enter x).powerOn flowLow)

/-- BUTTON_SHORT_PRESS: a power-on request. -/
def execButtonShortPress (x : At) (flowLow : Bool) (s : State) : Host.Outcome State Fault Refusal :=
  .next ((s.enter x).powerOn flowLow)

/-- SHORTFALL_RESTART_TIMER: 2 s after all six supplies work again, a power-on request (22 R541). -/
def execShortfallRestartTimer (x : At) (flowLow : Bool) (s : State) : Host.Outcome State Fault Refusal :=
  let s := s.enter x
  .next (if s.unit.shortfall then s.powerOn flowLow else s)

/-- BUTTON_LONG_PRESS: a power-off request. -/
def execButtonLongPress (x : At) (s : State) : Host.Outcome State Fault Refusal :=
  .next ((s.enter x).powerOff)

/-- REGIONS_POWERED_DOWN: the regions of a power-off request are down. -/
def execRegionsPoweredDown (x : At) (s : State) : Host.Outcome State Fault Refusal :=
  let s := s.enter x
  .next (if s.unit.poweringDown then s.bundlesDown.powerDown else s)

/-- HIF_RESET: with its key, the regions power down and start-up begins again at step 5 (17 R457). -/
def execHifReset (x : At) (port value : Nat) (s : State) : Host.Outcome State Fault Refusal :=
  let s := s.enter x
  .next (if (s.port port).up ∧ bitAt value 0 ∧ bitsOf value 15 8 = 0xA5 then
      (s.bundlesDown.volatileReset.beginStep5.panelTouch
        (s.identityShown ++ if s.fw.pairsRunning.isEmpty then [] else [2])).evalCapacity
    else s)

/-! ### Protective trips (06 R143 to R145) and shortfall (22 R541) -/

/-- Cause of an overcurrent seal (06 Table 6-8). -/
def railCause : Rail → Nat
  | .core => 1
  | .sram => 2
  | .io => 3

/-- A region is powered, or start-up step 5 comes to power it: its trips act on it. -/
def State.tripAt (s : State) (sup : Nat) (f : State → State) : State :=
  if s.unit.regionsOn.contains sup then f s
  else if s.unit.toPower.contains sup then f ((s.powerBefore sup).regionOn sup)
  else s

/-- OVERCURRENT_TRIP: the region's switches open and the super is sealed. -/
def execOvercurrentTrip (x : At) (sup : Nat) (rail : Rail) (s : State) : Host.Outcome State Fault Refusal :=
  let s := s.enter x
  .next (s.tripAt sup fun s => s.sealSuper sup (railCause rail) none)

/-- REGION_REGULATION_TIMEOUT: at step 5, as an overcurrent on that rail; the region's switches never close, the regions
before it have been powered (06 R142, 21 Table 21-1). -/
def execRegionRegulationTimeout (x : At) (sup : Nat) (rail : Rail) (s : State) : Host.Outcome State Fault Refusal :=
  let s := s.enter x
  .next (if s.unit.state = .bringup ∧ s.unit.step = 5 ∧ s.unit.toPower.contains sup then
    let s := s.powerBefore sup
    { s with unit := { s.unit with toPower := s.unit.toPower.erase sup } }.sealSuper sup (railCause rail) none
    else s)

/-- One second in schedule ticks. -/
def secTicks : Nat := 125000000

/-- The supers that tripped within 1 s of a trip, itself among them (06 R144). -/
def State.tripWindow (s : State) (f : Nat × Nat) : List Nat :=
  s.wafer.trips.foldl (fun l e => if f.1 ≤ e.1 ∧ e.1 ≤ f.1 + secTicks then sins l e.2 else l) []

/-- The supers of every second in which three or more tripped (06 R144). -/
def State.threeTripped (s : State) : List Nat :=
  s.wafer.trips.foldl (fun l f => if 3 ≤ (s.tripWindow f).length then sinsAll l (s.tripWindow f) else l) []

/-- Some trip was followed, within 1 s, by trips of 3 supers in all (06 R144). -/
def State.threeTrips (s : State) : Bool := !s.threeTripped.isEmpty

/-- OVER_TEMPERATURE_TRIP: the super is sealed provisionally; a third super within 1 s makes it a coolant loss, whose
shutdown is the row COOLANT_LOSS. -/
def execOverTemperatureTrip (x : At) (sup : Nat) (s : State) : Host.Outcome State Fault Refusal :=
  let s := s.enter x
  .next (s.tripAt sup fun s =>
    let s := { s with wafer := { s.wafer with trips := (s.time.tick, sup) :: s.wafer.trips } }
    s.sealSuper sup 4 (some s.time.tick))

/-- 1 s has passed since the trip of a provisional seal (06 R144). -/
def Super.expired (u : Super) (tick : Nat) : Bool :=
  u.st == 1 && match u.provisional with
    | some t => decide (t + secTicks ≤ tick)
    | none => false

/-- PROVISIONAL_SEAL_EXPIRY: 1 s after its trip the seal becomes permanent, unless the trips are a coolant loss. -/
def execProvisionalSealExpiry (x : At) (sup : Nat) (s : State) : Host.Outcome State Fault Refusal :=
  let s := s.enter x
  .next (if (s.super sup).expired s.time.tick ∧ ¬s.threeTripped.contains sup then s.confirmSeal sup else s)

/-- The supers that tripped: those of a second of three trips, and those whose trip is less than 1 s old (06 R144, R145). -/
def State.trippedMask (s : State) : Nat :=
  maskOf 64 (s.threeTripped ++ (s.wafer.trips.filter fun e => decide (s.time.tick < e.1 + secTicks)).map Prod.snd)

/-- COOLANT_LOSS: one event, all regions down, STANDBY; in STANDBY it is recorded (01 Table 1-3, 06 R144, R145). -/
def execCoolantLoss (x : At) (s : State) : Host.Outcome State Fault Refusal :=
  let s := s.enter x
  .next (if s.unit.state = .off then s
    else
      let s := s.event 0x0E (if s.threeTrips then 2 else 1) 0 s.trippedMask
      let s := if s.unit.state = .standby then s else s.bundlesDown.powerDown
      ({ s with unit := { s.unit with coolantHold := true } }).panelTouch [2])

/-- SUPPLY_SHORTFALL: all regions down with no event, STANDBY (22 R541). -/
def execSupplyShortfall (x : At) (s : State) : Host.Outcome State Fault Refusal :=
  let s := s.enter x
  .next (if s.unit.state = .off ∨ s.unit.state = .standby then s
    else
      let s := s.powerDown
      { s with unit := { s.unit with shortfall := true } })

/-! ### The tree pause's end (05 R139, 19 R491) -/

/-- Words that waited across the pause take their effect ticks: D_w + 8 ns after the grant. -/
def State.grantWaiting (s : State) : State :=
  let at_ := s.time.tick + s.leadTicks
  let writes := s.time.writes.map fun w => if w.eff.isNone then { w with eff := some at_ } else w
  let armed := s.ep.armed.map fun a =>
    if a.waits then
      let e := a.eff.getD 0
      { a with waits := false, eff := some (max e at_), detail := if e < at_ then a.detail ||| 1 else a.detail }
    else a
  let s := { s with time := { s.time with writes := writes }, ep := { s.ep with armed := armed } }
  let s := match armed.bind ArmedCommit.eff with
    | some t => s.yieldTick t
    | none => s
  (List.range s.ep.engine.length).foldl (fun s i => match s.ep.engine[i]? with
    | some e =>
      if e.eff.isSome then s
      else
        let t := s.freeTick (s.ep.engine.length + 2) at_
        { s with ep := { s.ep with engine := lmod s.ep.engine i fun v => { v with eff := some t } } }
    | none => s) s

/-- TREE_PAUSE_END: the new feeding is in place; D_w is chosen, and what waited is granted in the order of 05 Table 5-5: the
seal notices with what follows them, time writes and commits, phase events. -/
def execTreePauseEnd (x : At) (s : State) : Host.Outcome State Fault Refusal :=
  let s := s.enter x
  .next (match s.wafer.pause with
    | none => s
    | some w =>
      let s := { s with wafer := { s.wafer with pause := none } }.chooseDw (s.localNs - w.startNs)
      let s := if w.notices.isEmpty then s else (s.evalCapacity.evalReplace).afterNotice
      let s := s.grantWaiting
      s.sched.waiting.foldl State.applyEvent { s with sched := { s.sched with waiting := [] } })

/-! ### Start-up step 4: what the base controller reads (05 R122, 06 R163, R166, 07 R181) -/

/-- A super as the factory map, the site record and its seal record give it; as the factory map alone gives it where no
summary held (05 R123, 06 R166). Every spare waits for the assignment. -/
def State.superRead (s : State) (p : Nat) : Super :=
  let known := !s.unit.factoryOnly
  let gone := (List.range 4).filter fun j => !(known && s.flash.keepersGone.contains (4 * p + j))
  let spares := s.wafer.factorySpares.getD p []
  let site := fun (i : Nat) => if known && s.flash.retired.contains (144 * p + i) then 2 else if spares.contains i then 1 else 0
  match bitAt s.summary.sealedMask p, tget s.flash.sealRecs p with
  | true, some r => { st := r.st, keepers := r.keepers, sites := r.sites, remap := r.remap, provisional := none }
  | sealed, _ =>
    { st := b2n sealed, keepers := maskOf 4 gone, sites := (List.range 144).map site, remap := List.replicate 136 255,
      provisional := none }

/-- The newest event the last-fault region shows. -/
def State.findLastFault (s : State) : Bytes :=
  match s.flash.ring.reverse.find? fun e => lastFaultKind e.kind e.cause with
  | some e => e.bytes
  | none => []

/-- A wafer module of another serial is fitted: the record is erased (06 R163). -/
def State.newWafer (s : State) (serial : Nat) : State :=
  let old := s.summary.serial
  let f := { FlashSt.reset with
    copyA := some { Summary.blank with gen := s.summary.gen + 1, serial := serial }, copyB := none }
  ({ s with flash := f }.event 0x14 0 0 old).panelTouch [3]

/-- The summaries are read: copies that do not hold are not used; with neither, the request is set with cause bit 5 (06
R166). -/
def State.readSummaries (s : State) (a b : Bool) (serial : Nat) : State :=
  let f := { s.flash with
    copyA := if a then s.flash.copyA else none, copyB := if b then s.flash.copyB else none }
  let none_ := f.copyA.isNone && f.copyB.isNone
  let s := { s with flash := f, unit := { s.unit with factoryOnly := none_ } }
  if none_ then
    ({ s with flash := { f with copyA := some { Summary.blank with serial := serial } } }).addCauses 32
  else s

/-- The ring is scanned: entries whose COMMIT or EV_CRC does not hold are skipped and never returned, and the sequence resumes
past the highest committed one (06 R166). The slots they took stay used. -/
def State.scanRing (s : State) (bad : List Nat) : State :=
  if bad.isEmpty then s
  else
    let ring := s.flash.ring.filter fun e => !bad.contains e.seq
    { s with flash := { s.flash with ring := ring, nextSeq := ring.foldl (fun m e => max m (e.seq + 1)) 0 } }

/-- Step 4. -/
def State.readFlash (s : State) (r : StepReport) : State :=
  let s := (s.scanRing r.badEvents).readSummaries r.sumA r.sumB (match r.fuses with
    | some f => f.serial
    | none => s.wafer.serial)
  let s := match r.fuses with
    | none => ({ s with unit := { s.unit with fusesBad := true } }).addCauses 1
    | some f =>
      let s := if f.serial = s.summary.serial then s else s.newWafer f.serial
      let s := { s with wafer := { s.wafer with serial := f.serial, factorySpares := f.spares }
                        unit := { s.unit with fusesBad := false } }
      let us := (List.range 64).map s.superRead
      ({ s with wafer := { s.wafer with supers := us } }).panelTouch [1]
  let lf := s.findLastFault
  (if lf = s.panel.lastFault then s else ({ s with panel := { s.panel with lastFault := lf } }).panelTouch [4]).evalCapacity

/-! ### Start-up step 7: cells (05 R123, R131, 06 R152 to R154) -/

/-- A cell that fails its start-up test is retired before the assignment: it holds no logical cell. -/
def State.failCell (s : State) (g : Nat) : State :=
  let s := s.modSuper (g / 144) fun u => { u with sites := lmod u.sites (g % 144) fun _ => 2 }
  { s with flash := { s.flash with retired := sins s.flash.retired g, sparesIn := s.flash.sparesIn.erase g } }.event 2 1 g 255

/-- A spare brought into service in an earlier power-up (R123). -/
def State.servedBefore (s : State) (g : Nat) : Bool := !s.unit.factoryOnly && s.flash.sparesIn.contains g

/-- The spare a logical cell without a site takes first: one brought into service before, else an unused one (R123). -/
def State.nextSpare (s : State) (p : Nat) : Option Nat :=
  let spare := fun (i : Nat) => (s.super p).sites.getD i 3 == 1
  match firstBelow 144 fun i => spare i && s.servedBefore (144 * p + i) with
  | some i => some i
  | none => firstBelow 144 spare

/-- The next spare of a super that passes its test; those that fail are retired (R154). One in service before makes no second
SPARE_IN event. -/
def State.takeSpare (s : State) (failed : List Nat) (p l : Nat) : Nat → State
  | 0 => s
  | f + 1 =>
    match s.nextSpare p with
    | none => s
    | some i =>
      let g := 144 * p + i
      if failed.contains g then
        let s := s.modSuper p fun u => { u with sites := lmod u.sites i fun _ => 2 }
        ({ s with flash := { s.flash with retired := sins s.flash.retired g, sparesIn := s.flash.sparesIn.erase g } }.event 2 4 g
          l).takeSpare failed p l f
      else
        let old := s.servedBefore g
        let s := s.modSuper p fun u => { u with
          sites := lmod u.sites i fun _ => 0, remap := lmod u.remap l fun _ => i }
        let s := { s with flash := { s.flash with sparesIn := sins s.flash.sparesIn g } }
        if old then s else s.event 3 0 g l

/-- The remap table of a super: sites enabled by the factory map, ascending, then spares (R123). -/
def State.assignCells (s : State) (failed : List Nat) (p : Nat) : State :=
  let u := s.super p
  let order := (List.range 144).filter fun i => u.sites.getD i 3 == 0
  let s := s.modSuper p fun u => { u with remap := (List.range 136).map fun l => order.getD l 255 }
  ((List.range 136).filter fun l => decide (order.length ≤ l)).foldl (fun s l => s.takeSpare failed p l 144) s

/-- Two sites touch, diagonals included. -/
def touching (i j : Nat) : Bool :=
  i != j && decide (i % 12 ≤ j % 12 + 1) && decide (j % 12 ≤ i % 12 + 1) && decide (i / 12 ≤ j / 12 + 1) &&
    decide (j / 12 ≤ i / 12 + 1)

/-- A super's dead sites seal it (R131). -/
def State.deadLayout (s : State) (p : Nat) : Bool :=
  let dead := (List.range 144).filter fun i => (s.super p).sites.getD i 0 == 3
  dead.any fun i => i % 12 == 0 || i % 12 == 11 || i / 12 == 0 || i / 12 == 11 || dead.any (touching i)

/-- Step 7. -/
def State.testCells (s : State) (r : StepReport) : State :=
  let live := (List.range 64).filter s.unsealed
  let us := (List.range 64).map fun p => if live.contains p then s.superRead p else s.super p
  let s := { s with wafer := { s.wafer with supers := us } }
  let mine := fun (g : Nat) => live.contains (g / 144)
  let s := (r.failedCells.filter fun g => mine g && (s.super (g / 144)).sites.getD (g % 144) 3 == 0).foldl State.failCell s
  let s := (r.deadSites.filter mine).foldl (fun s g =>
    s.modSuper (g / 144) fun u => { u with sites := lmod u.sites (g % 144) fun _ => 3 }) s
  let s := live.foldl (fun s p => s.assignCells r.failedCells p) s
  let s := (live.filter s.deadLayout).foldl (fun s p => s.sealSuper p 5 none) s
  let s := r.routerFaults.foldl (fun s p => s.sealSuper p 7 none) s
  (((s.evalCapacity).evalReplace).fixPaths).mapChanged

/-! ### Booting (21 R522, R524, R527) -/

/-- Enter HOLD (21 R524). -/
def State.toHold (s : State) : State :=
  ({ s with host := { s.host with keeperReady := false }, fw := { s.fw with trying := none } }).setUnit .hold

/-- Interfaces a firmware image provides. -/
def FwImage.provides (f : FwImage) : List (Nat × Nat × Nat) := f.prov.map fun p => (p.iface, p.lo, p.hi)

/-- A slot's envelope or requirements refuse it at step 8: the event and what FW_READ then says. -/
def State.refuseSlot (s : State) (n : Nat) : Option State :=
  match s.fw.slot n with
  | none => some (s.event 0x11 3 n 0)
  | some f =>
    let prov := ((s.fw.micro.map FwImage.provides).getD []).filter (fun p => p.1 == 7) ++ [(11, 1, 1)]
    match firstUnmet prov (f.reqs.filter fun q => q.iface == 7 || q.iface == 11) with
    | none => none
    | some u =>
      if u.1.iface = 11 then
        let k := s.free
        some (k.2.refuseImage n 0 f.level u (k.1 % 256))
      else some (s.refuseImage n 0 f.level u 2)

/-- Try a slot, then, where it is refused, the other. -/
def State.trySlot (s : State) (n : Nat) (second : Bool) : State :=
  match s.refuseSlot n with
  | none => { s with fw := { s.fw with trying := some (n, 1, second) } }
  | some t =>
    if second then t.toHold
    else match t.refuseSlot (1 - n) with
      | none => { t with fw := { t.fw with trying := some (1 - n, 1, true) } }
      | some u => u.toHold

/-- Ready is reported from S(3,0) or S(4,0), or from any cluster when both are sealed. -/
def State.mayReport (s : State) (p : Nat) : Bool :=
  s.unsealed p && (s.super p).keepers != 0 && (p == 3 || p == 4 || (!s.unsealed 3 && !s.unsealed 4))

/-- KEEPER_READY_REPORT: the slot tried has booted; step 8 ends. -/
def execKeeperReadyReport (x : At) (sup : Nat) (s : State) : Host.Outcome State Fault Refusal :=
  let s := s.enter x
  .next (match s.fw.trying, s.mayReport sup with
    | some (n, _, _), true =>
      let img := s.fw.slot n
      let levels := ((img.map FwImage.prov).getD []).filter fun p => p.iface == 5
      let s := { s with
        fw := { s.fw with trying := none, booted := some n, bootImg := img, refused := terase s.fw.refused (256 * n) }
        host := { s.host with keeperReady := true, hifLevel := (levels.map IfaceProv.hi).headD 0 }
        unit := { s.unit with step := 9 } }
      (s.event 0x15 0 n 0).panelTouch [1]
    | _, _ => s)

/-- KEEPER_BOOT_ATTEMPT_TIMEOUT: the attempt is repeated up to 3 times, then the other slot is tried, then HOLD. -/
def execKeeperBootAttemptTimeout (x : At) (s : State) : Host.Outcome State Fault Refusal :=
  let s := s.enter x
  .next (match s.fw.trying with
    | none => s
    | some (n, k, second) =>
      let level := ((s.fw.slot n).map FwImage.level).getD 0
      let s := s.event 0x11 4 (n + 65536 * level) 0
      if k < 3 then { s with fw := { s.fw with trying := some (n, k + 1, second) } }
      else if second then s.toHold
      else s.trySlot (1 - n) true)

/-- Step 9's checks: the microcode is whole, the booted slot's requirement on it holds, and it loads. -/
def State.loadMicro (s : State) (ok : Bool) : State :=
  match s.fw.micro with
  | none => (s.event 0x11 3 2 0).toHold
  | some f =>
    match firstUnmet f.provides (((s.fw.bootImg.map FwImage.reqs).getD []).filter fun q => q.iface == 7) with
    | some u => (s.refuseImage 2 0 f.level u 2).toHold
    | none =>
      if !ok then (s.event 0x11 3 (2 + 65536 * f.level) 0).toHold
      else
        let s := { s with fw := { s.fw with microRun := some f, refused := terase s.fw.refused 512 }
                          cells := { s.cells with poison := [] }
                          unit := { s.unit with step := 10 } }
        s.updatePairs

/-- A flash slot whose header was not written whole holds no image (21 R531): 0 A, 1 B, 2 the microcode. -/
def State.tornSlots (s : State) (bad : List Nat) : State :=
  let f := s.fw
  { s with fw := { f with
    slotA := if bad.contains 0 then none else f.slotA, slotB := if bad.contains 1 then none else f.slotB
    micro := if bad.contains 2 then none else f.micro } }

/-! ### STARTUP_STEP_COMPLETE (21 R517) -/

/-- Step 5 ends: the remaining regions are powered, the links that trained are up, D_w is 38 ns (05 R138); the reference may
be absent (04 R112). -/
def State.endStep5 (s : State) (r : StepReport) : State :=
  let s := s.unit.toPower.foldl State.regionOn s
  let s := ([0, 1].filter fun p => r.linksUp.contains p && s.unsealed (3 + p)).foldl (fun s p =>
    s.modPort p fun v => { v with up := true }) s
  let lost := s.time.settings.refExternal && !r.refPresent
  let s := { s with
    host := { s.host with fastReady := true }
    time := { s.time with refPresent := r.refPresent, refFree := lost }
    wafer := { s.wafer with dw := 38 }
    unit := { s.unit with step := 6 } }
  if lost then s.event 0x0C 1 0 0 else s

/-- Enter READY at the end of start-up. -/
def State.startReady (s : State) : State := ({ s with unit := { s.unit with step := 13 } }).setUnit .ready

/-- Step 15 ends: the arming commit takes effect, the unit runs and the load completes (21 R517, R519). A placement chosen
at the load that no longer fits is chosen again; with none that fits the load is refused. -/
def State.startRun (s : State) : State :=
  match s.ep.loading with
  | none => s
  | some l =>
    let s := { s with ep := { s.ep with loading := none } }
    match s.choosePlacement l.img l.placement with
    | none => ({ s with unit := { s.unit with step := 13 } }).complete l.qp l.tag stNoResource 0 []
    | some c =>
      let s := { s.armImage l.img c.1 c.2 with fw := { s.fw with held := some l.img.site.time } }
      (({ s with unit := { s.unit with step := 16 } }.setUnit .run).evalCapacity.complete l.qp l.tag stOK c.1 []).retireDue

/-- A step ends and the next begins. -/
def State.endStep (s : State) (r : StepReport) : State :=
  let setStep := fun (s : State) (n : Nat) => { s with unit := { s.unit with step := n } }
  match s.unit.state, s.unit.step with
  | .standby, 2 => (setStep s 3).panelTouch [1, 2, 3, 4]
  | .standby, 3 => setStep s 4
  | .standby, 4 =>
    if s.unit.step4Done then s
    else
      let s := s.readFlash r
      let held := s.unit.powerOnHeld
      let s := { s with unit := { s.unit with step4Done := true, powerOnHeld := false } }
      if held then s.powerOn r.flowLow else s
  | .bringup, 5 => s.endStep5 r
  | .bringup, 6 => setStep (s.chooseDw 0) 7
  | .bringup, 7 =>
    let s := setStep (s.testCells r) 8
    let s := (r.failedKeepers.filter s.coreWorks).foldl (fun s c => s.removeKeeper c 1) s
    (s.tornSlots r.badSlots).trySlot s.fw.bootSlot false
  | .bringup, 9 => s.loadMicro r.loadOk
  | .bringup, 10 => (setStep s 11).evalCapacity
  | .bringup, 11 => if s.fw.held.isNone then s.startReady else setStep s 12
  | .bringup, 12 => s.startReady
  | .ready, 15 => if s.wafer.pause.isSome then s else s.startRun
  | _, _ => s

/-- STARTUP_STEP_COMPLETE: the step in progress ends. Step 8 ends with KEEPER_READY_REPORT, step 14 with
IMAGE_AREA_WRITTEN. The arming of step 15 is a waggle word: it waits across a tree pause (05 R139). -/
def execStartupStepComplete (x : At) (r : StepReport) (s : State) : Host.Outcome State Fault Refusal :=
  let s := s.enter x
  .next (if s.unit.poweringDown then s else s.endStep r)

end Sys2Proof.Machine
end

