-- ==== Sys2Proof/Machine/Epoch.lean ====
section
/-! DEFINITION. Loading and staging images, staged changes, commits and rolling changes (02 R55, 18 Table 18-12, 19). -/

namespace Sys2Proof.Machine

/-! ### IMAGE_LOAD (02 R55, 03 R86, 04 R105, 19 R487) -/

/-- The lowest armed host entry that lies below an image's host reserve (03 R86). -/
def State.entryBelow (s : State) (m : HiveImg) : Option Nat :=
  (s.sched.entries.find? fun e => e.2.owner != .image && (e.2.st == .armed || e.2.st == .arming || e.2.st == .held) &&
    s.unsealed (e.1 / 256) && decide (e.1 % 256 < 256 - m.hostEntries)).map Prod.fst

/-- The lowest edge input an image names that a queue pair owns (04 R105). -/
def State.inputTaken (s : State) (m : HiveImg) : Option Nat :=
  (m.site.inputs.find? fun e => match (s.capIn e.1).owner with
    | some (.queue _) => true
    | _ => false).map Prod.fst

/-- A replacement redefines a source on which a host entry is armed (03 R80, 19 Table 19-1). -/
def State.sourceHeld (s : State) (m : HiveImg) : Bool :=
  s.ep.image.isSome && (List.range m.sources.length).any fun i =>
    m.sources.getD i SourceDef.disabled != (s.source i).defn && s.hostArmedOn i

/-- What refuses an image that fits in a placement: status and detail. Of several, the first here: the spec gives them no
order (DESIGN CHOICE, log entry 57). -/
def State.loadRefusal (s : State) (m : HiveImg) (p : Nat) (b : List Nat) : Option (Nat × Nat) :=
  if s.sourceHeld m then some (stBadState, 0)
  else match s.entryBelow m, s.inputTaken m with
  | some id, _ => some (stNoResource, 65536 * id)
  | none, some i => some (stNoResource, 4 + 256 * i)
  | none, none =>
    match s.ep.image with
    | none => none
    | some o =>
      if 274877906944 < padLine o.len + padLine m.len then some (stNoResource, 0)
      else if m.residency.any fun r =>
          let e := parseRes r
          e.placement == p && !(s.row (b.getD e.lsuper 64 / 8)).serving then some (stShard, 0)
      else none

/-- IMAGE_LOAD: the checks of R55, then the image areas are written: IMAGE_AREA_WRITTEN goes on. The row configuration is
that of the last image to pass steps 1 and 2 in READY (log entry 4). -/
def execImageLoad (x : At) (qp tag : Nat) (data : Option Bytes) (sd : SiteDesc) (s : State) :
    Host.Outcome State Fault Refusal :=
  .next (s.run x qp tag 0x0A01 fun s c =>
    let ready := decide (s.unit.state = .ready)
    if s.ep.loading.isSome ∨ ¬(ready ∨ s.unit.state = .run) ∨ s.ep.rolling.isSome then s.complete c.qp c.tag stBadState 0 []
    else match data with
      | none => s.complete c.qp c.tag stBadParam 0xFFFFFFFF []
      | some d => match parseImage (d.take (fieldN c.params 8 8)) sd with
        | none => s.complete c.qp c.tag stImage 0 []
        | some m => match s.imageUnmet m with
          | some u => (s.refuseHive m u).complete c.qp c.tag stVersion 0 []
          | none =>
            let s := if ready then s.mapped fun s => s.configRows m.site.stores else s
            match s.choosePlacement m 0 with
            | none => s.complete c.qp c.tag stNoResource 0 []
            | some (p, b) => match s.loadRefusal m p b with
              | some r => s.complete c.qp c.tag r.1 r.2 []
              | none =>
                let s := { s with ep := { s.ep with loading := some { img := m, placement := p, qp := c.qp, tag := c.tag } } }
                let s := if ready then { s with unit := { s.unit with step := 14 } } else s
                s.setProg c.qp c.tag (.waiting 0 0))

/-- A loaded image's areas: those of serving rows that do not record it are written (08 R199). -/
def State.loadAreas (s : State) (m : HiveImg) : State :=
  let rows := (List.range 8).filter fun r => (s.row r).serving
  let base := if rows.any fun r => s.areaMatches r m then s.store.imageBase else 0
  let s := { s with store := { s.store with imageBase := base, stagedRows := [] } }
  rows.foldl (fun s r => if s.areaMatches r m then s else s.writeArea r base m) s

/-- A replacement is staged: written beside the running image, its items in place of those staged before it (19 R475,
R487). -/
def State.stageImage (s : State) (m : HiveImg) (p : Nat) : State :=
  let pad := List.replicate (padLine m.bytes.length - m.bytes.length) 0
  let rows := (List.range 8).filter fun r => (s.row r).serving
  let s := rows.foldl (fun s r => (s.writeStore r (s.stageBase m) (m.bytes ++ pad)).2) s
  let s := { s with store := { s.store with stagedRows := rows.map fun r => (r, m.id, m.crc) } }
  s.stage fun t => { t with
    xforms := t.xforms.filter (fun e => decide (e.1 < 2304)), sources := [], modes := [],
    codebook := if m.codebook.isSome then none else t.codebook, image := some (m, p) }

/-- IMAGE_AREA_WRITTEN: every SERVING store has the image: a load goes on to its arming, a replacement is staged. -/
def execImageAreaWritten (x : At) (s : State) : Host.Outcome State Fault Refusal :=
  let s := s.enter x
  .next (match s.ep.loading with
    | none => s
    | some l =>
      if s.unit.state = .ready then
        if s.unit.step = 14 then { s.loadAreas l.img with unit := { s.unit with step := 15 } }.retireDue else s
      else
        let s := { s with ep := { s.ep with loading := none } }
        ((s.stageImage l.img l.placement).wakeUsed.complete l.qp l.tag stOK l.placement []).retireDue)

/-! ### Staged changes and their commit (01 R32, 19 R475 to R477) -/

/-- FN_MODE_SET: a function's mode is staged. -/
def execFnModeSet (x : At) (qp tag : Nat) (_data : Option Bytes) (s : State) : Host.Outcome State Fault Refusal :=
  .next (s.run x qp tag 0x0A02 fun s c =>
    (s.stage fun t => { t with modes := tset t.modes (fieldN c.params 0 1) (fieldN c.params 1 1 == 1) }).complete c.qp c.tag
      stOK 0 [])

/-- The commit entry of an EPOCH_COMMIT: its late policy is LATE_SKIP, its ARG the epoch expected (R477). -/
def State.commitEntry (s : State) (qp : Nat) (p : Bytes) : Entry :=
  let time := fieldN p 0 1 == 1
  let sel := fieldN p 1 1
  { st := .arming, owner := .queue qp, src := if time then 0 else sel, tkind := if time then sel + 1 else 0, either := false,
    late := 1, action := 6, target := if time then lktVal (sliceB p 8 16) / 65536 else fieldN p 8 6, rel := none,
    interval := 0, arg := s.nextEpoch, seq := 0, tick := s.time.tick, cmd := none }

/-- A phase target 2^31 cycles ahead; any farther one is behind (03 R57, 19 R477). -/
def State.targetFar (s : State) (e : Entry) : Bool := e.tkind == 0 && dphase e.target (s.phase e.src) == -140737488355328

/-- A set holds an item that rolls (R481). -/
def StagedSet.rolls (t : StagedSet) : Bool := t.codebook.isSome || t.image.isSome

/-- EPOCH_COMMIT: the staged set is closed and its entry armed; it completes with the commit (R476, R477, R481, 03 R76). -/
def execEpochCommit (x : At) (qp tag : Nat) (_data : Option Bytes) (s : State) : Host.Outcome State Fault Refusal :=
  .next (s.run x qp tag 0x0A03 fun s c =>
    let e := s.commitEntry c.qp c.params
    if s.ep.armed.isSome ∨ (s.ep.staged.rolls ∧ s.ep.rolling.isSome) ∨ (e.tkind = 0 ∧ (s.source e.src).st = .disabled) then
      s.complete c.qp c.tag stBadState 0 []
    else if s.targetFar e then s.complete c.qp c.tag stBadParam 0 []
    else match s.allocEntry 255 6 0 with
      | .error _ => s.complete c.qp c.tag stNoResource 0 []
      | .ok id =>
        let a : ArmedCommit :=
          { set := s.ep.staged, entry := id, qp := c.qp, tag := c.tag, eff := none, waits := false, detail := 0 }
        let s := { s.setEntry id e with ep := { s.ep with armed := some a, staged := StagedSet.empty } }
        s.setProg c.qp c.tag (.waiting id 0))

/-- EPOCH_DISCARD: nothing stays staged, an armed host commit is withdrawn with its set (R476). -/
def execEpochDiscard (x : At) (qp tag : Nat) (_data : Option Bytes) (s : State) : Host.Outcome State Fault Refusal :=
  .next (s.run x qp tag 0x0A04 fun s c =>
    ((s.stage fun _ => StagedSet.empty).disarmCommit stBadState false).complete c.qp c.tag stOK 0 [])

/-- Something is staged. -/
def StagedSet.any (t : StagedSet) : Bool := decide (t ≠ StagedSet.empty)

/-- The epoch record (18 R469). -/
def State.epochRec (s : State) : Bytes :=
  toLE 4 s.ep.epoch ++ toLE 4 s.epochFrom ++
    toLE 1 (b2n s.ep.rolling.isSome + 2 * b2n s.ep.staged.any + 4 * b2n s.ep.armed.isSome) ++ toLE 3 0 ++
    toLE 4 (if s.ep.armed.isSome then s.nextEpoch else 0) ++ toLE 16 0

/-- EPOCH_READ. -/
def execEpochRead (x : At) (qp tag : Nat) (_data : Option Bytes) (s : State) : Host.Outcome State Fault Refusal :=
  .next (s.run x qp tag 0x0A05 fun s c => s.complete c.qp c.tag stOK 0 s.epochRec)

/-! ### Commits take effect (19 R478 to R482, R491, R492) -/

/-- The fired host commit takes effect: its atomic items at once, its rolling ones in parts; a replacement that no longer
fits is dropped, and the rest returns to staged (R492). -/
def State.applyCommit (s : State) (a : ArmedCommit) : State :=
  let s := { s with ep := { s.ep with armed := none } }
  let chosen := a.set.image.bind fun i =>
    if s.unit.state = .run then (s.choosePlacement i.1 i.2).map fun c => (i.1, c.1, c.2) else none
  if a.set.image.isSome ∧ chosen.isNone then
    { s with ep := { s.ep with staged := { a.set with image := none }.onto s.ep.staged } }.complete a.qp a.tag stNoResource
      a.detail []
  else
    let old := s.ep.epoch
    let s := s.bumpEpoch
    let r := match chosen with
      | some (m, p, b) => s.replaceImage m p b
      | none => ([], s)
    let s := r.2.commitItems a.set
    let k := match a.set.codebook.or (chosen.bind fun (i : HiveImg × Nat × List Nat) => i.1.codebook) with
      | some b => s.commitBook b
      | none => ([], s)
    let s := k.2.startRolling old (r.1 ++ k.1)
    let s := match chosen with
      | some (m, _, _) => (s.mapped fun s => s.configRows m.site.stores).recheckModules.updatePairs.evalCapacity
      | none => s
    s.wakeUsed.complete a.qp a.tag stOK a.detail (toLE 4 s.ep.epoch ++ toLE 4 0)

/-- An arming of this tick is still to take effect: it comes before a commit of the tick (03 R70). -/
def State.armingsDue (s : State) : Bool := s.sched.entries.any fun e => s.armingDue e.2

/-- A commit has taken effect at this tick: at most one does (19 R480). -/
def State.commitDone (s : State) : Bool := s.ep.commitTick == some s.time.tick

/-- COMMIT_EFFECT: at its effect tick a fired host commit is applied, after the tick's armings; not while its word waits
across a pause or a move is in progress. -/
def execCommitEffect (x : At) (s : State) : Host.Outcome State Fault Refusal :=
  let s := s.enter x
  .next (match s.ep.armed with
    | none => s
    | some a => match a.eff with
      | none => s
      | some e =>
        if s.time.tick < e ∨ a.waits ∨ s.wafer.move.isSome ∨ s.armingsDue ∨ s.commitDone then s
        else (s.applyCommit a).retireDue)

/-- An attach's commit: its changes, and the attach ends (10 R261). -/
def State.applyEngine (s : State) (i : Nat) (e : EngineCommit) : State :=
  let s := { s with ep := { s.ep with engine := s.ep.engine.eraseIdx i } }.bumpEpoch
  let xf := e.xforms.foldl (fun l (v : Nat × Bytes) => tset l v.1 v.2) s.xforms
  let s := { s with xforms := xf }
  (e.sources.foldl (fun s v => s.commitSource v.1 v.2) s).attachCommitted e.module

/-- The engine commit due first. -/
def State.engineDue (s : State) : Option Nat :=
  (List.range s.ep.engine.length).find? fun i => match s.ep.engine[i]? with
    | some e => match e.eff with
      | some t => decide (t ≤ s.time.tick) && s.ep.engine.all fun v => match v.eff with
        | some u => decide (t ≤ u)
        | none => true
      | none => false
    | none => false

/-- A per-slot write-back is issued and its row serves: a placement move waits for it (08 R203). -/
def State.backsOpen (s : State) : Bool :=
  s.store.transfers.any fun t => match s.resEntry t.entry with
    | some e => e.mode == 2 && (s.row (t.sup / 8)).serving
    | none => false

/-- ENGINE_COMMIT: an attach's commit at its effect tick, after the tick's armings; with none due, the commit that ends a
placement move, which waits for the open sweep and for issued write-backs (R480, 08 R203, 13 R331; log entry 21). -/
def execEngineCommit (x : At) (s : State) : Host.Outcome State Fault Refusal :=
  let s := s.enter x
  .next (if s.armingsDue || s.commitDone then s
    else match s.engineDue with
    | some i => match s.ep.engine[i]? with
      | some e => s.applyEngine i e
      | none => s
    | none => if s.wafer.move.isSome && s.place.sweep.isNone && s.wafer.pause.isNone && !s.backsOpen then s.endMove.retireDue
        else s)

/-! ### Rolling changes (19 R485, R486, R489, R493) -/

/-- The super a part is applied in. -/
def State.partSuper (s : State) (p : RollPart) : Option Nat :=
  match p with
  | .slots q => some q
  | .region r => (s.region r).map fun e => s.ep.binding.getD e.lsuper 64
  | .shard _ => none

/-- A part may be applied: it is the first of its super, and its row serves (R489, R493); of the shards, the lowest whose
shadow copy is not complete and whose row serves (13 R336, R338). -/
def State.partReady (s : State) (parts : List RollPart) (p : RollPart) : Bool :=
  match s.partSuper p with
  | some q => (parts.find? fun o => s.partSuper o == some q) == some p &&
      ((s.row (q / 8)).serving || (s.row (q / 8)).config == 0)
  | none => match p with
    | .shard k => (s.shardPlans.find? fun d => d.shard == k).any (fun d => (s.readRow d).isSome) &&
        parts.all fun o => match o with
          | .shard j => decide (k ≤ j) || (s.shard j).shadowDone ||
              !(s.shardPlans.find? fun d => d.shard == j).any (fun d => (s.readRow d).isSome)
          | _ => true
    | _ => false

/-- ROLLING_PART_APPLIED: a region is filled, a batch of slots switches, a shard's shadow copy is complete; that shard
switches at the next batch close (13 R336). -/
def execRollingPartApplied (x : At) (part : RollPart) (s : State) : Host.Outcome State Fault Refusal :=
  let s := s.enter x
  .next (match s.ep.rolling with
    | none => s
    | some r =>
      if !r.parts.contains part || !s.partReady r.parts part || s.wafer.move.isSome then s
      else
        let done := { s with ep := { s.ep with rolling := some { r with parts := r.parts.erase part } } }
        match part with
        | .region k => (done.applyRegion k).retireDue
        | .slots p => done.applySlots p
        | .shard k => if (s.shard k).shadowDone then s else s.shadowShard k)

/-- ROLLING_CHANGE_END: with no part left the change ends: the marking clears, the old codebook is released (R485). -/
def execRollingChangeEnd (x : At) (s : State) : Host.Outcome State Fault Refusal :=
  let s := s.enter x
  .next (match s.ep.rolling with
    | none => s
    | some r =>
      if !r.parts.isEmpty then s
      else
        let place := match s.place.next with
          | some b => { s.place with book := some b, next := none }
          | none => s.place
        { s with ep := { s.ep with rolling := none }, place := place, stg := { s.stg with unfilled := [] } })

end Sys2Proof.Machine
end

