-- ==== Sys2Proof/Machine/Firmware.lean ====
section
/-! DEFINITION. Firmware images: the envelope, staging, the boot slot, the image-set report (18 R470, 21 R530, R531, R533,
R536). -/

namespace Sys2Proof.Machine

/-! ### The envelope (21 R533, Table 21-5) -/

/-- Bytes of the header and the lists, padded. -/
def envLen (b : Bytes) : Nat := padLine (64 + 4 * fieldN b 12 1 + 4 * fieldN b 13 1 + 12 * fieldN b 14 2)

/-- The provided entries of an envelope. -/
def envProv (b : Bytes) : List IfaceProv :=
  (List.range (fieldN b 12 1)).map fun i =>
    let e := sliceB b (64 + 4 * i) 4
    { iface := fieldN e 0 1, lo := fieldN e 1 1, hi := fieldN e 2 1 }

/-- The required entries. -/
def envReqs (b : Bytes) : List IfaceReq := parseReqs b (64 + 4 * fieldN b 12 1) (fieldN b 13 1)

/-- Where the pair entries begin. -/
def envPairsAt (b : Bytes) : Nat := 64 + 4 * fieldN b 12 1 + 4 * fieldN b 13 1

/-- The envelope and its payload hold (R530 step 1, R533). -/
def envelopeOk (b : Bytes) (kind : Nat) : Bool :=
  let at_ := envPairsAt b
  let ends := at_ + 12 * fieldN b 14 2
  let n := fieldN b 16 4
  decide (64 ≤ b.length) && fieldN b 0 4 == 0x57464B4C && fieldN b 4 1 == 1 && fieldN b 60 4 == crc32 (b.take 60) &&
    fieldN b 5 1 == kind && zeroIn b 24 36 && (within 4 5 kind || zeroIn b 8 4) && within 0 32 (fieldN b 12 1) &&
    within 0 32 (fieldN b 13 1) && within 0 1024 (fieldN b 14 2) && b.length == envLen b + n &&
    fieldN b 20 4 == crc32 (sliceB b (envLen b) n) &&
    allItems b 64 4 (fieldN b 12 1) (fun e => zeroIn e 3 1 && decide (fieldN e 1 1 ≤ fieldN e 2 1)) &&
    allItems b (64 + 4 * fieldN b 12 1) 4 (fieldN b 13 1) (fun e => zeroIn e 2 2) &&
    allItems b at_ 12 (fieldN b 14 2) pairOk && ifacesOnce ((envProv b).map IfaceProv.iface) &&
    ifacesOnce ((envReqs b).map IfaceReq.iface) && zeroIn b ends (envLen b - ends)

/-- An image in its envelope, as a slot holds it. -/
def envImage (b : Bytes) : FwImage :=
  { level := fieldN b 6 2, maker := fieldN b 8 2, model := fieldN b 10 2, prov := envProv b, reqs := envReqs b,
    pairs := parsePairs b (envPairsAt b) (fieldN b 14 2) }

/-! ### FW_STAGE (18 R470, 21 R530) -/

/-- The KIND a target takes. -/
def targetKind (t : Nat) : Nat := if t ≤ 1 then 0 else t

/-- The greatest TOTAL of a target (21 Table 21-10). -/
def targetMax (t : Nat) : Nat := if t ≤ 1 ∨ t = 3 then 67108864 else 16777216

/-- The transfer open to a target and index. -/
def State.fwOpen (s : State) (target index : Nat) : Option FwTransfer :=
  s.fw.transfers.find? fun t => t.target == target && t.index == index

/-- Close a transfer. -/
def State.fwClose (s : State) (t : FwTransfer) : State :=
  { s with fw := { s.fw with transfers := s.fw.transfers.erase t } }

/-- The hub or module a target names. -/
def fwTarget (target index : Nat) : Nat := if target = 4 then 256 + index else index

/-- A hub's or module's image is for the target's own maker and model. -/
def State.modelOk (s : State) (target index : Nat) (b : Bytes) : Bool :=
  let r := (s.att (fwTarget target index)).record
  target ≤ 3 || (fieldN b 8 2 == recMaker r && fieldN b 10 2 == recModel r)

/-- The first requirement of the booted Keeper firmware that an image for a store, a hub or a module does not meet (R527,
10 R257). -/
def State.peerUnmet (s : State) (target : Nat) (f : FwImage) : Option (IfaceReq × Nat × Nat × Nat) :=
  let reqs := (s.fw.bootImg.map FwImage.reqs).getD []
  if target = 3 then firstUnmet f.provides (reqs.filter fun q => within 9 10 q.iface)
  else if 4 ≤ target then firstUnmet f.provides ([1, 2, 3, 4].map fun i => { iface := i, level := 1 })
  else none

/-- The status of every FW_STAGE addressed to a hub or module that cannot be reached (09 R238, R243, 10 R252). -/
def State.fwBlocked (s : State) (target index : Nat) : Option Nat :=
  if 4 ≤ target then s.moduleBlocked (fwTarget target index) else none

/-- A flash slot takes an image; it runs from the next step 8 or step 9 (R530, R531). -/
def State.putSlot (s : State) (target : Nat) (f : FwImage) : State :=
  let fw := { s.fw with refused := terase s.fw.refused (256 * target) }
  match target with
  | 0 => { s with fw := { fw with slotA := some f } }
  | 1 => { s with fw := { fw with slotB := some f } }
  | _ => { s with fw := { fw with micro := some f } }

/-- The end of a transfer: envelope, levels, write. -/
def State.fwEnd (s : State) (c : Cmd) (t : FwTransfer) : State :=
  let b := t.got
  let s := s.fwClose t
  let done := fun (s : State) (st : Nat) => s.complete c.qp c.tag st 0 []
  if !(b.length == t.total && envelopeOk b (targetKind t.target) && s.modelOk t.target t.index b) then done s stImage
  else
    let f := envImage b
    match s.peerUnmet t.target f with
    | some u => done (s.refuseImage t.target t.index f.level u t.target) stVersion
    | none =>
      if t.target = 3 ∧ !(s.row t.index).serving then done s stShard
      else if t.target ≤ 2 then done (s.putSlot t.target f) stOK
      else if t.target = 3 then done s stOK
      else
        let x : FwSend := { target := t.target, index := t.index, qp := c.qp, tag := c.tag,
                            rest := chunksOf 4096 (fieldN b 16 4 / 4096 + 1) (sliceB b (envLen b) (fieldN b 16 4)),
                            offset := 0 }
        let s := { s with fw := { s.fw with sends := s.fw.sends ++ [x] } }
        ((s.setProg c.qp c.tag (.waiting 0 0)).fwIssue (fwTarget t.target t.index) 3 0 []).wakeUsed

/-- FW_STAGE: begin, chunk or end of a transfer. -/
def execFwStage (x : At) (qp tag : Nat) (data : Option Bytes) (s : State) : Host.Outcome State Fault Refusal :=
  .next (s.run x qp tag 0x0B03 fun s c =>
    let p := c.params
    let target := fieldN p 0 1
    let index := fieldN p 1 1
    let done := fun (s : State) (st detail : Nat) => s.complete c.qp c.tag st detail []
    let busy := s.fw.sends.any fun f => f.target == target && f.index == index
    if 3 ≤ target ∧ !s.host.keeperReady then done s stBadState 0
    else match s.fwBlocked target index with
    | some st =>
      match fieldN p 2 1, s.fwOpen target index with
      | 2, some t => done (if t.qp = c.qp then s.fwClose t else s) st 0
      | _, _ => done s st 0
    | none =>
      match fieldN p 2 1, s.fwOpen target index with
      | 0, some _ => done s stBadState 0
      | 0, none =>
        if busy then done s stBadState 0
        else if targetMax target < fieldN p 8 4 ∨ fieldN p 12 4 ≠ 0 then done s stBadParam 0
        else
          let t : FwTransfer := { target := target, index := index, qp := c.qp, total := fieldN p 8 4, got := [] }
          done { s with fw := { s.fw with transfers := s.fw.transfers ++ [t] } } stOK 0
      | _, none => done s stBadState 0
      | 1, some t =>
        if t.qp ≠ c.qp then done s stBadState 0
        else if fieldN p 4 4 ≠ t.got.length then done s stBadParam 0
        else match dataOf p 16 24 (fieldN p 12 4) data with
          | none => done s stBadParam 0xFFFFFFFF
          | some d =>
            let fix := fun (u : FwTransfer) => if u = t then { u with got := u.got ++ d } else u
            done { s with fw := { s.fw with transfers := s.fw.transfers.map fix } } stOK 0
      | _, some t => if t.qp ≠ c.qp then done s stBadState 0 else s.fwEnd c t)

/-- FW_BOOT_SELECT: the slot tried first at the next boot (21 R522). -/
def execFwBootSelect (x : At) (qp tag : Nat) (_data : Option Bytes) (s : State) : Host.Outcome State Fault Refusal :=
  .next (s.run x qp tag 0x0B04 fun s c =>
    { s with fw := { s.fw with bootSlot := fieldN c.params 0 1 } }.complete c.qp c.tag stOK 0 [])

/-! ### FW_READ (21 R536) -/

/-- A report entry (Table 21-8). -/
def fwEntry (kind index state level maker model refuse : Nat) : Bytes :=
  toLE 1 kind ++ toLE 1 index ++ toLE 1 state ++ [0] ++ toLE 2 level ++ toLE 2 maker ++ toLE 2 model ++ toLE 2 refuse

/-- An image is one of an untested pair that runs. -/
def State.inPair (s : State) (kind index : Nat) : Bool :=
  s.fw.pairsRunning.any fun p => p.1 % 65536 == kind + 256 * index || p.2 % 65536 == kind + 256 * index

/-- FW_STATE of an image that is held. -/
def State.fwState (s : State) (kind index : Nat) (runs : Bool) : Nat :=
  if runs then (if s.inPair kind index then 3 else 1)
  else if (tget s.fw.refused (256 * kind + index)).isSome then 2 else 0

/-- REFUSE of an image. -/
def State.fwRefuse (s : State) (kind index : Nat) : Nat := tgetD s.fw.refused (256 * kind + index) 0

/-- The entry of a flash slot. -/
def State.slotEntry (s : State) (kind : Nat) (f : Option FwImage) (runs : Bool) : Bytes :=
  match f with
  | none => fwEntry kind 0 4 0 0 0 0
  | some f => fwEntry kind 0 (s.fwState kind 0 runs) f.level 0 0 (s.fwRefuse kind 0)

/-- The entry of a hub or module. -/
def State.peerEntry (s : State) (kind index t : Nat) : Bytes :=
  let a := s.att t
  fwEntry kind index (s.fwState kind index (a.st == .attached || a.st == .mismatch)) (recLevel a.record)
    (recMaker a.record) (recModel a.record) (s.fwRefuse kind index)

/-- The report. -/
def State.fwReport (s : State) : Bytes :=
  let slots := s.slotEntry 0 s.fw.slotA (s.fw.booted == some 0) ++ s.slotEntry 1 s.fw.slotB (s.fw.booted == some 1) ++
    s.slotEntry 2 s.fw.micro s.fw.microRun.isSome
  let rows := ((List.range 8).filter fun r => (s.row r).config != 0).map fun r =>
    let st := (s.row r).st
    fwEntry 3 r (if st == .refused then 2 else s.fwState 3 r (st == .serving || st == .resync)) (s.row r).fwLevel 0 0
      (s.fwRefuse 3 r)
  let hubs := ((List.range 16).filter s.spUp).map fun p => s.peerEntry 4 p (256 + p)
  let mods := ((List.range 256).filter fun m => s.spUp (m / 16) && (s.sport (m / 16)).modulesUp.contains (m % 16)).map
    fun m => s.peerEntry 5 m m
  let hive := match s.ep.image with
    | some m => [fwEntry 6 0 (s.fwState 6 0 true) m.gebetex 0 0 0]
    | none => []
  let es := rows ++ hubs ++ mods ++ hive
  toLE 1 1 ++ toLE 1 s.fw.bootSlot ++ toLE 1 (s.fw.booted.getD 255) ++ toLE 1 (min 255 s.fw.pairsRunning.length) ++
    toLE 2 (3 + es.length) ++ toLE 10 0 ++ slots ++ catB es

/-- FW_READ. -/
def execFwRead (x : At) (qp tag : Nat) (_data : Option Bytes) (s : State) : Host.Outcome State Fault Refusal :=
  .next (s.run x qp tag 0x0B02 fun s c => s.complete c.qp c.tag stOK 0 s.fwReport)

end Sys2Proof.Machine
end

