-- ==== Sys2Proof/Machine/MemAcc.lean ====
section
/-! DEFINITION. Diagnostic access to cells and store lines (07 R187 to R189, 08 R219, 18 R471). -/

namespace Sys2Proof.Machine

/-- Why a cell may not be accessed (07 R187). -/
def State.cellRefusal (s : State) (g : Nat) : Option Nat :=
  if !s.unsealed (g / 144) then some stSealed
  else if (s.super (g / 144)).sites.getD (g % 144) 3 ≠ 0 then some stBadState
  else none

/-- Why an access to a space is refused (07 R187, 08 R219). -/
def State.memRefusal (s : State) (space loc : Nat) : Option Nat :=
  if space = 0 then s.cellRefusal loc else if (s.row loc).serving then none else some stShard

/-- Two byte ranges overlap. -/
def overlap (a n b m : Nat) : Bool := decide (a < b + m) && decide (b < a + n)

/-- A range of a cell lies in a region of the memory plan in use (07 R188). -/
def State.planTouches (s : State) (g addr len : Nat) : Bool :=
  match s.ep.image with
  | none => false
  | some m => (List.range m.plan.length).any fun r => match m.plan[r]?, s.regionAt r with
    | some e, some (c, o) => e.placement == s.ep.placement && c == g && overlap addr len o e.len
    | _, _ => false

/-- A range of a row's store lies in an entry of the residency plan in use (08 R219). -/
def State.residencyTouches (s : State) (row addr len : Nat) : Bool :=
  match s.ep.image with
  | none => false
  | some m => m.residency.any fun b =>
      fieldN b 0 1 == s.ep.placement && overlap addr len (fieldN b 8 8) (fieldN b 20 4) &&
        (let r := s.ep.binding.getD (fieldN b 1 1) 64 / 8
         r == row || (s.row row).config == 2 && s.partner row == some r)

/-- A diagnostic read in RUN has found words of weight regions uncorrectable: they are fetched again (07 R186). -/
def State.refetchRead (s : State) (g addr len : Nat) : State :=
  let sound := fun (w : Nat) => (soundWord (s.wordClass g w) (s.wordD g w) (s.wordC g w)).isSome
  let bad := (List.range' (addr / 8) ((addr % 8 + len + 7) / 8)).filter fun w => !sound w
  let hit := (s.regionsOf fun e => e.kind == 0).filter fun r => match s.region r, s.regionAt r with
    | some e, some (c, o) => c == g && bad.any fun w => overlap (8 * w) 8 o e.len
    | _, _ => false
  if s.unit.state = .run then hit.foldl State.refetchWeight s else s

/-- MEM_READ (07 R187). -/
def execMemRead (x : At) (qp tag : Nat) (_data : Option Bytes) (s : State) : Host.Outcome State Fault Refusal :=
  .next (s.run x qp tag 0x0C01 fun s c =>
    let p := c.params
    let space := fieldN p 0 1
    let loc := fieldN p 4 4
    match s.memRefusal space loc with
    | some st => s.complete c.qp c.tag st 0 []
    | none =>
      let r := if space = 0 then s.readWords loc (fieldN p 8 8) (fieldN p 16 4)
        else s.readStore loc (fieldN p 8 8) (fieldN p 16 4)
      let t := r.2.complete c.qp c.tag r.1.status r.1.addr r.1.data
      (if space = 0 then t.refetchRead loc (fieldN p 8 8) (fieldN p 16 4) else t).retireDue)

/-- MEM_WRITE: whole words or lines by full writes, the ends by partial ones (07 R187, R188). -/
def execMemWrite (x : At) (qp tag : Nat) (data : Option Bytes) (s : State) : Host.Outcome State Fault Refusal :=
  .next (s.run x qp tag 0x0C02 fun s c =>
    let p := c.params
    let space := fieldN p 0 1
    let loc := fieldN p 4 4
    let addr := fieldN p 8 8
    let len := fieldN p 16 4
    let used := if space = 0 then s.planTouches loc addr len else s.residencyTouches loc addr len
    match s.memRefusal space loc, dataOf p 24 32 len data with
    | some st, _ => s.complete c.qp c.tag st 0 []
    | none, none => s.complete c.qp c.tag stBadParam 0xFFFFFFFF []
    | none, some b =>
      if s.unit.state = .run ∧ used ∧ !bitAt (fieldN p 20 1) 0 then s.complete c.qp c.tag stBadState 0 []
      else
        let r := if space = 0 then s.writeWords loc addr b else s.writeStore loc addr b
        (r.2.complete c.qp c.tag r.1.status r.1.addr []).retireDue)

/-- A raw word record (07 Table 7-5). -/
def State.rawWord (s : State) (g w : Nat) : Bytes :=
  let d := s.wordD g w
  let k := s.wordC g w
  toLE 8 d ++ toLE 1 k ++ toLE 1 (wordS d k + 128 * b2n (wordP d k)) ++ toLE 1 (s.rawClass g w) ++ toLE 5 0

/-- CLASS of a line (18 R471). -/
def lineClass : WordClass → Nat
  | .clean => 0
  | .correctable => 1
  | .uncorrectable => 2
  | .poison => 3

/-- A raw line record (18 R471). -/
def State.rawLine (s : State) (r addr : Nat) : Bytes :=
  let l := s.line r addr
  l ++ catB ((rsSyndrome l).map (toLE 1)) ++ toLE 1 (lineClass (classifyLine l)) ++ toLE 15 0

/-- MEM_READ_RAW: no correction, no event, no count (07 R189). -/
def execMemReadRaw (x : At) (qp tag : Nat) (_data : Option Bytes) (s : State) : Host.Outcome State Fault Refusal :=
  .next (s.run x qp tag 0x0C03 fun s c =>
    let p := c.params
    let loc := fieldN p 4 4
    let addr := fieldN p 8 8
    let len := fieldN p 16 4
    match s.memRefusal (fieldN p 0 1) loc with
    | some st => s.complete c.qp c.tag st 0 []
    | none =>
      let b := if fieldN p 0 1 = 0 then catB ((List.range (len / 8)).map fun i => s.rawWord loc (addr / 8 + i))
        else catB ((List.range (len / 64)).map fun i => s.rawLine loc (addr + 64 * i))
      s.complete c.qp c.tag stOK 0 b)

/-- Put a cell under injection: its poison register is emptied with no event (07 R189). -/
def State.inject (s : State) (g : Nat) : State :=
  { s with cells := { s.cells with injected := sins s.cells.injected g, poison := terase s.cells.poison g } }

/-- MEM_WRITE_RAW: data and check bytes as given, by full writes (07 R189). -/
def execMemWriteRaw (x : At) (qp tag : Nat) (_data : Option Bytes) (s : State) : Host.Outcome State Fault Refusal :=
  .next (s.run x qp tag 0x0C04 fun s c =>
    let p := c.params
    let g := fieldN p 0 4
    match s.cellRefusal g with
    | some st => s.complete c.qp c.tag st 0 []
    | none =>
      let s := (List.range (fieldN p 16 2)).foldl (fun s i =>
        s.putWord g (fieldN p 8 8 / 8 + i) (fieldN p (24 + 12 * i) 8) (fieldN p (32 + 12 * i) 1)) (s.inject g)
      s.complete c.qp c.tag stOK 0 [])

end Sys2Proof.Machine
end

