-- ==== Sys2Proof/Machine/Ptp.lean ====
section
/-! DEFINITION. The PTP message exchange and the device-mode servo (04 R103, R108 to R110, R116). -/

namespace Sys2Proof.Machine

/-! ### Reception -/

/-- A message a row takes: on a site port that works, with Keeper firmware running, PTP version 2 and one of some types. -/
def State.ptpTakes (s : State) (port : Nat) (m : Bytes) (types : List Nat) (len : Nat) : Bool :=
  s.host.keeperReady && s.agentPortUp port && decide (len ≤ m.length) && fieldN m 1 1 % 16 == 2 && types.contains (ptpType m) &&
    !(s.ptpDoms port m).isEmpty

/-- Keep a received message for PTP_READ in host-assisted mode, with its record's SEQ (04 R116, 18 R468); a general message
has no record, and its SEQ is free (log entry 7). The spec gives no number of messages held: all are (DESIGN CHOICE, log
entry 57). -/
def State.keepPtp (s : State) (port : Nat) (m : Bytes) (seq : Nat) : State :=
  if s.ha 0 then
    let e := toLE 4 seq ++ toLE 2 m.length ++ toLE 1 ((s.ptpDoms port m).headD 1) ++ [0] ++ m.take 256 ++
      List.replicate (256 - m.length) 0
    { s with cap := { s.cap with ptp := s.cap.ptp ++ [e] } }
  else s

/-- A message is received: an event message is stamped `k` capture steps after the tick. -/
def State.hearPtp (s : State) (k port : Nat) (m : Bytes) : State :=
  if ptpEvent m then
    let c := s.ptpCapture port 2 k m
    c.2.keepPtp port m c.1
  else if s.ha 0 then
    let f := s.free
    f.2.keepPtp port m (f.1 % nsU)
  else s

/-- When a message reached the connector, in a domain's time (04 R103). -/
def State.heardAt (s : State) (d k : Nat) : Int := (s.counterAt d k : Int) - rxDelay

/-! ### The servo (04 R110) -/

/-- Increments the engine writes keep to R91's range. -/
def clampIncr (v : Nat) : Nat := max 0xFFBE76C9 (min 0x100418937 v)

/-- An offset from the master is used: a step beyond STEP_LIMIT, else an increment; none in host-assisted mode (04 R110,
R116). -/
def State.useOffset (s : State) (d : Nat) (off : Int) : State :=
  if s.ha 0 then s
  else if decide ((s.time.settings.stepLimit * nsU : Nat) < off.natAbs) then
    (if s.stepFits d (-off) then s.issueWrite d (.stepBy (-off)) none else s)
  else
    let os := off :: (s.servo d).offsets
    (s.modServo d fun v => { v with offsets := os }).issueWrite d
      (.incr (clampIncr (Config.servoIncr s.time.settings.servoBw (s.dom d).incr os))) none

/-- A Sync's origin and receive times are known: the offset less the path delay is used (04 R110); before the first response
to a request the path delay is 0 (DESIGN CHOICE, log entry 57). -/
def State.syncUsed (s : State) (d : Nat) (t1 t2 : Int) : State :=
  let s := s.modServo d fun v => { v with last := some (t1, t2), sync := none }
  s.useOffset d (t2 - t1 - (s.servo d).path)

/-- A message comes from the master chosen. -/
def Servo.fromMaster (v : Servo) (m : Bytes) : Bool :=
  match v.master with
  | some a => sliceB a 20 10 == ptpSource m
  | none => false

/-- PTP_SYNC: one-step it is used at once, two-step with its Follow_Up; a two-step Sync still waiting is discarded (04
R109). -/
def execPtpSync (x : At) (k port : Nat) (msg : List Byte) (s : State) : Host.Outcome State Fault Refusal :=
  let s := s.enter x
  .next (if !s.ptpTakes port msg [0] 44 then s
    else
      let ds := s.ptpDoms port msg
      (ds.filter fun d => (s.servo d).fromMaster msg).foldl (fun s d =>
        let t2 := s.heardAt d k
        if ptpTwoStep msg then s.modServo d fun v => { v with sync := some (ptpSeq msg, t2, ptpCorr msg) }
        else s.syncUsed d (ptpTime msg + ptpCorr msg) t2) (s.hearPtp k port msg))

/-- PTP_FOLLOW_UP: the two-step Sync it names is used (04 R110). -/
def execPtpFollowUp (x : At) (k port : Nat) (msg : List Byte) (s : State) : Host.Outcome State Fault Refusal :=
  let s := s.enter x
  .next (if !s.ptpTakes port msg [8] 44 then s
    else
      let ds := s.ptpDoms port msg
      (ds.filter fun d => (s.servo d).fromMaster msg).foldl (fun s d => match (s.servo d).sync with
        | some (q, t2, c) => if q = ptpSeq msg then s.syncUsed d (ptpTime msg + c + ptpCorr msg) t2 else s
        | none => s) (s.hearPtp k port msg))

/-- What orders datasets: priorities, quality, identity, steps removed, then the sender (04 Table 4-3). -/
def datasetKey (m : Bytes) : List Nat := (sliceB m 47 16 ++ sliceB m 20 10).map BitVec.toNat

/-- A key comes before another of the same length. -/
def lexLt : List Nat → List Nat → Bool
  | a :: as, b :: bs => decide (a < b) || (a == b && lexLt as bs)
  | _, _ => false

/-- PTP_ANNOUNCE: the best dataset heard is the master's (04 Table 4-3), from its first Announce on and until a better one is
heard: the table gives no qualification and no receipt timeout (DESIGN CHOICE, log entry 57). -/
def execPtpAnnounce (x : At) (k port : Nat) (msg : List Byte) (s : State) : Host.Outcome State Fault Refusal :=
  let s := s.enter x
  .next (if !s.ptpTakes port msg [11] 64 then s
    else (s.ptpDoms port msg).foldl (fun s d => s.modServo d fun v =>
      if v.fromMaster msg then { v with master := some msg }
      else match v.master with
        | some a => if lexLt (datasetKey msg) (datasetKey a) then { v with master := some msg, sync := none } else v
        | none => { v with master := some msg, sync := none }) (s.hearPtp k port msg))

/-! ### Requests and path delay (04 R109) -/

/-- The clock identity of a site port, and its port identity. -/
def State.clockId (s : State) (port : Nat) : Bytes :=
  let m := s.unit.macs.getD port []
  m.take 3 ++ [0xFF, 0xFE] ++ m.drop 3 ++ [0, 1]

/-- A message the engine sends: type, domain, flags, sequence and body. -/
def State.ptpMsg (s : State) (d port type seq flags control : Nat) (body : Bytes) : Bytes :=
  let sdo := 16 * b2n (asOf s.time.settings d)
  toLE 1 (sdo + type) ++ [0x12] ++ netOrder 2 (34 + body.length) ++ toLE 1 ((ptpOf s.time.settings d).getD 0) ++ [0] ++
    toLE 1 flags ++ [0] ++ toLE 8 0 ++ toLE 4 0 ++ s.clockId port ++ netOrder 2 seq ++ toLE 1 control ++ [0x7F] ++ body

/-- The Internet checksum of a header. -/
def ipSum (b : Bytes) : Nat :=
  let n := ((List.range (b.length / 2)).map fun i => beField b (2 * i) 2).sum
  let n := n % 65536 + n / 65536
  65535 - (n % 65536 + n / 65536)

/-- An IPv4 packet of one UDP datagram with no UDP checksum, from one port to the same (PRESUMED, log entry 24). -/
def udpPacket (src dst port : Nat) (m : Bytes) : Bytes :=
  let head := fun (sum : Nat) => [0x45, 0] ++ netOrder 2 (28 + m.length) ++ toLE 4 0 ++ [1, 17] ++ netOrder 2 sum ++
    netOrder 4 src ++ netOrder 4 dst
  head (ipSum (head 0)) ++ netOrder 2 port ++ netOrder 2 port ++ netOrder 2 (8 + m.length) ++ toLE 2 0 ++ m

/-- Send a message on queue 6 (16 Table 16-3): over Ethernet, peer messages to the peer address, others to the general one;
or in UDP over IPv4 to 224.0.1.129, port 319 for an event message and 320 for another (04 Table 4-3). A site port's IPv4
address is not stated: it is free (log entry 24). -/
def State.sendPtp (s : State) (d port : Nat) (msg : Bytes) : State :=
  if udpOf s.time.settings d then
    let ip := s.free
    ip.2.txFrame port 6 (ethFrame [0x01, 0, 0x5E, 0, 0x01, 0x81] (s.unit.macs.getD port []) none 0x0800
      (udpPacket (ip.1 % nsU) 0xE0000181 (if ptpEvent msg then 319 else 320) msg))
  else
    let dst : Bytes := if asOf s.time.settings d then [0x01, 0x80, 0xC2, 0, 0, 0x0E] else [0x01, 0x1B, 0x19, 0, 0, 0]
    s.txFrame port 6 (ethFrame dst (s.unit.macs.getD port []) none 0x88F7 msg)

/-- Send a request of a domain: Delay_Req or Pdelay_Req. -/
def State.sendReq (s : State) (d type control : Nat) (body : Bytes) : State :=
  let n := (s.servo d).nextSeq
  let p := portOf s.time.settings d
  let m := s.ptpMsg d p type n 0 control body
  (s.modServo d fun v => { v with nextSeq := (n + 1) % 65536, lastReqNs := some s.localNs }).sendPtp d p m

/-- The interval of Delay_Req in ns: the master's, or 1 s (04 R109). -/
def Servo.reqNs (v : Servo) : Nat :=
  match v.logInterval with
  | none => 1000000000
  | some l => if l < 0 then 1000000000 / 2 ^ l.natAbs else 1000000000 * 2 ^ l.natAbs

/-- A domain follows PTP by a profile on a port that works. -/
def State.follows (s : State) (d : Nat) (profile : Bool) : Bool :=
  s.host.keeperReady && (d == 1 || d == 2) && (ptpOf s.time.settings d).isSome && asOf s.time.settings d == profile &&
    s.agentPortUp (portOf s.time.settings d)

/-- PTP_DELAY_REQ_TIMER: a Delay_Req leaves when its interval has passed (04 R109). -/
def execPtpDelayReqTimer (x : At) (dom : Nat) (s : State) : Host.Outcome State Fault Refusal :=
  let s := s.enter x
  let due := match (s.servo dom).lastReqNs with
    | some t => decide (t + (s.servo dom).reqNs ≤ s.localNs)
    | none => true
  .next (if s.follows dom false && due then s.sendReq dom 1 1 (List.replicate 10 0) else s)

/-- PTP_PDELAY_REQ_TIMER: a Pdelay_Req leaves under the 802.1AS profile (04 R108). -/
def execPtpPdelayReqTimer (x : At) (dom : Nat) (s : State) : Host.Outcome State Fault Refusal :=
  let s := s.enter x
  .next (if s.follows dom true then s.sendReq dom 2 5 (List.replicate 20 0) else s)

/-- PTP_DELAY_RESP: the path delay from the last Sync and the Delay_Req answered, and the interval (04 R109, R110). -/
def execPtpDelayResp (x : At) (k port : Nat) (msg : List Byte) (s : State) : Host.Outcome State Fault Refusal :=
  let s := s.enter x
  .next (if !s.ptpTakes port msg [9] 54 then s
    else
      let ds := s.ptpDoms port msg
      (ds.filter fun d => (s.servo d).fromMaster msg && !asOf s.time.settings d && sliceB msg 44 10 == s.clockId port).foldl
        (fun s d => match (s.servo d).delayTx with
          | some (q, t3) =>
            if q = ptpSeq msg then s.modServo d fun v =>
              let path := match v.last with
                | some (t1, t2) => ((t2 - t1) + (ptpTime msg - ptpCorr msg - t3)) / 2
                | none => v.path
              { v with path := path, delayTx := none, logInterval := some (signedOf 8 (fieldN msg 33 1)) }
            else s
          | none => s) (s.hearPtp k port msg))

/-- PTP_PDELAY_REQ: answered with a two-step Pdelay_Resp and its Follow_Up (04 R108). -/
def execPtpPdelayReq (x : At) (k port : Nat) (msg : List Byte) (s : State) : Host.Outcome State Fault Refusal :=
  let s := s.enter x
  .next (if !s.ptpTakes port msg [2] 54 then s
    else
      let s := s.hearPtp k port msg
      ((s.ptpDoms port msg).filter fun d => asOf s.time.settings d).foldl (fun s d =>
        let t2 := s.heardAt d k
        let s := s.sendPtp d port (s.ptpMsg d port 3 (ptpSeq msg) 2 5 (ptpStamp t2 ++ ptpSource msg))
        s.sendPtp d port (s.ptpMsg d port 10 (ptpSeq msg) 0 5 (List.replicate 10 0 ++ ptpSource msg))) s)

/-- PTP_PDELAY_RESP: a Pdelay_Resp, or the Follow_Up that completes it, gives the path delay (04 R108). -/
def execPtpPdelayResp (x : At) (k port : Nat) (msg : List Byte) (s : State) : Host.Outcome State Fault Refusal :=
  let s := s.enter x
  .next (if !s.ptpTakes port msg [3, 10] 54 then s
    else
      let ds := s.ptpDoms port msg
      (ds.filter fun d => asOf s.time.settings d && sliceB msg 44 10 == s.clockId port).foldl (fun s d =>
        let v := s.servo d
        if ptpType msg = 3 then
          match v.delayTx with
          | some (q, t1) =>
            if q ≠ ptpSeq msg then s
            else
              let t4 := s.heardAt d k
              if ptpTwoStep msg then
                s.modServo d fun v => { v with pdelay := some (q, t4, ptpTime msg + ptpCorr msg) }
              else s.modServo d fun v => { v with path := (t4 - t1 - ptpCorr msg) / 2, delayTx := none }
          | none => s
        else
          match v.delayTx, v.pdelay with
          | some (q, t1), some (r, t4, t2) =>
            if q ≠ ptpSeq msg ∨ r ≠ ptpSeq msg then s
            else s.modServo d fun v =>
              { v with path := ((t4 - t1) - (ptpTime msg + ptpCorr msg - t2)) / 2, delayTx := none, pdelay := none }
          | _, _ => s) (s.hearPtp k port msg))

end Sys2Proof.Machine
end

