-- ==== Sys2Proof/Machine/SysCmd.lean ====
section
/-! DEFINITION. The system commands: state record, wafer map, quiesce and power-off, network settings, fault record; the end
of a quiesce and the pluggable cages (01 R28, R29, 05 R140, 06 R167, 18 Table 18-2, 22 R552). -/

namespace Sys2Proof.Machine

/-! ### STATE_READ (18 R467) -/

/-- STATE_READ: the record taken at acceptance. -/
def execStateRead (x : At) (qp tag : Nat) (_data : Option Bytes) (s : State) : Host.Outcome State Fault Refusal :=
  .next (s.run x qp tag 0x0101 fun s c => s.complete c.qp c.tag stOK 0 c.latch)

/-! ### WAFER_MAP_READ (05 R140) -/

/-- BUNDLE_B of a super (05 Table 5-4). -/
def bundleB (p : Nat) : Nat :=
  if p ≤ 5 then p + 1
  else if 8 ≤ p ∧ p ≤ 15 then p - 1
  else if 58 ≤ p ∧ p ≤ 63 then p - 43
  else 0

/-- WAGGLE_ROLE of a super: the root node stands in S(3,3), the quadrant nodes in S(1,1), S(6,1), S(1,6) and S(6,6) (05
R138). -/
def waggleRole (p : Nat) : Nat := if p = 27 then 2 else if [9, 14, 49, 54].contains p then 1 else 0

/-- TRUNK_STATE, by D_w (05 R138). -/
def trunkState (dw : Nat) : Nat := if dw = 38 then 0 else if dw = 46 then 1 else 2

/-- SITE_STATUS: two bits a site, four sites a byte. -/
def siteStatus (sites : List Nat) : Bytes :=
  (List.range 36).map fun i => BitVec.ofNat 8 (sites.getD (4 * i) 0 % 4 + 4 * (sites.getD (4 * i + 1) 0 % 4) +
    16 * (sites.getD (4 * i + 2) 0 % 4) + 64 * (sites.getD (4 * i + 3) 0 % 4))

/-- The map's entry of a super (Table 5-9). -/
def State.mapEntry (s : State) (p : Nat) : Bytes :=
  let u := s.super p
  toLE 1 u.st ++ toLE 1 u.keepers ++ toLE 1 u.enabled ++ toLE 1 u.spares ++ siteStatus u.sites ++ toLE 1 (bundleB p) ++
    toLE 1 (s.bundleA p) ++ toLE 1 (waggleRole p) ++ List.replicate 5 0 ++ u.remap.map (BitVec.ofNat 8) ++
    List.replicate 8 0

/-- The wafer map (Tables 5-8 and 5-9). -/
def State.waferMap (s : State) : Bytes :=
  let us := s.wafer.supers.filter fun u => u.st == 0
  toLE 1 1 ++ toLE 1 s.wafer.dw ++ toLE 2 (us.map Super.enabled).sum ++
    toLE 2 (us.map fun u => popcount u.keepers).sum ++ toLE 1 (64 - us.length) ++ toLE 1 (trunkState s.wafer.dw) ++
    toLE 4 s.wafer.mapSeq ++ List.replicate 4 0 ++ s.wafer.lastChange ++ List.replicate 32 0 ++
    catB ((List.range 64).map s.mapEntry)

/-- WAFER_MAP_READ. -/
def execWaferMapRead (x : At) (qp tag : Nat) (_data : Option Bytes) (s : State) : Host.Outcome State Fault Refusal :=
  .next (s.run x qp tag 0x0102 fun s c => s.complete c.qp c.tag stOK 0 s.waferMap)

/-! ### Quiesce and power-off (01 R28, R29, 21 R516, R521) -/

/-- UNIT_QUIESCE: OK at once in READY; otherwise complete when the quiesce completes. -/
def execUnitQuiesce (x : At) (qp tag : Nat) (_data : Option Bytes) (s : State) : Host.Outcome State Fault Refusal :=
  .next (s.run x qp tag 0x0104 fun s c =>
    if s.unit.state = .run ∨ s.unit.state = .quiesce then (s.setProg c.qp c.tag (.waiting 0 0)).startQuiesce
    else s.complete c.qp c.tag stOK 0 [])

/-- UNIT_POWER_OFF: the completion is written before the transition. -/
def execUnitPowerOff (x : At) (qp tag : Nat) (_data : Option Bytes) (s : State) : Host.Outcome State Fault Refusal :=
  .next (s.run x qp tag 0x0105 fun s c => (s.complete c.qp c.tag stOK 0 []).powerOff)

/-- A tile differs from what a store holds of it. -/
def State.tileDirty (s : State) (e : ResEntry) (t row : Nat) : Bool :=
  let n := min e.len 36864
  let held := catB ((List.range (n / 64)).map fun i =>
    (s.line (s.homeRow row (e.addr + 64 * i)) (e.addr + 64 * i)).take 64)
  !s.place.stored.contains t || held != sliceB (s.tileBytes t ++ s.tileMap t) 0 (n / 64 * 64)

/-- The dirty tiles of the placement's plan go back to the stores, where their rows serve (01 R29, 08 R203). -/
def State.flushTiles (s : State) : State :=
  (s.resIndices fun e => e.mode == 2).foldl (fun s k =>
    match s.resEntry k, s.ep.image.bind fun (m : HiveImg) => tget m.site.tiles k with
    | some e, some t =>
      let row := s.resSuper e / 8
      if (s.row row).serving && s.tileDirty e t row then s.tileOut e t row else s
    | _, _ => s) s

/-- What a quiesce lets end has ended: no instance runs, of this image or a replaced one, and no sweep is open (01 R29). -/
def State.drained (s : State) : Bool :=
  s.stg.runs.isEmpty && s.stg.old.all (fun (o : OldImage) => o.runs.isEmpty) && s.place.sweep.isNone &&
    s.place.merged.isEmpty && s.place.queue.isEmpty

/-- QUIESCE_COMPLETE: the tiles are written back and the image is unloaded; READY, or STANDBY where a power-off waits. -/
def execQuiesceComplete (x : At) (s : State) : Host.Outcome State Fault Refusal :=
  let s := s.enter x
  .next (if s.unit.state = .quiesce ∧ s.drained then
    let s := s.flushTiles.unload stBadState
    let s := if s.unit.powerOffPending then s.endQuiesce.powerDown else s.toReady
    s.retireDue
    else s)

/-! ### NET_CONFIG (17 R431, R454) -/

/-- An address as its four octets stand, first octet first. -/
def octets (b : Bytes) : Nat := b.foldl (fun n (v : Byte) => 256 * n + v.toNat) 0

/-- The queue pairs bound to a network port are disabled, with no event. -/
def State.unbindPort (s : State) (port : Nat) : State :=
  (List.range 64).foldl (fun s n =>
    let on := match (s.qp n).net with
      | some p => p.port == port
      | none => false
    if (s.qp n).enabled && (s.qp n).network && on then (s.disableQp n).modQp n fun q => { q with gen := q.gen + 1 }
    else s) s

/-- NET_CONFIG: the address applies from the completion. -/
def execNetConfig (x : At) (qp tag : Nat) (_data : Option Bytes) (s : State) : Host.Outcome State Fault Refusal :=
  .next (s.run x qp tag 0x0106 fun s c =>
    let p := c.params
    let port := fieldN p 0 1
    let n : NetPort := { ip := octets (sliceB p 4 4), prefixLen := fieldN p 8 1, gateway := octets (sliceB p 12 4) }
    let s := s.complete c.qp c.tag stOK 0 []
    { s with host := { s.host with netPorts := lmod s.host.netPorts (port - 8) fun _ => n } }.unbindPort port)

/-! ### FAULT_READ (06 R167) -/

/-- Entries lost to the ring's wrap, from the sequence number asked for. -/
def State.ringLost (s : State) (seq : Nat) : Nat :=
  match s.flash.ring with
  | e :: _ => sat32 (e.seq - seq)
  | [] => 0

/-- FAULT_READ: the summary, then the entries held from a sequence number on. -/
def execFaultRead (x : At) (qp tag : Nat) (_data : Option Bytes) (s : State) : Host.Outcome State Fault Refusal :=
  .next (s.run x qp tag 0x0B01 fun s c =>
    let seq := fieldN c.params 0 4
    let es := (s.flash.ring.filter fun e => decide (seq ≤ e.seq)).take (fieldN c.params 4 2)
    s.complete c.qp c.tag stOK (s.ringLost seq) (s.summary.bytes ++ catB (es.map FaultEvent.bytes)))

/-! ### Pluggable cages (22 R552) -/

/-- A cage's limit, in mW (Table 22-10): `SP0` to `SP15`, then `SITE0` to `SITE9`. -/
def cageLimit (cage : Nat) : Nat := if within 16 23 cage then 1500 else 3500

/-- PLUGGABLE_MODULE_INSERTED: a module of a declared power class, in mW. -/
def execPluggableModuleInserted (x : At) (cage power : Nat) (s : State) : Host.Outcome State Fault Refusal :=
  let s := s.enter x
  .next (if cage < 26 then
    { s with unit := { s.unit with cages := tset s.unit.cages cage (decide (power ≤ cageLimit cage)) } }
    else s)

end Sys2Proof.Machine
end

