-- ==== Sys2Proof/Machine/Dispatch.lean ====
section
/-! DEFINITION. One arm per command: a direct call of its meaning. -/

namespace Sys2Proof.Machine

def exec (i : Instr) (s : State) : Host.Outcome State Fault Refusal :=
  match i with
  | .standbyRailRises x => Sys2Proof.Machine.execStandbyRailRises x s
  | .standbyRailLost x => Sys2Proof.Machine.execStandbyRailLost x s
  | .standbyPowerOnTimer x flowLow => Sys2Proof.Machine.execStandbyPowerOnTimer x flowLow s
  | .buttonShortPress x flowLow => Sys2Proof.Machine.execButtonShortPress x flowLow s
  | .buttonLongPress x => Sys2Proof.Machine.execButtonLongPress x s
  | .regionsPoweredDown x => Sys2Proof.Machine.execRegionsPoweredDown x s
  | .startupStepComplete x r => Sys2Proof.Machine.execStartupStepComplete x r s
  | .regionRegulationTimeout x sup rail => Sys2Proof.Machine.execRegionRegulationTimeout x sup rail s
  | .keeperReadyReport x sup => Sys2Proof.Machine.execKeeperReadyReport x sup s
  | .keeperBootAttemptTimeout x => Sys2Proof.Machine.execKeeperBootAttemptTimeout x s
  | .hifReset x port value => Sys2Proof.Machine.execHifReset x port value s
  | .hifFlagsRead x port => Sys2Proof.Machine.execHifFlagsRead x port s
  | .registerWrite x port addr width value => Sys2Proof.Machine.execRegisterWrite x port addr width value s
  | .qpEnable x port qp value => Sys2Proof.Machine.execQpEnable x port qp value s
  | .qpDisable x port qp value => Sys2Proof.Machine.execQpDisable x port qp value s
  | .dbSq x port qp value pkts => Sys2Proof.Machine.execDbSq x port qp value pkts s
  | .dbCq x port qp value => Sys2Proof.Machine.execDbCq x port qp value s
  | .packetAccept x qp => Sys2Proof.Machine.execPacketAccept x qp s
  | .pciePortLost x port => Sys2Proof.Machine.execPciePortLost x port s
  | .netOpen x dg => Sys2Proof.Machine.execNetOpen x dg s
  | .netRequest x dg => Sys2Proof.Machine.execNetRequest x dg s
  | .netClose x dg => Sys2Proof.Machine.execNetClose x dg s
  | .netIdleTimeout x qp => Sys2Proof.Machine.execNetIdleTimeout x qp s
  | .arpRequest x a => Sys2Proof.Machine.execArpRequest x a s
  | .icmpEchoRequest x e => Sys2Proof.Machine.execIcmpEchoRequest x e s
  | .stateRead x qp tag data => Sys2Proof.Machine.execStateRead x qp tag data s
  | .waferMapRead x qp tag data => Sys2Proof.Machine.execWaferMapRead x qp tag data s
  | .storeRead x qp tag data => Sys2Proof.Machine.execStoreRead x qp tag data s
  | .unitQuiesce x qp tag data => Sys2Proof.Machine.execUnitQuiesce x qp tag data s
  | .unitPowerOff x qp tag data => Sys2Proof.Machine.execUnitPowerOff x qp tag data s
  | .netConfig x qp tag data => Sys2Proof.Machine.execNetConfig x qp tag data s
  | .timeRead x qp tag data => Sys2Proof.Machine.execTimeRead x qp tag data s
  | .timeIncrSet x qp tag data => Sys2Proof.Machine.execTimeIncrSet x qp tag data s
  | .timeStep x qp tag data => Sys2Proof.Machine.execTimeStep x qp tag data s
  | .domainSelect x qp tag data => Sys2Proof.Machine.execDomainSelect x qp tag data s
  | .captureArm x qp tag data => Sys2Proof.Machine.execCaptureArm x qp tag data s
  | .captureRead x qp tag data => Sys2Proof.Machine.execCaptureRead x qp tag data s
  | .captureSoft x qp tag data => Sys2Proof.Machine.execCaptureSoft x qp tag data s
  | .ptpRead x qp tag data => Sys2Proof.Machine.execPtpRead x qp tag data s
  | .sourceDefine x qp tag data => Sys2Proof.Machine.execSourceDefine x qp tag data s
  | .phaseRead x qp tag data => Sys2Proof.Machine.execPhaseRead x qp tag data s
  | .schedArm x qp tag data => Sys2Proof.Machine.execSchedArm x qp tag data s
  | .schedCancel x qp tag data => Sys2Proof.Machine.execSchedCancel x qp tag data s
  | .schedRead x qp tag data => Sys2Proof.Machine.execSchedRead x qp tag data s
  | .tsoFireNow x qp tag data => Sys2Proof.Machine.execTsoFireNow x qp tag data s
  | .linkStateRead x qp tag data => Sys2Proof.Machine.execLinkStateRead x qp tag data s
  | .linkSleep x qp tag data => Sys2Proof.Machine.execLinkSleep x qp tag data s
  | .linkWake x qp tag data => Sys2Proof.Machine.execLinkWake x qp tag data s
  | .linkBufWrite x qp tag data => Sys2Proof.Machine.execLinkBufWrite x qp tag data s
  | .moduleRead x qp tag data => Sys2Proof.Machine.execModuleRead x qp tag data s
  | .moduleRecordRead x qp tag data => Sys2Proof.Machine.execModuleRecordRead x qp tag data s
  | .moduleSiteWrite x qp tag data => Sys2Proof.Machine.execModuleSiteWrite x qp tag data s
  | .moduleReattach x qp tag data => Sys2Proof.Machine.execModuleReattach x qp tag data s
  | .veMatchRead x qp tag data => Sys2Proof.Machine.execVeMatchRead x qp tag data s
  | .veMatchSubmit x qp tag data => Sys2Proof.Machine.execVeMatchSubmit x qp tag data s
  | .xformWrite x qp tag data => Sys2Proof.Machine.execXformWrite x qp tag data s
  | .xformRead x qp tag data => Sys2Proof.Machine.execXformRead x qp tag data s
  | .trackRead x qp tag data => Sys2Proof.Machine.execTrackRead x qp tag data s
  | .tfeObsRead x qp tag data => Sys2Proof.Machine.execTfeObsRead x qp tag data s
  | .tfeAssocSubmit x qp tag data => Sys2Proof.Machine.execTfeAssocSubmit x qp tag data s
  | .placeQuery x qp tag data => Sys2Proof.Machine.execPlaceQuery x qp tag data s
  | .codebookLoad x qp tag data => Sys2Proof.Machine.execCodebookLoad x qp tag data s
  | .loopCandRead x qp tag data => Sys2Proof.Machine.execLoopCandRead x qp tag data s
  | .loopCloseSubmit x qp tag data => Sys2Proof.Machine.execLoopCloseSubmit x qp tag data s
  | .mapGraphRead x qp tag data => Sys2Proof.Machine.execMapGraphRead x qp tag data s
  | .mapPoseWrite x qp tag data => Sys2Proof.Machine.execMapPoseWrite x qp tag data s
  | .mapDistSet x qp tag data => Sys2Proof.Machine.execMapDistSet x qp tag data s
  | .edgeRead x qp tag data => Sys2Proof.Machine.execEdgeRead x qp tag data s
  | .blockedRead x qp tag data => Sys2Proof.Machine.execBlockedRead x qp tag data s
  | .occInject x qp tag data => Sys2Proof.Machine.execOccInject x qp tag data s
  | .routeGoalSet x qp tag data => Sys2Proof.Machine.execRouteGoalSet x qp tag data s
  | .routeCancel x qp tag data => Sys2Proof.Machine.execRouteCancel x qp tag data s
  | .routeRead x qp tag data => Sys2Proof.Machine.execRouteRead x qp tag data s
  | .routeEventRead x qp tag data => Sys2Proof.Machine.execRouteEventRead x qp tag data s
  | .routeSubmit x qp tag data => Sys2Proof.Machine.execRouteSubmit x qp tag data s
  | .layerWrite x qp tag data => Sys2Proof.Machine.execLayerWrite x qp tag data s
  | .layerCommit x qp tag data => Sys2Proof.Machine.execLayerCommit x qp tag data s
  | .layerUpload x qp tag data => Sys2Proof.Machine.execLayerUpload x qp tag data s
  | .displayRead x qp tag data => Sys2Proof.Machine.execDisplayRead x qp tag data s
  | .panelRead x qp tag data => Sys2Proof.Machine.execPanelRead x qp tag data s
  | .poseRead x qp tag data => Sys2Proof.Machine.execPoseRead x qp tag data s
  | .poseWrite x qp tag data => Sys2Proof.Machine.execPoseWrite x qp tag data s
  | .agentBufWrite x qp tag data => Sys2Proof.Machine.execAgentBufWrite x qp tag data s
  | .tsnListWrite x qp tag data => Sys2Proof.Machine.execTsnListWrite x qp tag data s
  | .imageLoad x qp tag data sd => Sys2Proof.Machine.execImageLoad x qp tag data sd s
  | .fnModeSet x qp tag data => Sys2Proof.Machine.execFnModeSet x qp tag data s
  | .epochCommit x qp tag data => Sys2Proof.Machine.execEpochCommit x qp tag data s
  | .epochDiscard x qp tag data => Sys2Proof.Machine.execEpochDiscard x qp tag data s
  | .epochRead x qp tag data => Sys2Proof.Machine.execEpochRead x qp tag data s
  | .faultRead x qp tag data => Sys2Proof.Machine.execFaultRead x qp tag data s
  | .fwRead x qp tag data => Sys2Proof.Machine.execFwRead x qp tag data s
  | .fwStage x qp tag data => Sys2Proof.Machine.execFwStage x qp tag data s
  | .fwBootSelect x qp tag data => Sys2Proof.Machine.execFwBootSelect x qp tag data s
  | .memRead x qp tag data => Sys2Proof.Machine.execMemRead x qp tag data s
  | .memWrite x qp tag data => Sys2Proof.Machine.execMemWrite x qp tag data s
  | .memReadRaw x qp tag data => Sys2Proof.Machine.execMemReadRaw x qp tag data s
  | .memWriteRaw x qp tag data => Sys2Proof.Machine.execMemWriteRaw x qp tag data s
  | .waitTimeout x qp tag => Sys2Proof.Machine.execWaitTimeout x qp tag s
  | .imageAreaWritten x => Sys2Proof.Machine.execImageAreaWritten x s
  | .entryFires x id => Sys2Proof.Machine.execEntryFires x id s
  | .pulseTrailingEdge x output => Sys2Proof.Machine.execPulseTrailingEdge x output s
  | .armingTakesEffect x id => Sys2Proof.Machine.execArmingTakesEffect x id s
  | .heldArmingReleased x id => Sys2Proof.Machine.execHeldArmingReleased x id s
  | .commitEffect x => Sys2Proof.Machine.execCommitEffect x s
  | .engineCommit x => Sys2Proof.Machine.execEngineCommit x s
  | .rollingPartApplied x part => Sys2Proof.Machine.execRollingPartApplied x part s
  | .rollingChangeEnd x => Sys2Proof.Machine.execRollingChangeEnd x s
  | .encoderCount x k input a b => Sys2Proof.Machine.execEncoderCount x k input a b s
  | .encoderZEdge x k input level => Sys2Proof.Machine.execEncoderZEdge x k input level s
  | .sourceStall x src => Sys2Proof.Machine.execSourceStall x src s
  | .tsiEdge x k input rising => Sys2Proof.Machine.execTsiEdge x k input rising s
  | .ppsOutRise x => Sys2Proof.Machine.execPpsOutRise x s
  | .ppsOutFall x => Sys2Proof.Machine.execPpsOutFall x s
  | .timeWriteTakesEffect x => Sys2Proof.Machine.execTimeWriteTakesEffect x s
  | .holdoverEntry x dom => Sys2Proof.Machine.execHoldoverEntry x dom s
  | .ptpSync x k port msg => Sys2Proof.Machine.execPtpSync x k port msg s
  | .ptpFollowUp x k port msg => Sys2Proof.Machine.execPtpFollowUp x k port msg s
  | .ptpAnnounce x k port msg => Sys2Proof.Machine.execPtpAnnounce x k port msg s
  | .ptpDelayResp x k port msg => Sys2Proof.Machine.execPtpDelayResp x k port msg s
  | .ptpPdelayReq x k port msg => Sys2Proof.Machine.execPtpPdelayReq x k port msg s
  | .ptpPdelayResp x k port msg => Sys2Proof.Machine.execPtpPdelayResp x k port msg s
  | .ptpDelayReqTimer x dom => Sys2Proof.Machine.execPtpDelayReqTimer x dom s
  | .refLost x => Sys2Proof.Machine.execRefLost x s
  | .refRelock x => Sys2Proof.Machine.execRefRelock x s
  | .overcurrentTrip x sup rail => Sys2Proof.Machine.execOvercurrentTrip x sup rail s
  | .overTemperatureTrip x sup => Sys2Proof.Machine.execOverTemperatureTrip x sup s
  | .provisionalSealExpiry x sup => Sys2Proof.Machine.execProvisionalSealExpiry x sup s
  | .coolantLoss x => Sys2Proof.Machine.execCoolantLoss x s
  | .supplyShortfall x => Sys2Proof.Machine.execSupplyShortfall x s
  | .shortfallRestartTimer x flowLow => Sys2Proof.Machine.execShortfallRestartTimer x flowLow s
  | .treePauseEnd x => Sys2Proof.Machine.execTreePauseEnd x s
  | .keeperWatchdogExpiry x core => Sys2Proof.Machine.execKeeperWatchdogExpiry x core s
  | .keeperCacheUe x core cmds => Sys2Proof.Machine.execKeeperCacheUe x core cmds s
  | .spareTestComplete x gcell pass => Sys2Proof.Machine.execSpareTestComplete x gcell pass s
  | .cellRebuildComplete x sup lcell => Sys2Proof.Machine.execCellRebuildComplete x sup lcell s
  | .stageInstanceComplete x stage r => Sys2Proof.Machine.execStageInstanceComplete x stage r s
  | .foragerTransferComplete x idx => Sys2Proof.Machine.execForagerTransferComplete x idx s
  | .bundleLinkLost x sup => Sys2Proof.Machine.execBundleLinkLost x sup s
  | .bundleRetryTimer x sup trains => Sys2Proof.Machine.execBundleRetryTimer x sup trains s
  | .bundleTrained x sup serial linkPort => Sys2Proof.Machine.execBundleTrained x sup serial linkPort s
  | .storeReady x row rep => Sys2Proof.Machine.execStoreReady x row rep s
  | .mirrorCopyComplete x row => Sys2Proof.Machine.execMirrorCopyComplete x row s
  | .mirrorLinkLost x row => Sys2Proof.Machine.execMirrorLinkLost x row s
  | .mirrorLinkUp x row => Sys2Proof.Machine.execMirrorLinkUp x row s
  | .batchClose x => Sys2Proof.Machine.execBatchClose x s
  | .sweepScanEnd x excluded tableUe => Sys2Proof.Machine.execSweepScanEnd x excluded tableUe s
  | .queryComplete x => Sys2Proof.Machine.execQueryComplete x s
  | .mapOptimiseCommit x nodes => Sys2Proof.Machine.execMapOptimiseCommit x nodes s
  | .occDeltaGrant x slotUe => Sys2Proof.Machine.execOccDeltaGrant x slotUe s
  | .blockedRecordDelivered x => Sys2Proof.Machine.execBlockedRecordDelivered x s
  | .recountComplete x edge => Sys2Proof.Machine.execRecountComplete x edge s
  | .repairStart x agent => Sys2Proof.Machine.execRepairStart x agent s
  | .repairComplete x agent => Sys2Proof.Machine.execRepairComplete x agent s
  | .fullPlanComplete x agent => Sys2Proof.Machine.execFullPlanComplete x agent s
  | .hostRouteWaitExpiry x agent => Sys2Proof.Machine.execHostRouteWaitExpiry x agent s
  | .hello x k f => Sys2Proof.Machine.execHello x k f s
  | .poseReq x k f => Sys2Proof.Machine.execPoseReq x k f s
  | .poseAnswer x port => Sys2Proof.Machine.execPoseAnswer x port s
  | .odo x k f => Sys2Proof.Machine.execOdo x k f s
  | .routeAck x k f => Sys2Proof.Machine.execRouteAck x k f s
  | .routeRetryTimer x agent => Sys2Proof.Machine.execRouteRetryTimer x agent s
  | .tsnListSwitch x port => Sys2Proof.Machine.execTsnListSwitch x port s
  | .sensorLinkUp x port => Sys2Proof.Machine.execSensorLinkUp x port s
  | .sensorLinkDown x port => Sys2Proof.Machine.execSensorLinkDown x port s
  | .oshData x k f => Sys2Proof.Machine.execOshData x k f s
  | .oshEvent x k f => Sys2Proof.Machine.execOshEvent x k f s
  | .oshDelayReq x k f => Sys2Proof.Machine.execOshDelayReq x k f s
  | .mgmtResp x f => Sys2Proof.Machine.execMgmtResp x f s
  | .mgmtTimeout x target => Sys2Proof.Machine.execMgmtTimeout x target s
  | .portState x f => Sys2Proof.Machine.execPortState x f s
  | .sleepIdleTimer x port => Sys2Proof.Machine.execSleepIdleTimer x port s
  | .sleepCommit x f => Sys2Proof.Machine.execSleepCommit x f s
  | .sleepAbort x f => Sys2Proof.Machine.execSleepAbort x f s
  | .attachRetryTimer x target => Sys2Proof.Machine.execAttachRetryTimer x target s
  | .pass1Complete x stage bad => Sys2Proof.Machine.execPass1Complete x stage bad s
  | .pass2Complete x stage bad => Sys2Proof.Machine.execPass2Complete x stage bad s
  | .frameStart x head => Sys2Proof.Machine.execFrameStart x head s
  | .frameEnd x head faults => Sys2Proof.Machine.execFrameEnd x head faults s
  | .hotPlugDetect x head works => Sys2Proof.Machine.execHotPlugDetect x head works s
  | .hotPlugLost x head => Sys2Proof.Machine.execHotPlugLost x head s
  | .panelUpdateStepComplete x => Sys2Proof.Machine.execPanelUpdateStepComplete x s
  | .quiesceComplete x => Sys2Proof.Machine.execQuiesceComplete x s
  | .pluggableModuleInserted x cage power => Sys2Proof.Machine.execPluggableModuleInserted x cage power s
  | .tsnGateEvent x port => Sys2Proof.Machine.execTsnGateEvent x port s
  | .sleepEntry x port => Sys2Proof.Machine.execSleepEntry x port s
  | .sleepOnWindow x port => Sys2Proof.Machine.execSleepOnWindow x port s
  | .sensorUplinkRelock x port => Sys2Proof.Machine.execSensorUplinkRelock x port s
  | .residencyReadIssue x stage => Sys2Proof.Machine.execResidencyReadIssue x stage s
  | .ptpPdelayReqTimer x dom => Sys2Proof.Machine.execPtpPdelayReqTimer x dom s

end Sys2Proof.Machine
end

