-- ==== Sys2Proof/Safety.lean ====
section
/-! DEFINITION. The terms claims use: what a safe run is, when a host command is accepted and what its answer is. -/

namespace Sys2Proof

open Sys2Proof.Machine

/-- Every command now waiting is carried out: no step of the next `n` is refused. -/
def SafeFor : Nat → Machine.State → Prop
  | 0, _ => True
  | n + 1, s => ∃ t, Machine.step s = .next t ∧ SafeFor n t

/-- The host interface holds an accepted command of an opcode, got as far as `p`: it came over PCI Express with no
deadline, its queue pair is still of the same enabling, nothing of it fired on an extrapolated phase, and results and
completion entries can be written (17 R438, R445, 03 R67). -/
abbrev Held (h : HostSt) (qp tag op : Nat) (p : Prog) (c : Cmd) : Prop :=
  h.accepted.find? (fun c => c.qp == qp && c.tag == tag) = some c ∧ c.opcode = op ∧ c.prog = p ∧ c.net = none ∧
    (h.qps.getD qp QueuePair.blank).gen = c.gen ∧ h.cqOk = true ∧ h.resultOk = true ∧ c.deadline = .none ∧ c.synth = false

/-- The same of a command that has not begun and whose turn has come (17 R448). -/
abbrev Accepted (h : HostSt) (qp tag op : Nat) (c : Cmd) : Prop := Held h qp tag op .fresh c ∧ h.inTurn c = true

/-- From `s` to `t` the command is answered: one completion entry with its TAG is written, with this status, DETAIL and
result, and the command is no longer accepted (17 R435, R441). -/
def Answers (s t : Machine.State) (c : Cmd) (status detail : Nat) (result : Bytes) : Prop :=
  t.host.accepted = dropFirst s.host.accepted c.qp c.tag ∧
    ∃ e : Completion, t.host.completions = s.host.completions ++ [e] ∧ e.tag = c.tag ∧ e.qp = c.qp ∧ e.status = status ∧
      e.detail = detail % 4294967296 ∧ e.result = result ∧ e.epoch = s.ep.epoch ∧ e.stamp = s.stamp64 ∧
      e.sqHead = c.sqHead

/-- Nothing but the host interface differs. -/
def HostOnly (s t : Machine.State) : Prop := t = { s with host := t.host }

/-- The host interface apart, only the link state of `u` changes to make `t`: groups are woken (09 R245). -/
def LinkHostOnly (u t : Machine.State) : Prop := t = { u with host := t.host, link := t.link }

/-- A sensor port's transmitter sends at once what is given to it: nothing leaves it or waits for it, and it is not
duty-cycled (09 R226, R242). -/
def LinkFree (u : Machine.State) (p : Nat) : Prop :=
  (u.sport p).duty = false ∧ u.link.busy.getD p 0 ≤ u.time.localC ∧ ∀ e ∈ u.link.waiting, e.1 ≠ p

/-- From `u` to `t` a sensor port is given a frame of a place in the order of 09 R226: it has left behind the start block of
R221, or waits. -/
def LinkSends (u t : Machine.State) (p cls : Nat) (b : Bytes) : Prop :=
  (LinkFree u p → t.link.tx = u.link.tx ++ [(p, [0x55, 0x55, 0x55, 0x55, 0x55, 0x4F, 0xD5] ++ b)]) ∧
    (¬LinkFree u p → t.link.tx = u.link.tx ∧ t.link.waiting = u.link.waiting ++ [(p, cls, .frame b)])

end Sys2Proof
end

