-- ==== Sys2Proof/Certificates/Slice0/Obligations.lean ====
section
/-! DEFINITION. The statements for the provers: what the commands do, by the numbered rules of the spec. -/

open Sys2Proof
open Sys2Proof.Machine

/-- A step takes the command at the front of the queue (log entry 2) and carries it out on the state with the rest; with
nothing waiting one schedule tick passes (DESIGN CHOICE, log entry 1). -/
def Obligations.StepRunsFrontCommand : Prop :=
  (∀ (c : Instr) (cs : List Instr) (s : Machine.State), s.pending = c :: cs → step s = exec c { s with pending := cs }) ∧
  (∀ s : Machine.State, s.pending = [] → step s = .next (s.advanceTo (s.time.tick + 1)))

/-- 17 R428, Table 17-1. -/
def Obligations.RegisterWritesAndFlagReads : Prop :=
  ∀ (s : Machine.State) (x : At) (p n v : Nat), ((s.enter x).port p).up = true →
    (n < 64 → ((s.enter x).qp n).enabled = false →
      exec (.registerWrite x p (0x1000 + 32 * n) 8 v) s =
          .next ((s.enter x).modQp n fun q => { q with sqBase := BitVec.ofNat 64 v }) ∧
        exec (.registerWrite x p (0x1008 + 32 * n) 8 v) s =
          .next ((s.enter x).modQp n fun q => { q with cqBase := BitVec.ofNat 64 v })) ∧
    (n < 64 → ∀ w, w ≠ 8 → exec (.registerWrite x p (0x1000 + 32 * n) w v) s = .next (s.enter x)) ∧
    (∀ a w, a < 0x1000 ∨ 0x1800 ≤ a → exec (.registerWrite x p a w v) s = .next (s.enter x)) ∧
    exec (.hifFlagsRead x p) s = .next { s.enter x with host := { (s.enter x).host with
      flagsRead := (s.enter x).replyFlags + 65536 * (if (s.enter x).host.qpDisabled then 1 else 0)
      qpDisabled := false } }

/-- 17 R429 (and R430, R431 for the port and for clearing ENABLE). -/
def Obligations.EnableAndDisableQueuePair : Prop :=
  ∀ (s : Machine.State) (x : At) (p n v : Nat), ((s.enter x).port p).up = true → n < (s.enter x).host.qps.length →
    (bitAt v 16 = true → ((s.enter x).qp n).enabled = false → bitsOf v 17 17 = p → (s.enter x).host.held = [] →
      ((1 ≤ bitsOf v 3 0 ∧ bitsOf v 3 0 ≤ 10 ∧ 1 ≤ bitsOf v 11 8 ∧ bitsOf v 11 8 ≤ 12 ∧
          ((s.enter x).qp n).sqBase.toNat % 4096 = 0 ∧ ((s.enter x).qp n).cqBase.toNat % 4096 = 0) →
        ∃ t, exec (.qpEnable x p n v) s = .next t ∧ HostOnly (s.enter x) t ∧ (t.qp n).enabled = true ∧
          (t.qp n).size = BitVec.ofNat 32 v &&& 0x3F070F0F ∧ (t.qp n).sqHead = 0 ∧ (t.qp n).sqTail = 0 ∧
          (t.qp n).cqHead = 0 ∧ (t.qp n).cqTail = 0 ∧ (t.qp n).cqPhase = true ∧
          (∀ m, m ≠ n → t.qp m = (s.enter x).qp m)) ∧
      (¬ (1 ≤ bitsOf v 3 0 ∧ bitsOf v 3 0 ≤ 10 ∧ 1 ≤ bitsOf v 11 8 ∧ bitsOf v 11 8 ≤ 12 ∧
          ((s.enter x).qp n).sqBase.toNat % 4096 = 0 ∧ ((s.enter x).qp n).cqBase.toNat % 4096 = 0) →
        ∃ t, exec (.qpEnable x p n v) s = .next t ∧ HostOnly (s.enter x) t ∧ (t.qp n).enabled = false)) ∧
    (bitAt v 16 = true → ((s.enter x).qp n).enabled = true ∨ bitsOf v 17 17 ≠ p →
      exec (.qpEnable x p n v) s = .next (s.enter x)) ∧
    (bitAt v 16 = false → ((s.enter x).qp n).enabled = true →
      (BitVec.ofNat 32 v &&& 0x3F070F0F) ||| 0x00010000 = ((s.enter x).qp n).size &&& 0x3F070F0F →
        ∃ t, exec (.qpDisable x p n v) s = .next t ∧ HostOnly (s.enter x) t ∧ (t.qp n).enabled = false ∧
          (t.qp n).unread = [] ∧ t.host.accepted = (s.enter x).host.accepted ∧
          (∀ m, m ≠ n → t.qp m = (s.enter x).qp m))

/-- 17 R430, R432, R433. -/
def Obligations.DoorbellsAdvanceRings : Prop :=
  ∀ (s : Machine.State) (x : At) (p n v : Nat) (pkts : List (Option (List Byte))), n < 64 →
    n < (s.enter x).host.qps.length → ((s.enter x).port p).up = true → ((s.enter x).qp n).enabled = true →
    ((s.enter x).qp n).network = false → v < 65536 →
    (((s.enter x).qp n).port = p → v < ((s.enter x).qp n).sqSlots →
      pkts.length = (v + ((s.enter x).qp n).sqSlots - ((s.enter x).qp n).sqTail) % ((s.enter x).qp n).sqSlots →
        ∃ t, exec (.dbSq x p n v pkts) s = .next t ∧ HostOnly (s.enter x) t ∧ (t.qp n).sqTail = v ∧
          (t.qp n).sqHead = ((s.enter x).qp n).sqHead ∧ (t.qp n).unread = ((s.enter x).qp n).unread ++ pkts ∧
          (∀ m, m ≠ n → t.qp m = (s.enter x).qp m)) ∧
    (((s.enter x).qp n).port = p → v < ((s.enter x).qp n).cqSlots → (s.enter x).host.held = [] →
        ∃ t, exec (.dbCq x p n v) s = .next t ∧ HostOnly (s.enter x) t ∧ (t.qp n).cqHead = v ∧
          (t.qp n).cqTail = ((s.enter x).qp n).cqTail ∧ (∀ m, m ≠ n → t.qp m = (s.enter x).qp m)) ∧
    (((s.enter x).qp n).port ≠ p ∨ ((s.enter x).qp n).sqSlots ≤ v →
      exec (.dbSq x p n v pkts) s = .next (s.enter x)) ∧
    (((s.enter x).qp n).port ≠ p ∨ ((s.enter x).qp n).cqSlots ≤ v → exec (.dbCq x p n v) s = .next (s.enter x))

/-- 17 R436, R438, R439. -/
def Obligations.PacketIsTakenOrRefused : Prop :=
  (∀ (s u : Machine.State) (x : At) (n : Nat) (b : Bytes) (r : List (Option Bytes)), u = s.enter x →
    n < u.host.qps.length → (u.qp n).network = false → (u.qp n).unread = some b :: r →
    32 + (parsePacket b).plen ≤ b.length →
    (u.qpTurn n = false → exec (.packetAccept x n) s = .next u) ∧
    (u.qpTurn n = true →
      (u.refusal (parsePacket b) n false true = none →
        ∃ t c, exec (.packetAccept x n) s = .next t ∧ HostOnly u t ∧ t.host.accepted = u.host.accepted ++ [c] ∧ c.qp = n ∧
          c.tag = (parsePacket b).tag ∧ c.opcode = (parsePacket b).opcode ∧ c.params = (parsePacket b).params ∧
          c.prog = .fresh ∧ c.tick = u.time.tick ∧ c.deadline = u.bindDeadline (parsePacket b) ∧
          c.timeout = u.bindTimeout (parsePacket b).params ∧ (t.qp n).unread = r ∧
          (t.qp n).sqHead = ((u.qp n).sqHead + 1) % (u.qp n).sqSlots ∧ (t.qp n).reserved = (u.qp n).reserved + 1 ∧
          t.host.served = n) ∧
      (∀ st d, u.refusal (parsePacket b) n false true = some (st, d) → u.host.cqOk = true →
        ∃ t e, exec (.packetAccept x n) s = .next t ∧ HostOnly u t ∧ t.host.accepted = u.host.accepted ∧
          t.host.completions = u.host.completions ++ [e] ∧ e.qp = n ∧ e.tag = (parsePacket b).tag ∧ e.status = st ∧
          e.detail = d % 4294967296 ∧ e.result = [] ∧ (t.qp n).unread = r ∧ t.host.served = n))) ∧
  (∀ (s : Machine.State) (n : Nat), n < 64 →
    (s.qpTurn n = true ↔ s.takeable n = true ∧ ∀ m, m < 64 → s.takeable m = true →
      (n + 127 - s.host.served % 64) % 64 ≤ (m + 127 - s.host.served % 64) % 64)) ∧
  (∀ (s : Machine.State) (p : Packet) (n : Nat) (net whole : Bool),
    (4064 < p.plen → s.refusal p n net whole = some (0x0103, 0)) ∧
    (p.plen ≤ 4064 → opSpec p.opcode = none → s.refusal p n net whole = some (0x0101, 0)) ∧
    (∀ sp, opSpec p.opcode = some sp → p.plen ≤ 4064 →
      (p.plen ≠ sp.plen p.params → s.refusal p n net true = some (0x0103, 0)) ∧
      (p.plen = sp.plen p.params →
        (packetOk sp p n net = false → s.refusal p n net true = some (0x0102, 0)) ∧
        (packetOk sp p n net = true →
          (s.stateOk sp p = false → s.refusal p n net true = some (0x0104, 0)) ∧
          (s.stateOk sp p = true →
            (s.passed (s.bindDeadline p) = true → s.refusal p n net true = some (0x0301, 0)) ∧
            (s.passed (s.bindDeadline p) = false →
              (bitAt p.flags 0 = true → p.expect ≠ s.ep.epoch → p.expect ≠ s.epochFrom →
                s.refusal p n net true = some (0x0105, 0)) ∧
              (bitAt p.flags 0 = false ∨ p.expect = s.ep.epoch → s.refusal p n net true = none)))))))

/-- 17 R454, R455. -/
def Obligations.NetworkQueuePairs : Prop :=
  ∀ (s : Machine.State) (x : At) (dg : Datagram) (n k : Nat), n = fieldN dg.payload 1 1 →
    n < (s.enter x).host.qps.length → k = fieldN dg.payload 4 4 → (s.enter x).dgOk dg = true →
    (fieldN dg.payload 0 1 = 0 → ((s.enter x).qp n).enabled = false →
      ∃ t, exec (.netOpen x dg) s = .next t ∧ HostOnly (s.enter x) t ∧ (t.qp n).enabled = true ∧
        (t.qp n).network = true ∧ (t.qp n).sqHead = 0 ∧ (t.qp n).unread = [] ∧
        (t.qp n).net = some { port := dg.port, ip := dg.srcIp, udp := dg.srcPort, tseq := 0, recent := [],
                              lastTick := (s.enter x).time.tick } ∧
        (∀ m, m ≠ n → t.qp m = (s.enter x).qp m)) ∧
    (((s.enter x).qp n).enabled = true → exec (.netOpen x dg) s = .next (s.enter x)) ∧
    (∀ p, ((s.enter x).qp n).net = some p → (s.enter x).fromPeer dg = true →
      (fieldN dg.payload 0 1 = 1 → k = p.tseq → ((s.enter x).qp n).unread.length < 64 →
        ∃ t, exec (.netRequest x dg) s = .next t ∧ HostOnly (s.enter x) t ∧
          (t.qp n).unread = ((s.enter x).qp n).unread ++ [some (dg.payload.drop 16)] ∧
          (t.qp n).net = some { p with tseq := (k + 1) % 4294967296 } ∧
          (∀ m, m ≠ n → t.qp m = (s.enter x).qp m)) ∧
      (fieldN dg.payload 0 1 = 1 → k = p.tseq → 64 ≤ ((s.enter x).qp n).unread.length →
        exec (.netRequest x dg) s = .next ((s.enter x).netSend p.port p.ip p.udp
          [toLE 1 4 ++ toLE 1 n ++ toLE 2 0 ++ toLE 4 k ++ toLE 8 0])) ∧
      (fieldN dg.payload 0 1 = 1 → k ≠ p.tseq → (∀ e, (k, e) ∉ p.recent) →
        exec (.netRequest x dg) s = .next (s.enter x)) ∧
      (∀ e, fieldN dg.payload 0 1 = 1 → k ≠ p.tseq → p.recent.find? (fun r => r.1 == k) = some (k, some e) →
        exec (.netRequest x dg) s = .next ((s.enter x).netSend p.port p.ip p.udp (responseFrames n k e))) ∧
      (fieldN dg.payload 0 1 = 3 →
        ∃ t, exec (.netClose x dg) s = .next t ∧ HostOnly (s.enter x) t ∧ (t.qp n).enabled = false ∧
          t.host.accepted = (s.enter x).host.accepted ∧ (∀ m, m ≠ n → t.qp m = (s.enter x).qp m)) ∧
      (((s.enter x).qp n).enabled = true → p.lastTick + 7500000000 ≤ (s.enter x).time.tick →
        ∃ t, exec (.netIdleTimeout x n) s = .next t ∧ HostOnly (s.enter x) t ∧ (t.qp n).enabled = false ∧
          t.host.accepted = (s.enter x).host.accepted ∧ (∀ m, m ≠ n → t.qp m = (s.enter x).qp m)))

/-- 17, "Network transport"; the reply formats are the model's reading of ARP and ICMP (log entry 14). -/
def Obligations.AddressAndEchoReplies : Prop :=
  ∀ (s : Machine.State) (x : At) (a : ArpReq) (e : IcmpEcho),
    ((s.enter x).netUp a.port = true → a.targetIp = ((s.enter x).netPort a.port).ip →
      ∃ b, exec (.arpRequest x a) s = .next { s.enter x with host := { (s.enter x).host with
        netOut := (s.enter x).host.netOut ++ [NetOut.mk a.port 0x0806 a.senderIp 0 b] } }) ∧
    (a.targetIp ≠ ((s.enter x).netPort a.port).ip → exec (.arpRequest x a) s = .next (s.enter x)) ∧
    ((s.enter x).netUp e.port = true → e.dstIp = ((s.enter x).netPort e.port).ip →
      ∃ sum, exec (.icmpEchoRequest x e) s = .next { s.enter x with host := { (s.enter x).host with
        netOut := (s.enter x).host.netOut ++ [NetOut.mk e.port 1 e.srcIp 0
          ([0, 0] ++ sum ++ (toLE 2 e.ident).reverse ++ (toLE 2 e.seq).reverse ++ e.body)] } }) ∧
    (e.dstIp ≠ ((s.enter x).netPort e.port).ip → exec (.icmpEchoRequest x e) s = .next (s.enter x))

/-- 17 R458; 04 R107 for the timeout. -/
def Obligations.PortLossAndReadTimeout : Prop :=
  (∀ (s : Machine.State) (x : At) (p : Nat), p < 2 → p < (s.enter x).host.ports.length →
    (s.enter x).host.qps.length = 64 → ((s.enter x).port p).up = true → (s.enter x).unsealed (3 + p) = false →
      ∃ t, exec (.pciePortLost x p) s = .next t ∧ HostOnly (s.enter x) t ∧ (t.port p).up = false ∧
        ∀ n, n < 64 → ((s.enter x).qp n).network = false → ((s.enter x).qp n).port = p → (t.qp n).enabled = false) ∧
  (∀ (s : Machine.State) (x : At) (qp tag op tm d : Nat) (c : Cmd), Held (s.enter x).host qp tag op (.waiting tm d) c →
    op = 0x0206 ∨ op = 0x0707 → tm < (s.enter x).counter d →
      ∃ t, exec (.waitTimeout x qp tag) s = .next t ∧ Answers (s.enter x) t c 0x0302 0 [] ∧ HostOnly (s.enter x) t)

/-- 17 R447, with the entry of R441; OK_SYNTH_PHASE of 03 R67 and 18 R463. -/
def Obligations.CompletionEntryContents : Prop :=
  ∀ (s : Machine.State) (qp tag st d : Nat) (c : Cmd) (r : Bytes), s.findCmd qp tag = some c → c.net = none →
    (s.qp qp).gen = c.gen → s.host.cqOk = true → s.host.resultOk = true →
      ∃ e, (s.complete qp tag st d r).host.completions = s.host.completions ++ [e] ∧ e.tag = c.tag ∧ e.qp = c.qp ∧
        (c.synth = true → bitAt e.replyFlags 6 = true ∧ e.status = (if st = 0 then 5 else st) ∧
          bitAt e.cqFlags 2 = s.passed c.deadline) ∧
        (c.synth = false → e.replyFlags = s.replyFlags ∧
          (s.passed c.deadline = true → bitAt e.cqFlags 2 = true ∧ e.status = (if st = 0 then 1 else st)) ∧
          (s.passed c.deadline = false → bitAt e.cqFlags 2 = false ∧ e.status = st)) ∧
        bitAt e.cqFlags 0 = (s.qp qp).cqPhase ∧ e.detail = d % 4294967296 ∧ e.epoch = s.ep.epoch ∧
        e.stamp = s.stamp64 ∧ e.sqHead = c.sqHead ∧ e.result = r ∧ HostOnly s (s.complete qp tag st d r)

/-- 18 R467 (Table 18-3), 05 R140 (Tables 5-8 and 5-9). -/
def Obligations.SystemRecordsAreReported : Prop :=
  ∀ (s : Machine.State) (x : At) (qp tag : Nat) (d : Option Bytes) (c : Cmd),
    (Accepted (s.enter x).host qp tag 0x0101 c → ∃ t, exec (.stateRead x qp tag d) s = .next t ∧ HostOnly (s.enter x) t ∧
      Answers (s.enter x) t c 0 0 c.latch) ∧
    (∀ (n : Nat) (p : Packet) (net : Option Nat), p.opcode = 0x0101 → (s.enter x).mkCmd n p net =
      { (s.enter x).mkCmd n p net with latch :=
        (toLE 1 (s.enter x).unit.state.code ++ toLE 1 (s.enter x).capacity ++
          toLE 1 (if (s.enter x).ep.image.isSome then (s.enter x).ep.placement else 0xFF) ++
          toLE 1 (s.enter x).unit.step ++ toLE 2 (s.enter x).replyFlags ++ toLE 1 (s.enter x).summary.causes ++
          toLE 1 ((s.enter x).fw.booted.getD 0xFF) ++ toLE 4 (s.enter x).ep.epoch ++
          toLE 4 (match (s.enter x).ep.rolling with
            | some r => r.fromEpoch
            | none => (s.enter x).ep.epoch) ++
          (match (s.enter x).ep.image with
            | some m => m.id
            | none => List.replicate 16 0) ++
          toLE 8 (s.enter x).unit.serial ++ toLE 8 (s.enter x).wafer.serial ++ catB (s.enter x).unit.macs ++
          List.replicate 20 0) }) ∧
    (Accepted (s.enter x).host qp tag 0x0102 c → ∃ t, exec (.waferMapRead x qp tag d) s = .next t ∧
      HostOnly (s.enter x) t ∧
      Answers (s.enter x) t c 0 0
        (toLE 1 1 ++ toLE 1 (s.enter x).wafer.dw ++
          toLE 2 (((s.enter x).wafer.supers.filter fun u => u.st == 0).map Super.enabled).sum ++
          toLE 2 (((s.enter x).wafer.supers.filter fun u => u.st == 0).map fun u => popcount u.keepers).sum ++
          toLE 1 (64 - ((s.enter x).wafer.supers.filter fun u => u.st == 0).length) ++
          toLE 1 (if (s.enter x).wafer.dw = 38 then 0 else if (s.enter x).wafer.dw = 46 then 1 else 2) ++
          toLE 4 (s.enter x).wafer.mapSeq ++ List.replicate 4 0 ++ (s.enter x).wafer.lastChange ++ List.replicate 32 0 ++
          catB ((List.range 64).map fun p =>
            toLE 1 ((s.enter x).super p).st ++ toLE 1 ((s.enter x).super p).keepers ++
              toLE 1 ((s.enter x).super p).enabled ++ toLE 1 ((s.enter x).super p).spares ++
              siteStatus ((s.enter x).super p).sites ++ toLE 1 (bundleB p) ++ toLE 1 ((s.enter x).bundleA p) ++
              toLE 1 (waggleRole p) ++ List.replicate 5 0 ++ ((s.enter x).super p).remap.map (BitVec.ofNat 8) ++
              List.replicate 8 0)))

/-- 18 Table 18-2 with 17 R431; 22 R552, Table 22-10. -/
def Obligations.NetworkAddressAndCages : Prop :=
  (∀ (s : Machine.State) (x : At) (qp tag port : Nat) (d : Option Bytes) (c : Cmd),
    Accepted (s.enter x).host qp tag 0x0106 c → port = fieldN c.params 0 1 → port = 8 ∨ port = 9 →
    (s.enter x).host.netPorts.length = 2 → (s.enter x).host.qps.length = 64 →
      ∃ t, exec (.netConfig x qp tag d) s = .next t ∧ HostOnly (s.enter x) t ∧ Answers (s.enter x) t c 0 0 [] ∧
        t.netPort port = { ip := octets (sliceB c.params 4 4), prefixLen := fieldN c.params 8 1,
                           gateway := octets (sliceB c.params 12 4) } ∧
        (∀ n p, n < 64 → ((s.enter x).qp n).enabled = true → ((s.enter x).qp n).network = true →
          ((s.enter x).qp n).net = some p → p.port = port → (t.qp n).enabled = false)) ∧
  (∀ (s : Machine.State) (x : At) (cage mw : Nat), cage < 26 →
    exec (.pluggableModuleInserted x cage mw) s = .next { s.enter x with unit := { (s.enter x).unit with
      cages := tset (s.enter x).unit.cages cage (decide (mw ≤ (if 16 ≤ cage ∧ cage ≤ 23 then 1500 else 3500))) } })

/-- 06 R167; 21 R536, R522; 18 R470. -/
def Obligations.FaultRecordAndFirmwareReports : Prop :=
  ∀ (s : Machine.State) (x : At) (qp tag : Nat) (d : Option Bytes) (c : Cmd),
    (∀ e r, Accepted (s.enter x).host qp tag 0x0B01 c → (s.enter x).flash.ring = e :: r →
      ∃ t, exec (.faultRead x qp tag d) s = .next t ∧ HostOnly (s.enter x) t ∧
        Answers (s.enter x) t c 0 (min (e.seq - fieldN c.params 0 4) 0xFFFFFFFF)
          ((s.enter x).summary.bytes ++ catB ((((e :: r).filter fun e => decide (fieldN c.params 0 4 ≤ e.seq)).take
            (fieldN c.params 4 2)).map FaultEvent.bytes))) ∧
    (Accepted (s.enter x).host qp tag 0x0B02 c →
      ∃ t n es, exec (.fwRead x qp tag d) s = .next t ∧ HostOnly (s.enter x) t ∧
        Answers (s.enter x) t c 0 0 (toLE 1 1 ++ toLE 1 (s.enter x).fw.bootSlot ++
          toLE 1 ((s.enter x).fw.booted.getD 255) ++ toLE 1 (min 255 (s.enter x).fw.pairsRunning.length) ++ toLE 2 n ++
          toLE 10 0 ++ es)) ∧
    (Accepted (s.enter x).host qp tag 0x0B04 c →
      ∃ t, exec (.fwBootSelect x qp tag d) s = .next t ∧ Answers (s.enter x) t c 0 0 [] ∧
        HostOnly { s.enter x with fw := { (s.enter x).fw with bootSlot := fieldN c.params 0 1 } } t) ∧
    (Accepted (s.enter x).host qp tag 0x0B03 c → fieldN c.params 2 1 = 0 → fieldN c.params 0 1 < 3 →
      (s.enter x).fwOpen (fieldN c.params 0 1) (fieldN c.params 1 1) = none →
      (∀ f ∈ (s.enter x).fw.sends, f.target ≠ fieldN c.params 0 1) →
      fieldN c.params 8 4 ≤ (if fieldN c.params 0 1 ≤ 1 then 67108864 else 16777216) → fieldN c.params 12 4 = 0 →
      ∃ t, exec (.fwStage x qp tag d) s = .next t ∧ Answers (s.enter x) t c 0 0 [] ∧
        HostOnly { s.enter x with fw := { (s.enter x).fw with
          transfers := (s.enter x).fw.transfers ++ [FwTransfer.mk (fieldN c.params 0 1) (fieldN c.params 1 1) c.qp
            (fieldN c.params 8 4) []] } } t)

/-- 04 R88. -/
def Obligations.CountersRunOnTheTick : Prop :=
  ∀ (s : Machine.State) (x : At), s.time.tick ≤ x.tick →
    (s.time.running = true → (∀ a, s.time.autoAt = some a → x.tick < a) →
      (∀ d ∈ s.due, s.time.localC + (x.tick - s.time.tick) * 8 * 4294967296 ≤ d.1) →
      (s.enter x).time.tick = x.tick ∧
        (s.enter x).time.localC = s.time.localC + (x.tick - s.time.tick) * 8 * 4294967296 ∧
        (∀ d, d = 1 ∨ d = 2 → ((s.enter x).dom d).value = (s.dom d).value + (x.tick - s.time.tick) * 8 * (s.dom d).incr ∧
          ((s.enter x).dom d).incr = (s.dom d).incr ∧ ((s.enter x).dom d).valid = (s.dom d).valid ∧
          ((s.enter x).dom d).holdover = (s.dom d).holdover) ∧
        s.enter x = { s with
          time := (s.enter x).time
          host := { s.host with resultOk := x.resultOk, cqOk := x.cqOk } }) ∧
    (s.time.running = false → s.time.autoAt = none →
      s.enter x = { s with
        time := { s.time with tick := x.tick }
        host := { s.host with resultOk := x.resultOk, cqOk := x.cqOk } })

/-- 04 R92, R93, R95. -/
def Obligations.TimeReadsAndWritesAreIssued : Prop :=
  ∀ (s : Machine.State) (x : At) (qp tag d eff : Nat) (dt : Option Bytes) (c : Cmd), d = fieldN c.params 0 1 →
    (s.enter x).wafer.pause = none → eff = (s.enter x).time.tick + ((s.enter x).wafer.dw + 8 + 7) / 8 →
    (Accepted (s.enter x).host qp tag 0x0201 c → ∃ t, exec (.timeRead x qp tag dt) s = .next t ∧ HostOnly (s.enter x) t ∧
      Answers (s.enter x) t c 0 0 ((s.enter x).lkt 0 ++ (s.enter x).lkt 1 ++ (s.enter x).lkt 2)) ∧
    (Accepted (s.enter x).host qp tag 0x0202 c →
      exec (.timeIncrSet x qp tag dt) s = .next ({ s.enter x with time := { (s.enter x).time with
        writes := (s.enter x).time.writes ++ [TimeWrite.mk d (.incr (fieldN c.params 8 8)) (some eff) (some (c.qp, c.tag))] } }.setProg
          c.qp c.tag (.waiting 0 0))) ∧
    (Accepted (s.enter x).host qp tag 0x0203 c → fieldN c.params 1 1 = 0 →
      exec (.timeStep x qp tag dt) s = .next ({ s.enter x with time := { (s.enter x).time with
        writes := (s.enter x).time.writes ++
          [TimeWrite.mk d (.stepTo (lktVal (sliceB c.params 8 16))) (some eff) (some (c.qp, c.tag))] } }.setProg
          c.qp c.tag (.waiting 0 0))) ∧
    (Accepted (s.enter x).host qp tag 0x0203 c → fieldN c.params 1 1 ≠ 0 →
      (0 ≤ (((s.enter x).atEffect d).value : Int) + stepOffset c.params →
        (((s.enter x).atEffect d).value : Int) + stepOffset c.params < (2 ^ 64 * secU : Nat) →
        exec (.timeStep x qp tag dt) s = .next ({ s.enter x with time := { (s.enter x).time with
          writes := (s.enter x).time.writes ++ [TimeWrite.mk d (.stepBy (stepOffset c.params)) (some eff) (some (c.qp, c.tag))] } }.setProg
            c.qp c.tag (.waiting 0 0))) ∧
      ((((s.enter x).atEffect d).value : Int) + stepOffset c.params < 0 →
        ∃ t, exec (.timeStep x qp tag dt) s = .next t ∧ HostOnly (s.enter x) t ∧ Answers (s.enter x) t c 0x0102 0 [])) ∧
    ((∀ w ∈ (s.enter x).time.writes, w.dom ≠ d) → ((s.enter x).atEffect d).value =
      ((s.enter x).dom d).value + ((s.enter x).wafer.dw + 8 + 7) / 8 * (8 * ((s.enter x).dom d).incr)) ∧
    (Accepted (s.enter x).host qp tag 0x0204 c →
      (((s.enter x).dom d).valid = true →
        exec (.domainSelect x qp tag dt) s = .next ({ s.enter x with time := { (s.enter x).time with
          writes := (s.enter x).time.writes ++ [TimeWrite.mk d (.select) (some eff) (some (c.qp, c.tag))] } }.setProg
            c.qp c.tag (.waiting 0 0))) ∧
      (((s.enter x).dom d).valid = false →
        ∃ t, exec (.domainSelect x qp tag dt) s = .next t ∧ HostOnly (s.enter x) t ∧ Answers (s.enter x) t c 0x0104 0 []))

/-- 04 R92, R93, R98. -/
def Obligations.TimeWritesTakeEffect : Prop :=
  (∀ (s : Machine.State) (x : At) (d e v : Nat) (k : Int), d = 1 ∨ d = 2 → e ≤ (s.enter x).time.tick →
    ((s.enter x).time.writes = [⟨d, .incr v, some e, none⟩] →
      ∃ t, exec (.timeWriteTakesEffect x) s = .next t ∧ t.time.writes = [] ∧ (t.dom d).incr = v ∧
        (t.dom d).holdover = false ∧ (t.dom d).value = ((s.enter x).dom d).value ∧
        (t.dom d).valid = ((s.enter x).dom d).valid ∧ t.dom (3 - d) = (s.enter x).dom (3 - d) ∧
        t.time.localC = (s.enter x).time.localC ∧ t.host = (s.enter x).host) ∧
    ((s.enter x).time.writes = [⟨d, .stepTo v, some e, none⟩] →
      ∃ t, exec (.timeWriteTakesEffect x) s = .next t ∧ t.time.writes = [] ∧ (t.dom d).value = v ∧
        (t.dom d).valid = true ∧ (t.dom d).incr = ((s.enter x).dom d).incr ∧
        (t.dom d).holdover = ((s.enter x).dom d).holdover ∧ t.dom (3 - d) = (s.enter x).dom (3 - d)) ∧
    ((s.enter x).time.writes = [⟨d, .stepBy k, some e, none⟩] → 0 ≤ (((s.enter x).dom d).value : Int) + k →
      ∃ t, exec (.timeWriteTakesEffect x) s = .next t ∧ t.time.writes = [] ∧
        ((t.dom d).value : Int) = ((s.enter x).dom d).value + k ∧ (t.dom d).valid = true ∧
        (t.dom d).incr = ((s.enter x).dom d).incr ∧ (t.dom d).holdover = ((s.enter x).dom d).holdover)) ∧
  (∀ (s : Machine.State) (x : At) (d : Nat), d = 1 ∨ d = 2 → (s.enter x).time.running = true →
    ((s.enter x).dom d).holdover = false → (s.enter x).time.writes = [] →
    (((s.enter x).dom d).lastWrite + (if d = 2 then (s.enter x).time.settings.holdoverB else
        (s.enter x).time.settings.holdoverA) * 4294967296 ≤ (s.enter x).time.localC →
      ∃ t, exec (.holdoverEntry x d) s = .next t ∧ (t.dom d).holdover = true ∧
        (t.dom d).value = ((s.enter x).dom d).value ∧ (t.dom d).incr = ((s.enter x).dom d).incr ∧
        t.dom (3 - d) = (s.enter x).dom (3 - d) ∧ t.host = (s.enter x).host) ∧
    ((s.enter x).time.localC < ((s.enter x).dom d).lastWrite + (if d = 2 then (s.enter x).time.settings.holdoverB else
        (s.enter x).time.settings.holdoverA) * 4294967296 →
      exec (.holdoverEntry x d) s = .next (s.enter x)))

/-- 04 R102, R104 to R106, R116. -/
def Obligations.CaptureRecordsAreKept : Prop :=
  (∀ (s : Machine.State) (x : At) (k i q : Nat) (rising : Bool), i ≤ 64 → k < 64 → (s.enter x).time.running = true →
    (s.enter x).unsealed (edgeSuper i) = true → ((s.enter x).capIn i).owner = some (.queue q) →
    bitAt ((s.enter x).capIn i).edges (if rising then 0 else 1) = true →
    ((∀ l, ((s.enter x).capIn i).last = some l → l + 34359738368 ≤ (s.enter x).counterAt 0 k) →
      ((s.enter x).capBuf q).recs.length < 256 → (s.enter x).waitingRead q 0x0206 = none →
      ∀ pre post, ((s.enter x).capBuf q).recs = pre ++ post → (∀ e ∈ pre, e.1 ≤ (s.enter x).counterAt 0 k) →
      (∀ e ∈ post, (s.enter x).counterAt 0 k < e.1) →
      ∃ t, exec (.tsiEdge x k i rising) s = .next t ∧
        t.cap.bufs = tset (s.enter x).cap.bufs q { (s.enter x).capBuf q with
          recs := pre ++ ((s.enter x).counterAt 0 k, (s.enter x).capRec (if i < 64 then 0 else 1) (if i < 64 then i else 0)
            (if rising then 0 else 1) 0 ((s.enter x).capIn i).seq ((s.enter x).capIn i).missed 0 k) :: post } ∧
        t.cap.inputs = tset (s.enter x).cap.inputs i { (s.enter x).capIn i with
          seq := ((s.enter x).capIn i).seq + 1, last := some ((s.enter x).counterAt 0 k), missed := 0 }) ∧
    (∀ l, ((s.enter x).capIn i).last = some l → (s.enter x).counterAt 0 k < l + 34359738368 →
      exec (.tsiEdge x k i rising) s = .next ((s.enter x).setCapIn i { (s.enter x).capIn i with
        missed := min (((s.enter x).capIn i).missed + 1) 0xFFFF }))) ∧
  (∀ (s : Machine.State) (x : At) (k i : Nat) (rising : Bool), ((s.enter x).capIn i).owner = none →
    exec (.tsiEdge x k i rising) s = .next (s.enter x)) ∧
  (∀ (s : Machine.State) (x : At) (qp tag : Nat) (d : Option Bytes) (c : Cmd),
    (∀ q, Accepted (s.enter x).host qp tag 0x0205 c →
      ((s.enter x).capIn (capIndex (fieldN c.params 0 1) (fieldN c.params 1 1))).owner = some (.queue q) → q ≠ c.qp →
        ∃ t, exec (.captureArm x qp tag d) s = .next t ∧ HostOnly (s.enter x) t ∧ Answers (s.enter x) t c 0x0104 0 []) ∧
    (∀ i, Accepted (s.enter x).host qp tag 0x0205 c → i = capIndex (fieldN c.params 0 1) (fieldN c.params 1 1) →
      ((s.enter x).capIn i).owner = none ∨ ((s.enter x).capIn i).owner = some (.queue c.qp) →
      fieldN c.params 3 1 = 1 → (s.enter x).stagedNames i = false →
        exec (.captureArm x qp tag d) s = .next (((s.enter x).setCapIn i
          (CapInput.mk (some (.queue c.qp)) (fieldN c.params 2 1) 0 none 0)).wakeUsed.complete c.qp c.tag 0 0 [])) ∧
    (Accepted (s.enter x).host qp tag 0x0206 c → fieldN c.params 2 1 = 0 →
      (∀ r ∈ ((s.enter x).capBuf c.qp).recs, synthRec r.2 = false) →
        ∃ t, exec (.captureRead x qp tag d) s = .next t ∧
          Answers (s.enter x) t c 0 (min ((s.enter x).capBuf c.qp).dropped 0xFFFFFFFF)
            (catB ((((s.enter x).capBuf c.qp).recs.take (fieldN c.params 0 2)).map Prod.snd)) ∧
          t.cap = { (s.enter x).cap with
            bufs := tset (s.enter x).cap.bufs c.qp
              (CapBuf.mk (((s.enter x).capBuf c.qp).recs.drop (fieldN c.params 0 2)) 0) }) ∧
    (Accepted (s.enter x).host qp tag 0x0207 c → ((s.enter x).capBuf c.qp).recs.length < 256 →
      (s.enter x).waitingRead c.qp 0x0206 = none → ∀ pre post, ((s.enter x).capBuf c.qp).recs = pre ++ post →
      (∀ e ∈ pre, e.1 ≤ (s.enter x).time.localC) → (∀ e ∈ post, (s.enter x).time.localC < e.1) →
        ∃ t r, exec (.captureSoft x qp tag d) s = .next t ∧ Answers (s.enter x) t c 0 0 r ∧
          r = (s.enter x).capRec 5 c.qp 4 2 (tgetD (s.enter x).cap.softSeq c.qp 0) 0 0 0 ∧
          t.cap.bufs = tset (s.enter x).cap.bufs c.qp { (s.enter x).capBuf c.qp with
            recs := pre ++ ((s.enter x).time.localC, r) :: post }) ∧
    (Accepted (s.enter x).host qp tag 0x0208 c →
        ∃ t, exec (.ptpRead x qp tag d) s = .next t ∧
          Answers (s.enter x) t c 0 0 (catB ((s.enter x).cap.ptp.take (fieldN c.params 0 2))) ∧
          t.cap = { (s.enter x).cap with ptp := (s.enter x).cap.ptp.drop (fieldN c.params 0 2) }))

/-- 04 R111, R112. -/
def Obligations.PpsAndReferenceEvents : Prop :=
  (∀ (s : Machine.State) (x : At) (d sec : Nat), d = (s.enter x).time.settings.ppsDomain →
    sec = (s.enter x).counter d / 4294967296000000000 → (s.enter x).time.running = true →
    d = 0 ∨ ((s.enter x).dom d).valid = true → (s.enter x).unsealed 15 = true →
    (∀ m, (s.enter x).time.ppsMarked = some m → m < sec) → (s.enter x).counterPrev d / 4294967296000000000 < sec →
      ∃ t at_, exec (.ppsOutRise x) s = .next t ∧ t.time.ppsHigh = true ∧ t.time.ppsMarked = some sec ∧
        at_ ≤ (s.enter x).time.localC ∧
        t.time.ppsFall = at_ + (s.enter x).time.settings.ppsWidth * 4294967296 ∧
        t.sched.tsoLog = (s.enter x).sched.tsoLog ++ [TsoEdge.mk 32 0 at_ 16384] ∧ t.host = (s.enter x).host ∧
        t.time.domA = (s.enter x).time.domA ∧ t.time.domB = (s.enter x).time.domB) ∧
  (∀ (s : Machine.State) (x : At), (s.enter x).time.ppsHigh = true →
    (s.enter x).time.ppsFall < (s.enter x).time.localC + 34359738368 →
      ∃ t, exec (.ppsOutFall x) s = .next t ∧ t.time.ppsHigh = false ∧
        t.sched.tsoLog = (s.enter x).sched.tsoLog ++ [TsoEdge.mk 32 1 (s.enter x).time.ppsFall 16384] ∧
        t.host = (s.enter x).host) ∧
  (∀ (s : Machine.State) (x : At), (s.enter x).time.running = true → (s.enter x).time.settings.refExternal = true →
    ((s.enter x).time.refPresent = true → (s.enter x).time.refFree = false →
      ∃ t e, exec (.refLost x) s = .next t ∧ t.time = { (s.enter x).time with refPresent := false, refFree := true } ∧
        e ∈ t.flash.ring ∧ e.kind = 0x0C ∧ e.seq = (s.enter x).flash.nextSeq ∧
        t.flash.nextSeq = (s.enter x).flash.nextSeq + 1 ∧ t.host = (s.enter x).host) ∧
    ((s.enter x).time.refFree = true →
      ∃ t e, exec (.refRelock x) s = .next t ∧ t.time = { (s.enter x).time with refPresent := true, refFree := false } ∧
        e ∈ t.flash.ring ∧ e.kind = 0x0D ∧ e.seq = (s.enter x).flash.nextSeq ∧
        t.flash.nextSeq = (s.enter x).flash.nextSeq + 1 ∧ t.host = (s.enter x).host))

/-- 04 R108 to R110; the message layouts are the model's reading of IEEE 1588 (log entry 24). -/
def Obligations.PtpMessagesMoveTheServo : Prop :=
  ∀ (s : Machine.State) (x : At) (k port d : Nat) (m : Bytes), d = 1 ∨ d = 2 → (s.enter x).ha 0 = false →
    (s.enter x).ptpDoms port m = [d] →
    ((s.enter x).ptpTakes port m [11] 64 = true → ((s.enter x).servo d).master = none →
      ∃ t, exec (.ptpAnnounce x k port m) s = .next t ∧ (t.servo d).master = some m ∧ t.time.writes = (s.enter x).time.writes ∧
        t.host = (s.enter x).host) ∧
    ((s.enter x).ptpTakes port m [0] 44 = true → ((s.enter x).servo d).fromMaster m = true → ptpTwoStep m = true →
      ∃ t, exec (.ptpSync x k port m) s = .next t ∧
        (t.servo d).sync = some (ptpSeq m, ((s.enter x).counterAt d k : Int) - rxDelay, ptpCorr m) ∧
        t.time.writes = (s.enter x).time.writes ∧ t.host = (s.enter x).host) ∧
    (∀ off : Int, (s.enter x).ptpTakes port m [0] 44 = true → ((s.enter x).servo d).fromMaster m = true →
      ptpTwoStep m = false → (s.enter x).wafer.pause = none →
      off = ((s.enter x).counterAt d k : Int) - rxDelay - (ptpTime m + ptpCorr m) - ((s.enter x).servo d).path →
      (s.enter x).time.settings.stepLimit * 4294967296 < off.natAbs → (s.enter x).stepFits d (-off) = true →
      ∃ t, exec (.ptpSync x k port m) s = .next t ∧
        t.time.writes = (s.enter x).time.writes ++ [TimeWrite.mk d (.stepBy (-off))
          (some ((s.enter x).time.tick + ((s.enter x).wafer.dw + 8 + 7) / 8)) none] ∧ t.host = (s.enter x).host) ∧
    (∀ (t2 c off : Int), (s.enter x).ptpTakes port m [8] 44 = true → ((s.enter x).servo d).fromMaster m = true →
      (s.enter x).wafer.pause = none → ((s.enter x).servo d).sync = some (ptpSeq m, t2, c) →
      off = t2 - (ptpTime m + c + ptpCorr m) - ((s.enter x).servo d).path →
      (s.enter x).time.settings.stepLimit * 4294967296 < off.natAbs → (s.enter x).stepFits d (-off) = true →
      ∃ t, exec (.ptpFollowUp x k port m) s = .next t ∧ (t.servo d).sync = none ∧
        t.time.writes = (s.enter x).time.writes ++ [TimeWrite.mk d (.stepBy (-off))
          (some ((s.enter x).time.tick + ((s.enter x).wafer.dw + 8 + 7) / 8)) none] ∧ t.host = (s.enter x).host) ∧
    (∀ (t1 t2 t3 : Int), (s.enter x).ptpTakes port m [9] 54 = true → ((s.enter x).servo d).fromMaster m = true →
      asOf (s.enter x).time.settings d = false → sliceB m 44 10 = (s.enter x).clockId port →
      ((s.enter x).servo d).delayTx = some (ptpSeq m, t3) → ((s.enter x).servo d).last = some (t1, t2) →
      ∃ t, exec (.ptpDelayResp x k port m) s = .next t ∧
        (t.servo d).path = ((t2 - t1) + (ptpTime m - ptpCorr m - t3)) / 2 ∧
        (t.servo d).logInterval = some (signedOf 8 (fieldN m 33 1)) ∧ t.time.writes = (s.enter x).time.writes ∧
        t.host = (s.enter x).host) ∧
    (∀ (t1 : Int), (s.enter x).ptpTakes port m [3, 10] 54 = true → asOf (s.enter x).time.settings d = true →
      sliceB m 44 10 = (s.enter x).clockId port → ptpType m = 3 → ptpTwoStep m = false →
      ((s.enter x).servo d).delayTx = some (ptpSeq m, t1) →
      ∃ t, exec (.ptpPdelayResp x k port m) s = .next t ∧
        (t.servo d).path = (((s.enter x).counterAt d k : Int) - rxDelay - t1 - ptpCorr m) / 2 ∧
        t.time.writes = (s.enter x).time.writes ∧ t.host = (s.enter x).host)

/-- 04 R108, R109. -/
def Obligations.PtpRequestsAreSent : Prop :=
  (∀ (s : Machine.State) (x : At) (d : Nat), d = 1 ∨ d = 2 →
    ((s.enter x).follows d false = true → ((s.enter x).servo d).logInterval = none →
      (∀ t, ((s.enter x).servo d).lastReqNs = some t → t + 1000000000 ≤ (s.enter x).localNs) →
        exec (.ptpDelayReqTimer x d) s = .next (((s.enter x).modServo d fun v => { v with
            nextSeq := (v.nextSeq + 1) % 65536, lastReqNs := some (s.enter x).localNs }).sendPtp d
          (portOf (s.enter x).time.settings d) ((s.enter x).ptpMsg d (portOf (s.enter x).time.settings d) 1
            ((s.enter x).servo d).nextSeq 0 1 (List.replicate 10 0)))) ∧
    ((s.enter x).follows d true = true →
        exec (.ptpPdelayReqTimer x d) s = .next (((s.enter x).modServo d fun v => { v with
            nextSeq := (v.nextSeq + 1) % 65536, lastReqNs := some (s.enter x).localNs }).sendPtp d
          (portOf (s.enter x).time.settings d) ((s.enter x).ptpMsg d (portOf (s.enter x).time.settings d) 2
            ((s.enter x).servo d).nextSeq 0 5 (List.replicate 20 0)))) ∧
    (ptpOf (s.enter x).time.settings d = none → exec (.ptpDelayReqTimer x d) s = .next (s.enter x) ∧
      exec (.ptpPdelayReqTimer x d) s = .next (s.enter x))) ∧
  (∀ (s : Machine.State) (x : At) (k port d : Nat) (m : Bytes), d = 1 ∨ d = 2 →
    (s.enter x).ptpDoms port m = [d] → asOf (s.enter x).time.settings d = true →
    (s.enter x).ptpTakes port m [2] 54 = true →
      exec (.ptpPdelayReq x k port m) s = .next
        ((((s.enter x).hearPtp k port m).sendPtp d port ((s.enter x).ptpMsg d port 3 (ptpSeq m) 2 5
            (ptpStamp (((s.enter x).counterAt d k : Int) - rxDelay) ++ ptpSource m))).sendPtp d port
          ((s.enter x).ptpMsg d port 10 (ptpSeq m) 0 5 (List.replicate 10 0 ++ ptpSource m))))

/-- 03 R72, R73, R75, R79 to R82. The zeros of a free entry are the model's reading (log entry 16, DEDUCED). -/
def Obligations.ScheduleCommands : Prop :=
  ∀ (s u : Machine.State) (x : At) (qp tag : Nat) (dt : Option Bytes) (c : Cmd), u = s.enter x →
    (Accepted u.host qp tag 0x020A c → ∃ t, exec (.phaseRead x qp tag dt) s = .next t ∧ HostOnly u t ∧
      Answers u t c 0 0 (catB (((List.range 16).filter fun i => (fieldN c.params 0 2).testBit i).map u.srcStatus))) ∧
    (Accepted u.host qp tag 0x0209 c →
      (u.hostArmedOn (fieldN c.params 0 1) = true →
        ∃ t, exec (.sourceDefine x qp tag dt) s = .next t ∧ HostOnly u t ∧ Answers u t c 0x0104 0 []) ∧
      (u.hostArmedOn (fieldN c.params 0 1) = false →
        ∃ t, exec (.sourceDefine x qp tag dt) s = .next t ∧ Answers u t c 0 0 [] ∧
          LinkHostOnly { u with ep := { u.ep with staged := { u.ep.staged with
            sources := tset u.ep.staged.sources (fieldN c.params 0 1) (parseSource (sliceB c.params 8 48)) } } } t)) ∧
    (Accepted u.host qp tag 0x020B c → ∀ e : Entry, e = parseEntry (sliceB c.params 16 32) →
      (fieldN c.params 0 1 < 64 → fieldN c.params 0 1 ∉ u.carriers e.action e.arg →
        ∃ t, exec (.schedArm x qp tag dt) s = .next t ∧ HostOnly u t ∧ Answers u t c 0x0102 0 []) ∧
      ((fieldN c.params 0 1 < 64 → fieldN c.params 0 1 ∈ u.carriers e.action e.arg) →
        (e.tkind = 0 → (u.source e.src).st = .disabled →
          ∃ t, exec (.schedArm x qp tag dt) s = .next t ∧ HostOnly u t ∧ Answers u t c 0x0104 0 []) ∧
        (¬(e.tkind = 0 ∧ (u.source e.src).st = .disabled) → ∀ n,
          u.allocEntry (fieldN c.params 0 1) e.action e.arg = .error n →
          ∃ t, exec (.schedArm x qp tag dt) s = .next t ∧ HostOnly u t ∧ Answers u t c n 0 []) ∧
        (¬(e.tkind = 0 ∧ (u.source e.src).st = .disabled) → ∀ id,
          u.allocEntry (fieldN c.params 0 1) e.action e.arg = .ok id →
          256 - u.ep.hostEntries ≤ id % 256 ∧ u.entryFree id = true ∧
          ∃ t, exec (.schedArm x qp tag dt) s = .next t ∧
            t.entry id = some { e with
              st := if e.tkind = 0 ∧ (u.source e.src).st = .starting then .held else .arming
              owner := .queue qp
              rel := if fieldN c.params 8 1 = 1 then some (fieldS c.params 48 8 * 65536 + fieldN c.params 56 2) else none
              tick := u.time.tick
              cmd := some (qp, tag) } ∧
            (∀ j, j ≠ id → t.entry j = u.entry j) ∧
            t = { u with
              sched := { u.sched with entries := t.sched.entries }
              host := (u.setProg qp tag (.waiting id 0)).host
              link := t.link }))) ∧
    (Accepted u.host qp tag 0x020C c → ∀ (id : Nat) (e : Entry), id = fieldN c.params 0 2 → u.entry id = some e →
      u.unsealed (id / 256) = true →
      (e.owner = .queue qp → e.action ≠ 6 → e.st = .armed →
        ∃ t, exec (.schedCancel x qp tag dt) s = .next t ∧ Answers u t c 0 0 [] ∧
          t = { u with sched := { u.sched with entries := tset u.sched.entries id { e with st := .free } }, host := t.host }) ∧
      (e.owner = .queue qp → e.action ≠ 6 → e.st = .fired →
        ∃ t, exec (.schedCancel x qp tag dt) s = .next t ∧ HostOnly u t ∧ Answers u t c 0 1 []) ∧
      (e.owner ≠ .queue qp →
        ∃ t, exec (.schedCancel x qp tag dt) s = .next t ∧ HostOnly u t ∧ Answers u t c 0x0104 0 [])) ∧
    (Accepted u.host qp tag 0x020D c → u.unsealed (fieldN c.params 0 2 / 256) = true →
      (∀ e, u.entry (fieldN c.params 0 2) = some e → e.st ≠ .free → e.st ≠ .fired →
        ∃ t, exec (.schedRead x qp tag dt) s = .next t ∧ HostOnly u t ∧
          Answers u t c 0 (if e.st = .held then 1 else 0) e.bytes) ∧
      (u.entryFree (fieldN c.params 0 2) = true →
        ∃ t, exec (.schedRead x qp tag dt) s = .next t ∧ HostOnly u t ∧ Answers u t c 0 0 (List.replicate 32 0))) ∧
    (Accepted u.host qp tag 0x020E c → ∀ o : Nat, o = fieldN c.params 0 1 →
      (u.unsealed (if o < 16 then 12 else 13) = false →
        ∃ t, exec (.tsoFireNow x qp tag dt) s = .next t ∧ HostOnly u t ∧ Answers u t c 0x0801 0 []) ∧
      (u.unsealed (if o < 16 then 12 else 13) = true → o < u.sched.tso.length →
        ∀ (at_ op : Nat) (f : TsoEdge), at_ = u.time.localC + 24 * 4294967296 → op = fieldN c.params 1 1 → op ≤ 3 →
        f = ⟨o, 1, at_ + fieldN c.params 4 4 * (8 * 4294967296), 16384⟩ →
        ∃ t e, exec (.tsoFireNow x qp tag dt) s = .next t ∧ Answers u t c 0 0 [] ∧
          e = TsoEdge.mk o (if op = 3 then 0 else op) at_ 16384 ∧ t.sched.tsoLog = u.sched.tsoLog ++ [e] ∧
          t.tso o = { level := ((u.tso o).settle u.time.localC).level
                      due := putEdge ((u.tso o).settle u.time.localC).due e
                      trails := if op = 3 then putEdge (u.tso o).trails f else (u.tso o).trails } ∧
          ((u.tso o).due = [] →
            (t.tso o).levelAt at_ = (if op = 1 then false else if op = 2 then !(u.tso o).level else true)) ∧
          (∀ p, p ≠ o → t.tso p = u.tso p) ∧
          t = { u with sched := { u.sched with tso := t.sched.tso, tsoLog := t.sched.tsoLog }, host := t.host }))

/-- 03 R59, R65 to R67. -/
def Obligations.SourcesCountAndStall : Prop :=
  (∀ (s u : Machine.State) (x : At) (k n i : Nat) (a b z : Bool) (e : EncIn), u = s.enter x → e = u.encIn n →
    u.time.running = true → n < 8 → n < u.sched.enc.length → u.unsealed (if n ≤ 4 then 14 else 15) = true →
    u.wafer.pause = none → u.encSources n = [i] →
    (∀ v : EncIn, v = e.step a b (u.counterAt 0 (k % 64)) →
      (v.pinA = a ∧ v.pinB = b ∧ v.z = e.z ∧ v.pinZ = e.pinZ ∧ v.lastZ = e.lastZ) ∧
      (e.pinA ≠ a → (∀ l, e.lastA = some l → l + 20 * 4294967296 ≤ u.counterAt 0 (k % 64)) →
        v.a = a ∧ v.lastA = some (u.counterAt 0 (k % 64))) ∧
      (e.pinA = a ∨ (∃ l, e.lastA = some l ∧ u.counterAt 0 (k % 64) < l + 20 * 4294967296) →
        v.a = e.a ∧ v.lastA = e.lastA) ∧
      (e.pinB ≠ b → (∀ l, e.lastB = some l → l + 20 * 4294967296 ≤ u.counterAt 0 (k % 64)) →
        v.b = b ∧ v.lastB = some (u.counterAt 0 (k % 64))) ∧
      (e.pinB = b ∨ (∃ l, e.lastB = some l ∧ u.counterAt 0 (k % 64) < l + 20 * 4294967296) →
        v.b = e.b ∧ v.lastB = e.lastB) ∧
      ((e.a != v.a) = (e.b != v.b) → exec (.encoderCount x k n a b) s = .next (u.setEnc n v)) ∧
      ((e.a != v.a) ≠ (e.b != v.b) →
      ∃ t, exec (.encoderCount x k n a b) s = .next t ∧
        (t.source i).count = (u.source i).count +
          (if ((e.a, e.b, v.a, v.b) ∈ [(false, false, true, false), (true, false, true, true), (true, true, false, true),
            (false, true, false, false)]) ↔ (u.source i).defn.invert = false then 1 else -1) ∧
        (t.source i).seen = (u.source i).seen + 1 ∧ (t.source i).lastEvent = u.counterAt 0 (k % 64) ∧
        (t.source i).defn = (u.source i).defn ∧ t.encIn n = v ∧
        (∀ j, j ≠ i → t.source j = u.source j) ∧ (∀ m, m ≠ n → t.encIn m = u.encIn m) ∧
        t = { u with sched := { u.sched with sources := t.sched.sources, enc := t.sched.enc } })) ∧
    (e.pinZ = z ∨ (∃ l, e.lastZ = some l ∧ u.counterAt 0 (k % 64) < l + 20 * 4294967296) →
      exec (.encoderZEdge x k n z) s = .next (u.setEnc n { e with pinZ := z })) ∧
    (e.pinZ ≠ z → (∀ l, e.lastZ = some l → l + 20 * 4294967296 ≤ u.counterAt 0 (k % 64)) →
      ((u.source i).defn.zUse = true → 0 < (u.source i).defn.units →
        ∃ t, exec (.encoderZEdge x k n z) s = .next t ∧
          ((t.source i).count - (u.source i).defn.zOffset) % ((u.source i).defn.units : Int) = 0 ∧
          -((u.source i).defn.units : Int) < 2 * ((t.source i).count - (u.source i).count) ∧
          2 * ((t.source i).count - (u.source i).count) ≤ (u.source i).defn.units ∧
          (t.source i).seen = (u.source i).seen + 1 ∧ (t.source i).rateNum = (u.source i).rateNum ∧
          (t.source i).rateDen = (u.source i).rateDen ∧ (∀ j, j ≠ i → t.source j = u.source j) ∧
          t = { u with sched := { u.sched with sources := t.sched.sources, enc := t.sched.enc } }) ∧
      ((u.source i).defn.zUse = false → exec (.encoderZEdge x k n z) s =
        .next (u.setEnc n { e with z := z, pinZ := z, lastZ := some (u.counterAt 0 (k % 64)) })))) ∧
  (∀ (s u : Machine.State) (x : At) (i : Nat), u = s.enter x → u.time.running = true → (u.source i).st = .running →
    (u.source i).defn.kind ≠ 4 → i < u.sched.sources.length →
    (u.time.localC < (u.source i).lastEvent + (u.source i).defn.stall ∨
        (∃ e ∈ (u.source i).willUse (u.sched.waiting.filter fun e => e.src == i),
          u.time.localC < e.stamp + (u.source i).defn.stall) →
      exec (.sourceStall x i) s = .next u) ∧
    ((∀ e ∈ u.sched.waiting, e.src ≠ i) → (u.source i).lastEvent + (u.source i).defn.stall ≤ u.time.localC →
      ((u.source i).defn.synth = false →
        ∃ t, exec (.sourceStall x i) s = .next t ∧ (t.source i).st = .stalledHold ∧ (t.source i).heldAt = none ∧
          (t.source i).cur = ⟨u.phase i, 0, 0, 0, none⟩ ∧ (∀ j, j ≠ i → t.source j = u.source j) ∧
          t = { u with sched := { u.sched with sources := t.sched.sources } }) ∧
      ((u.source i).defn.synth = true →
        ∃ t, exec (.sourceStall x i) s = .next t ∧ (t.source i).st = .stalledSynth ∧
          (t.source i).cur = { (u.source i).cur with limit := none } ∧ (t.source i).rateNum = (u.source i).rateNum ∧
          (t.source i).rateDen = (u.source i).rateDen ∧ (∀ j, j ≠ i → t.source j = u.source j) ∧
          t = { u with sched := { u.sched with sources := t.sched.sources } })))

/-- 03 R67, R69 to R71, R75, R76, R78, R79, 01 R29. Retirements that earlier accesses caused are carried out at the end of
the step (07 R180). That an arming which comes to effect in QUIESCE is refused is the model's reading (log entry 56). -/
def Obligations.EntriesArmAndFire : Prop :=
  (∀ (s u : Machine.State) (x : At) (id : Nat) (e : Entry), u = s.enter x → u.entry id = some e → e.action ≠ 6 →
    (e.st = .held → (u.source e.src).st = .starting → exec (.heldArmingReleased x id) s = .next u) ∧
    ∀ i, (i = .armingTakesEffect x id ∧ e.st = .arming ∧ e.tick < u.time.tick) ∨
        (i = .heldArmingReleased x id ∧ e.st = .held ∧ (u.source e.src).st ≠ .starting) →
      (u.unit.state = .quiesce ∨ (e.tkind = 0 ∧ (u.source e.src).st = .disabled) →
        exec i s = .next (State.retireDue
          ((u.setEntry id { e with st := .free, cmd := none }).completeOpt e.cmd 0x0104 0 []))) ∧
      (u.unit.state ≠ .quiesce → ¬(e.tkind = 0 ∧ (u.source e.src).st = .disabled) → ∀ (now target : Nat) (late : Int) (a : Entry),
        now = u.fineAt e (if e.action = 3 then 3 else 0) 0 →
        (∀ r, e.rel = some r → late = -r ∧ target = if e.tkind = 0 then phaseAdd now r else ((now : Int) + r).toNat) →
        (e.rel = none → target = e.target ∧ late = u.lateness e (if e.action = 3 then 3 else 0)) →
        a = { e with st := .armed, rel := none, target := target, seq := 0, tick := u.time.tick, cmd := none } →
        (late < 0 → exec i s = .next (State.retireDue
          ((u.setEntry id a).completeOpt e.cmd 0 0 (toLE 2 id ++ toLE 6 0)))) ∧
        (0 ≤ late → e.late = 1 → exec i s = .next (State.retireDue
          ((u.setEntry id { a with st := .free }).completeOpt e.cmd 0x0303 0 []))) ∧
        (0 ≤ late → e.late = 0 → e.tkind = 0 → exec i s = .next (State.retireDue
          ((u.fire id a false true).completeOpt e.cmd (if (u.source e.src).st = .stalledSynth then 0x0005 else 0x0001)
            (min late.toNat 0xFFFFFFFF) (toLE 2 id ++ toLE 6 0)))) ∧
        (0 ≤ late → e.late = 2 → e.tkind = 0 → ∃ n : Nat, 1 ≤ n ∧ late < n * 65536 ∧ n * 65536 ≤ late + 65536 ∧
          exec i s = .next (State.retireDue
            ((u.setEntry id { a with target := phaseAdd target (n * 65536 : Nat) }).completeOpt e.cmd 0 n
              (toLE 2 id ++ toLE 6 0)))))) ∧
  (∀ (s u : Machine.State) (x : At) (id p0 p1 : Nat) (e : Entry), u = s.enter x → u.entry id = some e →
    u.time.running = true → e.st = .armed → e.tick < u.time.tick → e.tkind = 0 → e.action = 2 → e.owner = .image →
    ((u.source e.src).st = .starting ∨ u.turnOf id = false → exec (.entryFires x id) s = .next u) ∧
    (u.turnOf id = true ↔ u.commitDue = false ∧ ∀ f ∈ u.sched.entries, f.1 / 256 = id / 256 →
      u.armingDue f.2 = false ∧ (f.1 < id → u.fires f.2 = false)) ∧
    ((u.source e.src).st ≠ .starting → u.turnOf id = true →
    p0 = u.phasePrev e.src 0 → p1 = u.phase e.src →
    (¬(0 < dphase e.target p0 ∧ dphase e.target p1 ≤ 0) → e.either = false → exec (.entryFires x id) s = .next u) ∧
    (0 < dphase e.target p0 → dphase e.target p1 ≤ 0 → e.interval < 2 ^ 47 →
      ∃ (v : Machine.State) (g : Entry) (r : Bytes), exec (.entryFires x id) s = .next v.retireDue ∧
        v.entry id = some g ∧ g.seq = (e.seq + 1) % 4294967296 ∧
        v.sched.snaps = u.sched.snaps ++ [(id, r)] ∧ fieldN r 0 2 = id % 65536 ∧
        fieldN r 8 6 = u.phase (e.arg % 16) % 281474976710656 ∧
        (∀ j, j ≠ id → v.entry j = u.entry j) ∧
        v = { u with sched := { u.sched with entries := v.sched.entries, snaps := v.sched.snaps } } ∧
        (e.interval = 0 → g.st = .fired) ∧
        (e.interval ≠ 0 → g.st = .armed ∧ 0 < dphase g.target p1 ∧ dphase g.target p1 ≤ e.interval)))) ∧
  (∀ (s u : Machine.State) (x : At) (o : Nat) (e : TsoEdge) (r : List TsoEdge), u = s.enter x → o < u.sched.tso.length →
    (u.tso o).trails = e :: r → e.output = o →
    (u.time.localC + 8 * 4294967296 ≤ e.at_ → exec (.pulseTrailingEdge x o) s = .next u) ∧
    (e.at_ < u.time.localC + 8 * 4294967296 → ∃ t, exec (.pulseTrailingEdge x o) s = .next t ∧
      t.tso o = { level := ((u.tso o).settle u.time.localC).level
                  due := putEdge ((u.tso o).settle u.time.localC).due e
                  trails := r } ∧
      (e.op = 1 → (u.tso o).due = [] → (t.tso o).levelAt e.at_ = false) ∧
      t.sched.tsoLog = u.sched.tsoLog ++ [e] ∧ (∀ p, p ≠ o → t.tso p = u.tso p) ∧
      t = { u with sched := { u.sched with tso := t.sched.tso, tsoLog := t.sched.tsoLog } }))

/-- 01 R28, 06 R142, R145, 21 R516, R517, 22 R541. -/
def Obligations.PowerRequestsStartTheUnit : Prop :=
  ∀ (s u : Machine.State) (x : At) (low : Bool), u = s.enter x →
    (u.unit.state = .off → ∃ t, exec (.standbyRailRises x) s = .next t ∧ t.unit = { u.unit with
        state := .standby, step := 2, step4Done := false, powerOnHeld := false } ∧
      t = { u with unit := t.unit, host := t.host, panel := t.panel }) ∧
    (u.unit.state ≠ .off → exec (.standbyRailRises x) s = .next u) ∧
    (u.unit.shortfall = false → exec (.shortfallRestartTimer x low) s = .next u) ∧
    ∀ i, i = .standbyPowerOnTimer x low ∨ i = .buttonShortPress x low ∨
        (i = .shortfallRestartTimer x low ∧ u.unit.shortfall = true) →
      (u.unit.state ≠ .standby → exec i s = .next u) ∧
      (u.unit.state = .standby → u.unit.step4Done = false →
        exec i s = .next { u with unit := { u.unit with powerOnHeld := true } }) ∧
      (u.unit.state = .standby → u.unit.step4Done = true → u.unit.fusesBad = true ∨ low = true → exec i s = .next u) ∧
      (u.unit.state = .standby → u.unit.step4Done = true → u.unit.fusesBad = false → low = false →
        ∃ t, exec i s = .next t ∧ t.unit = { u.unit with
            state := .bringup, step := 5, coolantHold := false, shortfall := false
            toPower := (List.range 64).filter fun p => (u.super p).st == 0 } ∧
          t.time.running = true ∧ t.time.localC = 0 ∧ t.time.tick = u.time.tick ∧ t.time.domA.valid = false ∧
          t.time.settings = u.fw.held.getD TimeSettings.default ∧
          t.summary = { u.summary with gen := u.summary.gen + 1, bootCount := u.summary.bootCount + 1 } ∧
          t.flash.ring = u.flash.ring ∧ t.flash.sealRecs = u.flash.sealRecs ∧
          t = { u with unit := t.unit, time := t.time, flash := t.flash, host := t.host, panel := t.panel })

/-- 01 R28, 03 R85, 06 R142, R144, R145, 17 R457, 21 R516, 22 R541. -/
def Obligations.RegionsPowerDown : Prop :=
  ∀ (s u : Machine.State) (x : At) (port value : Nat), u = s.enter x →
    (u.unit.state = .off ∨ u.unit.state = .standby → exec (.buttonLongPress x) s = .next u) ∧
    (u.unit.state = .quiesce →
      exec (.buttonLongPress x) s = .next { u with unit := { u.unit with powerOffPending := true } }) ∧
    (u.unit.state = .bringup ∨ u.unit.state = .hold ∨ u.unit.state = .ready →
      exec (.buttonLongPress x) s = .next { u with unit := { u.unit with poweringDown := true } }) ∧
    (u.unit.state = .run → ∃ t, exec (.buttonLongPress x) s = .next t ∧ t.unit.state = .quiesce ∧
      t.unit.powerOffPending = true ∧ t.wafer.move = none ∧
      ((∀ a, u.ep.armed = some a → a.eff = none) → t.ep.armed = none)) ∧
    (u.unit.state ≠ .off → ∃ t, exec (.standbyRailLost x) s = .next t ∧ t.unit.state = .off ∧ t.unit.step = 0) ∧
    (u.unit.poweringDown = true → ∃ t, exec (.regionsPoweredDown x) s = .next t ∧ t.unit.state = .standby) ∧
    (u.unit.poweringDown = false → exec (.regionsPoweredDown x) s = .next u) ∧
    (u.unit.state ≠ .off → u.unit.state ≠ .standby →
      (∃ t, exec (.supplyShortfall x) s = .next t ∧ t.unit.state = .standby ∧ t.unit.shortfall = true) ∧
      (∃ t e, exec (.coolantLoss x) s = .next t ∧ t.unit.state = .standby ∧ t.unit.coolantHold = true ∧
        t.faultL = true ∧ e ∈ t.flash.ring ∧ e.kind = 14 ∧ e.cause = (if u.threeTrips then 2 else 1) ∧
        e.detail = u.trippedMask ∧ e.seq = u.flash.nextSeq)) ∧
    (u.unit.state = .standby → ∃ t e, exec (.coolantLoss x) s = .next t ∧ t.unit.coolantHold = true ∧
      e ∈ t.flash.ring ∧ e.kind = 14 ∧ t.mem = u.mem ∧ t.unit.state = .standby) ∧
    (u.unit.state = .off ∨ u.unit.state = .standby → exec (.supplyShortfall x) s = .next u) ∧
    (¬((u.port port).up = true ∧ value.testBit 0 = true ∧ value / 256 % 256 = 0xA5) →
      exec (.hifReset x port value) s = .next u) ∧
    ((u.port port).up = true → value.testBit 0 = true → value / 256 % 256 = 0xA5 →
      ∃ t, exec (.hifReset x port value) s = .next t ∧ t.unit.state = .bringup ∧ t.unit.step = 5 ∧
        t.summary.bootCount = u.summary.bootCount + 1 ∧ t.time.running = true ∧ t.time.localC = 0) ∧
    ∀ i t, (i = .standbyRailLost x ∧ u.unit.state ≠ .off) ∨ (i = .regionsPoweredDown x ∧ u.unit.poweringDown = true) ∨
        (i = .supplyShortfall x ∧ u.unit.state ≠ .off ∧ u.unit.state ≠ .standby) ∨
        (i = .coolantLoss x ∧ u.unit.state ≠ .off ∧ u.unit.state ≠ .standby) ∨
        (i = .hifReset x port value ∧ (u.port port).up = true ∧ value.testBit 0 = true ∧ value / 256 % 256 = 0xA5) →
      exec i s = .next t →
      t.host.accepted = [] ∧ (∀ n, (t.qp n).enabled = false) ∧ t.sched.entries = [] ∧ (∀ n, (t.source n).st = .disabled) ∧
        t.cap = CapSt.reset ∧ t.ep = EpochSt.reset ∧ t.stg = StageSt.reset ∧ t.xforms = [] ∧ t.cells = CellSt.reset ∧
        t.link.ports = LinkSt.reset.ports ∧ t.wafer.pause = none ∧ t.wafer.move = none ∧
        t.unit.regionsOn = [] ∧ (∀ c, c ∈ t.mem → lineAt 0 0 ≤ c.1 ∧ c.1 < engBase) ∧ (∀ p, (t.super p).provisional = none) ∧ (∀ o, (t.tso o).level = false) ∧
        t.flash.retired = u.flash.retired ∧ t.flash.sealRecs = u.flash.sealRecs ∧ t.flash.keepersGone = u.flash.keepersGone ∧
        t.summary.sealedMask = u.summary.sealedMask ∧ (∀ n, t.fw.slot n = u.fw.slot n) ∧ t.fw.micro = u.fw.micro

/-- 04 R112, 05 R129 to R131, R138, 21 R517, R519, R522, R524. -/
def Obligations.StartupStepsInOrder : Prop :=
  (∀ (s : Machine.State) (a b : Nat), s.wafer.paths = some ⟨[], []⟩ → a < 9216 → b < 9216 →
    ∃ hs, s.path a b = some hs ∧ lastSite (siteOf a) hs = siteOf b ∧
      pathCycles hs = 2 * (((siteOf a).x - (siteOf b).x : Int).natAbs + ((siteOf a).y - (siteOf b).y : Int).natAbs) + 4 ∧
      ∀ h ∈ hs, h.detour = false ∧ (h.to_.y = (siteOf a).y ∨ h.to_.x = (siteOf b).x)) ∧
  ∀ (s u : Machine.State) (x : At) (r : StepReport), u = s.enter x →
    (u.unit.poweringDown = true → exec (.startupStepComplete x r) s = .next u) ∧
    (u.unit.poweringDown = false →
      (u.unit.state = .standby → u.unit.step = 2 → ∃ t, exec (.startupStepComplete x r) s = .next t ∧ t.unit.step = 3 ∧
        t = { u with unit := { u.unit with step := 3 }, panel := t.panel }) ∧
      (u.unit.state = .standby → u.unit.step = 3 →
        exec (.startupStepComplete x r) s = .next { u with unit := { u.unit with step := 4 } }) ∧
      (u.unit.state = .standby → u.unit.step = 4 → u.unit.step4Done = true → exec (.startupStepComplete x r) s = .next u) ∧
      (u.unit.state = .standby → u.unit.step = 4 → u.unit.step4Done = false → u.unit.powerOnHeld = false →
        ∃ t, exec (.startupStepComplete x r) s = .next t ∧ t.unit.step4Done = true ∧ t.unit.state = .standby ∧
          (r.fuses = none → t.unit.fusesBad = true ∧ t.summary.causes.testBit 0 = true ∧
            (r.sumA = true → r.sumB = true → u.summary.causes.testBit 0 = false → t.summary.replaceReq = true)) ∧
          (∀ f, r.fuses = some f → t.unit.fusesBad = false ∧ t.wafer.serial = f.serial ∧ t.wafer.factorySpares = f.spares)) ∧
      (u.unit.state = .bringup → u.unit.step = 5 → ∃ t, exec (.startupStepComplete x r) s = .next t ∧ t.unit.step = 6 ∧
        (∀ p ∈ u.unit.toPower, p ∈ t.unit.regionsOn) ∧ t.unit.toPower = [] ∧ t.wafer.dw = 38 ∧ t.host.fastReady = true ∧ t.time.refPresent = r.refPresent ∧
        (∀ p, p < 2 → p < u.host.ports.length → ((t.port p).up = true ↔
          (u.port p).up = true ∨ (p ∈ r.linksUp ∧ u.unsealed (3 + p) = true))) ∧
        (u.time.settings.refExternal = true → r.refPresent = false →
          t.time.refFree = true ∧ ∃ e ∈ t.flash.ring, e.kind = 12 ∧ e.cause = 1)) ∧
      (u.unit.state = .bringup → u.unit.step = 6 → ∃ t, exec (.startupStepComplete x r) s = .next t ∧ t.unit.step = 7 ∧
        t.wafer.dw = (if u.unsealed 27 = false then 54 else if u.unsealed 9 = true ∧ u.unsealed 14 = true ∧
          u.unsealed 49 = true ∧ u.unsealed 54 = true then 38 else 46)) ∧
      (u.unit.state = .bringup → u.unit.step = 7 → r.failedKeepers = [] →
        ∃ t b, exec (.startupStepComplete x r) s = .next t ∧ t.wafer.paths = some b ∧
          (∀ q, q ∈ b.shut ↔ q < 64 ∧ t.unsealed q = false) ∧
          ∀ g, g ∈ b.dead ↔ g < 9216 ∧ (t.super (g / 144)).sites.getD (g % 144) 0 = 3) ∧
      (u.unit.state = .bringup → u.unit.step = 9 →
        (u.fw.micro = none → ∃ t, exec (.startupStepComplete x r) s = .next t ∧ t.unit.state = .hold ∧
          ∃ e ∈ t.flash.ring, e.kind = 17 ∧ e.cause = 3 ∧ e.subject = 2) ∧
        (∀ f, u.fw.micro = some f → r.loadOk = true →
          firstUnmet f.provides (((u.fw.bootImg.map FwImage.reqs).getD []).filter fun q => q.iface == 7) = none →
          ∃ t, exec (.startupStepComplete x r) s = .next t ∧ t.unit.step = 10 ∧ t.unit.state = .bringup ∧
            t.fw.microRun = some f)) ∧
      (u.unit.state = .bringup → u.unit.step = 10 → ∃ t, exec (.startupStepComplete x r) s = .next t ∧ t.unit.step = 11 ∧
        t.unit.state = .bringup) ∧
      (u.unit.state = .bringup → u.unit.step = 11 → u.fw.held.isSome = true →
        exec (.startupStepComplete x r) s = .next { u with unit := { u.unit with step := 12 } }) ∧
      (u.unit.state = .bringup → u.unit.step = 11 ∧ u.fw.held = none ∨ u.unit.step = 12 →
        ∃ t, exec (.startupStepComplete x r) s = .next t ∧ t.unit = { u.unit with state := .ready, step := 13 } ∧
          t = { u with unit := t.unit, host := t.host, panel := t.panel })) ∧
    (∀ p n k b, u.fw.trying = some (n, k, b) → u.unsealed p = true → (u.super p).keepers ≠ 0 → p = 3 ∨ p = 4 →
      ∃ t, exec (.keeperReadyReport x p) s = .next t ∧ t.unit.step = 9 ∧ t.fw.trying = none ∧ t.fw.booted = some n ∧
        t.fw.bootImg = u.fw.slot n ∧ t.host.keeperReady = true ∧
        (∃ e ∈ t.flash.ring, e.kind = 21 ∧ e.subject = n ∧ e.seq = u.flash.nextSeq)) ∧
    (u.fw.trying = none → (∀ p, exec (.keeperReadyReport x p) s = .next u) ∧
      exec (.keeperBootAttemptTimeout x) s = .next u) ∧
    (∀ n k b, u.fw.trying = some (n, k, b) →
      (k < 3 → ∃ t, exec (.keeperBootAttemptTimeout x) s = .next t ∧ t.fw.trying = some (n, k + 1, b) ∧
        t.unit.state = u.unit.state ∧ ∃ e ∈ t.flash.ring, e.kind = 17 ∧ e.cause = 4) ∧
      (3 ≤ k → b = true → ∃ t, exec (.keeperBootAttemptTimeout x) s = .next t ∧ t.fw.trying = none ∧
        t.unit.state = .hold ∧ t.host.keeperReady = false))

/-- 05 R138, R139, 06 R143, R144, R147, R148. -/
def Obligations.TripsSealSupers : Prop :=
  ∀ (s u : Machine.State) (x : At) (p : Nat), u = s.enter x → p < 64 → u.wafer.supers.length = 64 →
    (∀ rail, p ∉ u.unit.regionsOn → p ∉ u.unit.toPower → exec (.overcurrentTrip x p rail) s = .next u ∧
      exec (.regionRegulationTimeout x p rail) s = .next u ∧ exec (.overTemperatureTrip x p) s = .next u) ∧
    (∀ i rail, (i = .overcurrentTrip x p rail ∧ (p ∈ u.unit.regionsOn ∨ p ∈ u.unit.toPower)) ∨
        (i = .regionRegulationTimeout x p rail ∧ u.unit.state = .bringup ∧ u.unit.step = 5 ∧ p ∈ u.unit.toPower) →
      u.unsealed p = true →
      ∃ t e, exec i s = .next t ∧ (t.super p).st = 1 ∧ (t.super p).provisional = none ∧
        t.summary.sealedMask.testBit p = true ∧ e ∈ t.flash.ring ∧ e.kind = 1 ∧ e.subject = p ∧
        e.cause = (match rail with
          | .core => 1
          | .sram => 2
          | .io => 3) ∧
        (∃ r, tget t.flash.sealRecs p = some r ∧ r.st = 1) ∧ t.time.localC = u.time.localC ∧
        (u.wafer.pause = none → (t.wafer.pause.isSome = true ↔ p ∈ [27, 9, 14, 49, 54] ∧ 7 ≤ u.unit.step))) ∧
    (p ∈ u.unit.regionsOn ∨ p ∈ u.unit.toPower → u.unsealed p = true →
      ∃ t, exec (.overTemperatureTrip x p) s = .next t ∧ (t.super p).st = 1 ∧
        (t.super p).provisional = some u.time.tick ∧ (u.time.tick, p) ∈ t.wafer.trips ∧
        tget t.flash.sealRecs p = tget u.flash.sealRecs p ∧
        t.summary.sealedMask.testBit p = u.summary.sealedMask.testBit p) ∧
    (∀ trip, (u.super p).st = 1 → (u.super p).provisional = some trip →
      (u.time.tick < trip + 125000000 ∨ p ∈ u.threeTripped → exec (.provisionalSealExpiry x p) s = .next u) ∧
      (trip + 125000000 ≤ u.time.tick → p ∉ u.threeTripped → ∃ t e, exec (.provisionalSealExpiry x p) s = .next t ∧ (t.super p).st = 1 ∧
        (t.super p).provisional = none ∧ t.summary.sealedMask.testBit p = true ∧ e ∈ t.flash.ring ∧ e.kind = 1 ∧
        e.subject = p ∧ e.cause = 4)) ∧
    (u.wafer.pause = none → exec (.treePauseEnd x) s = .next u) ∧
    (∀ w, u.wafer.pause = some w → ∃ t, exec (.treePauseEnd x) s = .next t ∧ t.wafer.pause = none ∧
      t.sched.waiting = [] ∧
      (7 ≤ u.unit.step → t.wafer.dw = (if t.unsealed 27 = false then 54 else if t.unsealed 9 = true ∧ t.unsealed 14 = true ∧
        t.unsealed 49 = true ∧ t.unsealed 54 = true then 38 else 46)) ∧
      (∀ v ∈ u.time.writes, v.eff = none → ∃ e, { v with eff := some e } ∈ t.time.writes ∧
        u.time.tick * 8 + t.wafer.dw + 8 ≤ e * 8) ∧
      t.time.localC = u.time.localC ∧ (w.notices = [] → t.mem = u.mem ∧ t.wafer.supers = u.wafer.supers))

/-- 06 R153, R154, R156, 21 R525. -/
def Obligations.CellsAndKeepersFail : Prop :=
  ∀ (s u : Machine.State) (x : At), u = s.enter x → u.wafer.supers.length = 64 →
    (∀ g b, (∀ e ∈ u.cells.testing, e.2 ≠ g) → exec (.spareTestComplete x g b) s = .next u) ∧
    (∀ g k, g < 9216 → u.cells.testing = [(k, g)] → (u.super (g / 144)).sites.length = 144 → u.unsealed (g / 144) = true →
      (∃ t e, exec (.spareTestComplete x g true) s = .next t ∧ (t.super (g / 144)).sites.getD (g % 144) 9 = 0 ∧
        t.cells.testing = [] ∧ g ∈ t.flash.sparesIn ∧ e ∈ t.flash.ring ∧ e.kind = 3 ∧ e.subject = g ∧ e.detail = k % 136 ∧
        (∀ i, i ≠ g % 144 → (t.super (g / 144)).sites.getD i 9 = (u.super (g / 144)).sites.getD i 9)) ∧
      (∃ t e, exec (.spareTestComplete x g false) s = .next t ∧ (t.super (g / 144)).sites.getD (g % 144) 9 = 2 ∧
        g ∈ t.flash.retired ∧ e ∈ t.flash.ring ∧ e.kind = 2 ∧ e.cause = 4 ∧ e.subject = g)) ∧
    (∀ p l, 136 * p + l ∉ u.cells.rebuilding ∨ (tget u.cells.testing (136 * p + l)).isSome = true →
      exec (.cellRebuildComplete x p l) s = .next u) ∧
    (∀ p l, 136 * p + l ∈ u.cells.rebuilding → tget u.cells.testing (136 * p + l) = none →
      ∃ v : Machine.State, exec (.cellRebuildComplete x p l) s = .next v.retireDue ∧
        v.cells.rebuilding = u.cells.rebuilding.erase (136 * p + l) ∧ v.cells.testing = u.cells.testing ∧
        v.wafer = u.wafer ∧ v.host = u.host ∧ v.ep = u.ep) ∧
    (∀ c, c < 256 → (u.unsealed (c / 4) = true ∧ (u.super (c / 4)).keepers.testBit (c % 4) = true ∧ 8 ≤ u.unit.step →
        ∃ t e, exec (.keeperWatchdogExpiry x c) s = .next t ∧ c ∈ t.flash.keepersGone ∧
          (t.super (c / 4)).keepers.testBit (c % 4) = false ∧ e ∈ t.flash.ring ∧ e.kind = 4 ∧ e.cause = 2 ∧ e.subject = c ∧
          (∀ d, d < 256 → d ≠ c → (t.super (d / 4)).keepers.testBit (d % 4) = (u.super (d / 4)).keepers.testBit (d % 4))) ∧
      (¬(u.unsealed (c / 4) = true ∧ (u.super (c / 4)).keepers.testBit (c % 4) = true) → ∀ l,
        exec (.keeperWatchdogExpiry x c) s = .next u ∧ exec (.keeperCacheUe x c l) s = .next u) ∧
      (u.unsealed (c / 4) = true → (u.super (c / 4)).keepers.testBit (c % 4) = true → u.route.jobs = [] →
        exec (.keeperCacheUe x c []) s = .next u ∧
        ∀ v, u.host.accepted = [v] → v.keeper = true → v.net = none → (u.qp v.qp).gen = v.gen → u.host.cqOk = true →
          u.host.resultOk = true → v.deadline = .none →
          ∃ t, exec (.keeperCacheUe x c [(v.qp, v.tag)]) s = .next t ∧ HostOnly u t ∧ Answers u t v 0x0401 0 []))

/-- 01 R28, R29. -/
def Obligations.QuiesceAndPowerOffCommands : Prop :=
  ∀ (s u : Machine.State) (x : At) (qp tag : Nat) (dt : Option Bytes) (c : Cmd), u = s.enter x →
    (Accepted u.host qp tag 0x0104 c →
      (u.unit.state = .ready →
        ∃ t, exec (.unitQuiesce x qp tag dt) s = .next t ∧ HostOnly u t ∧ Answers u t c 0 0 []) ∧
      (u.unit.state = .quiesce → exec (.unitQuiesce x qp tag dt) s = .next (u.setProg qp tag (.waiting 0 0))) ∧
      (u.unit.state = .run → ∃ t, exec (.unitQuiesce x qp tag dt) s = .next t ∧ t.unit.state = .quiesce ∧
        t.wafer.move = none ∧ t.route.jobs = [] ∧ t.ep.image = u.ep.image ∧ t.mem = u.mem ∧
        (u.route.jobs = [] → u.ep.armed = none → (∀ k ∈ u.host.accepted, k.opcode ≠ 0x0707) →
          { c with prog := .waiting 0 0 } ∈ t.host.accepted))) ∧
    (Accepted u.host qp tag 0x0105 c →
      (u.unit.state = .ready → ∃ t, exec (.unitPowerOff x qp tag dt) s = .next t ∧ Answers u t c 0 0 [] ∧
        t = { u with unit := { u.unit with poweringDown := true }, host := t.host }) ∧
      (u.unit.state = .run → ∃ t, exec (.unitPowerOff x qp tag dt) s = .next t ∧ t.unit.state = .quiesce ∧
        t.unit.powerOffPending = true)) ∧
    (u.unit.state ≠ .quiesce ∨ u.stg.runs ≠ [] ∨ u.place.sweep.isSome = true ∨ u.place.queue ≠ [] →
      exec (.quiesceComplete x) s = .next u) ∧
    (u.unit.state = .quiesce → u.stg.runs = [] → (∀ o ∈ u.stg.old, o.runs = []) → u.place.sweep = none →
      u.place.merged = [] → u.place.queue = [] →
      (u.unit.powerOffPending = false → ∃ t, exec (.quiesceComplete x) s = .next t ∧ t.unit.state = .ready ∧
        t.unit.step = 13 ∧ t.ep.image = none ∧ t.ep.placement = 0 ∧ t.stg.runs = [] ∧ t.agent.bindings = []) ∧
      (u.unit.powerOffPending = true → ∃ t, exec (.quiesceComplete x) s = .next t ∧ t.unit.state = .standby ∧
        t.unit.regionsOn = [] ∧ t.host.accepted = []))

/-- 09 R236, R238, R246, R247, Tables 9-6 and 9-8. STAMP_READY_HI is free among the ports that are up (log entry 18). -/
def Obligations.SensorPortCommands : Prop :=
  ∀ (s u : Machine.State) (x : At) (qp tag : Nat) (dt : Option Bytes) (c : Cmd), u = s.enter x →
    (Accepted u.host qp tag 0x0301 c → ∀ p, p < 16 → fieldN c.params 0 2 = 2 ^ p →
      ∃ t r, exec (.linkStateRead x qp tag dt) s = .next t ∧ Answers u t c 0 0 r ∧ r.length = 16 ∧ fieldN r 0 1 = p ∧
        (fieldN r 1 1 = 2 ↔ (u.sport p).up = true ∧ u.unsealed (58 + p / 4) = true) ∧
        fieldN r 2 1 = (match (u.sport p).group with
          | .awake => 0
          | .proposed => 1
          | .committed => 2
          | .asleep => 3
          | .waking => 4) ∧
        (∀ n, n < 16 → ((fieldN r 4 2).testBit n = true ↔ n ∈ (u.sport p).modulesUp)) ∧
        (∀ n, n < 16 → (fieldN r 6 2).testBit n = true → n ∈ (u.sport p).modulesUp) ∧
        fieldN r 8 2 = (u.sport p).proposal % 65536 ∧ fieldN r 10 1 = (u.sport p).cause % 256 ∧
        t = { u with freeCtr := t.freeCtr, host := t.host }) ∧
    (Accepted u.host qp tag 0x0304 c →
      ((∃ m, u.ep.image = some m ∧ ∃ b ∈ m.site.linkBufs, b.1 = fieldN c.params 0 2) →
        ∃ t, exec (.linkBufWrite x qp tag dt) s = .next t ∧ HostOnly u t ∧ Answers u t c 0x0104 0 []) ∧
      ((∀ m, u.ep.image = some m → ∀ b ∈ m.site.linkBufs, b.1 ≠ fieldN c.params 0 2) →
        ∃ t, exec (.linkBufWrite x qp tag dt) s = .next t ∧ LinkHostOnly u t ∧ Answers u t c 0 0 [] ∧
          tget t.link.bufs (fieldN c.params 0 2) = some ⟨fieldN c.params 2 1, sliceB c.params 4 32⟩ ∧
          (∀ j, j ≠ fieldN c.params 0 2 → tget t.link.bufs j = tget u.link.bufs j))) ∧
    (Accepted u.host qp tag 0x0302 c → ∀ p, p = fieldN c.params 0 1 →
      (u.spUp p = false → ∃ t, exec (.linkSleep x qp tag dt) s = .next t ∧ HostOnly u t ∧ Answers u t c 0x0601 0 []) ∧
      (u.spUp p = true → (u.sport p).group ≠ .awake →
        ∃ t, exec (.linkSleep x qp tag dt) s = .next t ∧ HostOnly u t ∧ Answers u t c 0x0104 0 []) ∧
      (u.spUp p = true → (u.sport p).group = .awake → p < u.link.ports.length →
        ∃ t n, exec (.linkSleep x qp tag dt) s = .next t ∧ (t.sport p).group = .proposed ∧
          (t.sport p).proposal = ((u.sport p).proposal + 1) % 65536 ∧ (t.sport p).sleepCmd = some (qp, tag) ∧
          LinkSends u t p 0 (oshFrame 0x30 (256 + 16 * p) n 0 0 (toLE 2 (((u.sport p).proposal + 1) % 65536) ++ toLE 2 0)) ∧
          (∀ r, r ≠ p → t.sport r = u.sport r) ∧
          t = { u with link := t.link, due := t.due, host := (u.setProg qp tag (.waiting 0 0)).host })) ∧
    (Accepted u.host qp tag 0x0303 c → ∀ p, p = fieldN c.params 0 1 →
      (u.spUp p = false → ∃ t, exec (.linkWake x qp tag dt) s = .next t ∧ HostOnly u t ∧ Answers u t c 0x0601 0 []) ∧
      (u.spUp p = true → (u.sport p).group = .awake →
        ∃ t, exec (.linkWake x qp tag dt) s = .next t ∧ HostOnly u t ∧ Answers u t c 0 1 []) ∧
      (u.spUp p = true → (u.sport p).group ≠ .awake → p < u.link.ports.length →
        ∃ t, exec (.linkWake x qp tag dt) s = .next t ∧ (t.sport p).wakeCmds = (u.sport p).wakeCmds ++ [(qp, tag)] ∧
          (t.sport p).group = (u.sport p).group ∧ ((t.sport p).wakeSent = true ∨ (t.sport p).wakeDue = true) ∧
          ((u.sport p).wakeSent = false → (u.sport p).wakeDue = false → (u.sport p).duty = false →
            t.link.wakes = u.link.wakes ++ [(p, some 16, [0x4B, 0x5, 0x4F, 0x57, 0x4B])]) ∧
          t = { u with link := t.link, host := (u.setProg qp tag (.waiting 0 0)).host }))

/-- 09 R239 to R245, R247. -/
def Obligations.GroupsSleepAndWake : Prop :=
  ∀ (s u : Machine.State) (x : At) (p : Nat), u = s.enter x → p < u.link.ports.length →
    (u.ha 9 = false → u.spUp p = true → (u.sport p).group = .awake → u.portUsed p = false →
      ∃ t, exec (.sleepIdleTimer x p) s = .next t ∧ (t.sport p).group = .proposed ∧
        (t.sport p).proposal = ((u.sport p).proposal + 1) % 65536 ∧ (t.sport p).sleepCmd = none ∧
        (∃ n, LinkSends u t p 0
          (oshFrame 0x30 (256 + 16 * p) n 0 0 (toLE 2 (((u.sport p).proposal + 1) % 65536) ++ toLE 2 0))) ∧
        t = { u with link := t.link, due := t.due }) ∧
    (¬(u.ha 9 = false ∧ u.spUp p = true ∧ (u.sport p).group = .awake ∧ u.portUsed p = false) →
      exec (.sleepIdleTimer x p) s = .next u) ∧
    (∀ f : OshFrame, f.port = p →
      (¬(u.oshTakes f 0x32 = true ∧ (u.sport p).group = .proposed ∧ fieldN (oshPayload f) 0 2 = (u.sport p).proposal) →
        exec (.sleepCommit x f) s = .next u) ∧
      (u.oshTakes f 0x32 = true → (u.sport p).group = .proposed → fieldN (oshPayload f) 0 2 = (u.sport p).proposal →
        (∃ t, exec (.sleepCommit x f) s = .next t ∧ (t.sport p).group = .committed ∧ (t.sport p).cause = 0 ∧
          (∀ n, n < 16 → t.mgmtQ (16 * p + n) = ⟨none, []⟩) ∧ t.mgmtQ (256 + p) = ⟨none, []⟩) ∧
        (∀ qp tag c, (u.sport p).sleepCmd = some (qp, tag) → Held u.host qp tag 0x0302 (.waiting 0 0) c →
          u.link.mgmt = [] → u.link.attach = [] →
          ∃ t, exec (.sleepCommit x f) s = .next t ∧ Answers u t c 0 0 [] ∧ LinkHostOnly u t)) ∧
      (¬(u.oshTakes f 0x33 = true ∧ (u.sport p).group = .proposed ∧ fieldN (oshPayload f) 0 2 = (u.sport p).proposal) →
        exec (.sleepAbort x f) s = .next u) ∧
      (u.oshTakes f 0x33 = true → (u.sport p).group = .proposed → fieldN (oshPayload f) 0 2 = (u.sport p).proposal →
        (∃ t, exec (.sleepAbort x f) s = .next t ∧ (t.sport p).group = .awake ∧
          (t.sport p).cause = fieldN (oshPayload f) 2 1 ∧ (t.sport p).wakeCmds = [] ∧ LinkHostOnly u t) ∧
        (∀ qp tag c, (u.sport p).sleepCmd = some (qp, tag) → Held u.host qp tag 0x0302 (.waiting 0 0) c →
          (u.sport p).wakeCmds = [] →
          ∃ t, exec (.sleepAbort x f) s = .next t ∧
            Answers u t c 0 (1 + 16 * fieldN (oshPayload f) 2 1 + 256 * fieldN (oshPayload f) 3 1) []))) ∧
    (u.spUp p = true → (u.sport p).group = .committed → ∃ t, exec (.sleepEntry x p) s = .next t ∧
      t.sport p = { u.sport p with
        group := if (u.sport p).wakeSent = true then .waking else .asleep
        duty := true
        reported := []
        exchanges := [] } ∧
      (∀ r, r ≠ p → t.sport r = u.sport r) ∧ t = { u with link := { u.link with ports := t.link.ports } }) ∧
    ((u.sport p).group ≠ .committed → exec (.sleepEntry x p) s = .next u) ∧
    (u.spUp p = true → (u.sport p).duty = true → (u.sport p).wakeDue = true →
      ∃ t, exec (.sleepOnWindow x p) s = .next t ∧
        t.sport p = { u.sport p with group := .waking, wakeDue := false, wakeSent := true } ∧
        t.link.wakes = u.link.wakes ++ [(p, none, [0x4B, 0x5, 0x4F, 0x57, 0x4B])] ∧ (∀ r, r ≠ p → t.sport r = u.sport r) ∧
        t = { u with link := { u.link with ports := t.link.ports, wakes := t.link.wakes } }) ∧
    ((u.sport p).duty = false → exec (.sleepOnWindow x p) s = .next u ∧ exec (.sensorUplinkRelock x p) s = .next u) ∧
    ((u.sport p).wakeDue = false → (∀ e ∈ u.link.waiting, e.1 ≠ p) → exec (.sleepOnWindow x p) s = .next u) ∧
    (∀ (b : Bytes) (cls : Nat), u.spUp p = true → (u.sport p).duty = true → (u.sport p).wakeDue = false → cls < 4 →
      u.link.waiting = [(p, cls, .frame b)] → ∃ t, exec (.sleepOnWindow x p) s = .next t ∧ t.link.waiting = [] ∧
        t.link.tx = u.link.tx ++ [(p, [0x55, 0x55, 0x55, 0x55, 0x55, 0x4F, 0xD5] ++ b)] ∧ t = { u with link := t.link }) ∧
    (u.spUp p = true → (u.sport p).duty = true →
      ((u.sport p).reported.length ≠ 16 → (∀ e ∈ u.link.waiting, e.1 ≠ p) → ∃ t, exec (.sensorUplinkRelock x p) s = .next t ∧
        t.sport p = { u.sport p with group := .waking, duty := false, wakeDue := false } ∧
        (∀ r, r ≠ p → t.sport r = u.sport r) ∧ t = { u with link := { u.link with ports := t.link.ports } }) ∧
      ((u.sport p).reported.length = 16 → ∃ t, exec (.sensorUplinkRelock x p) s = .next t ∧
        (t.sport p).group = .awake ∧ (t.sport p).duty = false ∧ (t.sport p).wakeCmds = []))

/-- 09 R226, R229, R238, R244, 10 R250, R267. A delay request's answer is ready within 2 us of its arrival, when is free
(log entry 58). -/
def Obligations.SensorLinksAndPorts : Prop :=
  ∀ (s u : Machine.State) (x : At) (p : Nat), u = s.enter x → p < u.link.ports.length →
    (u.attachTime = true → p < 16 → u.unsealed (58 + p / 4) = true → u.cageDark p = false → (u.sport p).up = false →
      (u.mgmtQ (256 + p)).wait = [] → ∃ t, exec (.sensorLinkUp x p) s = .next t ∧ (t.sport p).up = true ∧ (t.sport p).group = .awake ∧
        (t.sport p).modulesUp = [] ∧ (t.att (256 + p)).st = .reading ∧ (∀ r, r ≠ p → t.sport r = u.sport r) ∧
        (∀ m, m ≠ 256 + p → t.att m = u.att m) ∧ t = { u with link := t.link, due := t.due }) ∧
    (¬(u.attachTime = true ∧ p < 16 ∧ u.unsealed (58 + p / 4) = true ∧ u.cageDark p = false ∧ (u.sport p).up = false) →
      exec (.sensorLinkUp x p) s = .next u) ∧
    ((u.sport p).up = true → p < 16 → ∃ t, exec (.sensorLinkDown x p) s = .next t ∧ (t.sport p).up = false ∧
      (t.sport p).modulesUp = [] ∧ (t.sport p).wakeCmds = [] ∧ (t.sport p).sleepCmd = none ∧
      (∀ n, n < 16 → (t.att (16 * p + n)).st = .down) ∧ (t.att (256 + p)).st = .down ∧
      (∀ r, r ≠ p → t.sport r = u.sport r) ∧ t.mem = u.mem ∧ t.time = u.time ∧ t.wafer = u.wafer) ∧
    ((u.sport p).up = false → exec (.sensorLinkDown x p) s = .next u) ∧
    (∀ f : OshFrame, f.port = p →
      (u.oshTakes f 0x22 = false → exec (.portState x f) s = .next u) ∧
      (u.oshTakes f 0x22 = true → fieldN (oshPayload f) 1 1 = 1 → (u.sport p).group ≠ .waking →
        (u.mgmtQ (16 * p + fieldN (oshPayload f) 0 1)).wait = [] → ∃ t, exec (.portState x f) s = .next t ∧ fieldN (oshPayload f) 0 1 ∈ (t.sport p).modulesUp ∧
          (t.sport p).group = (u.sport p).group ∧ t = { u with link := t.link, due := t.due }) ∧
      (u.oshTakes f 0x22 = true → fieldN (oshPayload f) 1 1 = 0 → (u.sport p).group ≠ .waking →
        fieldN (oshPayload f) 0 1 ∈ (u.sport p).modulesUp →
        ∃ t, exec (.portState x f) s = .next t ∧
          (t.sport p).modulesUp = (u.sport p).modulesUp.erase (fieldN (oshPayload f) 0 1) ∧
          (t.att (16 * p + fieldN (oshPayload f) 0 1)).st = .down) ∧
      (∀ k, u.time.running = false ∨ u.oshTakes f 0x10 = false → exec (.oshDelayReq x k f) s = .next u) ∧
      (∀ k, u.time.running = true → u.oshTakes f 0x10 = true → (u.capIn (65 + p)).owner = none →
        ∃ t at_ heard, exec (.oshDelayReq x k f) s = .next t ∧ heard = u.counterAt 0 (k % 64) ∧ heard ≤ at_ ∧
          at_ < heard + 2000 * 4294967296 ∧
          (∀ d, d ∈ t.due ↔ d ∈ u.due ∨ d = (at_, .answer p (fieldN f.bytes 4 2) (fieldN f.bytes 6 2) heard)) ∧
          t = { u with due := t.due, freeCtr := u.freeCtr + 1 })) ∧
    (∀ addr seq heard at_ t2 t3, u.spUp p = true → (u.sport p).duty = false → u.link.busy.getD p 0 ≤ at_ →
      (∀ e ∈ u.link.waiting, e.1 ≠ p) → (u.capIn (65 + p)).owner = none → t2 = heard - 178670639514 →
      t3 = at_ + 115105123533 →
      (u.doDue at_ (.answer p addr seq heard)).link.tx =
        u.link.tx ++ [(p, [0x55, 0x55, 0x55, 0x55, 0x55, 0x4F, 0xD5] ++ oshFrame 0x11 addr seq 0 0
          (toLE 8 (t2 / 4294967296) ++ toLE 2 (t2 / 65536 % 65536) ++ toLE 2 (t3 / 65536 % 65536) ++ toLE 4 0 ++
            toLE 8 (t3 / 4294967296)))] ∧
      (u.doDue at_ (.answer p addr seq heard)).sport p =
        { u.sport p with exchanges := (at_ :: (u.sport p).exchanges).take 2 })

/-- 09 R228, R232, R243, 10 R256. -/
def Obligations.ModuleDataAndEvents : Prop :=
  ∀ (s u : Machine.State) (x : At) (k m : Nat) (f : OshFrame), u = s.enter x →
    (u.oshTakes f 1 = false ∨ (u.sport f.port).group.sleeping = true → exec (.oshData x k f) s = .next u) ∧
    (u.oshTakes f 2 = false ∨ (u.sport f.port).group.sleeping = true ∨ u.time.running = false →
      exec (.oshEvent x k f) s = .next u) ∧
    (u.oshTakes f 1 = true → (u.sport f.port).group.sleeping = false → fieldN f.bytes 4 2 = m → m < 256 →
      (128 ≤ fieldN (oshPayload f) 0 1 → (u.att m).st = .attached → exec (.oshData x k f) s =
        .next { u with link := { u.link with data := u.link.data ++ [(4096 + m, oshPayload f)] } }) ∧
      (128 ≤ fieldN (oshPayload f) 0 1 → (u.att m).st ≠ .attached → exec (.oshData x k f) s = .next u) ∧
      (fieldN (oshPayload f) 0 1 < 128 → u.imagerLive (8 * m + fieldN f.bytes 8 1) = false →
        exec (.oshData x k f) s = .next u) ∧
      (fieldN (oshPayload f) 0 1 = 1 → fieldN f.bytes 8 1 < 6 → u.imagerLive (8 * m + fieldN f.bytes 8 1) = true →
        exec (.oshData x k f) s = .next { u with link := { u.link with
          data := u.link.data ++ [(8 * m + fieldN f.bytes 8 1, oshPayload f)] } }) ∧
      (fieldN (oshPayload f) 0 1 = 0 → fieldN f.bytes 8 1 < 6 → u.imagerLive (8 * m + fieldN f.bytes 8 1) = true →
        u.stg.frames = [] → ∃ t g, exec (.oshData x k f) s = .next t ∧ t.stg.frames = [g] ∧
          g.imager = 8 * m + fieldN f.bytes 8 1 ∧ g.no = fieldN (oshPayload f) 4 4 ∧ g.start = none ∧
          g.lines.length = fieldN (oshPayload f) 10 2 ∧
          (∀ i, i < g.lines.length → (g.lines.getD i (0, 0, [])).1 = fieldN (oshPayload f) 8 2 + i ∧
            (g.lines.getD i (0, 0, [])).2.1 = u.time.tick) ∧
          t = { u with stg := { u.stg with frames := t.stg.frames } })) ∧
    (u.oshTakes f 2 = true → (u.sport f.port).group.sleeping = false → u.time.running = true → fieldN f.bytes 4 2 = m →
      m < 256 → (oshPayload f).length = 24 → ∀ r, r = oshPayload f →
      (u.eventLive m (fieldN r 0 1) (fieldN r 1 1) = false → u.eventSources m (fieldN r 0 1) (fieldN r 1 1) = [] →
        exec (.oshEvent x k f) s = .next u) ∧
      (u.eventLive m (fieldN r 0 1) (fieldN r 1 1) = true → (fieldN r 2 1).testBit 0 = true → fieldN r 0 1 ≠ 1 →
        u.eventSources m (fieldN r 0 1) (fieldN r 1 1) = [] → ∃ ns, ns = fieldN r 16 8 + fieldN r 10 2 / 65536 ∧
        exec (.oshEvent x k f) s = .next { u with link := { u.link with
          events := u.link.events ++ [(m, r.take 16 ++ toLE 8 ns)] } }))

/-- 09 R238, R243, 10 R250, R252, R264, R269. -/
def Obligations.ModuleCommands : Prop :=
  ∀ (s u : Machine.State) (x : At) (qp tag m : Nat) (dt : Option Bytes) (c : Cmd), u = s.enter x → m = fieldN c.params 0 1 →
    (Accepted u.host qp tag 0x0305 c → ∃ t r, exec (.moduleRead x qp tag dt) s = .next t ∧ HostOnly u t ∧
      Answers u t c 0 0 r ∧ r.length = 32 * fieldN c.params 2 2 ∧
      (∀ i, i < fieldN c.params 2 2 → sliceB r (32 * i) 32 = u.attachRec (m + i))) ∧
    (Accepted u.host qp tag 0x0306 c →
      ((u.att m).st = .attached ∨ (u.att m).st = .mismatch ∨ (u.att m).st = .unused →
        ∃ t, exec (.moduleRecordRead x qp tag dt) s = .next t ∧ HostOnly u t ∧
          Answers u t c 0 (fieldN (u.att m).record 8 4)
            (sliceB ((u.att m).record ++ (u.att m).site) (fieldN c.params 4 4) (fieldN c.params 8 4))) ∧
      ((u.att m).st = .hubRefused → ∃ t, exec (.moduleRecordRead x qp tag dt) s = .next t ∧ HostOnly u t ∧
        Answers u t c (u.att (256 + m / 16)).status 0 []) ∧
      ((u.att m).st = .down ∨ (u.att m).st = .reading ∨ (u.att m).st = .readFailed →
        ∃ t, exec (.moduleRecordRead x qp tag dt) s = .next t ∧ HostOnly u t ∧ Answers u t c 0x0602 0 [])) ∧
    (∀ i op, (i = .moduleSiteWrite x qp tag dt ∧ op = 0x0307) ∨ (i = .moduleReattach x qp tag dt ∧ op = 0x0308) →
      Accepted u.host qp tag op c →
      (u.spUp (m / 16) = false → ∃ t, exec i s = .next t ∧ HostOnly u t ∧ Answers u t c 0x0601 0 []) ∧
      (u.spUp (m / 16) = true → (u.sport (m / 16)).group.sleeping = true →
        ∃ t, exec i s = .next t ∧ HostOnly u t ∧ Answers u t c 0x0604 0 []) ∧
      (u.spUp (m / 16) = true → (u.sport (m / 16)).group.sleeping = false → m % 16 ∉ (u.sport (m / 16)).modulesUp →
        ∃ t, exec i s = .next t ∧ HostOnly u t ∧ Answers u t c 0x0602 0 [])) ∧
    (Accepted u.host qp tag 0x0307 c → u.moduleBlocked m = none →
      ((u.att m).isOn = false → ∃ t, exec (.moduleSiteWrite x qp tag dt) s = .next t ∧ HostOnly u t ∧
        Answers u t c 0x0602 0 []) ∧
      ((u.att m).isOn = true → (u.mgmtQ m).out.isSome = true → 16 ≤ (u.mgmtQ m).wait.length →
        ∃ t, exec (.moduleSiteWrite x qp tag dt) s = .next t ∧ HostOnly u t ∧ Answers u t c 0x0202 0 []) ∧
      ((u.att m).isOn = true → (u.mgmtQ m).out.isSome = true → (u.mgmtQ m).wait.length < 16 →
        ∃ t, exec (.moduleSiteWrite x qp tag dt) s = .next t ∧ (t.mgmtQ m).out = (u.mgmtQ m).out ∧
          (t.mgmtQ m).wait = (u.mgmtQ m).wait ++
            [⟨2, 0, 256, [], .siteWrite 2 (sliceB c.params 4 28) (some (qp, tag))⟩] ∧
          t = { u with link := t.link, host := (u.setProg qp tag (.waiting 0 0)).host })) ∧
    (Accepted u.host qp tag 0x0308 c → u.moduleBlocked m = none → m < 256 → (u.mgmtQ m).wait = [] →
      ∃ t, exec (.moduleReattach x qp tag dt) s = .next t ∧ (t.att m).st = .reading ∧
        (t.att m).cmds = (u.att m).cmds ++ [(qp, tag)] ∧ (∀ a, a ≠ m → t.att a = u.att a) ∧
        t = { u with link := t.link, due := t.due, host := (u.setProg qp tag (.waiting 0 0)).host })

/-- 09 R234, 10 R251. -/
def Obligations.ManagementRequestsEnd : Prop :=
  ∀ (s u : Machine.State) (x : At) (t : Nat), u = s.enter x →
    ((u.mgmtQ t).out = none → exec (.mgmtTimeout x t) s = .next u) ∧
    (∀ m seq rep sent, (u.mgmtQ t).out = some (m, seq, rep, sent) → u.time.localC ≤ sent + 10000000 * 4294967296 →
      exec (.mgmtTimeout x t) s = .next u) ∧
    (∀ m seq rep sent, (u.mgmtQ t).out = some (m, seq, rep, sent) → sent + 10000000 * 4294967296 < u.time.localC →
      (∀ p, p = (if t < 256 then t / 16 else t - 256) → rep < 2 → u.spUp p = true →
        ∃ v, exec (.mgmtTimeout x t) s = .next v ∧
          v.mgmtQ t = { u.mgmtQ t with out := some (m, seq, rep + 1, u.time.localC) } ∧
          LinkSends u v p 3 (oshFrame 0x20 (if t < 256 then t else 256 + 16 * (t - 256)) seq 0 2 m.payload) ∧
          v = { u with link := { u.link with mgmt := v.link.mgmt, tx := v.link.tx, busy := v.link.busy,
                                             waiting := v.link.waiting }, due := v.due }) ∧
      (2 ≤ rep → m.use = .attach → (u.mgmtQ t).wait = [] →
        ((u.att t).retried = false → ∃ v, exec (.mgmtTimeout x t) s = .next v ∧ v.mgmtQ t = ⟨none, []⟩ ∧
          (v.att t).retryDue = true ∧ (v.att t).record = [] ∧ v = { u with link := v.link }) ∧
        ((u.att t).retried = true → (u.att t).cmds = [] → t < 256 → ∃ v, exec (.mgmtTimeout x t) s = .next v ∧
          v.mgmtQ t = ⟨none, []⟩ ∧ (v.att t).st = .readFailed ∧ (v.att t).status = 0x0302 ∧ v = { u with link := v.link })) ∧
      (∀ k pose qp tag c, 2 ≤ rep → m.use = .siteWrite k pose (some (qp, tag)) → (u.mgmtQ t).wait = [] →
        Held u.host qp tag 0x0307 (.waiting 0 0) c →
        ∃ v, exec (.mgmtTimeout x t) s = .next v ∧ Answers u v c 0x0302 0 [] ∧ LinkHostOnly u v)) ∧
    (∀ f : OshFrame,
      (u.oshTakes f 0x21 = false ∨ (u.sport f.port).group.sleeping = true ∨ (u.mgmtQ (frameTarget f)).out = none →
        exec (.mgmtResp x f) s = .next u) ∧
      (∀ m seq rep sent, (u.mgmtQ (frameTarget f)).out = some (m, seq, rep, sent) →
        fieldN f.bytes 6 2 ≠ seq ∨ fieldN (oshPayload f) 0 1 ≠ m.op → exec (.mgmtResp x f) s = .next u) ∧
      (∀ m seq rep sent pose qp tag c k, u.oshTakes f 0x21 = true → (u.sport f.port).group.sleeping = false →
        (u.mgmtQ (frameTarget f)) = ⟨some (m, seq, rep, sent), []⟩ → fieldN f.bytes 6 2 = seq →
        fieldN (oshPayload f) 0 1 = m.op → m.use = .siteRead k pose (some (qp, tag)) →
        siteGenOf (sliceB (sliceB (oshPayload f) 12 (if fieldN (oshPayload f) 1 1 = 0 then (oshPayload f).length - 12 else 0)) 0 256)
          = none →
        Held u.host qp tag 0x0307 (.waiting 0 0) c →
        ∃ v, exec (.mgmtResp x f) s = .next v ∧ Answers u v c 0x0603 0 [] ∧ v.mgmtQ (frameTarget f) = ⟨none, []⟩ ∧
          LinkHostOnly u v)) ∧
    ((u.att t).retryDue = false ∨ u.attachTime = false ∨ u.tgtUp t = false → exec (.attachRetryTimer x t) s = .next u) ∧
    ((u.att t).retryDue = true → u.attachTime = true → u.tgtUp t = true → (u.mgmtQ t).wait = [] →
      ∃ v, exec (.attachRetryTimer x t) s = .next v ∧ (v.att t).st = .reading ∧ (v.att t).retried = true ∧
        (v.att t).retryDue = false ∧ (∀ a, a ≠ t → v.att a = u.att a) ∧ v = { u with link := v.link, due := v.due })

/-- 07 R175, R176, R178, R179, R187 to R189, 08 R219. Retirements an access causes follow its completion (07 R180). -/
def Obligations.DiagnosticAccess : Prop :=
  ∀ (s u : Machine.State) (x : At) (qp tag : Nat) (dt : Option Bytes) (c : Cmd), u = s.enter x →
    Memory.wf u.mem = true → (∀ i op, (i = .memRead x qp tag dt ∧ op = 0x0C01) ∨ (i = .memReadRaw x qp tag dt ∧ op = 0x0C03) ∨
        (i = .memWrite x qp tag dt ∧ op = 0x0C02) → Accepted u.host qp tag op c →
      (fieldN c.params 0 1 = 0 → u.unsealed (fieldN c.params 4 4 / 144) = false →
        ∃ t, exec i s = .next t ∧ HostOnly u t ∧ Answers u t c 0x0801 0 []) ∧
      (fieldN c.params 0 1 = 0 → u.unsealed (fieldN c.params 4 4 / 144) = true →
        (u.super (fieldN c.params 4 4 / 144)).sites.getD (fieldN c.params 4 4 % 144) 3 ≠ 0 →
        ∃ t, exec i s = .next t ∧ HostOnly u t ∧ Answers u t c 0x0104 0 []) ∧
      (fieldN c.params 0 1 ≠ 0 → (u.row (fieldN c.params 4 4)).st ≠ .serving →
        ∃ t, exec i s = .next t ∧ HostOnly u t ∧ Answers u t c 0x0701 0 [])) ∧
    (∀ g w, u.cellRefusal g = none →
      (Accepted u.host qp tag 0x0C01 c → fieldN c.params 0 1 = 0 → fieldN c.params 4 4 = g → fieldN c.params 8 8 = 8 * w →
        fieldN c.params 16 4 = 8 →
        (classify (u.wordD g w) (u.wordC g w) = .clean → ∃ v : Machine.State,
          exec (.memRead x qp tag dt) s = .next v.retireDue ∧ HostOnly u v ∧
          Answers u v c 0 (8 * w) (toLE 8 (u.wordD g w))) ∧
        (classify (u.wordD g w) (u.wordC g w) = .correctable → ∃ v : Machine.State,
          exec (.memRead x qp tag dt) s = .next v.retireDue ∧
          (∃ e ∈ v.host.completions, e.tag = c.tag ∧ e.status = 0x0004 ∧ e.result = toLE 8 (corrected (u.wordD g w) (u.wordC g w))) ∧
          v.wordD g w = corrected (u.wordD g w) (u.wordC g w) % 2 ^ 64 ∧
          v.wordC g w = checkByte (corrected (u.wordD g w) (u.wordC g w)) ∧
          (∀ h y, h ≠ g ∨ y ≠ w → h < 9216 → y < 524288 → w < 524288 → g < 9216 →
            v.wordD h y = u.wordD h y ∧ v.wordC h y = u.wordC h y)) ∧
        (u.wordClass g w = .uncorrectable → ∃ v : Machine.State,
          exec (.memRead x qp tag dt) s = .next v.retireDue ∧
          (∃ e ∈ v.host.completions, e.tag = c.tag ∧ e.status = 0x0401 ∧ e.result = List.replicate 8 0) ∧
          (u.unit.state ≠ .run → v.wordD g w = u.wordD g w ∧ v.wordC g w = 255 - checkByte (u.wordD g w) ∧
            (u.injected g = false → tget v.cells.poison g = some (8 * w)))) ∧
        (u.wordClass g w = .poison → ∃ v : Machine.State, exec (.memRead x qp tag dt) s = .next v.retireDue ∧
          Answers u v c 0x0401 (8 * w) (List.replicate 8 0) ∧ (u.unit.state ≠ .run → HostOnly u v) ∧
          (∀ r e o, u.unit.state = .run → u.regionsOf (fun e => e.kind == 0) = [r] → u.region r = some e →
            u.regionAt r = some (g, o) → o ≤ 8 * w → 8 * w < o + e.len → u.awaitsRefetch r = false →
            u.resIndices (fun f => f.dest == 0 && e.lsuper == f.lsuper && e.lcell == f.lcell &&
              decide (f.off < e.offset + e.len) && decide (e.offset < f.off + f.len) && f.mode != 2) ≠ [] →
            v.awaitsRefetch r = true))) ∧
      (Accepted u.host qp tag 0x0C02 c → fieldN c.params 0 1 = 0 → fieldN c.params 4 4 = g → fieldN c.params 8 8 = 8 * w →
        fieldN c.params 16 4 = 8 → ∀ b, dataOf c.params 24 32 8 dt = some b → b.length = 8 →
        (u.unit.state = .run → u.planTouches g (8 * w) 8 = true → (fieldN c.params 20 1).testBit 0 = false →
          ∃ t, exec (.memWrite x qp tag dt) s = .next t ∧ HostOnly u t ∧ Answers u t c 0x0104 0 []) ∧
        (u.unit.state ≠ .run ∨ u.planTouches g (8 * w) 8 = false ∨ (fieldN c.params 20 1).testBit 0 = true →
          ∃ v : Machine.State, exec (.memWrite x qp tag dt) s = .next v.retireDue ∧ v.wordD g w = leNat b ∧
            v.wordC g w = checkByte (leNat b) ∧ v.wafer = u.wafer ∧
            (u.injected g = false → tget v.cells.poison g ≠ some (8 * w)) ∧
            (∃ e ∈ v.host.completions, e.tag = c.tag ∧ e.status = 0) ∧
            (∀ h y, h ≠ g ∨ y ≠ w → h < 9216 → y < 524288 → w < 524288 → g < 9216 →
              v.wordD h y = u.wordD h y ∧ v.wordC h y = u.wordC h y))) ∧
      (Accepted u.host qp tag 0x0C03 c → fieldN c.params 0 1 = 0 → fieldN c.params 4 4 = g → fieldN c.params 8 8 = 8 * w →
        fieldN c.params 16 4 = 8 → ∃ t r, exec (.memReadRaw x qp tag dt) s = .next t ∧ HostOnly u t ∧ Answers u t c 0 0 r ∧
          r.length = 16 ∧ fieldN r 0 8 = u.wordD g w ∧ fieldN r 8 1 = u.wordC g w ∧ fieldN r 10 1 = u.rawClass g w)) ∧
    (Accepted u.host qp tag 0x0C04 c → ∀ g w, g = fieldN c.params 0 4 → fieldN c.params 8 8 = 8 * w →
      (∀ n, u.cellRefusal g = some n → ∃ t, exec (.memWriteRaw x qp tag dt) s = .next t ∧ HostOnly u t ∧ Answers u t c n 0 []) ∧
      (u.cellRefusal g = none → fieldN c.params 16 2 = 1 → ∃ t, exec (.memWriteRaw x qp tag dt) s = .next t ∧
        Answers u t c 0 0 [] ∧ t.wordD g w = fieldN c.params 24 8 ∧ t.wordC g w = fieldN c.params 32 1 ∧
        t.injected g = true ∧ tget t.cells.poison g = none ∧ t.flash = u.flash ∧
        (∀ h y, h ≠ g ∨ y ≠ w → h < 9216 → y < 524288 → w < 524288 → g < 9216 →
          t.wordD h y = u.wordD h y ∧ t.wordC h y = u.wordC h y) ∧
        t = { u with mem := t.mem, cells := t.cells, host := t.host }))

/-- 08 R207, R211, R216, R218, 22 R554. -/
def Obligations.StoreRowsTrainAndServe : Prop :=
  (∀ (s u : Machine.State) (x : At) (qp tag : Nat) (dt : Option Bytes) (c : Cmd), u = s.enter x →
    Accepted u.host qp tag 0x0103 c → ∃ t r, exec (.storeRead x qp tag dt) s = .next t ∧ HostOnly u t ∧
      Answers u t c 0 0 r ∧ r.length = 256 ∧ (∀ i, i < 8 → fieldN r (32 * i) 1 = i ∧
        fieldN r (32 * i + 1) 1 = (u.row i).config % 256 ∧
        fieldN r (32 * i + 2) 1 = (match (u.row i).st with
          | .notConfigured => 0
          | .down => 1
          | .checking => 2
          | .resync => 3
          | .serving => 4
          | .refused => 5) ∧
        (∀ k, k < 8 → ((fieldN r (32 * i + 3) 1).testBit k = true ↔ (u.row i).held = false ∧ k ∈ (u.row i).up)))) ∧
  ∀ (s u : Machine.State) (x : At), u = s.enter x → u.store.rows.length = 8 →
    Memory.wf u.mem = true → (∀ sup ser port, u.trains sup = false → exec (.bundleTrained x sup ser port) s = .next u) ∧
    (∀ sup ser port, sup < 64 → u.trains sup = true → u.mirrorBars (sup / 8) = false →
      (port ≠ sup % 8 ∨ ((u.row (sup / 8)).serialSet = true ∧ (u.row (sup / 8)).serial ≠ ser) →
        ∃ t, exec (.bundleTrained x sup ser port) s = .next t ∧ t.store.rows = u.store.rows ∧
          sup ∈ t.store.miscabled ∧ (sup ∈ u.store.miscabled → t = u)) ∧
      (port = sup % 8 → (u.row (sup / 8)).serialSet = false ∨ (u.row (sup / 8)).serial = ser →
        ∃ t, exec (.bundleTrained x sup ser port) s = .next t ∧ sup % 8 ∈ (t.row (sup / 8)).up ∧
          (t.row (sup / 8)).serial = ser ∧ (t.row (sup / 8)).serialSet = true ∧
          (t.row (sup / 8)).st = (if (u.row (sup / 8)).st = .down then .checking else (u.row (sup / 8)).st) ∧
          (∀ r, r ≠ sup / 8 → t.row r = u.row r) ∧ t.mem = u.mem)) ∧
    (∀ r rep, (u.row r).st ≠ .checking → exec (.storeReady x r rep) s = .next u) ∧
    (∀ r rep, r < 8 → (u.row r).st = .checking → (u.row r).up.length ≤ 8 →
      (firstUnmet rep.prov (((u.fw.bootImg.map FwImage.reqs).getD []).filter fun q => q.iface == 9 || q.iface == 10) = none →
        ((u.row r).config = 1 → ∃ t, exec (.storeReady x r rep) s = .next t ∧ (t.row r).st = .serving ∧
          (t.row r).fwLevel = rep.fwLevel ∧ (t.row r).mirrorGen = rep.mirrorGen) ∧
        (∀ p, (u.row r).config = 2 → p = (if r < 4 then r + 4 else r - 4) → (u.row p).st = .serving →
          ∃ t, exec (.storeReady x r rep) s = .next t ∧ (t.row r).st = .resync ∧ t.row p = u.row p)) ∧
      (∀ v, firstUnmet rep.prov (((u.fw.bootImg.map FwImage.reqs).getD []).filter fun q => q.iface == 9 || q.iface == 10) =
          some v →
        ∃ t e, exec (.storeReady x r rep) s = .next t ∧ (t.row r).st = .refused ∧ (t.row r).held = true ∧
          e ∈ t.flash.ring ∧ e.kind = 17 ∧ e.cause = v.2.1)) ∧
    (∀ r, (u.row r).config ≠ 2 ∨ (u.row r).st ≠ .resync → exec (.mirrorCopyComplete x r) s = .next u) ∧
    (∀ r p, r < 8 → (u.row r).config = 2 → p = (if r < 4 then r + 4 else r - 4) → (u.row r).st = .resync →
      (u.row p).st = .serving →
      ∃ t, exec (.mirrorCopyComplete x r) s = .next t ∧ (t.row r).st = .serving ∧ (t.row p).st = .serving ∧
        (t.row r).mirrorGen = (u.row p).mirrorGen ∧ (t.row r).unflushed = [] ∧ (t.row p).solo = none ∧
        (u.areaImage = none → (t.row r).image = (u.row p).image ∧ ∀ a, (u.row p).solo ≠ some (u.row r).mirrorGen →
          a < 0x3FFC0000000 → classifyLine (u.line p a) = .clean →
          (t.line r a).take 64 = (u.line p a).take 64 ∧ (t.line r a).drop 64 = rsCheck ((u.line p a).take 64)))

/-- 06 R157, 08 R206, R211, R212. -/
def Obligations.StoreRowsAndMirrorsFail : Prop :=
  ∀ (s u : Machine.State) (x : At), u = s.enter x → u.store.rows.length = 8 →
    (∀ sup, sup % 8 ∉ (u.row (sup / 8)).up → exec (.bundleLinkLost x sup) s = .next u) ∧
    (∀ sup, sup < 64 → sup % 8 ∈ (u.row (sup / 8)).up → (u.row (sup / 8)).up.Nodup → (u.row (sup / 8)).held = false →
      ∃ t, exec (.bundleLinkLost x sup) s = .next t ∧ sup % 8 ∉ (t.row (sup / 8)).up ∧
        (2 ≤ (u.row (sup / 8)).up.length → (t.row (sup / 8)).st = (u.row (sup / 8)).st ∧ ∃ e ∈ t.flash.ring,
          e.kind = 8 ∧ e.cause = 1 ∧ e.subject = sup) ∧
        ((u.row (sup / 8)).up.length = 1 → (u.row (sup / 8)).st ≠ .notConfigured → (t.row (sup / 8)).st = .down ∧
          (t.row (sup / 8)).serialSet = false)) ∧
    (∀ sup, u.trains sup = false → ∀ b, exec (.bundleRetryTimer x sup b) s = .next u) ∧
    (∀ sup, exec (.bundleRetryTimer x sup true) s = .next u) ∧
    (∀ sup, u.trains sup = true → (u.row (sup / 8)).up = [] → exec (.bundleRetryTimer x sup false) s =
      .next { u with store := { u.store with retries := terase u.store.retries sup } }) ∧
    (∀ sup n, sup < 64 → u.trains sup = true → (u.row (sup / 8)).up ≠ [] → n = tgetD u.store.retries sup 0 + 1 →
      ∃ t e, exec (.bundleRetryTimer x sup false) s = .next (if n < 3 then t else t.sealEvent) ∧ e ∈ t.flash.ring ∧ e.kind = 8 ∧
        e.cause = 2 ∧ e.subject = sup ∧ tget t.store.retries sup = some n ∧ (n < 3 → t.summary = u.summary) ∧
        (3 ≤ n → t.summary.lostBundles.testBit sup = true ∧ t.summary.causes.testBit 4 = true ∧
          (u.summary.causes.testBit 4 = false → t.summary.replaceReq = true) ∧
          ∃ f ∈ t.flash.ring, f.kind = 8 ∧ f.cause = 3 ∧ f.subject = sup)) ∧
    (∀ k, k < 4 → (u.row k).config ≠ 2 → exec (.mirrorLinkLost x k) s = .next u ∧ exec (.mirrorLinkUp x k) s = .next u) ∧
    (∀ k r, k < 4 → r = k ∨ r = k + 4 → (u.row k).config = 2 → (u.row (k + 4)).config = 2 → (u.row k).mirrorUp = true →
      (u.row k).st = .serving → (u.row (k + 4)).st = .serving → u.cells.due = [] →
      ∃ t, exec (.mirrorLinkLost x r) s = .next t ∧ (t.row k).st = .serving ∧ (t.row (k + 4)).st = .down ∧
        (t.row (k + 4)).held = true ∧ (t.row (k + 4)).up = [] ∧ (t.row k).mirrorUp = false ∧
        ((u.row k).solo = none → (t.row k).solo = some (u.row k).mirrorGen ∧
          (t.row k).mirrorGen = ((u.row k).mirrorGen + 1) % 4294967296)) ∧
    (∀ k r, k < 4 → r = k ∨ r = k + 4 → (u.row k).config = 2 → (u.row (k + 4)).config = 2 →
      ∃ t, exec (.mirrorLinkUp x r) s = .next t ∧ (t.row k).mirrorUp = true ∧ (t.row (k + 4)).mirrorUp = true ∧
        ((u.row (k + 4)).st = .down → (t.row (k + 4)).held = false) ∧ (t.row k).st = (u.row k).st ∧
        (t.row (k + 4)).st = (u.row (k + 4)).st ∧ t.mem = u.mem)

/-- 08 R200 to R202, 07 R179. Retirements follow the transfer (07 R180). -/
def Obligations.ForagersMoveRegions : Prop :=
  ∀ (s u : Machine.State) (x : At), u = s.enter x → Memory.wf u.mem = true →
    (∀ stage, ∃ t, exec (.residencyReadIssue x stage) s = .next t ∧ t = { u with store := t.store, stg := t.stg } ∧
      t.store.rows = u.store.rows ∧ t.stg = { u.stg with unfed := t.stg.unfed } ∧
      ((u.leadsOf stage)[tgetD u.store.issued stage 0]? = none → t = u) ∧
      (∀ l, (u.leadsOf stage)[tgetD u.store.issued stage 0]? = some l →
        tget t.store.issued stage = some (tgetD u.store.issued stage 0 + 1) ∧
        (∀ w ∈ t.store.transfers, w ∈ u.store.transfers ∨ (w.tick = u.time.tick ∧ (u.row (w.sup / 8)).st = .serving ∧
          ∃ e, u.resEntry w.entry = some e ∧ e.mode = 1 ∧ e.stage_ = stage ∧ e.lead = l ∧ e.placement = u.ep.placement)) ∧
        (∀ k m e, u.ep.image = some m → k < m.residency.length → u.resEntry k = some e → e.placement = u.ep.placement →
          e.mode = 1 → e.stage_ = stage → e.lead = l →
          ((u.row (u.resSuper e / 8)).st = .serving → u.unsealed (u.resSuper e) = true →
            ⟨k, u.resSuper e, u.time.tick⟩ ∈ t.store.transfers) ∧
          ((u.row (u.resSuper e / 8)).st ≠ .serving ∨ u.unsealed (u.resSuper e) = false → stage ∈ t.stg.unfed)))) ∧
    (∀ idx, (∀ w ∈ u.underWay, w.entry = idx → (u.row (w.sup / 8)).st ≠ .serving) →
      exec (.foragerTransferComplete x idx) s = .next u) ∧
    (∀ idx e w, (u.underWay.find? fun t => t.entry == idx && (u.row (t.sup / 8)).serving) = some w →
      u.resEntry idx = some e → (∀ m, u.ep.image = some m → tget m.site.tiles idx = none) →
      e.addr % 64 = 0 → e.len % 64 = 0 → e.off % 8 = 0 → e.off + e.len ≤ 4194304 → u.resSuper e < 64 →
      e.addr + e.len ≤ 4398046511104 → u.store.badRegions.Nodup →
      (∀ q ∈ u.store.transfers, ∀ f, q ≠ w → u.resEntry q.entry = some f → f.mode ≠ 2) → ∀ r, r = u.resSuper e / 8 →
      (e.mode ≠ 2 → 0 < e.dest → e.dest < 8 → (∀ i, i < e.len / 64 → classifyLine (u.line r (e.addr + 64 * i)) = .clean) →
        ∃ v : Machine.State, exec (.foragerTransferComplete x idx) s = .next v.retireDue ∧ idx ∉ v.store.badRegions ∧
          (∀ i k, i < e.len / 64 → k < 8 →
            v.engD (u.resSuper e) e.dest (e.off / 8 + 8 * i + k) = fieldN (u.line r (e.addr + 64 * i)) (8 * k) 8) ∧
          (∀ h y, h < 9216 → y < 524288 → v.wordD h y = u.wordD h y ∧ v.wordC h y = u.wordC h y)) ∧
      ∀ g, u.resCell e = some g →
      (e.mode ≠ 2 → (∀ i, i < e.len / 64 → classifyLine (u.line r (e.addr + 64 * i)) = .clean) →
        ∃ v : Machine.State, exec (.foragerTransferComplete x idx) s = .next v.retireDue ∧ v.store.transfers = u.store.transfers.erase w ∧
          idx ∉ v.store.badRegions ∧ (∀ i k, i < e.len / 64 → k < 8 →
            v.wordD g (e.off / 8 + 8 * i + k) = fieldN (u.line r (e.addr + 64 * i)) (8 * k) 8 ∧
            v.wordC g (e.off / 8 + 8 * i + k) = checkByte (fieldN (u.line r (e.addr + 64 * i)) (8 * k) 8)) ∧
          (∀ q a, q < 8 → v.line q a = u.line q a)) ∧
      (e.mode ≠ 2 → (∃ i, i < e.len / 64 ∧ classifyLine (u.line r (e.addr + 64 * i)) = .poison) →
        ∃ v : Machine.State, exec (.foragerTransferComplete x idx) s = .next v.retireDue ∧ idx ∈ v.store.badRegions) ∧
      (e.mode = 2 → (∀ i, i < e.len / 8 → classify (u.wordD g (e.off / 8 + i)) (u.wordC g (e.off / 8 + i)) = .clean) →
        ∃ v : Machine.State, exec (.foragerTransferComplete x idx) s = .next v.retireDue ∧ v.store.transfers = u.store.transfers.erase w ∧
          (∀ i q, i < e.len / 64 → q ∈ u.holders r → (v.line q (e.addr + 64 * i)).take 64 =
            catB ((List.range 8).map fun k => toLE 8 (u.wordD g (e.off / 8 + 8 * i + k))) ∧
            (v.line q (e.addr + 64 * i)).drop 64 =
              rsCheck (catB ((List.range 8).map fun k => toLE 8 (u.wordD g (e.off / 8 + 8 * i + k))))) ∧
          (∀ h y, h < 9216 → y < 524288 → v.wordD h y = u.wordD h y ∧ v.wordC h y = u.wordC h y)))

/-- 07 R170, R183 to R185, 02 R44. The write-backs of 08 R200 and the retirements of 07 R180 follow. -/
def Obligations.StageInstancesWriteRecords : Prop :=
  ∀ (s u : Machine.State) (x : At) (i : Nat) (d : StageDesc) (run : StageRun) (r : StageResult), u = s.enter x →
    u.oldOf i = none →
    ((tget u.stg.runs i = none ∨ u.stageDesc i = none) → exec (.stageInstanceComplete x i r) s = .next u.retireDue) ∧
    (tget u.stg.runs i = some run → u.stageDesc i = some d →
      (d.kind = .veJob ∨ run.open_ ≠ 0 ∨ u.mayEnd i run = false → exec (.stageInstanceComplete x i r) s = .next u.retireDue) ∧
      (∀ g o, d.kind = .network → run.open_ = 0 → run.cause = 0 → u.mayEnd i run = true → u.handsOff d run = false →
        u.tapped (u.stageSuper d) ≤ 16384 → u.layerBufs i = [] → d.calibrates = none →
        Memory.wf u.mem = true → u.regionAt (u.outRegion i) = some (g, o) → o % 8 = 0 →
        o + 32 + r.payload.length ≤ 4194304 → g < 9216 → u.stageReads d r.reads = (false, u) → r.slotUe = [] →
        (u.engineReads d r = (false, u) → r.tileUe = [] → run.spoiled = false → u.spoiled i d = false →
          u.outLost i = false → u.rebuildingStage i d = false →
          ∃ v : Machine.State, exec (.stageInstanceComplete x i r) s = .next (v.issueBacks i).retireDue ∧ tget v.stg.runs i = none ∧
            i ∈ v.stg.written ∧ (∀ k, k < 4 + r.payload.length / 8 →
              v.wordD g (o / 8 + k) = fieldN (recordHead i run r.payload.length ++ r.payload) (8 * k) 8) ∧
            (∀ k, k < 4 + r.payload.length / 8 → v.wordC g (o / 8 + k) = checkByte (v.wordD g (o / 8 + k)))) ∧
        ((u.engineReads d r).1 = true → ∃ v : Machine.State, exec (.stageInstanceComplete x i r) s = .next (v.issueBacks i).retireDue ∧
          tget v.stg.runs i = none ∧ i ∈ v.stg.written ∧ ∀ k, k < 4 → v.wordD g (o / 8 + k) =
            fieldN (recordHead i { run with cause := 1, origin := 1 } r.payload.length) (8 * k) 8)))

/-- 11 R284, R286 to R288, R294, R295, Table 18-6, 03 R67. Retirements due follow each (07 R180). -/
def Obligations.VisionPassesAndHostMatches : Prop :=
  (∀ (s u : Machine.State) (x : At) (i : Nat) (bad : List (Nat × Nat)), u = s.enter x → u.oldOf i = none →
    (tget u.stg.runs i = none → exec (.pass1Complete x i bad) s = .next u.retireDue ∧
      exec (.pass2Complete x i bad) s = .next u.retireDue) ∧
    (u.veTurn i false = false → exec (.pass1Complete x i bad) s = .next u.retireDue) ∧
    (∀ r d, tget u.stg.runs i = some r → u.stageDesc i = some d → d.kind = .veJob →
      (r.passed = true ∨ r.hostMatch (u.veDesc d) = true → exec (.pass1Complete x i bad) s = .next u.retireDue) ∧
      (r.passed = false ∨ u.veTurn i true = false → r.hostMatch (u.veDesc d) = false →
        exec (.pass2Complete x i bad) s = .next u.retireDue) ∧
      (u.veTurn i false = true → r.passed = false → r.hostMatch (u.veDesc d) = false →
        ∃ v : Machine.State, exec (.pass1Complete x i bad) s = .next v.retireDue ∧
        (r.cause ≠ 0 ∨ (u.readBufs d (u.veDesc d) r bad false).1 = true → tget v.stg.runs i = none) ∧
        (tget v.stg.runs i = none ∨ ∃ q, tget v.stg.runs i = some q ∧ q.passed = true ∧ q.seq = r.seq ∧ q.cause = 0) ∧
        (∀ j, j ≠ i → tget v.stg.runs j = tget u.stg.runs j)) ∧
      ((u.veTurn i true = true ∧ r.passed = true) ∨ r.hostMatch (u.veDesc d) = true → ∃ v : Machine.State, exec (.pass2Complete x i bad) s = .next v.retireDue ∧
        tget v.stg.runs i = none ∧ (∀ j, j ≠ i → tget v.stg.runs j = tget u.stg.runs j) ∧
        ((u.veDesc d).kind ≠ 0 → i ∈ v.stg.written)))) ∧
  (∀ (s u : Machine.State) (x : At) (qp tag : Nat) (dt : Option Bytes) (c : Cmd), u = s.enter x →
    Accepted u.host qp tag 0x0401 c → ∀ i, i = fieldN c.params 0 2 →
      (tget u.stg.exports i = none → ∃ v : Machine.State, exec (.veMatchRead x qp tag dt) s = .next v.retireDue ∧ HostOnly u v ∧
        Answers u v c 0x0302 0 []) ∧
      (∀ e, tget u.stg.exports i = some e →
        (e.status ≠ 0 → ∃ v : Machine.State, exec (.veMatchRead x qp tag dt) s = .next v.retireDue ∧ HostOnly u v ∧
          Answers u v c e.status e.seq []) ∧
        (e.status = 0 → fieldN c.params 4 4 < e.data.length → ∃ v : Machine.State, exec (.veMatchRead x qp tag dt) s = .next v.retireDue ∧
          HostOnly u v ∧ Answers u v c 0x0102 e.data.length []) ∧
        (e.status = 0 → e.data.length ≤ fieldN c.params 4 4 →
          (u.hostRegion i = none → ∃ v : Machine.State, exec (.veMatchRead x qp tag dt) s = .next v.retireDue ∧ HostOnly u v ∧
            Answers u v c (if e.synth then 0x0005 else 0) e.seq e.data) ∧
          (∀ h b bad w, u.hostRegion i = some h → u.readRegion h 0 e.data.length = ((b, bad), w) →
            ∃ v : Machine.State, exec (.veMatchRead x qp tag dt) s = .next v.retireDue ∧ HostOnly w v ∧
              Answers w v c (if bad then 0x0401 else if e.synth then 0x0005 else 0) e.seq (if bad then [] else b))))) ∧
  ∀ (s u : Machine.State) (x : At) (qp tag : Nat) (dt : Option Bytes) (c : Cmd), u = s.enter x →
    Accepted u.host qp tag 0x0402 c → ∀ i n seq k, i = fieldN c.params 0 2 → n = fieldN c.params 2 2 →
      seq = fieldN c.params 4 4 → k = fieldN c.params 8 4 →
      (tget u.stg.exports i = none → ∃ v : Machine.State, exec (.veMatchSubmit x qp tag dt) s = .next v.retireDue ∧ HostOnly u v ∧
        Answers u v c 0x0102 0 []) ∧
      (∀ e, tget u.stg.exports i = some e →
        ((∀ r, tget u.stg.runs i = some r → r.seq ≠ seq ∨ e.seq ≠ seq ∨ e.status ≠ 0) →
          ∃ v : Machine.State, exec (.veMatchSubmit x qp tag dt) s = .next v.retireDue ∧
          HostOnly u v ∧ Answers u v c (if seq ≤ e.seq then 0x0001 else 0x0102) 0 []) ∧
        (∀ r, tget u.stg.runs i = some r → r.seq = seq → e.seq = seq → e.status = 0 →
          ((∃ j, j < n ∧ e.refs ≤ fieldN c.params (16 + 8 * j) 2 ∧ fieldN c.params (16 + 8 * j) 2 ≠ 0xFFFF) →
            ∃ v : Machine.State, exec (.veMatchSubmit x qp tag dt) s = .next v.retireDue ∧ HostOnly u v ∧ Answers u v c 0x0102 0 []) ∧
          ((∀ j, j < n → fieldN c.params (16 + 8 * j) 2 < e.refs ∨ fieldN c.params (16 + 8 * j) 2 = 0xFFFF) →
            ∃ (v : Machine.State) (p : HostPart), exec (.veMatchSubmit x qp tag dt) s = .next v.retireDue ∧ Answers u v c 0 0 [] ∧
              v.hostPart i seq = some p ∧
              (∀ j, j < n → tget p.items (k + j) = some (sliceB c.params (16 + 8 * j) 8)) ∧
              (∀ j q, j ≠ i ∨ q ≠ seq → v.hostPart j q = u.hostPart j q) ∧
              v = { u with host := v.host, stg := { u.stg with hostParts := v.stg.hostParts } })))

/-- 12 R297, R298, R312, R315, Table 12-3. A slot of a sealed super reads free. -/
def Obligations.TransformEntriesAndTrackRecords : Prop :=
  ∀ (s u : Machine.State) (x : At) (qp tag : Nat) (dt : Option Bytes) (c : Cmd) (first n : Nat), u = s.enter x →
    first = fieldN c.params 0 2 → n = fieldN c.params 2 2 →
    (Accepted u.host qp tag 0x0501 c → ∀ es, es = (List.range n).map (fun k => (first + k, sliceB c.params (8 + 48 * k) 48)) →
      (first < 2304 → u.ha 2 = false →
        ∃ t, exec (.xformWrite x qp tag dt) s = .next t ∧ HostOnly u t ∧ Answers u t c 0x0104 0 []) ∧
      (2304 ≤ first ∨ u.ha 2 = true → (∃ e ∈ u.xformsAhead es, chainBad (u.xformsAhead es) (es.map Prod.fst) 8 false e.1 = true) →
        ∃ t, exec (.xformWrite x qp tag dt) s = .next t ∧ HostOnly u t ∧ Answers u t c 0x0102 0 []) ∧
      (2304 ≤ first ∨ u.ha 2 = true → (∀ e ∈ u.xformsAhead es, chainBad (u.xformsAhead es) (es.map Prod.fst) 8 false e.1 = false) →
        ∃ t, exec (.xformWrite x qp tag dt) s = .next t ∧ Answers u t c 0 0 [] ∧
          (∀ k, k < n → tget t.ep.staged.xforms (first + k) = some (sliceB c.params (8 + 48 * k) 48)) ∧
          (∀ j, j < first ∨ first + n ≤ j → tget t.ep.staged.xforms j = tget u.ep.staged.xforms j) ∧
          t = { u with
            ep := { u.ep with staged := { u.ep.staged with xforms := t.ep.staged.xforms } }
            host := t.host })) ∧
    (Accepted u.host qp tag 0x0502 c → ∃ t r, exec (.xformRead x qp tag dt) s = .next t ∧ HostOnly u t ∧ Answers u t c 0 0 r ∧
      r.length = 48 * n ∧ ∀ k, k < n → sliceB r (48 * k) 48 = sliceB (tgetD u.xforms (first + k) []) 0 48) ∧
    (Accepted u.host qp tag 0x0503 c → ∃ t r, exec (.trackRead x qp tag dt) s = .next t ∧ HostOnly u t ∧ Answers u t c 0 0 r ∧
      r.length = 672 * n ∧ ∀ k, k < n →
        fieldN r (672 * k) 2 = (first + k) % 65536 ∧ fieldN r (672 * k + 2) 2 = (u.track (first + k)).gen % 65536 ∧
        (u.trackHeld (first + k) = false → fieldN r (672 * k + 4) 1 = 0 ∧ fieldN r (672 * k + 6) 1 = 0) ∧
        (u.trackHeld (first + k) = true → fieldN r (672 * k + 4) 1 = (u.track (first + k)).model % 256 ∧
          ((fieldN r (672 * k + 6) 1).testBit 0 = true ↔ (u.track (first + k)).inUse = true) ∧
          (∀ i, i < 12 → fieldN r (672 * k + 32 + 4 * i) 4 = (vGet (u.track (first + k)).x i).toNat) ∧
          ∀ i j, i < 12 → j < 12 →
            fieldN r (672 * k + 80 + 48 * i + 4 * j) 4 = (mGet (u.track (first + k)).p i j).toNat))

/-- 12 R319, R320, Table 18-7, 03 R67. Retirements due follow each (07 R180). -/
def Obligations.HostAssociatesObservations : Prop :=
  ∀ (s u : Machine.State) (x : At) (qp tag : Nat) (dt : Option Bytes) (c : Cmd) (i : Nat), u = s.enter x →
    i = fieldN c.params 0 2 →
    (Accepted u.host qp tag 0x0504 c →
      (u.updateStage i = none → ∃ v : Machine.State, exec (.tfeObsRead x qp tag dt) s = .next v.retireDue ∧ HostOnly u v ∧
        Answers u v c 0x0102 0 []) ∧
      (∀ d o b bad w, u.updateStage i = some d → u.inPayload d.obsReg = ((o, b, bad), w) →
        ∃ v : Machine.State, exec (.tfeObsRead x qp tag dt) s = .next v.retireDue ∧ HostOnly w v ∧
          (∀ k, o = some k → Answers w v c (causeStatus 6 k) (tgetD u.stg.seqs i 0) []) ∧
          (o = none → bad = true → Answers w v c 0x0401 (tgetD u.stg.seqs i 0) []) ∧
          (o = none → bad = false → Answers w v c (if u.recordSynth d.obsReg then 0x0005 else 0)
            (tgetD u.stg.seqs i 0) (b.take (16 + 168 * min 8192 (fieldN b 0 4)))))) ∧
    (Accepted u.host qp tag 0x0505 c → ∀ n seq, n = fieldN c.params 2 2 → seq = fieldN c.params 4 4 →
      (u.updateStage i = none → ∃ v : Machine.State, exec (.tfeAssocSubmit x qp tag dt) s = .next v.retireDue ∧ HostOnly u v ∧
        Answers u v c 0x0102 0 []) ∧
      (∀ d, u.updateStage i = some d → seq < tgetD u.stg.seqs i 0 →
        ∃ v : Machine.State, exec (.tfeAssocSubmit x qp tag dt) s = .next v.retireDue ∧ HostOnly u v ∧ Answers u v c 0x0001 0 []) ∧
      (∀ d obs bad w, u.updateStage i = some d → tgetD u.stg.seqs i 0 ≤ seq → u.obsInput d = ((obs, bad), w) →
        ((∃ k, k < n ∧ obs.length ≤ fieldN c.params (8 + 8 * k) 2) ∨
            (∃ k j, k < j ∧ j < n ∧ fieldN c.params (8 + 8 * k) 2 = fieldN c.params (8 + 8 * j) 2) →
          ∃ v : Machine.State, exec (.tfeAssocSubmit x qp tag dt) s = .next v.retireDue ∧ HostOnly w v ∧
            Answers w v c 0x0102 0 []) ∧
        ((∀ k, k < n → fieldN c.params (8 + 8 * k) 2 < obs.length) →
            (∀ k j, k < j → j < n → fieldN c.params (8 + 8 * k) 2 ≠ fieldN c.params (8 + 8 * j) 2) →
          ∃ (v : Machine.State) (p : HostPart), exec (.tfeAssocSubmit x qp tag dt) s = .next v.retireDue ∧
            Answers w v c 0 0 [] ∧ v.hostPart i seq = some p ∧
            (∀ k, k < n → tget p.items (fieldN c.params (8 + 8 * k) 2) = some (sliceB c.params (8 + 8 * k) 8)) ∧
            (∀ j q, j ≠ i ∨ q ≠ seq → v.hostPart j q = w.hostPart j q) ∧
            v = { w with host := v.host, stg := { w.stg with hostParts := v.stg.hostParts } })))

/-- 13 R325 to R328, R330, R333, R336, R337, 08 R200. Map maintenance goes on until a batch closes (log entry 62). -/
def Obligations.QueriesAreBatched : Prop :=
  (∀ (s u : Machine.State) (x : At) (qp tag : Nat) (dt : Option Bytes) (c : Cmd), u = s.enter x →
    Accepted u.host qp tag 0x0601 c → ∀ given len, given = (fieldN c.params 1 1).testBit 2 →
      len = (if given then (if fieldN c.params 44 1 = fieldN c.params 45 1 then 16384 else 32768) else 512) →
      (dataOf c.params 48 64 len dt = none →
        ∃ t, exec (.placeQuery x qp tag dt) s = .next t ∧ HostOnly u t ∧ Answers u t c 0x0102 0xFFFFFFFF []) ∧
      (∀ d, dataOf c.params 48 64 len dt = some d → given = true →
        (∃ g ∈ u.liveGens, g ≠ fieldN c.params 44 1 ∧ g ≠ fieldN c.params 45 1) →
        ∃ t, exec (.placeQuery x qp tag dt) s = .next t ∧ HostOnly u t ∧ Answers u t c 0x0102 0 []) ∧
      (∀ d, dataOf c.params 48 64 len dt = some d →
        (given = true → ∀ g ∈ u.liveGens, g = fieldN c.params 44 1 ∨ g = fieldN c.params 45 1) →
        ∃ t q, exec (.placeQuery x qp tag dt) s = .next t ∧ t.place.queue = putQuery u.place.queue q ∧ q.src = .host qp tag ∧
          q.record = sliceB c.params 0 64 ∧ q.tick = u.time.tick ∧ q.prior = none ∧
          (given = true → q.tables = hostTables c.params d) ∧ (given = false → q.tables.map Prod.fst = u.liveGens) ∧
          t = { u with
            place := { u.place with queue := t.place.queue }
            freeCtr := t.freeCtr
            host := (u.setProg qp tag (.waiting 0 0)).host })) ∧
  (∀ (s u b : Machine.State) (x : At), u = s.enter x → b = (if u.unit.state = .run then u.mapMaintenance else u) →
    (u.place.sweep ≠ none ∨ u.place.queue = [] ∨ u.wafer.move ≠ none → exec (.batchClose x) s = .next b) ∧
    (u.place.sweep = none → u.place.queue ≠ [] → u.wafer.move = none → (∀ q ∈ u.place.queue, q.prior = none) →
      ∃ t w, exec (.batchClose x) s = .next t ∧ t.place.sweep = some w ∧
        w.queries.map Query.record = (u.place.queue.take 256).map Query.record ∧
        w.queries.map Query.src = (u.place.queue.take 256).map Query.src ∧
        (∀ (i : Nat) (p q : Query), u.place.queue[i]? = some p → w.queries[i]? = some q →
          (∀ e ∈ p.tables, e ∈ q.tables) ∧ (p.desc ≠ none → ∀ g ∈ t.liveGens, tget q.tables g ≠ none)) ∧
        t.place.queue = u.place.queue.drop 256 ∧ w.seq = (u.place.sweepSeq + 1) % 4294967296 ∧ t.place.sweepSeq = w.seq ∧
        w.start = u.lkt u.time.active ∧ t.place.merged = u.place.merged ∧
        (∀ k e, k ∈ u.resIndices (fun f => f.mode == 3) → u.resEntry k = some e → (u.row (u.resSuper e / 8)).st = .serving →
          u.unsealed (u.resSuper e) = true → ⟨k, u.resSuper e, u.time.tick⟩ ∈ t.store.transfers) ∧
        (∀ k, k ∈ w.missing ↔ ∃ d ∈ u.shardPlans, d.shard = k ∧ (t.shard k).count ≠ 0 ∧ u.resident d = none) ∧
        (∀ e ∈ w.shards, e.gen = (t.shard e.shard).gen ∧ e.count = (t.shard e.shard).count ∧ (u.row e.row).st = .serving) ∧
        t = { b with
          place := t.place
          ep := t.ep
          freeCtr := t.freeCtr
          store := { b.store with transfers := t.store.transfers } })) ∧
  ∀ (s u : Machine.State) (x : At) (excluded tableUe : List Nat), u = s.enter x →
    (u.place.sweep = none → exec (.sweepScanEnd x excluded tableUe) s = .next u) ∧
    (∀ w, u.place.sweep = some w → ∃ t, exec (.sweepScanEnd x excluded tableUe) s = .next t ∧ t.place.sweep = none ∧
      t.ep = u.ep ∧ t.cells = u.cells ∧ t.stg = u.stg ∧ t.place.shards = u.place.shards ∧ t.place.nodes = u.place.nodes ∧
      t.place.merged.length + t.place.queue.length =
        u.place.merged.length + u.place.queue.length + w.queries.length ∧
      (w.missing = [] → (w.shards.map SweepShard.shard).Nodup →
        (∀ t ∈ u.store.transfers, ∀ f, u.resEntry t.entry = some f → f.mode ≠ 2) →
        (∀ q ∈ w.queries, ∀ d ∈ w.shards, tget q.tables d.gen ≠ none) →
        (∀ d ∈ w.shards, d.count ≤ 134217728 ∧ ∃ p, u.shardPlan d.shard = some p ∧ p.info % 32 = 0 ∧ ∀ j, j < d.count →
          classifyLine (u.line d.row (u.codeArea p false + 64 * (j / 2))) = .clean ∧
          classifyLine (u.line d.row (p.info + 32 * j)) = .clean) →
        t.place.queue = u.place.queue ∧ ∀ i q, w.queries[i]? = some q →
        ∃ m, t.place.merged[u.place.merged.length + i]? = some m ∧ m.query = q ∧ (m.found.ue = true ↔ i ∈ tableUe) ∧
          m.found.seq = w.seq ∧ m.found.missing = [] ∧ m.found.ranked.length ≤ queryM q.record ∧
          m.found.ranked.Pairwise (fun a b => rankLt b a = false) ∧
          ∀ d ∈ w.shards, ∀ p j tb e, u.shardPlan d.shard = some p → j < d.count → tget q.tables d.gen = some tb →
            134217728 * d.shard + j ∉ excluded →
            e = (codeDist tb (sliceB (u.line d.row (u.codeArea p false + 64 * (j / 2))) (32 * (j % 2)) 32),
              134217728 * d.shard + j, d.gen) →
            (e ∈ m.found.ranked ∨ ∀ r ∈ m.found.ranked, rankLt e r = false) ∧
            (e ∈ m.found.ranked → (e.2.1 ∈ m.found.passed ↔
              passes q.record (sliceB (u.line d.row (p.info + 32 * j)) ((p.info + 32 * j) % 64) 32) = true))))

/-- 13 R328, R330, R333, R345, 18 R463. -/
def Obligations.QueriesEnd : Prop :=
  ∀ (s u : Machine.State) (x : At), u = s.enter x →
    (u.place.merged = [] → exec (.queryComplete x) s = .next u) ∧
    (∀ m rest, u.place.merged = m :: rest →
      (m.found.missing ≠ [] → m.found.ue = false → (fieldN m.query.record 1 1).testBit 1 = true → m.query.prior = none →
        exec (.queryComplete x) s = .next { u with place := { u.place with
          merged := rest, queue := putQuery u.place.queue { m.query with tick := m.found.ended, prior := some m.found } } }) ∧
      (m.found.missing = [] ∨ m.found.ue = true ∨ (fieldN m.query.record 1 1).testBit 1 = false ∨ m.query.prior ≠ none →
        (∀ qp tag c, m.query.src = .host qp tag → Held u.host qp tag 0x0601 (.waiting 0 0) c →
          ∃ t, exec (.queryComplete x) s = .next t ∧
            t = { u with place := { u.place with merged := rest }, host := t.host } ∧
            (m.found.ue = true → Answers u t c 0x0401 0 []) ∧
            (m.found.ue = false → m.found.missing ≠ [] → (fieldN m.query.record 1 1).testBit 0 = false →
              ∃ r, Answers u t c 0x0701 0 r ∧ fieldN r 0 4 = fieldN m.query.record 12 4 ∧ fieldN r 4 1 = 0) ∧
            (m.found.ue = false → m.found.missing = [] ∨ (fieldN m.query.record 1 1).testBit 0 = true →
              ∃ (r : Bytes) (es : List (Nat × Nat × Nat)) (n st : Nat), Answers u t c st (es.length + 256 * n) r ∧ es.length ≤ queryK m.query.record ∧
                (∀ e ∈ es, e ∈ m.found.ranked ∧ e.2.1 ∈ m.found.passed ∧ codeShard e.2.1 ∉ m.found.missing) ∧
                (st = 0x0002 ↔ es.length < queryK m.query.record) ∧ (st = 0 ∨ st = 0x0002 ∨ st = 0x0003) ∧
                fieldN r 0 4 = fieldN m.query.record 12 4 ∧ fieldN r 4 1 = es.length % 256 ∧
                ∀ k e, m.found.start.length = 16 → es[k]? = some e → fieldN r (64 + 16 * k) 8 = e.2.1 % 2 ^ 64 ∧
                  fieldN r (64 + 16 * k + 8) 4 = e.1 % 2 ^ 32 ∧ fieldN r (64 + 16 * k + 12) 1 = e.2.2 % 256)) ∧
        (∀ i own r d, m.query.src = .stage i own → u.oldOf i = none → tget u.stg.runs i = some r → u.stageDesc i = some d →
          ∃ v : Machine.State, exec (.queryComplete x) s = .next v.retireDue ∧ v.place.merged = rest ∧
            (r.open_ = 1 → tget v.stg.runs i = none ∧ i ∈ v.stg.written) ∧
            (2 ≤ r.open_ → ∃ q, tget v.stg.runs i = some q ∧ q.open_ = r.open_ - 1))))

/-- 13 R335, R341, R342, R346, R347, 17 R456, Tables 18-8, 13-7 and 13-8. The host's poses count as a commit (log entry
48, DEDUCED); other map maintenance comes before a window's poses (log entry 62). -/
def Obligations.CodebooksLoopsAndTheGraph : Prop :=
  (∀ (s u : Machine.State) (x : At) (qp tag : Nat) (dt : Option Bytes) (c : Cmd), u = s.enter x →
    (Accepted u.host qp tag 0x0602 c →
      (dt = none → ∃ t, exec (.codebookLoad x qp tag dt) s = .next t ∧ HostOnly u t ∧ Answers u t c 0x0102 0xFFFFFFFF []) ∧
      (∀ d, dt = some d →
        (u.migrating = true → ∃ t, exec (.codebookLoad x qp tag dt) s = .next t ∧ HostOnly u t ∧ Answers u t c 0x0104 0 []) ∧
        (u.migrating = false → bookOk (sliceB d 0 131088) = false ∨ fieldN (sliceB d 0 131088) 1 1 ∈ u.liveGens →
          ∃ t, exec (.codebookLoad x qp tag dt) s = .next t ∧ HostOnly u t ∧ Answers u t c 0x0102 0 []) ∧
        (u.migrating = false → bookOk (sliceB d 0 131088) = true → fieldN (sliceB d 0 131088) 1 1 ∉ u.liveGens →
          ∃ t, exec (.codebookLoad x qp tag dt) s = .next t ∧ Answers u t c 0 0 [] ∧
            t = { u with
              ep := { u.ep with staged := { u.ep.staged with codebook := some (sliceB d 0 131088) } }
              host := t.host }))) ∧
    (Accepted u.host qp tag 0x0603 c → ∃ t r, exec (.loopCandRead x qp tag dt) s = .next t ∧ Answers u t c 0 0 r ∧
      r.length = 24 * min (fieldN c.params 0 2) u.place.cands.length ∧
      (∀ i k, i < fieldN c.params 0 2 → u.place.cands[i]? = some k → fieldN r (24 * i) 8 = k.node % 2 ^ 64 ∧
        fieldN r (24 * i + 8) 8 = k.code % 2 ^ 64 ∧ fieldN r (24 * i + 16) 4 = k.dist % 2 ^ 32 ∧
        fieldN r (24 * i + 20) 1 = k.gen % 256) ∧
      t = { u with
        place := { u.place with cands := u.place.cands.drop (fieldN c.params 0 2) }
        host := t.host }) ∧
    (Accepted u.host qp tag 0x0604 c → ∀ es, es = (List.range (fieldN c.params 0 2)).map (fun i => sliceB c.params (8 + 136 * i) 136) →
      ((∃ b ∈ es, tget u.place.nodes (fieldN b 0 8) = none ∨ tget u.place.nodes (fieldN b 8 8) = none) →
        ∃ t, exec (.loopCloseSubmit x qp tag dt) s = .next t ∧ HostOnly u t ∧ Answers u t c 0x0102 0 []) ∧
      ((∀ b ∈ es, tget u.place.nodes (fieldN b 0 8) ≠ none ∧ tget u.place.nodes (fieldN b 8 8) ≠ none) →
        ∃ t, exec (.loopCloseSubmit x qp tag dt) s = .next t ∧ Answers u t c 0 0 [] ∧
          t = { u with
            place := { u.place with edges := u.place.edges ++ es }
            host := t.host })) ∧
    (Accepted u.host qp tag 0x0605 c → ∀ want, want = ((if fieldN c.params 0 1 = 0 then
        (u.place.nodes.filter fun e => decide (fieldN c.params 8 8 ≤ e.1)).map Prod.snd
        else u.place.edges.drop (fieldN c.params 8 8)).take (fieldN c.params 4 4)) →
      ((∀ b ∈ want, u.graphAway (fieldN b 0 8) = false) →
        ∃ t, exec (.mapGraphRead x qp tag dt) s = .next t ∧ HostOnly u t ∧ Answers u t c 0 want.length want.flatten) ∧
      (∀ k b, want[k]? = some b → u.graphAway (fieldN b 0 8) = true →
        (∀ a ∈ want.take k, u.graphAway (fieldN a 0 8) = false) →
        ∃ t, exec (.mapGraphRead x qp tag dt) s = .next t ∧ HostOnly u t ∧ Answers u t c 0x0701 k (want.take k).flatten)) ∧
    (Accepted u.host qp tag 0x0606 c → ∀ n, n = fieldN c.params 0 1 →
      ((∃ i, i < n ∧ tget u.place.nodes (fieldN c.params (8 + 48 * i) 8) = none) →
        ∃ t, exec (.mapPoseWrite x qp tag dt) s = .next t ∧ HostOnly u t ∧ Answers u t c 0x0102 0 []) ∧
      ((∀ i, i < n → tget u.place.nodes (fieldN c.params (8 + 48 * i) 8) ≠ none) →
        (∀ i j, i < j → j < n → fieldN c.params (8 + 48 * i) 8 ≠ fieldN c.params (8 + 48 * j) 8) →
        ∃ t, exec (.mapPoseWrite x qp tag dt) s = .next t ∧ Answers u t c 0 0 [] ∧
          t.place.optSeq = (u.place.optSeq + 1) % 4294967296 ∧
          (∀ i, i < n → tget t.place.nodes (fieldN c.params (8 + 48 * i) 8) =
            some (nodeBytes (fieldN c.params (8 + 48 * i) 8) (sliceB c.params (16 + 48 * i) 28) t.place.optSeq)) ∧
          (∀ k, (∀ i, i < n → k ≠ fieldN c.params (8 + 48 * i) 8) → tget t.place.nodes k = tget u.place.nodes k) ∧
          t = { u with
            place := { u.place with nodes := t.place.nodes, optSeq := t.place.optSeq }
            host := t.host })) ∧
    (Accepted u.host qp tag 0x0607 c → ∃ t, exec (.mapDistSet x qp tag dt) s = .next t ∧ HostOnly u t ∧ Answers u t c 0 0 [] ∧
      t.host.dists.length = fieldN c.params 0 1 ∧ ∀ i, i < fieldN c.params 0 1 → ∃ d, t.host.dists[i]? = some d ∧ d.dseq = 0 ∧
        d.udp = fieldN (sliceB c.params (8 + 12 * i) 12) 4 2 ∧ d.streams = fieldN (sliceB c.params (8 + 12 * i) 12) 6 1 ∧
        d.via = fieldN (sliceB c.params (8 + 12 * i) 12) 7 1)) ∧
  ∀ (s u m : Machine.State) (x : At) (ns : List (List Byte)), u = s.enter x → m = u.mapMaintenance →
    (u.unit.state ≠ .run → exec (.mapOptimiseCommit x ns) s = .next u) ∧
    (u.unit.state = .run → u.ha 6 = true ∨ ns = [] → exec (.mapOptimiseCommit x ns) s = .next m) ∧
    (u.unit.state = .run → u.ha 6 = false → ns ≠ [] → ∃ t, exec (.mapOptimiseCommit x ns) s = .next t ∧
      t.place.optSeq = (u.place.optSeq + 1) % 4294967296 ∧
      (∀ k, tget u.place.nodes k = none → tget t.place.nodes k = none) ∧
      (∀ k, (∀ b ∈ ns, fieldN b 0 8 ≠ k) → tget t.place.nodes k = tget u.place.nodes k) ∧
      (∀ b, ns = [b] → tget u.place.nodes (fieldN b 0 8) ≠ none → tget t.place.nodes (fieldN b 0 8) =
        some (nodeBytes (fieldN b 0 8) (sliceB b 8 28) t.place.optSeq)) ∧
      t = { m with
        place := { m.place with nodes := t.place.nodes, optSeq := t.place.optSeq }
        host := t.host })

/-- 14 R351 to R355, R371, R374, 05 R135, R136, R139, Tables 14-3 and 5-7. The super of a command is S(3,0) or S(4,0), by its port
(log entry 57, DEDUCED). -/
def Obligations.OccupancyReachesTheCheckers : Prop :=
  (∀ (s u : Machine.State) (x : At) (qp tag : Nat) (dt : Option Bytes) (c : Cmd) (w : Nat → Nat) (n : Nat), u = s.enter x →
    (∀ i, w i = fieldN c.params (8 + 8 * i) 8) → n = fieldN c.params 0 2 → Accepted u.host qp tag 0x0703 c →
    ∀ m, u.ep.image = some m → u.route.occupied.Nodup →
      ((∃ i, i < n ∧ (m.site.route.extent.1 ≤ w i % 65536 ∨ m.site.route.extent.2.1 ≤ w i / 65536 % 65536 ∨
          m.site.route.extent.2.2 ≤ w i / 4294967296 % 65536)) →
        ∃ t, exec (.occInject x qp tag dt) s = .next t ∧ HostOnly u t ∧ Answers u t c 0x0102 0 []) ∧
      ((∀ i, i < n → w i % 65536 < m.site.route.extent.1 ∧ w i / 65536 % 65536 < m.site.route.extent.2.1 ∧
          w i / 4294967296 % 65536 < m.site.route.extent.2.2) →
        (16384 < u.tapped (u.cmdSuper c) + n → exec (.occInject x qp tag dt) s = .next u) ∧
        (u.tapped (u.cmdSuper c) + n ≤ 16384 → ∃ t l, exec (.occInject x qp tag dt) s = .next t ∧ Answers u t c 0 l.length [] ∧
          t.route.deltas = u.route.deltas ++ l ∧
          (∀ d ∈ l, ∃ i, i < n ∧ d = w i % 2 ^ 48 + 2 ^ 48 * b2n ((w i).testBit 48) + 2 ^ 49 * 15 +
            2 ^ 70 * (u.cmdSuper c % 64) + 2 ^ 76 * 4) ∧
          (∀ i, i < n → (∀ j, i < j → j < n → w j % 2 ^ 48 ≠ w i % 2 ^ 48) →
            (w i % 2 ^ 48 ∈ t.route.occupied ↔ (w i).testBit 48 = true)) ∧
          (∀ v, (∀ i, i < n → w i % 2 ^ 48 ≠ v) → (v ∈ t.route.occupied ↔ v ∈ u.route.occupied)) ∧
          (n = 1 → (l.length = 1 ↔ ¬(w 0 % 2 ^ 48 ∈ u.route.occupied ↔ (w 0).testBit 48 = true))) ∧
          t = { u with
            route := { u.route with occupied := t.route.occupied, deltas := t.route.deltas }
            host := t.host }))) ∧
  (∀ (s u : Machine.State) (x : At) (slotUe : List Nat), u = s.enter x →
    (u.route.deltas = [] ∨ u.wafer.pause ≠ none → exec (.occDeltaGrant x slotUe) s = .next u) ∧
    (∀ w rest, u.route.deltas = w :: rest → u.wafer.pause = none → u.route.granted.Nodup →
      (u.route.slots.map Prod.fst).Nodup →
      ∃ t, exec (.occDeltaGrant x slotUe) s = .next t ∧ t = { u with route := t.route } ∧ t.route.deltas = rest ∧
        (w % 2 ^ 48 ∈ t.route.granted ↔ w.testBit 48 = true) ∧
        (∀ v, v ≠ w % 2 ^ 48 → (v ∈ t.route.granted ↔ v ∈ u.route.granted)) ∧
        (∀ id e, tget u.route.slots id = some e → id ∉ slotUe →
          (e.edge.holds (w % 2 ^ 48) = false ∨ e.slot = none → tget t.route.slots id = some e) ∧
          (e.edge.holds (w % 2 ^ 48) = true → e.slot ≠ none →
            (w.testBit 48 = true → tget t.route.slots id = some { e with count := e.count + 1 }) ∧
            (w.testBit 48 = false → tget t.route.slots id = some { e with count := e.count - 1 }) ∧
            (w.testBit 48 = true → e.unknown = false → e.count + 1 = e.edge.threshold →
              ∃ r ∈ t.route.recs, r.edge = id ∧ r.state = 1 ∧ r.tick = u.time.tick + (1000 * u.wafer.dw + 1667) / 8000) ∧
            (w.testBit 48 = false → e.unknown = false → e.count = e.edge.threshold → 0 < e.count →
              ∃ r ∈ t.route.recs, r.edge = id ∧ r.state = 0 ∧
                r.tick = u.time.tick + (1000 * u.wafer.dw + 1667) / 8000))) ∧
        (∀ id e, tget u.route.slots id = some e → id ∈ slotUe →
          ∃ f, tget t.route.slots id = some f ∧ f.unknown = true ∧ f.bad = true ∧ f.slot = e.slot ∧ f.edge = e.edge))) ∧
  (∀ (s u : Machine.State) (x : At) (id : Nat), u = s.enter x →
    (tget u.route.slots id = none → exec (.recountComplete x id) s = .next u) ∧
    (∀ e, tget u.route.slots id = some e →
      (e.unknown = false ∨ u.slotFor id u.nextBinding.1 u.nextBinding.2 = none →
        exec (.recountComplete x id) s = .next u) ∧
      (∀ k, e.unknown = true → u.slotFor id u.nextBinding.1 u.nextBinding.2 = some k → u.slotsRoll (k / 2048) = false →
        e.bad = false ∨ (u.row (k / 16384)).st = .serving →
        ∃ t r, exec (.recountComplete x id) s = .next t ∧ t = { u with route := t.route } ∧
          tget t.route.slots id = some { e with
            slot := some k, count := (u.route.granted.filter e.edge.holds).length, unknown := false, bad := false } ∧
          (∀ j, j ≠ id → tget t.route.slots j = tget u.route.slots j) ∧ t.route.recs = u.route.recs ++ [r] ∧ r.edge = id ∧
          (r.state = 1 ↔ e.edge.threshold ≤ (u.route.granted.filter e.edge.holds).length)))) ∧
  ∀ (s u : Machine.State) (x : At) (qp tag : Nat) (dt : Option Bytes) (c : Cmd), u = s.enter x →
    Accepted u.host qp tag 0x0701 c → ∃ t r, exec (.edgeRead x qp tag dt) s = .next t ∧ HostOnly u t ∧ Answers u t c 0 0 r ∧
      r.length = 32 * fieldN c.params 4 4 ∧ ∀ k, k < fieldN c.params 4 4 →
        fieldN r (32 * k) 4 = (fieldN c.params 0 4 + k) % 2 ^ 32 ∧
        (tget u.route.slots (fieldN c.params 0 4 + k) = none → fieldN r (32 * k + 4) 4 = 0xFFFFFFFF) ∧
        (∀ e, tget u.route.slots (fieldN c.params 0 4 + k) = some e →
          fieldN r (32 * k + 8) 1 = (if e.unknown then 2 else if e.edge.threshold ≤ e.count then 1 else 0) ∧
          fieldN r (32 * k + 18) 2 = e.edge.threshold % 65536 ∧ fieldN r (32 * k + 20) 4 = e.count % 2 ^ 32)

/-- 14 R356, R360, R373, R376, 18 R464, Tables 14-1, 14-8 and 18-9. -/
def Obligations.BlockedEdgesMeetRoutes : Prop :=
  (∀ (s u : Machine.State) (x : At), u = s.enter x →
    (u.route.recs = [] → exec (.blockedRecordDelivered x) s = .next u) ∧
    (∀ r, nextRec u.route.recs = some r → (∀ q ∈ u.route.recs, r.tick < q.tick ∨ (r.tick = q.tick ∧ r.edge ≤ q.edge)) ∧
      (u.time.tick < r.tick → exec (.blockedRecordDelivered x) s = .next u) ∧
      (r.tick ≤ u.time.tick → ∃ t, exec (.blockedRecordDelivered x) s = .next t ∧ t.route.recs = u.route.recs.erase r ∧
        (u.route.blocked.length < 4096 → t.route.blocked = u.route.blocked ++ [r.rec_] ∧
          t.route.blockedLost = u.route.blockedLost) ∧
        (4096 ≤ u.route.blocked.length → t.route.blocked = u.route.blocked ∧
          t.route.blockedLost = u.route.blockedLost + 1) ∧
        (u.unit.state ≠ .run → t.route.routes = u.route.routes ∧ t.route.jobs = u.route.jobs) ∧
        (∀ a v, v = u.routeOf a → u.unit.state = .run → r.state = 1 → v.st = .active →
          (v.edges[v.current]? = some r.edge → (t.routeOf a).st = .hold ∧ (t.routeOf a).heldCurrent = true ∧
            (t.routeOf a).version = v.version) ∧
          (v.edges[v.current]? ≠ some r.edge → r.edge ∈ v.edges.drop v.current →
            (u.ha 7 = false → t.routeOf a = v ∧ ∃ j ∈ t.route.jobs, j.agent = a ∧ j.what = .repair r.edge ∧ j.tick = r.tick) ∧
            (u.ha 7 = true → v.hostWait = none → t.routeOf a = { v with hostWait := some (r.edge, u.time.tick +
              125 * (u.ep.image.bind fun m => m.site.route.hostWait).getD (u.agentClass (u.agentClassOf a)).cycle) })) ∧
          (r.edge ∉ v.edges.drop v.current → t.routeOf a = v))))) ∧
  (∀ (s u : Machine.State) (x : At) (a : Nat), u = s.enter x →
    ((u.routeOf a).hostWait = none → exec (.hostRouteWaitExpiry x a) s = .next u) ∧
    (∀ e due, (u.routeOf a).hostWait = some (e, due) →
      (u.time.tick ≤ due → exec (.hostRouteWaitExpiry x a) s = .next u) ∧
      (due < u.time.tick → (u.routeOf a).st ≠ .active → ∃ t, exec (.hostRouteWaitExpiry x a) s = .next t ∧
        t.routeOf a = { u.routeOf a with hostWait := none } ∧ t = { u with route := { u.route with routes := t.route.routes } }) ∧
      (due < u.time.tick → (u.routeOf a).st = .active → ∃ t, exec (.hostRouteWaitExpiry x a) s = .next t ∧ (t.routeOf a).st = .hold ∧
        (t.routeOf a).hostWait = none ∧ (t.routeOf a).waitOver = true ∧ (t.routeOf a).edges = (u.routeOf a).edges ∧
        (∀ b, b ≠ a → t.routeOf b = u.routeOf b) ∧
        (u.route.events.length < 4096 → (∀ k ∈ u.host.accepted, k.opcode ≠ 0x0707) →
          ∃ ev, t.route.events = u.route.events ++ [ev] ∧ fieldN ev 0 2 = a % 65536 ∧ fieldN ev 2 1 = 1 ∧
            fieldN ev 8 4 = e % 2 ^ 32)))) ∧
  ∀ (s u : Machine.State) (x : At) (qp tag : Nat) (dt : Option Bytes) (c : Cmd) (n : Nat), u = s.enter x →
    n = fieldN c.params 0 2 →
    (Accepted u.host qp tag 0x0702 c →
      (u.routeQp ≠ some qp → ∃ t, exec (.blockedRead x qp tag dt) s = .next t ∧ HostOnly u t ∧ Answers u t c 0x0104 0 []) ∧
      (u.routeQp = some qp → ∃ t, exec (.blockedRead x qp tag dt) s = .next t ∧
        Answers u t c 0 (min u.route.blockedLost 0xFFFFFFFF) (u.route.blocked.take n).flatten ∧
        t = { u with
          route := { u.route with blocked := u.route.blocked.drop n, blockedLost := 0 }
          host := t.host })) ∧
    (Accepted u.host qp tag 0x0707 c →
      (u.routeQp ≠ some qp → ∃ t, exec (.routeEventRead x qp tag dt) s = .next t ∧ HostOnly u t ∧ Answers u t c 0x0104 0 []) ∧
      (u.routeQp = some qp → fieldN c.params 2 1 = 0 ∨ u.route.events ≠ [] →
        ∃ t st, exec (.routeEventRead x qp tag dt) s = .next t ∧
          Answers u t c st (min u.route.eventsLost 0xFFFFFFFF) (u.route.events.take n).flatten ∧
          (st = 0x0702 ∨ st = 0) ∧ (st = 0x0702 ↔ ∃ ev ∈ u.route.events.take n, fieldN ev 2 1 = 2) ∧
          t = { u with
            route := { u.route with events := u.route.events.drop n, eventsLost := 0 }
            host := t.host }) ∧
      (u.routeQp = some qp → fieldN c.params 2 1 ≠ 0 → u.route.events = [] →
        (u.waitingRead qp 0x0707 ≠ none →
          ∃ t, exec (.routeEventRead x qp tag dt) s = .next t ∧ HostOnly u t ∧ Answers u t c 0x0104 0 []) ∧
        (u.waitingRead qp 0x0707 = none → exec (.routeEventRead x qp tag dt) s =
          .next (u.setProg qp tag (.waiting c.timeout.1 c.timeout.2))))) ∧
    (Accepted u.host qp tag 0x0706 c → ∃ t r, exec (.routeRead x qp tag dt) s = .next t ∧ HostOnly u t ∧ Answers u t c 0 0 r ∧
      fieldN r 0 2 = n ∧ fieldN r 2 1 = (match (u.routeOf n).st with
        | .idle => 0
        | .active => 1
        | .hold => 2) ∧
      fieldN r 4 4 = (u.routeOf n).version % 2 ^ 32 ∧ fieldN r 8 4 = (u.routeOf n).goal % 2 ^ 32 ∧
      fieldN r 12 2 = (u.routeOf n).current % 65536 ∧ fieldN r 14 2 = (u.routeOf n).edges.length % 65536 ∧
      ((u.routeOf n).issued.length = 16 → sliceB r 16 16 = (u.routeOf n).issued ∧
        ∀ k e, (u.routeOf n).edges[k]? = some e → fieldN r (32 + 4 * k) 4 = e % 2 ^ 32)) ∧
    (Accepted u.host qp tag 0x0705 c →
      (u.agentDesc n = none → ∃ t, exec (.routeCancel x qp tag dt) s = .next t ∧ HostOnly u t ∧ Answers u t c 0x0102 0 []) ∧
      (u.agentDesc n ≠ none → (u.routeOf n).st = .idle →
        ∃ t, exec (.routeCancel x qp tag dt) s = .next t ∧ HostOnly u t ∧ Answers u t c 0 0 []) ∧
      (u.agentDesc n ≠ none → (u.routeOf n).st ≠ .idle → (∀ k ∈ u.host.accepted, k.opcode ≠ 0x0707) →
        ∃ t, exec (.routeCancel x qp tag dt) s = .next t ∧ Answers u t c 0 0 [] ∧ (t.routeOf n).st = .idle ∧
          (t.routeOf n).version = (u.routeOf n).version ∧ (∀ b, b ≠ n → t.routeOf b = u.routeOf b) ∧
          (∀ j ∈ t.route.jobs, j ∈ u.route.jobs ∧ (j.agent = n → ∃ g f q k, j.what = .goal g f q k))))

/-- 14 R358, R360 to R363, R375, R376. A host route that does not go on from a held agent's current edge is its whole route
(log entry 61, DEDUCED). -/
def Obligations.RoutesArePlannedAndIssued : Prop :=
  (∀ (s u : Machine.State) (x : At) (qp tag : Nat) (dt : Option Bytes) (c : Cmd) (a : Nat) (v : Route), u = s.enter x →
    a = fieldN c.params 0 2 → v = u.routeOf a →
    (Accepted u.host qp tag 0x0704 c → ∀ goal start, goal = fieldN c.params 4 4 → start = fieldN c.params 8 4 →
      (u.agentMap a = none → ∃ t, exec (.routeGoalSet x qp tag dt) s = .next t ∧ HostOnly u t ∧ Answers u t c 0x0102 0 []) ∧
      (∀ r, u.agentMap a = some r →
        (u.ha 7 = true → ∃ t, exec (.routeGoalSet x qp tag dt) s = .next t ∧ HostOnly u t ∧ Answers u t c 0x0104 0 []) ∧
        (u.ha 7 = false → r.nodes.length ≤ goal ∨ (start ≠ 0xFFFFFFFF ∧ r.nodes.length ≤ start) ∨
            (start = 0xFFFFFFFF ∧ (v.st = .idle ∨ v.edges = [])) →
          ∃ t, exec (.routeGoalSet x qp tag dt) s = .next t ∧ HostOnly u t ∧ Answers u t c 0x0102 0 []) ∧
        (u.ha 7 = false → goal < r.nodes.length → start = 0xFFFFFFFF ∨ start < r.nodes.length →
            start ≠ 0xFFFFFFFF ∨ (v.st ≠ .idle ∧ v.edges ≠ []) →
          ∃ t j, exec (.routeGoalSet x qp tag dt) s = .next t ∧ t.route.jobs = u.route.jobs ++ [j] ∧ j.agent = a ∧
            j.what = .goal goal start qp tag ∧ j.core = none ∧ j.tick = u.time.tick ∧
            t = { u with
              route := { u.route with jobs := t.route.jobs }
              host := (u.setProg qp tag (.waiting 0 0)).host }))) ∧
    (Accepted u.host qp tag 0x0708 c → ∀ n, n = fieldN c.params 2 2 →
      (dataOf c.params 8 16 (4 * n) dt = none →
        ∃ t, exec (.routeSubmit x qp tag dt) s = .next t ∧ HostOnly u t ∧ Answers u t c 0x0102 0xFFFFFFFF []) ∧
      (∀ b, dataOf c.params 8 16 (4 * n) dt = some b →
        (u.agentMap a = none → ∃ t, exec (.routeSubmit x qp tag dt) s = .next t ∧ HostOnly u t ∧ Answers u t c 0x0102 0 []) ∧
        (∀ r w es on keep, u.agentMap a = some r → u.workMap a = some w → es = (List.range n).map (fun i => fieldN b (4 * i) 4) →
          on = (!v.edges.isEmpty && (((es.head?).bind r.edge).map fun e => e.start).getD noId == w.nodeAt v.edges (v.current + 1)) →
          keep = (if v.st = .idle || !on then [] else v.edges.take (v.current + 1)) →
          ((∃ id ∈ es, r.edge id = none) ∨ r.joined es = false ∨ 4096 < keep.length + n ∨
              (v.st = .active ∧ v.edges ≠ [] ∧ on = false) →
            ∃ t, exec (.routeSubmit x qp tag dt) s = .next t ∧ HostOnly u t ∧ Answers u t c 0x0102 0 []) ∧
          ((∀ id ∈ es, r.edge id ≠ none) → r.joined es = true → keep.length + n ≤ 4096 →
              v.st ≠ .active ∨ v.edges = [] ∨ on = true → (∀ k ∈ u.host.accepted, k.opcode ≠ 0x0707) →
            ∃ t, exec (.routeSubmit x qp tag dt) s = .next t ∧ (t.routeOf a).st = .active ∧ (t.routeOf a).edges = keep ++ es ∧
              (t.routeOf a).goal = fieldN c.params 4 4 ∧ (t.routeOf a).fromHost = true ∧ (t.routeOf a).hostWait = none ∧
              (t.routeOf a).version = (if (v.version + 1) % 2 ^ 32 = 0 then 1 else (v.version + 1) % 2 ^ 32) ∧
              (∀ k, k ≠ a → t.routeOf k = u.routeOf k) ∧
              Answers u t c (if v.waitOver = true ∧ v.hostWait = none then 1 else 0) (t.routeOf a).version []))))) ∧
  (∀ (s u : Machine.State) (x : At) (a : Nat), u = s.enter x →
    (u.nextJob = none ∨ u.freeCore = none → exec (.repairStart x a) s = .next u) ∧
    (∀ j c, u.nextJob = some j → u.freeCore = some c →
      (∀ k ∈ u.route.jobs, k.core = none → (∀ i ∈ u.route.jobs, i.agent = k.agent → i.core = none) →
        j.tick < k.tick ∨ (j.tick = k.tick ∧ j.agent ≤ k.agent)) ∧
      (j.agent ≠ a → exec (.repairStart x a) s = .next u) ∧
      (j.agent = a → ∃ t, exec (.repairStart x a) s = .next t ∧ t = { u with route := { u.route with jobs := t.route.jobs } } ∧
        (u.jobWanted j = false → t.route.jobs.length + 1 = u.route.jobs.length) ∧
        (u.jobWanted j = true → t.route.jobs.length = u.route.jobs.length ∧ ∃ k ∈ t.route.jobs, k.agent = a ∧
          k.what = j.what ∧ k.core = some c ∧ k.runs = 0 ∧ k.version = (u.routeOf a).version ∧
          (k.full = false ↔ ∃ b, j.what = .repair b))))) ∧
  ∀ (s u : Machine.State) (x : At) (a : Nat) (full : Bool) (i : Instr), u = s.enter x →
    (i = .repairComplete x a ∧ full = false) ∨ (i = .fullPlanComplete x a ∧ full = true) →
    (u.runningJob a full = none → exec i s = .next u) ∧
    (∀ j, u.runningJob a full = some j → (∀ k ∈ u.host.accepted, k.opcode ≠ 0x0707) →
      (u.unit.state ≠ .run → ∃ t, exec i s = .next t ∧ t.route.jobs.length + 1 = u.route.jobs.length ∧
        t = { u with route := { u.route with jobs := t.route.jobs } }) ∧
      (u.unit.state = .run → (u.routeOf a).version = j.version → (u.routeOf a).st = j.mode →
        (∀ es added, u.searchResult j = some (es, added) → (∀ e ∈ added, u.edgeClear e = true) →
          ∃ t, exec i s = .next t ∧ (t.routeOf a).st = .active ∧ (t.routeOf a).edges = es ∧
            (t.routeOf a).fromHost = false ∧ t.route.jobs.length + 1 = u.route.jobs.length ∧
            (t.routeOf a).version =
              (if ((u.routeOf a).version + 1) % 2 ^ 32 = 0 then 1 else ((u.routeOf a).version + 1) % 2 ^ 32) ∧
            (∀ k, k ≠ a → t.routeOf k = u.routeOf k) ∧
            (∀ g f q k c, j.what = .goal g f q k → Held u.host q k 0x0704 (.waiting 0 0) c →
              Answers u t c 0 (t.routeOf a).version [])) ∧
        (∀ es added, u.searchResult j = some (es, added) → (∃ e ∈ added, u.edgeClear e = false) → j.runs < 2 →
          ∃ t, exec i s = .next t ∧ t.route.routes = u.route.routes ∧ ∃ k ∈ t.route.jobs, k.agent = a ∧ k.what = j.what ∧
            k.core = j.core ∧ k.runs = j.runs + 1 ∧ k.full = full) ∧
        (u.searchResult j = none → full = false → ∃ t, exec i s = .next t ∧ t.route.routes = u.route.routes ∧
          ∃ k ∈ t.route.jobs, k.agent = a ∧ k.what = j.what ∧ k.full = true ∧ k.runs = 0) ∧
        (u.searchResult j = none → full = true →
          (∀ b, j.what = .full b ∨ j.what = .repair b → (u.routeOf a).st = .active →
            ∃ t, exec i s = .next t ∧ (t.routeOf a).st = .hold ∧ (t.routeOf a).heldCurrent = false ∧
              (t.routeOf a).version = (u.routeOf a).version) ∧
          (∀ g f q k c, j.what = .goal g f q k → Held u.host q k 0x0704 (.waiting 0 0) c →
            ∃ t, exec i s = .next t ∧ t.route.routes = u.route.routes ∧ Answers u t c 0x0702 0 []))))

/-- 15 R377, R380, R382, R383, R400, Table 18-10. Retirements due follow an upload (07 R180). An upload to a region that stands
nowhere answers BAD_STATE (log entry 51, the model's choice). -/
def Obligations.LayersAreWrittenAndCommitted : Prop :=
  (∀ (s u : Machine.State) (x : At) (qp tag : Nat) (dt : Option Bytes) (c : Cmd) (h l op : Nat) (i : Instr), u = s.enter x →
    h = fieldN c.params 0 1 → l = fieldN c.params 1 1 →
    (i = .layerWrite x qp tag dt ∧ op = 0x0801) ∨ (i = .layerCommit x qp tag dt ∧ op = 0x0802) →
    Accepted u.host qp tag op c →
    (u.composes = false → ∃ t, exec i s = .next t ∧ HostOnly u t ∧ Answers u t c 0x0201 0 []) ∧
    (u.composes = true → u.headDark h = true → ∃ t, exec i s = .next t ∧ HostOnly u t ∧ Answers u t c 0x0801 0 []) ∧
    (u.composes = true → u.headDark h = false → (u.layer h l).committed = true →
      ∃ t, exec i s = .next t ∧ HostOnly u t ∧ Answers u t c 0x0104 0 [])) ∧
  (∀ (s u : Machine.State) (x : At) (qp tag : Nat) (dt : Option Bytes) (c : Cmd) (h l : Nat), u = s.enter x →
    h = fieldN c.params 0 1 → l = fieldN c.params 1 1 → u.composes = true → u.headDark h = false →
    (u.layer h l).committed = false → h < u.comp.heads.length → l < (u.head h).layers.length →
    (Accepted u.host qp tag 0x0801 c →
      (u.layerRefOk (parseLayer (sliceB c.params 8 64)) = false →
        ∃ t, exec (.layerWrite x qp tag dt) s = .next t ∧ HostOnly u t ∧ Answers u t c 0x0102 0 []) ∧
      (u.layerRefOk (parseLayer (sliceB c.params 8 64)) = true →
        ∃ t, exec (.layerWrite x qp tag dt) s = .next t ∧ Answers u t c 0 0 [] ∧
          t.layer h l = { u.layer h l with pend := sliceB c.params 8 64 } ∧
          (∀ g k, g ≠ h ∨ k ≠ l → t.layer g k = u.layer g k) ∧
          t = { u with
            comp := { u.comp with heads := t.comp.heads }
            host := t.host })) ∧
    (Accepted u.host qp tag 0x0802 c →
      (u.fetchOk h l = false → ∃ t, exec (.layerCommit x qp tag dt) s = .next t ∧ HostOnly u t ∧ Answers u t c 0x0102 0 []) ∧
      (u.fetchOk h l = true → ∃ t, exec (.layerCommit x qp tag dt) s = .next t ∧
        t.layer h l = { u.layer h l with committed := true, cmd := some (qp, tag) } ∧
        (∀ g k, g ≠ h ∨ k ≠ l → t.layer g k = u.layer g k) ∧
        t = { u with
          comp := { u.comp with heads := t.comp.heads }
          host := (u.setProg qp tag (.waiting 0 0)).host }))) ∧
  ∀ (s u : Machine.State) (x : At) (qp tag : Nat) (dt : Option Bytes) (c : Cmd) (r off n : Nat), u = s.enter x →
    r = fieldN c.params 0 4 → off = fieldN c.params 4 4 → n = fieldN c.params 8 4 → Accepted u.host qp tag 0x0803 c →
    (u.region r = none → ∃ t, exec (.layerUpload x qp tag dt) s = .next t ∧ HostOnly u t ∧ Answers u t c 0x0102 0 []) ∧
    (∀ e, u.region r = some e →
      (e.kind ≠ 5 ∨ e.placement ≠ u.ep.placement ∨ e.len < off + n →
        ∃ t, exec (.layerUpload x qp tag dt) s = .next t ∧ HostOnly u t ∧ Answers u t c 0x0102 0 []) ∧
      (e.kind = 5 → e.placement = u.ep.placement → off + n ≤ e.len →
        (dataOf c.params 16 24 n dt = none →
          ∃ t, exec (.layerUpload x qp tag dt) s = .next t ∧ HostOnly u t ∧ Answers u t c 0x0102 0xFFFFFFFF []) ∧
        (∀ b, dataOf c.params 16 24 n dt = some b →
          (u.regionAt r = none → ∃ t, exec (.layerUpload x qp tag dt) s = .next t ∧ HostOnly u t ∧ Answers u t c 0x0104 0 []) ∧
          (∀ g o, u.regionAt r = some (g, o) → (o + off) % 8 = 0 → n % 8 = 0 → b.length = n → o + off + n ≤ 4194304 →
            g < 9216 → Memory.wf u.mem = true →
            ∃ v : Machine.State, exec (.layerUpload x qp tag dt) s = .next v.retireDue ∧ Answers u v c 0 (o + off) [] ∧
              (∀ k, k < n / 8 → v.wordD g ((o + off) / 8 + k) = fieldN b (8 * k) 8 ∧
                v.wordC g ((o + off) / 8 + k) = checkByte (fieldN b (8 * k) 8)) ∧
              (∀ h y, h < 9216 → y < 524288 → h ≠ g ∨ y < (o + off) / 8 ∨ (o + off + n) / 8 ≤ y →
                v.wordD h y = u.wordD h y ∧ v.wordC h y = u.wordC h y)))))

/-- 15 R382, R386, R389, Table 15-4. Retirements due follow each (07 R180). -/
def Obligations.FramesTakeCommitsAndAreSent : Prop :=
  (∀ (s u : Machine.State) (x : At) (h : Nat), u = s.enter x →
    (u.headRec h = none ∨ u.headRuns h = false ∨ (u.head h).frame ≠ none → exec (.frameStart x h) s = .next u) ∧
    (∀ b, u.headRec h = some b → u.headRuns h = true → (u.head h).frame = none → h < u.comp.heads.length →
      (u.head h).layers.length = 16 →
      ∃ (v : Machine.State) (f : FrameRun), exec (.frameStart x h) s = .next v.retireDue ∧ (v.head h).frame = some f ∧
        f.seq = (u.head h).frameSeq ∧ (v.head h).frameSeq = (u.head h).frameSeq ∧ f.placement = u.ep.placement ∧
        fieldN f.header 0 4 = f.seq % 2 ^ 32 ∧ fieldN f.header 4 1 = h % 256 ∧ (fieldN f.header 5 1).testBit 0 = false ∧
        (∀ l, l < 16 → (v.layer h l).committed = false ∧ (v.layer h l).pend = (u.layer h l).pend ∧
          ((u.layer h l).committed = true → (v.layer h l).active = (u.layer h l).pend ∧
            (v.layer h l).lseq = (u.layer h l).lseq + 1 ∧ (v.layer h l).epoch = u.ep.epoch ∧ (v.layer h l).cmd = none) ∧
          ((u.layer h l).committed = false → (v.layer h l).active = (u.layer h l).active ∧
            (v.layer h l).lseq = (u.layer h l).lseq ∧ (v.layer h l).epoch = (u.layer h l).epoch)) ∧
        (∀ l c, l < 16 → (u.layer h l).committed = true → (u.layer h l).cmd = some (c.qp, c.tag) →
          Held u.host c.qp c.tag 0x0802 (.waiting 0 0) c →
          ∃ e ∈ v.host.completions, e.tag = c.tag ∧ e.qp = c.qp ∧ e.status = 0 ∧ e.detail = f.seq % 2 ^ 32) ∧
        (∀ g, g ≠ h → v.head g = u.head g))) ∧
  ∀ (s u : Machine.State) (x : At) (h : Nat) (faults : FrameFaults), u = s.enter x →
    ((u.head h).frame = none ∨ u.headRec h = none ∨ u.headRuns h = false → exec (.frameEnd x h faults) s = .next u) ∧
    (∀ b f, u.headRec h = some b → u.headRuns h = true → (u.head h).frame = some f → h < u.comp.heads.length →
      ∃ v : Machine.State, exec (.frameEnd x h faults) s = .next v.retireDue ∧ (v.head h).frame = none ∧
        (v.head h).frameSeq = (f.seq + 1) % 4294967296 ∧ (v.head h).layers = (u.head h).layers ∧
        (∀ g, g ≠ h → v.head g = u.head g) ∧
        ((u.head h).link = none → (v.head h).sent = (u.head h).sent) ∧
        ((u.head h).link ≠ none → (v.head h).sent.length = 4 * (fieldN b 2 2 * fieldN b 4 2) ∧
          ((∀ l, l < 16 → (parseLayer (u.layer h l).active).visible = false) → ∀ k, k < fieldN b 2 2 * fieldN b 4 2 →
            fieldN (v.head h).sent (4 * k) 4 = fieldN b 24 4 % 16777216)))

/-- 15 R391, R392, R394 to R396, R399, Table 15-5. Bytes within a drawn region are free (log entry 7). -/
def Obligations.HeadsTrainAndThePanelIsDrawn : Prop :=
  (∀ (s u : Machine.State) (x : At) (h : Nat) (works : List (Nat × Nat)), u = s.enter x →
    (u.time.running = false ∨ u.unsealed (u.driver h) = false ∨ 2 ≤ h → exec (.hotPlugDetect x h works) s = .next u) ∧
    (u.time.running = true → u.unsealed (u.driver h) = true → h < 2 → h < u.comp.heads.length →
      ∃ t, exec (.hotPlugDetect x h works) s = .next t ∧ (t.head h).sink = true ∧ (t.head h).frame = (u.head h).frame ∧
        (∀ c, (t.head h).link = some c → c ∈ works ∧ u.linkCarries h c = true ∧ c ∈ linkSequence) ∧
        (∀ (k : Nat) (c : Nat × Nat), linkSequence[k]? = some c → c ∈ works → u.linkCarries h c = true →
          ∃ (j : Nat) (d : Nat × Nat), j ≤ k ∧ linkSequence[j]? = some d ∧
          (t.head h).link = some d) ∧
        (∀ g, g ≠ h → t.head g = u.head g) ∧ t = { u with comp := { u.comp with heads := t.comp.heads } }) ∧
    (h < u.comp.heads.length → ∃ t, exec (.hotPlugLost x h) s = .next t ∧
      t.head h = { u.head h with sink := false, link := none } ∧ (∀ g, g ≠ h → t.head g = u.head g) ∧
      t = { u with comp := { u.comp with heads := t.comp.heads } })) ∧
  (∀ (s u : Machine.State) (x : At), u = s.enter x →
    (u.unit.state = .off ∨ u.panel.update = none → exec (.panelUpdateStepComplete x) s = .next u) ∧
    (u.unit.state ≠ .off →
      (∀ rs, u.panel.update = some (1, rs) → ∃ t, exec (.panelUpdateStepComplete x) s = .next t ∧
        t.panel.update = some (2, rs) ∧ (∀ r ∈ rs, tget t.panel.drawn r = some (u.panelContent r)) ∧
        (∀ r, r ∉ rs → tget t.panel.drawn r = tget u.panel.drawn r) ∧
        t = { u with panel := { u.panel with update := t.panel.update, drawn := t.panel.drawn } }) ∧
      (∀ rs, u.panel.update = some (2, rs) → exec (.panelUpdateStepComplete x) s =
        .next { u with panel := { u.panel with update := some (3, rs), bandBlack := false } }) ∧
      (∀ n rs, u.panel.update = some (n + 3, rs) → ∃ t, exec (.panelUpdateStepComplete x) s = .next t ∧
        t = { u with panel := t.panel } ∧ t.panel.drawn = u.panel.drawn ∧
        (u.panel.replFirst = true → t.panel.update = some (1, [3]) ∧ t.panel.replFirst = false ∧ t.panel.bandBlack = true) ∧
        (u.panel.replFirst = false → u.panel.pendingSet = [] → t.panel.update = none) ∧
        (u.panel.replFirst = false → u.panel.pendingSet ≠ [] → t.panel.update = some (1, u.panel.pendingSet) ∧
          t.panel.pendingSet = [] ∧ t.panel.bandBlack = true)))) ∧
  ∀ (s u : Machine.State) (x : At) (qp tag : Nat) (dt : Option Bytes) (c : Cmd), u = s.enter x →
    (Accepted u.host qp tag 0x0804 c → ∃ t r, exec (.displayRead x qp tag dt) s = .next t ∧ HostOnly u t ∧
      Answers u t c 0 0 r ∧ r.length = 32 ∧ ∀ h, h < 2 →
        (u.headDark h = true → fieldN r (16 * h) 1 = 0) ∧
        (∀ b, u.headDark h = false → u.composes = true → u.headRec h = some b → (fieldN b 0 1).testBit 0 = true →
          fieldN r (16 * h) 1 = (if (u.head h).sink = false then 1 else if (u.head h).link = none then 2 else 3)) ∧
        fieldN r (16 * h + 1) 1 = b2n (u.head h).instB ∧
        (∀ k, (u.head h).link = some k → fieldN r (16 * h + 2) 1 = k.1 % 256 ∧ fieldN r (16 * h + 3) 1 = k.2 % 256) ∧
        fieldN r (16 * h + 4) 4 = (u.head h).frameSeq % 2 ^ 32) ∧
    (Accepted u.host qp tag 0x0805 c → ∃ t r, exec (.panelRead x qp tag dt) s = .next t ∧ HostOnly u t ∧
      Answers u t c 0 0 r ∧ r.length = 30004 ∧
        (∀ k, k < 1200 → r[k]? = some (if u.panel.bandBlack then 0xFF else 0)) ∧
        fieldN r 30000 4 = b2n u.panel.update.isSome)

/-- 16 R405 to R407, R413, R417, R419, R420, Tables 16-6, 16-8 and 16-9, 01 R30. -/
def Obligations.AgentsBindAndReport : Prop :=
  (∀ (s u : Machine.State) (x : At) (k : Nat) (f : EthFrame) (a : Nat), u = s.enter x → a = agAgent f →
    (u.agentTakes f 1 = false → exec (.hello x k f) s = .next u) ∧
    (u.agentTakes f 4 = false → exec (.odo x k f) s = .next u) ∧
    (u.agentTakes f 6 = false → exec (.routeAck x k f) s = .next u) ∧
    (u.agentTakes f 1 = true → ∃ t, exec (.hello x k f) s = .next t ∧
      (u.helloResult f = 0 → tget t.agent.bindings a = some ⟨f.port, f.src, f.vlan⟩) ∧
      (u.helloResult f ≠ 0 → t.agent.bindings = u.agent.bindings) ∧
      (∀ b, b ≠ a → tget t.agent.bindings b = tget u.agent.bindings b) ∧
      (u.helloResult f ≠ 0 ∨ tget u.agent.bindings a ≠ none ∨ (u.routeOf a).st = .idle ∨ u.unit.state ≠ .run →
        ∃ m, t = ({ u with agent := { u.agent with bindings := t.agent.bindings } }).txFrame f.port 5
            (ethFrame f.src (u.unit.macs.getD f.port []) (f.vlan.map fun v => (5, v)) 0x88B5 m) ∧
          m.length = 40 ∧ fieldN m 0 1 = 1 ∧ fieldN m 2 2 = a % 65536 ∧ fieldN m 4 2 = fieldN f.body 4 2 ∧
          fieldN m 24 1 = u.helloResult f)) ∧
    (u.agentTakes f 4 = true → (u.agentDesc a = none → exec (.odo x k f) s = .next u) ∧
      (∀ d, u.agentDesc a = some d → ∃ t, exec (.odo x k f) s = .next t ∧
        (t.cacheOf a).pose = (u.cacheOf a).pose ∧
        (∀ i b, i < fieldN (agPayload f) 0 1 → b = sliceB (agPayload f) (8 + 56 * i) 56 → lktDom b = 1 ∨ lktDom b = 2 →
          ∃ e, (t.cacheOf a).sample = some e ∧ (odoSample u.time.localC u.domPairs b).stamp ≤ e.2.stamp) ∧
        (∀ b, b ≠ a → t.cacheOf b = u.cacheOf b) ∧ (∀ j, j ≠ d.track → t.track j = u.track j) ∧
        t = { u with
          stg := { u.stg with tracks := t.stg.tracks }
          agent := { u.agent with cache := t.agent.cache, poseQs := t.agent.poseQs } })) ∧
    (u.agentTakes f 6 = true → ∀ v, v = u.routeOf a →
      (v.st = .idle ∨ v.version ≠ fieldN (agPayload f) 0 4 → exec (.routeAck x k f) s = .next u) ∧
      (v.st ≠ .idle → v.version = fieldN (agPayload f) 0 4 →
        ((fieldN (agPayload f) 8 1).testBit 0 = false ∨ v.st ≠ .active → ∃ t, exec (.routeAck x k f) s = .next t ∧
          t.routeOf a = { v with
            segsOk := fieldN (agPayload f) 4 2
            current := min (fieldN (agPayload f) 6 2) (v.edges.length - 1)
            holdDue := if (fieldN (agPayload f) 8 1).testBit 1 then none else v.holdDue } ∧
          (∀ b, b ≠ a → t.routeOf b = u.routeOf b) ∧ t = { u with route := { u.route with routes := t.route.routes } }) ∧
        ((fieldN (agPayload f) 8 1).testBit 0 = true → v.st = .active → ∃ t, exec (.routeAck x k f) s = .next t ∧
          (t.routeOf a).st = .idle ∧ (t.routeOf a).version = v.version ∧ (t.routeOf a).holdDue = none ∧
          (∀ b, b ≠ a → t.routeOf b = u.routeOf b))))) ∧
  ∀ (s u : Machine.State) (x : At) (a : Nat), u = s.enter x →
    ((u.routeOf a).st = .idle ∨ u.unit.state ≠ .run ∨ tget u.agent.bindings a = none → exec (.routeRetryTimer x a) s = .next u) ∧
    (∀ b r, (u.routeOf a).st ≠ .idle → u.unit.state = .run → tget u.agent.bindings a = some b → b.port < u.agent.waiting.length →
      u.agentMap a = some r → tgetD u.agent.seqs (256 * a + 5) 0 < 65536 →
      ∃ t, exec (.routeRetryTimer x a) s = .next t ∧
        t = { u with
          agent := { u.agent with
            seqs := t.agent.seqs
            sent := t.agent.sent
            waiting := t.agent.waiting
            busy := t.agent.busy }
          due := t.due } ∧
        tgetD t.agent.seqs (256 * a + 5) 0 = (tgetD u.agent.seqs (256 * a + 5) 0 +
          ((routeSegs r (u.routeOf a)).drop (u.routeOf a).segsOk).length + b2n (u.routeOf a).holdDue.isSome) % 65536 ∧
        (∀ k, k ≠ 256 * a + 5 → tget t.agent.seqs k = tget u.agent.seqs k))

/-- 16 R408, R410, R412, R414, R422, R423, 01 R30, Table 16-7. -/
def Obligations.PosesAreAskedAndAnswered : Prop :=
  (∀ (s u : Machine.State) (x : At) (k : Nat) (f : EthFrame), u = s.enter x →
    (u.agentTakes f 2 = false ∨ (u.unit.state ≠ .ready ∧ u.unit.state ≠ .run ∧ u.unit.state ≠ .quiesce) ∨
      65 ≤ (u.agent.poseQs.getD f.port []).length → exec (.poseReq x k f) s = .next u) ∧
    (u.agentTakes f 2 = true → u.unit.state = .ready ∨ u.unit.state = .run ∨ u.unit.state = .quiesce →
      (u.agent.poseQs.getD f.port []).length < 65 → f.port < u.agent.poseQs.length →
      ∃ t r, exec (.poseReq x k f) s = .next t ∧ t.agent.poseQs.getD f.port [] = u.agent.poseQs.getD f.port [] ++ [r] ∧
        (∀ p, p ≠ f.port → t.agent.poseQs.getD p [] = u.agent.poseQs.getD p []) ∧ r.agent = agAgent f ∧
        r.seq = fieldN f.body 4 2 ∧ r.ahead = fieldN (agPayload f) 0 4 ∧ r.mac = f.src ∧ r.tick = u.time.tick ∧
        r.frame.length = 204 ∧ fieldN r.frame 0 1 = 3 ∧ fieldN r.frame 4 2 = fieldN f.body 4 2 ∧
        fieldN r.frame 25 1 = (if u.unit.state ≠ .run then 1 else if u.agentDesc (agAgent f) = none then 3
          else if u.poseOf (agAgent f) ≠ none then 0 else if u.ha 10 = true then 4 else 2) ∧
        ((fieldN r.frame 24 1).testBit 0 = true ↔ fieldN r.frame 25 1 = 0) ∧
        t = { u with agent := { u.agent with poseQs := t.agent.poseQs } })) ∧
  (∀ (s u : Machine.State) (x : At) (p : Nat), u = s.enter x →
    (u.agent.poseQs.getD p [] = [] → exec (.poseAnswer x p) s = .next u) ∧
    (∀ r rest, u.agent.poseQs.getD p [] = r :: rest → p < u.agent.waiting.length →
      ∃ t m, exec (.poseAnswer x p) s = .next t ∧ t.agent.poseQs.getD p [] = rest ∧
        m = ethFrame r.mac (u.unit.macs.getD p []) (r.vlan.map fun v => (7, v)) 0x88B5 r.frame ∧
        (u.agentPortUp p = false → t.agent.sent = u.agent.sent ∧ t.agent.waiting = u.agent.waiting) ∧
        (u.agentPortUp p = true → u.siteBusy p u.time.localC = false → (∀ e ∈ u.agent.waiting.getD p [], e.1 ≠ 7) →
          u.gateFits p 7 u.time.localC m = true → t.agent.sent = u.agent.sent ++ [(p, 7, m)] ∧ t.agent.waiting = u.agent.waiting) ∧
        (u.agentPortUp p = true → u.siteBusy p u.time.localC = true ∨ (∃ e ∈ u.agent.waiting.getD p [], e.1 = 7) ∨
            u.gateFits p 7 u.time.localC m = false → t.agent.sent = u.agent.sent ∧ t.agent.waiting.getD p [] = u.agent.waiting.getD p [] ++ [(7, m)]) ∧
        t = { u with
          agent := { u.agent with
            poseQs := t.agent.poseQs
            sent := t.agent.sent
            waiting := t.agent.waiting
            busy := t.agent.busy }
          due := t.due })) ∧
  ∀ (s u : Machine.State) (x : At) (qp tag : Nat) (dt : Option Bytes) (c : Cmd) (a : Nat), u = s.enter x →
    a = fieldN c.params 0 2 →
    (Accepted u.host qp tag 0x0901 c → ∃ t r, exec (.poseRead x qp tag dt) s = .next t ∧ HostOnly u t ∧ Answers u t c 0 0 r ∧
      r.length = 180 ∧ fieldN r 1 1 = u.invalidWhy a ∧ ((fieldN r 0 1).testBit 0 = true ↔ u.invalidWhy a = 0)) ∧
    (Accepted u.host qp tag 0x0902 c →
      (u.agentDesc a = none → ∃ t, exec (.poseWrite x qp tag dt) s = .next t ∧ HostOnly u t ∧ Answers u t c 0x0102 0 []) ∧
      (u.agentDesc a ≠ none → ∃ t k, exec (.poseWrite x qp tag dt) s = .next t ∧ Answers u t c 0 0 [] ∧
        (t.cacheOf a).pose = some k ∧ (t.cacheOf a).host = true ∧ (t.cacheOf a).stamp = some (sliceB c.params 8 16) ∧
        (t.cacheOf a).sample = (u.cacheOf a).sample ∧ k.model = fieldN c.params 2 1 ∧
        (∀ i, i < 12 → vGet k.x i = fField c.params (24 + 4 * i)) ∧
        (∀ i j, i < 12 → j < 12 → mGet k.p i j = fField c.params (72 + 48 * i + 4 * j)) ∧
        (∀ b, b ≠ a → t.cacheOf b = u.cacheOf b) ∧
        t = { u with
          agent := { u.agent with cache := t.agent.cache, poseQs := t.agent.poseQs }
          host := t.host }))

/-- 16 R402, R404, R421, 19 R474. -/
def Obligations.GateListsAndTransmitBuffers : Prop :=
  (∀ (s u : Machine.State) (x : At) (qp tag : Nat) (dt : Option Bytes) (c : Cmd), u = s.enter x →
    (Accepted u.host qp tag 0x0904 c → ∀ p, p = fieldN c.params 0 1 →
      ∃ t g, exec (.tsnListWrite x qp tag dt) s = .next t ∧ Answers u t c 0 0 [] ∧ tget t.ep.staged.gates p = some g ∧
        g.baseDom = fieldN c.params 2 1 ∧ g.base = lktVal (sliceB c.params 8 16) ∧ g.items.length = fieldN c.params 1 1 ∧
        (∀ i, i < fieldN c.params 1 1 → g.items[i]? = some (fieldN c.params (24 + 8 * i) 1, fieldN c.params (28 + 8 * i) 4)) ∧
        (∀ q, q ≠ p → tget t.ep.staged.gates q = tget u.ep.staged.gates q) ∧
        t = { u with
          ep := { u.ep with staged := { u.ep.staged with gates := t.ep.staged.gates } }
          host := t.host }) ∧
    (Accepted u.host qp tag 0x0903 c → ∀ n, n = fieldN c.params 0 2 →
      (∀ b, tget u.agent.bufs n = some b → b.image = true →
        ∃ t, exec (.agentBufWrite x qp tag dt) s = .next t ∧ HostOnly u t ∧ Answers u t c 0x0104 0 []) ∧
      ((∀ b, tget u.agent.bufs n = some b → b.image = false) →
        ∃ t, exec (.agentBufWrite x qp tag dt) s = .next t ∧ Answers u t c 0 0 [] ∧
          tget t.agent.bufs n = some ⟨fieldN c.params 2 1, fieldN c.params 3 1, sliceB c.params 8 (fieldN c.params 4 2), false⟩ ∧
          (∀ j, j ≠ n → tget t.agent.bufs j = tget u.agent.bufs j) ∧
          t = { u with
            agent := { u.agent with bufs := t.agent.bufs }
            host := t.host }))) ∧
  ∀ (s u : Machine.State) (x : At) (p : Nat), u = s.enter x →
    (tget u.agent.nextGates p = none → exec (.tsnListSwitch x p) s = .next u) ∧
    (u.cycleStarts p = false → exec (.tsnListSwitch x p) s = .next u) ∧
    (∀ g, tget u.agent.nextGates p = some g → u.cycleStarts p = true → ∃ v : Machine.State,
      exec (.tsnListSwitch x p) s = .next (v.startWaiting p u.time.localC) ∧
      tget v.agent.gates p = some g ∧ tget v.agent.nextGates p = none ∧
      (∀ q, q ≠ p → tget v.agent.gates q = tget u.agent.gates q ∧ tget v.agent.nextGates q = tget u.agent.nextGates q) ∧
      v = { u with agent := { u.agent with gates := v.agent.gates, nextGates := v.agent.nextGates } }) ∧
    (u.agent.waiting.getD p [] = [] ∨ u.siteBusy p u.time.localC = true ∨ u.agentPortUp p = false → exec (.tsnGateEvent x p) s = .next u) ∧
    (∀ q b, u.agent.waiting.getD p [] = [(q, b)] → u.siteBusy p u.time.localC = false → u.agentPortUp p = true →
      q < 8 → q ≠ 6 →
      (u.gateFits p q u.time.localC b = false → exec (.tsnGateEvent x p) s = .next u) ∧
      (u.gateFits p q u.time.localC b = true → ∃ t, exec (.tsnGateEvent x p) s = .next t ∧ t.agent.waiting.getD p [] = [] ∧
        t.agent.sent = u.agent.sent ++ [(p, q, b)] ∧
        (∀ r, r ≠ p → t.agent.waiting.getD r [] = u.agent.waiting.getD r []) ∧
        (p < u.agent.busy.length → t.agent.busy.getD p 0 = u.time.localC + wireTime b + gapTime) ∧
        t = { u with agent := { u.agent with sent := t.agent.sent, waiting := t.agent.waiting, busy := t.agent.busy } }))

/-- 02 R55, 19 R475, R487, 08 R199, 21 R517, R528. The bytes' reading as an image, and the parts no chapter lays out, are
`parseImage` and the operand `sd` (log entries 4 and 25); the row configuration is taken before the placement is chosen
(log entry 4, the model's choice). -/
def Obligations.ImagesAreCheckedAndWritten : Prop :=
  (∀ (s u w : Machine.State) (x : At) (qp tag : Nat) (dt : Option Bytes) (sd : SiteDesc) (c : Cmd), u = s.enter x →
    Accepted u.host qp tag 0x0A01 c →
    (u.ep.loading ≠ none ∨ u.ep.rolling ≠ none ∨ (u.unit.state ≠ .ready ∧ u.unit.state ≠ .run) →
      ∃ t, exec (.imageLoad x qp tag dt sd) s = .next t ∧ HostOnly u t ∧ Answers u t c 0x0104 0 []) ∧
    (u.ep.loading = none → u.ep.rolling = none → u.unit.state = .ready ∨ u.unit.state = .run →
      (dt = none → ∃ t, exec (.imageLoad x qp tag dt sd) s = .next t ∧ HostOnly u t ∧ Answers u t c 0x0102 0xFFFFFFFF []) ∧
      (∀ d, dt = some d →
        (parseImage (d.take (fieldN c.params 8 8)) sd = none →
          ∃ t, exec (.imageLoad x qp tag dt sd) s = .next t ∧ HostOnly u t ∧ Answers u t c 0x0502 0 []) ∧
        (∀ m, parseImage (d.take (fieldN c.params 8 8)) sd = some m →
          (∀ v, u.imageUnmet m = some v → ∃ t e, exec (.imageLoad x qp tag dt sd) s = .next t ∧ Answers u t c 0x0501 0 [] ∧
            e ∈ t.flash.ring ∧ e.kind = 17 ∧ t = { u with flash := t.flash, panel := t.panel, host := t.host }) ∧
          (u.imageUnmet m = none →
            w = (if u.unit.state = .ready then u.mapped fun v => v.configRows m.site.stores else u) →
            Accepted w.host qp tag 0x0A01 c →
            (w.choosePlacement m 0 = none → ∃ t, exec (.imageLoad x qp tag dt sd) s = .next t ∧ HostOnly w t ∧
              Answers w t c 0x0201 0 []) ∧
            (∀ p b, w.choosePlacement m 0 = some (p, b) →
              (∀ st n, w.loadRefusal m p b = some (st, n) → ∃ t, exec (.imageLoad x qp tag dt sd) s = .next t ∧
                HostOnly w t ∧ Answers w t c st n []) ∧
              (w.loadRefusal m p b = none → ∃ t, exec (.imageLoad x qp tag dt sd) s = .next t ∧
                t.ep.loading = some ⟨m, p, qp, tag⟩ ∧ (u.unit.state = .ready → t.unit.step = 14) ∧
                (u.unit.state = .run → t.unit = u.unit) ∧
                t = { w with
                  ep := { w.ep with loading := t.ep.loading }
                  unit := { w.unit with step := t.unit.step }
                  host := (w.setProg qp tag (.waiting 0 0)).host }))))))) ∧
  ∀ (s u : Machine.State) (x : At), u = s.enter x →
    (u.ep.loading = none ∨ (u.unit.state = .ready ∧ u.unit.step ≠ 14) → exec (.imageAreaWritten x) s = .next u) ∧
    (∀ l, u.ep.loading = some l →
      (u.unit.state = .ready → u.unit.step = 14 → ∃ v : Machine.State, exec (.imageAreaWritten x) s = .next v.retireDue ∧
        v.unit = { u.unit with step := 15 } ∧ v.ep = u.ep ∧
        ∀ r, r < 8 → (u.row r).st = .serving → (v.row r).st = .serving ∧ (v.row r).image = some (l.img.id, l.img.crc)) ∧
      (u.unit.state ≠ .ready → ∀ c, Held u.host l.qp l.tag 0x0A01 (.waiting 0 0) c →
        ∃ v : Machine.State, exec (.imageAreaWritten x) s = .next v.retireDue ∧ v.ep.loading = none ∧
          v.ep.staged.image = some (l.img, l.placement) ∧ v.ep.staged.sources = [] ∧ v.ep.staged.modes = [] ∧
          (∀ i, tget v.ep.staged.xforms i ≠ none → i < 2304) ∧ v.ep.staged.gates = u.ep.staged.gates ∧
          v.ep.image = u.ep.image ∧ v.ep.epoch = u.ep.epoch ∧ Answers u v c 0 l.placement []))

/-- 01 R32, 19 R475 to R477, R481, 18 R469. A target just 2^31 cycles ahead is left out here: its refusal is the model's
reading (log entry 32, DEDUCED). -/
def Obligations.CommitsAreStagedAndArmed : Prop :=
  ∀ (s u : Machine.State) (x : At) (qp tag : Nat) (dt : Option Bytes) (c : Cmd), u = s.enter x →
    (Accepted u.host qp tag 0x0A02 c → ∃ t, exec (.fnModeSet x qp tag dt) s = .next t ∧ Answers u t c 0 0 [] ∧
      tget t.ep.staged.modes (fieldN c.params 0 1) = some (fieldN c.params 1 1 == 1) ∧
      (∀ f, f ≠ fieldN c.params 0 1 → tget t.ep.staged.modes f = tget u.ep.staged.modes f) ∧
      t = { u with
        ep := { u.ep with staged := { u.ep.staged with modes := t.ep.staged.modes } }
        host := t.host }) ∧
    (Accepted u.host qp tag 0x0A03 c → ∀ sel, sel = fieldN c.params 1 1 →
      (u.ep.armed ≠ none ∨ (u.ep.rolling ≠ none ∧ (u.ep.staged.codebook ≠ none ∨ u.ep.staged.image ≠ none)) ∨
          (fieldN c.params 0 1 ≠ 1 ∧ (u.source sel).st = .disabled) →
        ∃ t, exec (.epochCommit x qp tag dt) s = .next t ∧ HostOnly u t ∧ Answers u t c 0x0104 0 []) ∧
      (u.ep.armed = none → u.ep.rolling = none ∨ (u.ep.staged.codebook = none ∧ u.ep.staged.image = none) →
          fieldN c.params 0 1 = 1 ∨ ((u.source sel).st ≠ .disabled ∧
            dphase (fieldN c.params 8 6) (u.phase sel) ≠ -140737488355328) →
        (∀ k, u.allocEntry 255 6 0 = .error k →
          ∃ t, exec (.epochCommit x qp tag dt) s = .next t ∧ HostOnly u t ∧ Answers u t c 0x0201 0 []) ∧
        (∀ id, u.allocEntry 255 6 0 = .ok id → ∃ t e a, exec (.epochCommit x qp tag dt) s = .next t ∧
          tget t.sched.entries id = some e ∧ e.action = 6 ∧ e.owner = .queue qp ∧ e.late = 1 ∧
          e.arg = (if u.ep.epoch = 4294967295 then 1 else u.ep.epoch + 1) ∧ t.ep.armed = some a ∧ a.set = u.ep.staged ∧
          a.entry = id ∧ a.qp = qp ∧ a.tag = tag ∧ a.eff = none ∧ t.ep.staged = StagedSet.empty ∧
          t = { u with
            ep := { u.ep with armed := t.ep.armed, staged := t.ep.staged }
            sched := { u.sched with entries := t.sched.entries }
            host := (u.setProg qp tag (.waiting id 0)).host }))) ∧
    (Accepted u.host qp tag 0x0A04 c →
      (u.ep.armed = none → ∃ t, exec (.epochDiscard x qp tag dt) s = .next t ∧ Answers u t c 0 0 [] ∧
        t = { u with
          ep := { u.ep with staged := StagedSet.empty }
          host := t.host }) ∧
      (∀ a k, u.ep.armed = some a →
        (a.eff = some k → ∃ t, exec (.epochDiscard x qp tag dt) s = .next t ∧ Answers u t c 0 0 [] ∧ t.ep.armed = some a ∧
          t.ep.staged = StagedSet.empty ∧ t.sched = u.sched) ∧
        (a.eff = none → ∀ d p, Held u.host a.qp a.tag 0x0A03 p d →
          ∃ t, exec (.epochDiscard x qp tag dt) s = .next t ∧ t.ep.armed = none ∧ t.ep.staged = StagedSet.empty ∧
            (∃ e ∈ t.host.completions, e.tag = c.tag ∧ e.qp = c.qp ∧ e.status = 0) ∧
            (∃ e ∈ t.host.completions, e.tag = a.tag ∧ e.qp = a.qp ∧ e.status = 0x0104) ∧
            (∀ e ∈ t.sched.entries, e.1 = a.entry → e.2.action = 6 → e.2.st = .free) ∧ t.ep.epoch = u.ep.epoch))) ∧
    (Accepted u.host qp tag 0x0A05 c → ∃ t r, exec (.epochRead x qp tag dt) s = .next t ∧ HostOnly u t ∧ Answers u t c 0 0 r ∧
      r.length = 32 ∧ fieldN r 0 4 = u.ep.epoch % 2 ^ 32 ∧
      (u.ep.rolling = none → fieldN r 4 4 = u.ep.epoch % 2 ^ 32) ∧
      (∀ o, u.ep.rolling = some o → fieldN r 4 4 = o.fromEpoch % 2 ^ 32) ∧
      ((fieldN r 8 1).testBit 0 = true ↔ u.ep.rolling ≠ none) ∧
      ((fieldN r 8 1).testBit 1 = true ↔ u.ep.staged ≠ StagedSet.empty) ∧
      ((fieldN r 8 1).testBit 2 = true ↔ u.ep.armed ≠ none) ∧ (u.ep.armed = none → fieldN r 12 4 = 0))

/-- 19 R474, R478, R480, R485, R486, R489, R492, 13 R336, 03 R70, 08 R203. That the move's commit is the ENGINE_COMMIT row is log entry 21.
Retirements due follow (07 R180). -/
def Obligations.CommitsTakeEffectAndRoll : Prop :=
  (∀ (s u : Machine.State) (x : At), u = s.enter x →
    (u.ep.armed = none → exec (.commitEffect x) s = .next u) ∧
    (∀ a, u.ep.armed = some a →
      (a.eff = none ∨ (∃ k, a.eff = some k ∧ u.time.tick < k) ∨ a.waits = true ∨ u.wafer.move ≠ none ∨
          u.armingsDue = true ∨ u.commitDone = true →
        exec (.commitEffect x) s = .next u) ∧
      (∀ k c p, a.eff = some k → k ≤ u.time.tick → a.waits = false → u.wafer.move = none → u.armingsDue = false →
        u.commitDone = false → Held u.host a.qp a.tag 0x0A03 p c →
        (a.set.image = none → a.set.modes = [] → tsorted a.set.xforms = true →
          ∃ (v : Machine.State) (e : Completion), exec (.commitEffect x) s = .next v.retireDue ∧ v.ep.armed = none ∧
            v.ep.epoch = u.nextEpoch ∧
            (∀ i b, tget a.set.xforms i = some b → tget v.xforms i = some b) ∧
            (∀ i, tget a.set.xforms i = none → tget v.xforms i = tget u.xforms i) ∧
            (∀ f, v.ha f = u.ha f) ∧ v.ep.staged = u.ep.staged ∧
            e ∈ v.host.completions ∧ e.tag = a.tag ∧ e.qp = a.qp ∧ e.status = 0 ∧ e.epoch = u.nextEpoch ∧
            e.result = toLE 4 u.nextEpoch ++ toLE 4 0) ∧
        (∀ m q, a.set.image = some (m, q) → u.unit.state ≠ .run ∨ u.choosePlacement m q = none →
          ∃ v : Machine.State, exec (.commitEffect x) s = .next v.retireDue ∧ v.ep.armed = none ∧ v.ep.epoch = u.ep.epoch ∧
            v.ep.image = u.ep.image ∧ v.ep.staged = { a.set with image := none }.onto u.ep.staged ∧ v.xforms = u.xforms ∧
            ∃ e ∈ v.host.completions, e.tag = a.tag ∧ e.qp = a.qp ∧ e.status = 0x0201) ∧
        (∀ m q o p' b, a.set.image = some (m, q) → u.unit.state = .run → u.choosePlacement m q = some (p', b) →
          u.ep.image = some o → (∀ r, r < 8 → m.site.stores.getD r 0 = (u.row r).config) →
          ∃ v : Machine.State, exec (.commitEffect x) s = .next v.retireDue ∧ v.ep.armed = none ∧ v.ep.epoch = u.nextEpoch ∧
            v.ep.image = some m ∧ v.ep.placement = p' ∧ v.ep.binding = b)))) ∧
  (∀ (s u : Machine.State) (x : At), u = s.enter x →
    (u.armingsDue = true ∨ u.commitDone = true → exec (.engineCommit x) s = .next u) ∧
    (u.engineDue = none → u.wafer.move = none ∨ u.place.sweep ≠ none ∨ u.wafer.pause ≠ none ∨ u.backsOpen = true →
      exec (.engineCommit x) s = .next u) ∧
    (∀ i e, u.armingsDue = false → u.commitDone = false → u.engineDue = some i → u.ep.engine[i]? = some e →
      tsorted e.xforms = true →
      (∃ k, e.eff = some k ∧ k ≤ u.time.tick) ∧ ∃ t, exec (.engineCommit x) s = .next t ∧ t.ep.epoch = u.nextEpoch ∧
        (∀ j b, tget e.xforms j = some b → tget t.xforms j = some b) ∧
        (∀ j, tget e.xforms j = none → tget t.xforms j = tget u.xforms j)) ∧
    (∀ p b m, u.armingsDue = false → u.commitDone = false → u.engineDue = none → u.wafer.move = some (p, b) →
      u.place.sweep = none → u.wafer.pause = none → u.backsOpen = false → u.ep.image = some m →
      ∃ v : Machine.State, exec (.engineCommit x) s = .next v.retireDue ∧ v.wafer.move = none ∧ v.ep.placement = p ∧
        v.ep.binding = b ∧ v.ep.image = some m ∧ v.ep.epoch = u.nextEpoch)) ∧
  (∀ (s u : Machine.State) (x : At) (part : RollPart), u = s.enter x →
    (u.ep.rolling = none → exec (.rollingPartApplied x part) s = .next u ∧ exec (.rollingChangeEnd x) s = .next u) ∧
    (∀ r, u.ep.rolling = some r →
      (part ∉ r.parts ∨ u.partReady r.parts part = false ∨ u.wafer.move ≠ none →
        exec (.rollingPartApplied x part) s = .next u) ∧
      (part ∈ r.parts → u.partReady r.parts part = true → u.wafer.move = none →
        (∀ p, part = .slots p → ∃ t, exec (.rollingPartApplied x part) s = .next t ∧
          t.ep = { u.ep with rolling := some { r with parts := r.parts.erase part } } ∧
          t = { u with ep := t.ep, route := t.route }) ∧
        (∀ k, part = .region k → ∃ v : Machine.State, exec (.rollingPartApplied x part) s = .next v.retireDue ∧
          v.ep = { u.ep with rolling := some { r with parts := r.parts.erase part } } ∧
          v.stg.unfilled = u.stg.unfilled.erase k) ∧
        (∀ k b, part = .shard k → u.place.next = some b → ∃ t, exec (.rollingPartApplied x part) s = .next t ∧
          (t.shard k).shadowDone = true ∧ (t.shard k).gen = (u.shard k).gen ∧ t.ep = u.ep)) ∧
      (r.parts ≠ [] → exec (.rollingChangeEnd x) s = .next u) ∧
      (r.parts = [] → ∃ t, exec (.rollingChangeEnd x) s = .next t ∧ t.ep = { u.ep with rolling := none } ∧
        (∀ b, u.place.next = some b → t.place.book = some b) ∧ (u.place.next = none → t.place = u.place) ∧
        t.place.next = none ∧ t.stg.unfilled = [] ∧
        t = { u with ep := t.ep, place := t.place, stg := { u.stg with unfilled := [] } })))

/-- A step keeps the memory's canonical form, from every state that has it, whatever command stands in front: cell
words with their check bytes (07 R172, R175) and store lines with their check symbols (08 R209) are written, moved, copied
and lost under that one form. -/
def Obligations.MemoryStaysCanonical : Prop :=
  ∀ (s t : Machine.State), Memory.wf s.mem = true → step s = .next t → Memory.wf t.mem = true

/-- Reset's memory is canonical; and two canonical memories that read alike at every address are equal. -/
def Obligations.CanonicalMemoryIsItsReads : Prop :=
  Memory.wf State.reset.mem = true ∧
  ∀ (m n : List Host.Cell), Memory.wf m = true → Memory.wf n = true → (∀ a, memGet m a = memGet n a) → m = n

/-- No command stops the block, and none touches the queue (the model's own field, log entry 2): first in, first out. -/
def Obligations.EveryStepTakesTheFrontCommand : Prop :=
  ∀ s : Machine.State, ∃ t : Machine.State, step s = .next t ∧ t.pending = s.pending.tail
end

