-- ==== Sys2Proof/Laws/State.lean ====
section
/-! SUPPORT. What the small updates of State leave alone, one lemma a field and update. -/

namespace Sys2Proof.Machine

/-! ### modQp -/

@[simp] theorem State.modQp_unit (s : State) (n : Nat) (f : QueuePair → QueuePair) : (s.modQp n f).unit = s.unit := rfl
@[simp] theorem State.modQp_wafer (s : State) (n : Nat) (f : QueuePair → QueuePair) : (s.modQp n f).wafer = s.wafer := rfl
@[simp] theorem State.modQp_flash (s : State) (n : Nat) (f : QueuePair → QueuePair) : (s.modQp n f).flash = s.flash := rfl
@[simp] theorem State.modQp_time (s : State) (n : Nat) (f : QueuePair → QueuePair) : (s.modQp n f).time = s.time := rfl
@[simp] theorem State.modQp_cap (s : State) (n : Nat) (f : QueuePair → QueuePair) : (s.modQp n f).cap = s.cap := rfl
@[simp] theorem State.modQp_sched (s : State) (n : Nat) (f : QueuePair → QueuePair) : (s.modQp n f).sched = s.sched := rfl
@[simp] theorem State.modQp_ep (s : State) (n : Nat) (f : QueuePair → QueuePair) : (s.modQp n f).ep = s.ep := rfl
@[simp] theorem State.modQp_fw (s : State) (n : Nat) (f : QueuePair → QueuePair) : (s.modQp n f).fw = s.fw := rfl
@[simp] theorem State.modQp_store (s : State) (n : Nat) (f : QueuePair → QueuePair) : (s.modQp n f).store = s.store := rfl
@[simp] theorem State.modQp_panel (s : State) (n : Nat) (f : QueuePair → QueuePair) : (s.modQp n f).panel = s.panel := rfl
@[simp] theorem State.modQp_capacity (s : State) (n : Nat) (f : QueuePair → QueuePair) : (s.modQp n f).capacity = s.capacity := rfl
@[simp] theorem State.modQp_cells (s : State) (n : Nat) (f : QueuePair → QueuePair) : (s.modQp n f).cells = s.cells := rfl
@[simp] theorem State.modQp_mem (s : State) (n : Nat) (f : QueuePair → QueuePair) : (s.modQp n f).mem = s.mem := rfl
@[simp] theorem State.modQp_link (s : State) (n : Nat) (f : QueuePair → QueuePair) : (s.modQp n f).link = s.link := rfl
@[simp] theorem State.modQp_xforms (s : State) (n : Nat) (f : QueuePair → QueuePair) : (s.modQp n f).xforms = s.xforms := rfl
@[simp] theorem State.modQp_stg (s : State) (n : Nat) (f : QueuePair → QueuePair) : (s.modQp n f).stg = s.stg := rfl
@[simp] theorem State.modQp_place (s : State) (n : Nat) (f : QueuePair → QueuePair) : (s.modQp n f).place = s.place := rfl
@[simp] theorem State.modQp_route (s : State) (n : Nat) (f : QueuePair → QueuePair) : (s.modQp n f).route = s.route := rfl
@[simp] theorem State.modQp_comp (s : State) (n : Nat) (f : QueuePair → QueuePair) : (s.modQp n f).comp = s.comp := rfl
@[simp] theorem State.modQp_agent (s : State) (n : Nat) (f : QueuePair → QueuePair) : (s.modQp n f).agent = s.agent := rfl
@[simp] theorem State.modQp_pending (s : State) (n : Nat) (f : QueuePair → QueuePair) : (s.modQp n f).pending = s.pending := rfl
@[simp] theorem State.modQp_freeCtr (s : State) (n : Nat) (f : QueuePair → QueuePair) : (s.modQp n f).freeCtr = s.freeCtr := rfl
@[simp] theorem State.modQp_due (s : State) (n : Nat) (f : QueuePair → QueuePair) : (s.modQp n f).due = s.due := rfl

/-! ### modPort -/

@[simp] theorem State.modPort_unit (s : State) (p : Nat) (f : PciePort → PciePort) : (s.modPort p f).unit = s.unit := rfl
@[simp] theorem State.modPort_wafer (s : State) (p : Nat) (f : PciePort → PciePort) : (s.modPort p f).wafer = s.wafer := rfl
@[simp] theorem State.modPort_flash (s : State) (p : Nat) (f : PciePort → PciePort) : (s.modPort p f).flash = s.flash := rfl
@[simp] theorem State.modPort_time (s : State) (p : Nat) (f : PciePort → PciePort) : (s.modPort p f).time = s.time := rfl
@[simp] theorem State.modPort_cap (s : State) (p : Nat) (f : PciePort → PciePort) : (s.modPort p f).cap = s.cap := rfl
@[simp] theorem State.modPort_sched (s : State) (p : Nat) (f : PciePort → PciePort) : (s.modPort p f).sched = s.sched := rfl
@[simp] theorem State.modPort_ep (s : State) (p : Nat) (f : PciePort → PciePort) : (s.modPort p f).ep = s.ep := rfl
@[simp] theorem State.modPort_fw (s : State) (p : Nat) (f : PciePort → PciePort) : (s.modPort p f).fw = s.fw := rfl
@[simp] theorem State.modPort_store (s : State) (p : Nat) (f : PciePort → PciePort) : (s.modPort p f).store = s.store := rfl
@[simp] theorem State.modPort_panel (s : State) (p : Nat) (f : PciePort → PciePort) : (s.modPort p f).panel = s.panel := rfl
@[simp] theorem State.modPort_capacity (s : State) (p : Nat) (f : PciePort → PciePort) : (s.modPort p f).capacity = s.capacity := rfl
@[simp] theorem State.modPort_cells (s : State) (p : Nat) (f : PciePort → PciePort) : (s.modPort p f).cells = s.cells := rfl
@[simp] theorem State.modPort_mem (s : State) (p : Nat) (f : PciePort → PciePort) : (s.modPort p f).mem = s.mem := rfl
@[simp] theorem State.modPort_link (s : State) (p : Nat) (f : PciePort → PciePort) : (s.modPort p f).link = s.link := rfl
@[simp] theorem State.modPort_xforms (s : State) (p : Nat) (f : PciePort → PciePort) : (s.modPort p f).xforms = s.xforms := rfl
@[simp] theorem State.modPort_stg (s : State) (p : Nat) (f : PciePort → PciePort) : (s.modPort p f).stg = s.stg := rfl
@[simp] theorem State.modPort_place (s : State) (p : Nat) (f : PciePort → PciePort) : (s.modPort p f).place = s.place := rfl
@[simp] theorem State.modPort_route (s : State) (p : Nat) (f : PciePort → PciePort) : (s.modPort p f).route = s.route := rfl
@[simp] theorem State.modPort_comp (s : State) (p : Nat) (f : PciePort → PciePort) : (s.modPort p f).comp = s.comp := rfl
@[simp] theorem State.modPort_agent (s : State) (p : Nat) (f : PciePort → PciePort) : (s.modPort p f).agent = s.agent := rfl
@[simp] theorem State.modPort_pending (s : State) (p : Nat) (f : PciePort → PciePort) : (s.modPort p f).pending = s.pending := rfl
@[simp] theorem State.modPort_freeCtr (s : State) (p : Nat) (f : PciePort → PciePort) : (s.modPort p f).freeCtr = s.freeCtr := rfl
@[simp] theorem State.modPort_due (s : State) (p : Nat) (f : PciePort → PciePort) : (s.modPort p f).due = s.due := rfl

/-! ### modRow -/

@[simp] theorem State.modRow_unit (s : State) (r : Nat) (f : StoreRow → StoreRow) : (s.modRow r f).unit = s.unit := rfl
@[simp] theorem State.modRow_wafer (s : State) (r : Nat) (f : StoreRow → StoreRow) : (s.modRow r f).wafer = s.wafer := rfl
@[simp] theorem State.modRow_flash (s : State) (r : Nat) (f : StoreRow → StoreRow) : (s.modRow r f).flash = s.flash := rfl
@[simp] theorem State.modRow_time (s : State) (r : Nat) (f : StoreRow → StoreRow) : (s.modRow r f).time = s.time := rfl
@[simp] theorem State.modRow_cap (s : State) (r : Nat) (f : StoreRow → StoreRow) : (s.modRow r f).cap = s.cap := rfl
@[simp] theorem State.modRow_sched (s : State) (r : Nat) (f : StoreRow → StoreRow) : (s.modRow r f).sched = s.sched := rfl
@[simp] theorem State.modRow_host (s : State) (r : Nat) (f : StoreRow → StoreRow) : (s.modRow r f).host = s.host := rfl
@[simp] theorem State.modRow_ep (s : State) (r : Nat) (f : StoreRow → StoreRow) : (s.modRow r f).ep = s.ep := rfl
@[simp] theorem State.modRow_fw (s : State) (r : Nat) (f : StoreRow → StoreRow) : (s.modRow r f).fw = s.fw := rfl
@[simp] theorem State.modRow_panel (s : State) (r : Nat) (f : StoreRow → StoreRow) : (s.modRow r f).panel = s.panel := rfl
@[simp] theorem State.modRow_capacity (s : State) (r : Nat) (f : StoreRow → StoreRow) : (s.modRow r f).capacity = s.capacity := rfl
@[simp] theorem State.modRow_cells (s : State) (r : Nat) (f : StoreRow → StoreRow) : (s.modRow r f).cells = s.cells := rfl
@[simp] theorem State.modRow_mem (s : State) (r : Nat) (f : StoreRow → StoreRow) : (s.modRow r f).mem = s.mem := rfl
@[simp] theorem State.modRow_link (s : State) (r : Nat) (f : StoreRow → StoreRow) : (s.modRow r f).link = s.link := rfl
@[simp] theorem State.modRow_xforms (s : State) (r : Nat) (f : StoreRow → StoreRow) : (s.modRow r f).xforms = s.xforms := rfl
@[simp] theorem State.modRow_stg (s : State) (r : Nat) (f : StoreRow → StoreRow) : (s.modRow r f).stg = s.stg := rfl
@[simp] theorem State.modRow_place (s : State) (r : Nat) (f : StoreRow → StoreRow) : (s.modRow r f).place = s.place := rfl
@[simp] theorem State.modRow_route (s : State) (r : Nat) (f : StoreRow → StoreRow) : (s.modRow r f).route = s.route := rfl
@[simp] theorem State.modRow_comp (s : State) (r : Nat) (f : StoreRow → StoreRow) : (s.modRow r f).comp = s.comp := rfl
@[simp] theorem State.modRow_agent (s : State) (r : Nat) (f : StoreRow → StoreRow) : (s.modRow r f).agent = s.agent := rfl
@[simp] theorem State.modRow_pending (s : State) (r : Nat) (f : StoreRow → StoreRow) : (s.modRow r f).pending = s.pending := rfl
@[simp] theorem State.modRow_freeCtr (s : State) (r : Nat) (f : StoreRow → StoreRow) : (s.modRow r f).freeCtr = s.freeCtr := rfl
@[simp] theorem State.modRow_due (s : State) (r : Nat) (f : StoreRow → StoreRow) : (s.modRow r f).due = s.due := rfl

/-! ### modSuper -/

@[simp] theorem State.modSuper_unit (s : State) (i : Nat) (f : Super → Super) : (s.modSuper i f).unit = s.unit := rfl
@[simp] theorem State.modSuper_flash (s : State) (i : Nat) (f : Super → Super) : (s.modSuper i f).flash = s.flash := rfl
@[simp] theorem State.modSuper_time (s : State) (i : Nat) (f : Super → Super) : (s.modSuper i f).time = s.time := rfl
@[simp] theorem State.modSuper_cap (s : State) (i : Nat) (f : Super → Super) : (s.modSuper i f).cap = s.cap := rfl
@[simp] theorem State.modSuper_sched (s : State) (i : Nat) (f : Super → Super) : (s.modSuper i f).sched = s.sched := rfl
@[simp] theorem State.modSuper_host (s : State) (i : Nat) (f : Super → Super) : (s.modSuper i f).host = s.host := rfl
@[simp] theorem State.modSuper_ep (s : State) (i : Nat) (f : Super → Super) : (s.modSuper i f).ep = s.ep := rfl
@[simp] theorem State.modSuper_fw (s : State) (i : Nat) (f : Super → Super) : (s.modSuper i f).fw = s.fw := rfl
@[simp] theorem State.modSuper_store (s : State) (i : Nat) (f : Super → Super) : (s.modSuper i f).store = s.store := rfl
@[simp] theorem State.modSuper_panel (s : State) (i : Nat) (f : Super → Super) : (s.modSuper i f).panel = s.panel := rfl
@[simp] theorem State.modSuper_capacity (s : State) (i : Nat) (f : Super → Super) : (s.modSuper i f).capacity = s.capacity := rfl
@[simp] theorem State.modSuper_cells (s : State) (i : Nat) (f : Super → Super) : (s.modSuper i f).cells = s.cells := rfl
@[simp] theorem State.modSuper_mem (s : State) (i : Nat) (f : Super → Super) : (s.modSuper i f).mem = s.mem := rfl
@[simp] theorem State.modSuper_link (s : State) (i : Nat) (f : Super → Super) : (s.modSuper i f).link = s.link := rfl
@[simp] theorem State.modSuper_xforms (s : State) (i : Nat) (f : Super → Super) : (s.modSuper i f).xforms = s.xforms := rfl
@[simp] theorem State.modSuper_stg (s : State) (i : Nat) (f : Super → Super) : (s.modSuper i f).stg = s.stg := rfl
@[simp] theorem State.modSuper_place (s : State) (i : Nat) (f : Super → Super) : (s.modSuper i f).place = s.place := rfl
@[simp] theorem State.modSuper_route (s : State) (i : Nat) (f : Super → Super) : (s.modSuper i f).route = s.route := rfl
@[simp] theorem State.modSuper_comp (s : State) (i : Nat) (f : Super → Super) : (s.modSuper i f).comp = s.comp := rfl
@[simp] theorem State.modSuper_agent (s : State) (i : Nat) (f : Super → Super) : (s.modSuper i f).agent = s.agent := rfl
@[simp] theorem State.modSuper_pending (s : State) (i : Nat) (f : Super → Super) : (s.modSuper i f).pending = s.pending := rfl
@[simp] theorem State.modSuper_freeCtr (s : State) (i : Nat) (f : Super → Super) : (s.modSuper i f).freeCtr = s.freeCtr := rfl
@[simp] theorem State.modSuper_due (s : State) (i : Nat) (f : Super → Super) : (s.modSuper i f).due = s.due := rfl

/-! ### modSource -/

@[simp] theorem State.modSource_unit (s : State) (i : Nat) (f : Source → Source) : (s.modSource i f).unit = s.unit := rfl
@[simp] theorem State.modSource_wafer (s : State) (i : Nat) (f : Source → Source) : (s.modSource i f).wafer = s.wafer := rfl
@[simp] theorem State.modSource_flash (s : State) (i : Nat) (f : Source → Source) : (s.modSource i f).flash = s.flash := rfl
@[simp] theorem State.modSource_time (s : State) (i : Nat) (f : Source → Source) : (s.modSource i f).time = s.time := rfl
@[simp] theorem State.modSource_cap (s : State) (i : Nat) (f : Source → Source) : (s.modSource i f).cap = s.cap := rfl
@[simp] theorem State.modSource_host (s : State) (i : Nat) (f : Source → Source) : (s.modSource i f).host = s.host := rfl
@[simp] theorem State.modSource_ep (s : State) (i : Nat) (f : Source → Source) : (s.modSource i f).ep = s.ep := rfl
@[simp] theorem State.modSource_fw (s : State) (i : Nat) (f : Source → Source) : (s.modSource i f).fw = s.fw := rfl
@[simp] theorem State.modSource_store (s : State) (i : Nat) (f : Source → Source) : (s.modSource i f).store = s.store := rfl
@[simp] theorem State.modSource_panel (s : State) (i : Nat) (f : Source → Source) : (s.modSource i f).panel = s.panel := rfl
@[simp] theorem State.modSource_capacity (s : State) (i : Nat) (f : Source → Source) : (s.modSource i f).capacity = s.capacity := rfl
@[simp] theorem State.modSource_cells (s : State) (i : Nat) (f : Source → Source) : (s.modSource i f).cells = s.cells := rfl
@[simp] theorem State.modSource_mem (s : State) (i : Nat) (f : Source → Source) : (s.modSource i f).mem = s.mem := rfl
@[simp] theorem State.modSource_link (s : State) (i : Nat) (f : Source → Source) : (s.modSource i f).link = s.link := rfl
@[simp] theorem State.modSource_xforms (s : State) (i : Nat) (f : Source → Source) : (s.modSource i f).xforms = s.xforms := rfl
@[simp] theorem State.modSource_stg (s : State) (i : Nat) (f : Source → Source) : (s.modSource i f).stg = s.stg := rfl
@[simp] theorem State.modSource_place (s : State) (i : Nat) (f : Source → Source) : (s.modSource i f).place = s.place := rfl
@[simp] theorem State.modSource_route (s : State) (i : Nat) (f : Source → Source) : (s.modSource i f).route = s.route := rfl
@[simp] theorem State.modSource_comp (s : State) (i : Nat) (f : Source → Source) : (s.modSource i f).comp = s.comp := rfl
@[simp] theorem State.modSource_agent (s : State) (i : Nat) (f : Source → Source) : (s.modSource i f).agent = s.agent := rfl
@[simp] theorem State.modSource_pending (s : State) (i : Nat) (f : Source → Source) : (s.modSource i f).pending = s.pending := rfl
@[simp] theorem State.modSource_freeCtr (s : State) (i : Nat) (f : Source → Source) : (s.modSource i f).freeCtr = s.freeCtr := rfl
@[simp] theorem State.modSource_due (s : State) (i : Nat) (f : Source → Source) : (s.modSource i f).due = s.due := rfl

/-! ### setDom -/

@[simp] theorem State.setDom_unit (s : State) (d : Nat) (v : Domain) : (s.setDom d v).unit = s.unit := by
  unfold State.setDom; split <;> rfl
@[simp] theorem State.setDom_wafer (s : State) (d : Nat) (v : Domain) : (s.setDom d v).wafer = s.wafer := by
  unfold State.setDom; split <;> rfl
@[simp] theorem State.setDom_flash (s : State) (d : Nat) (v : Domain) : (s.setDom d v).flash = s.flash := by
  unfold State.setDom; split <;> rfl
@[simp] theorem State.setDom_cap (s : State) (d : Nat) (v : Domain) : (s.setDom d v).cap = s.cap := by
  unfold State.setDom; split <;> rfl
@[simp] theorem State.setDom_sched (s : State) (d : Nat) (v : Domain) : (s.setDom d v).sched = s.sched := by
  unfold State.setDom; split <;> rfl
@[simp] theorem State.setDom_host (s : State) (d : Nat) (v : Domain) : (s.setDom d v).host = s.host := by
  unfold State.setDom; split <;> rfl
@[simp] theorem State.setDom_ep (s : State) (d : Nat) (v : Domain) : (s.setDom d v).ep = s.ep := by
  unfold State.setDom; split <;> rfl
@[simp] theorem State.setDom_fw (s : State) (d : Nat) (v : Domain) : (s.setDom d v).fw = s.fw := by
  unfold State.setDom; split <;> rfl
@[simp] theorem State.setDom_store (s : State) (d : Nat) (v : Domain) : (s.setDom d v).store = s.store := by
  unfold State.setDom; split <;> rfl
@[simp] theorem State.setDom_panel (s : State) (d : Nat) (v : Domain) : (s.setDom d v).panel = s.panel := by
  unfold State.setDom; split <;> rfl
@[simp] theorem State.setDom_capacity (s : State) (d : Nat) (v : Domain) : (s.setDom d v).capacity = s.capacity := by
  unfold State.setDom; split <;> rfl
@[simp] theorem State.setDom_cells (s : State) (d : Nat) (v : Domain) : (s.setDom d v).cells = s.cells := by
  unfold State.setDom; split <;> rfl
@[simp] theorem State.setDom_mem (s : State) (d : Nat) (v : Domain) : (s.setDom d v).mem = s.mem := by
  unfold State.setDom; split <;> rfl
@[simp] theorem State.setDom_link (s : State) (d : Nat) (v : Domain) : (s.setDom d v).link = s.link := by
  unfold State.setDom; split <;> rfl
@[simp] theorem State.setDom_xforms (s : State) (d : Nat) (v : Domain) : (s.setDom d v).xforms = s.xforms := by
  unfold State.setDom; split <;> rfl
@[simp] theorem State.setDom_stg (s : State) (d : Nat) (v : Domain) : (s.setDom d v).stg = s.stg := by
  unfold State.setDom; split <;> rfl
@[simp] theorem State.setDom_place (s : State) (d : Nat) (v : Domain) : (s.setDom d v).place = s.place := by
  unfold State.setDom; split <;> rfl
@[simp] theorem State.setDom_route (s : State) (d : Nat) (v : Domain) : (s.setDom d v).route = s.route := by
  unfold State.setDom; split <;> rfl
@[simp] theorem State.setDom_comp (s : State) (d : Nat) (v : Domain) : (s.setDom d v).comp = s.comp := by
  unfold State.setDom; split <;> rfl
@[simp] theorem State.setDom_agent (s : State) (d : Nat) (v : Domain) : (s.setDom d v).agent = s.agent := by
  unfold State.setDom; split <;> rfl
@[simp] theorem State.setDom_pending (s : State) (d : Nat) (v : Domain) : (s.setDom d v).pending = s.pending := by
  unfold State.setDom; split <;> rfl
@[simp] theorem State.setDom_freeCtr (s : State) (d : Nat) (v : Domain) : (s.setDom d v).freeCtr = s.freeCtr := by
  unfold State.setDom; split <;> rfl
@[simp] theorem State.setDom_due (s : State) (d : Nat) (v : Domain) : (s.setDom d v).due = s.due := by
  unfold State.setDom; split <;> rfl

/-! ### modSummary -/

@[simp] theorem State.modSummary_unit (s : State) (f : Summary → Summary) : (s.modSummary f).unit = s.unit := rfl
@[simp] theorem State.modSummary_wafer (s : State) (f : Summary → Summary) : (s.modSummary f).wafer = s.wafer := rfl
@[simp] theorem State.modSummary_time (s : State) (f : Summary → Summary) : (s.modSummary f).time = s.time := rfl
@[simp] theorem State.modSummary_cap (s : State) (f : Summary → Summary) : (s.modSummary f).cap = s.cap := rfl
@[simp] theorem State.modSummary_sched (s : State) (f : Summary → Summary) : (s.modSummary f).sched = s.sched := rfl
@[simp] theorem State.modSummary_host (s : State) (f : Summary → Summary) : (s.modSummary f).host = s.host := rfl
@[simp] theorem State.modSummary_ep (s : State) (f : Summary → Summary) : (s.modSummary f).ep = s.ep := rfl
@[simp] theorem State.modSummary_fw (s : State) (f : Summary → Summary) : (s.modSummary f).fw = s.fw := rfl
@[simp] theorem State.modSummary_store (s : State) (f : Summary → Summary) : (s.modSummary f).store = s.store := rfl
@[simp] theorem State.modSummary_panel (s : State) (f : Summary → Summary) : (s.modSummary f).panel = s.panel := rfl
@[simp] theorem State.modSummary_capacity (s : State) (f : Summary → Summary) : (s.modSummary f).capacity = s.capacity := rfl
@[simp] theorem State.modSummary_cells (s : State) (f : Summary → Summary) : (s.modSummary f).cells = s.cells := rfl
@[simp] theorem State.modSummary_mem (s : State) (f : Summary → Summary) : (s.modSummary f).mem = s.mem := rfl
@[simp] theorem State.modSummary_link (s : State) (f : Summary → Summary) : (s.modSummary f).link = s.link := rfl
@[simp] theorem State.modSummary_xforms (s : State) (f : Summary → Summary) : (s.modSummary f).xforms = s.xforms := rfl
@[simp] theorem State.modSummary_stg (s : State) (f : Summary → Summary) : (s.modSummary f).stg = s.stg := rfl
@[simp] theorem State.modSummary_place (s : State) (f : Summary → Summary) : (s.modSummary f).place = s.place := rfl
@[simp] theorem State.modSummary_route (s : State) (f : Summary → Summary) : (s.modSummary f).route = s.route := rfl
@[simp] theorem State.modSummary_comp (s : State) (f : Summary → Summary) : (s.modSummary f).comp = s.comp := rfl
@[simp] theorem State.modSummary_agent (s : State) (f : Summary → Summary) : (s.modSummary f).agent = s.agent := rfl
@[simp] theorem State.modSummary_pending (s : State) (f : Summary → Summary) : (s.modSummary f).pending = s.pending := rfl
@[simp] theorem State.modSummary_freeCtr (s : State) (f : Summary → Summary) : (s.modSummary f).freeCtr = s.freeCtr := rfl
@[simp] theorem State.modSummary_due (s : State) (f : Summary → Summary) : (s.modSummary f).due = s.due := rfl

/-! ### setProg and free -/

@[simp] theorem State.setProg_unit (s : State) (q t : Nat) (p : Prog) : (s.setProg q t p).unit = s.unit := rfl
@[simp] theorem State.setProg_wafer (s : State) (q t : Nat) (p : Prog) : (s.setProg q t p).wafer = s.wafer := rfl
@[simp] theorem State.setProg_flash (s : State) (q t : Nat) (p : Prog) : (s.setProg q t p).flash = s.flash := rfl
@[simp] theorem State.setProg_time (s : State) (q t : Nat) (p : Prog) : (s.setProg q t p).time = s.time := rfl
@[simp] theorem State.setProg_cap (s : State) (q t : Nat) (p : Prog) : (s.setProg q t p).cap = s.cap := rfl
@[simp] theorem State.setProg_sched (s : State) (q t : Nat) (p : Prog) : (s.setProg q t p).sched = s.sched := rfl
@[simp] theorem State.setProg_ep (s : State) (q t : Nat) (p : Prog) : (s.setProg q t p).ep = s.ep := rfl
@[simp] theorem State.setProg_fw (s : State) (q t : Nat) (p : Prog) : (s.setProg q t p).fw = s.fw := rfl
@[simp] theorem State.setProg_store (s : State) (q t : Nat) (p : Prog) : (s.setProg q t p).store = s.store := rfl
@[simp] theorem State.setProg_panel (s : State) (q t : Nat) (p : Prog) : (s.setProg q t p).panel = s.panel := rfl
@[simp] theorem State.setProg_capacity (s : State) (q t : Nat) (p : Prog) : (s.setProg q t p).capacity = s.capacity := rfl
@[simp] theorem State.setProg_cells (s : State) (q t : Nat) (p : Prog) : (s.setProg q t p).cells = s.cells := rfl
@[simp] theorem State.setProg_mem (s : State) (q t : Nat) (p : Prog) : (s.setProg q t p).mem = s.mem := rfl
@[simp] theorem State.setProg_link (s : State) (q t : Nat) (p : Prog) : (s.setProg q t p).link = s.link := rfl
@[simp] theorem State.setProg_xforms (s : State) (q t : Nat) (p : Prog) : (s.setProg q t p).xforms = s.xforms := rfl
@[simp] theorem State.setProg_stg (s : State) (q t : Nat) (p : Prog) : (s.setProg q t p).stg = s.stg := rfl
@[simp] theorem State.setProg_place (s : State) (q t : Nat) (p : Prog) : (s.setProg q t p).place = s.place := rfl
@[simp] theorem State.setProg_route (s : State) (q t : Nat) (p : Prog) : (s.setProg q t p).route = s.route := rfl
@[simp] theorem State.setProg_comp (s : State) (q t : Nat) (p : Prog) : (s.setProg q t p).comp = s.comp := rfl
@[simp] theorem State.setProg_agent (s : State) (q t : Nat) (p : Prog) : (s.setProg q t p).agent = s.agent := rfl
@[simp] theorem State.setProg_pending (s : State) (q t : Nat) (p : Prog) : (s.setProg q t p).pending = s.pending := rfl
@[simp] theorem State.setProg_freeCtr (s : State) (q t : Nat) (p : Prog) : (s.setProg q t p).freeCtr = s.freeCtr := rfl
@[simp] theorem State.setProg_due (s : State) (q t : Nat) (p : Prog) : (s.setProg q t p).due = s.due := rfl
@[simp] theorem State.free_unit (s : State) : s.free.2.unit = s.unit := rfl
@[simp] theorem State.free_wafer (s : State) : s.free.2.wafer = s.wafer := rfl
@[simp] theorem State.free_flash (s : State) : s.free.2.flash = s.flash := rfl
@[simp] theorem State.free_time (s : State) : s.free.2.time = s.time := rfl
@[simp] theorem State.free_cap (s : State) : s.free.2.cap = s.cap := rfl
@[simp] theorem State.free_sched (s : State) : s.free.2.sched = s.sched := rfl
@[simp] theorem State.free_host (s : State) : s.free.2.host = s.host := rfl
@[simp] theorem State.free_ep (s : State) : s.free.2.ep = s.ep := rfl
@[simp] theorem State.free_fw (s : State) : s.free.2.fw = s.fw := rfl
@[simp] theorem State.free_store (s : State) : s.free.2.store = s.store := rfl
@[simp] theorem State.free_panel (s : State) : s.free.2.panel = s.panel := rfl
@[simp] theorem State.free_capacity (s : State) : s.free.2.capacity = s.capacity := rfl
@[simp] theorem State.free_cells (s : State) : s.free.2.cells = s.cells := rfl
@[simp] theorem State.free_mem (s : State) : s.free.2.mem = s.mem := rfl
@[simp] theorem State.free_link (s : State) : s.free.2.link = s.link := rfl
@[simp] theorem State.free_xforms (s : State) : s.free.2.xforms = s.xforms := rfl
@[simp] theorem State.free_stg (s : State) : s.free.2.stg = s.stg := rfl
@[simp] theorem State.free_place (s : State) : s.free.2.place = s.place := rfl
@[simp] theorem State.free_route (s : State) : s.free.2.route = s.route := rfl
@[simp] theorem State.free_comp (s : State) : s.free.2.comp = s.comp := rfl
@[simp] theorem State.free_agent (s : State) : s.free.2.agent = s.agent := rfl
@[simp] theorem State.free_pending (s : State) : s.free.2.pending = s.pending := rfl

end Sys2Proof.Machine
end

