-- ==== Sys2Proof/Laws/Host.lean ====
section
/-! SUPPORT. What completions, events and time leave alone (17, 04). Every one of these operations changes the host
interface only, but for events (fault record, panel) and time (counters). -/

namespace Sys2Proof.Machine

/-! ### msix -/

@[simp] theorem State.msix_unit (s : State) (p v : Nat) : (s.msix p v).unit = s.unit := by
  unfold State.msix; dsimp only; split <;> rfl
@[simp] theorem State.msix_wafer (s : State) (p v : Nat) : (s.msix p v).wafer = s.wafer := by
  unfold State.msix; dsimp only; split <;> rfl
@[simp] theorem State.msix_flash (s : State) (p v : Nat) : (s.msix p v).flash = s.flash := by
  unfold State.msix; dsimp only; split <;> rfl
@[simp] theorem State.msix_time (s : State) (p v : Nat) : (s.msix p v).time = s.time := by
  unfold State.msix; dsimp only; split <;> rfl
@[simp] theorem State.msix_cap (s : State) (p v : Nat) : (s.msix p v).cap = s.cap := by
  unfold State.msix; dsimp only; split <;> rfl
@[simp] theorem State.msix_sched (s : State) (p v : Nat) : (s.msix p v).sched = s.sched := by
  unfold State.msix; dsimp only; split <;> rfl
@[simp] theorem State.msix_ep (s : State) (p v : Nat) : (s.msix p v).ep = s.ep := by
  unfold State.msix; dsimp only; split <;> rfl
@[simp] theorem State.msix_fw (s : State) (p v : Nat) : (s.msix p v).fw = s.fw := by
  unfold State.msix; dsimp only; split <;> rfl
@[simp] theorem State.msix_store (s : State) (p v : Nat) : (s.msix p v).store = s.store := by
  unfold State.msix; dsimp only; split <;> rfl
@[simp] theorem State.msix_panel (s : State) (p v : Nat) : (s.msix p v).panel = s.panel := by
  unfold State.msix; dsimp only; split <;> rfl
@[simp] theorem State.msix_capacity (s : State) (p v : Nat) : (s.msix p v).capacity = s.capacity := by
  unfold State.msix; dsimp only; split <;> rfl
@[simp] theorem State.msix_cells (s : State) (p v : Nat) : (s.msix p v).cells = s.cells := by
  unfold State.msix; dsimp only; split <;> rfl
@[simp] theorem State.msix_mem (s : State) (p v : Nat) : (s.msix p v).mem = s.mem := by
  unfold State.msix; dsimp only; split <;> rfl
@[simp] theorem State.msix_link (s : State) (p v : Nat) : (s.msix p v).link = s.link := by
  unfold State.msix; dsimp only; split <;> rfl
@[simp] theorem State.msix_xforms (s : State) (p v : Nat) : (s.msix p v).xforms = s.xforms := by
  unfold State.msix; dsimp only; split <;> rfl
@[simp] theorem State.msix_stg (s : State) (p v : Nat) : (s.msix p v).stg = s.stg := by
  unfold State.msix; dsimp only; split <;> rfl
@[simp] theorem State.msix_place (s : State) (p v : Nat) : (s.msix p v).place = s.place := by
  unfold State.msix; dsimp only; split <;> rfl
@[simp] theorem State.msix_route (s : State) (p v : Nat) : (s.msix p v).route = s.route := by
  unfold State.msix; dsimp only; split <;> rfl
@[simp] theorem State.msix_comp (s : State) (p v : Nat) : (s.msix p v).comp = s.comp := by
  unfold State.msix; dsimp only; split <;> rfl
@[simp] theorem State.msix_agent (s : State) (p v : Nat) : (s.msix p v).agent = s.agent := by
  unfold State.msix; dsimp only; split <;> rfl
@[simp] theorem State.msix_pending (s : State) (p v : Nat) : (s.msix p v).pending = s.pending := by
  unfold State.msix; dsimp only; split <;> rfl
@[simp] theorem State.msix_freeCtr (s : State) (p v : Nat) : (s.msix p v).freeCtr = s.freeCtr := by
  unfold State.msix; dsimp only; split <;> rfl
@[simp] theorem State.msix_due (s : State) (p v : Nat) : (s.msix p v).due = s.due := by
  unfold State.msix; dsimp only; split <;> rfl

/-! ### armVector -/

@[simp] theorem State.armVector_unit (s : State) (p v : Nat) : (s.armVector p v).unit = s.unit := by
  unfold State.armVector; dsimp only; split <;> simp
@[simp] theorem State.armVector_wafer (s : State) (p v : Nat) : (s.armVector p v).wafer = s.wafer := by
  unfold State.armVector; dsimp only; split <;> simp
@[simp] theorem State.armVector_flash (s : State) (p v : Nat) : (s.armVector p v).flash = s.flash := by
  unfold State.armVector; dsimp only; split <;> simp
@[simp] theorem State.armVector_time (s : State) (p v : Nat) : (s.armVector p v).time = s.time := by
  unfold State.armVector; dsimp only; split <;> simp
@[simp] theorem State.armVector_cap (s : State) (p v : Nat) : (s.armVector p v).cap = s.cap := by
  unfold State.armVector; dsimp only; split <;> simp
@[simp] theorem State.armVector_sched (s : State) (p v : Nat) : (s.armVector p v).sched = s.sched := by
  unfold State.armVector; dsimp only; split <;> simp
@[simp] theorem State.armVector_ep (s : State) (p v : Nat) : (s.armVector p v).ep = s.ep := by
  unfold State.armVector; dsimp only; split <;> simp
@[simp] theorem State.armVector_fw (s : State) (p v : Nat) : (s.armVector p v).fw = s.fw := by
  unfold State.armVector; dsimp only; split <;> simp
@[simp] theorem State.armVector_store (s : State) (p v : Nat) : (s.armVector p v).store = s.store := by
  unfold State.armVector; dsimp only; split <;> simp
@[simp] theorem State.armVector_panel (s : State) (p v : Nat) : (s.armVector p v).panel = s.panel := by
  unfold State.armVector; dsimp only; split <;> simp
@[simp] theorem State.armVector_capacity (s : State) (p v : Nat) : (s.armVector p v).capacity = s.capacity := by
  unfold State.armVector; dsimp only; split <;> simp
@[simp] theorem State.armVector_cells (s : State) (p v : Nat) : (s.armVector p v).cells = s.cells := by
  unfold State.armVector; dsimp only; split <;> simp
@[simp] theorem State.armVector_mem (s : State) (p v : Nat) : (s.armVector p v).mem = s.mem := by
  unfold State.armVector; dsimp only; split <;> simp
@[simp] theorem State.armVector_link (s : State) (p v : Nat) : (s.armVector p v).link = s.link := by
  unfold State.armVector; dsimp only; split <;> simp
@[simp] theorem State.armVector_xforms (s : State) (p v : Nat) : (s.armVector p v).xforms = s.xforms := by
  unfold State.armVector; dsimp only; split <;> simp
@[simp] theorem State.armVector_stg (s : State) (p v : Nat) : (s.armVector p v).stg = s.stg := by
  unfold State.armVector; dsimp only; split <;> simp
@[simp] theorem State.armVector_place (s : State) (p v : Nat) : (s.armVector p v).place = s.place := by
  unfold State.armVector; dsimp only; split <;> simp
@[simp] theorem State.armVector_route (s : State) (p v : Nat) : (s.armVector p v).route = s.route := by
  unfold State.armVector; dsimp only; split <;> simp
@[simp] theorem State.armVector_comp (s : State) (p v : Nat) : (s.armVector p v).comp = s.comp := by
  unfold State.armVector; dsimp only; split <;> simp
@[simp] theorem State.armVector_agent (s : State) (p v : Nat) : (s.armVector p v).agent = s.agent := by
  unfold State.armVector; dsimp only; split <;> simp
@[simp] theorem State.armVector_pending (s : State) (p v : Nat) : (s.armVector p v).pending = s.pending := by
  unfold State.armVector; dsimp only; split <;> simp
@[simp] theorem State.armVector_freeCtr (s : State) (p v : Nat) : (s.armVector p v).freeCtr = s.freeCtr := by
  unfold State.armVector; dsimp only; split <;> simp
@[simp] theorem State.armVector_due (s : State) (p v : Nat) : (s.armVector p v).due = s.due := by
  unfold State.armVector; dsimp only; split <;> simp

/-! ### pushEntry -/

@[simp] theorem State.pushEntry_unit (s : State) (n : Nat) (c : Completion) (i : Bool) : (s.pushEntry n c i).unit = s.unit := by
  unfold State.pushEntry; dsimp only; split <;> simp
@[simp] theorem State.pushEntry_wafer (s : State) (n : Nat) (c : Completion) (i : Bool) : (s.pushEntry n c i).wafer = s.wafer := by
  unfold State.pushEntry; dsimp only; split <;> simp
@[simp] theorem State.pushEntry_flash (s : State) (n : Nat) (c : Completion) (i : Bool) : (s.pushEntry n c i).flash = s.flash := by
  unfold State.pushEntry; dsimp only; split <;> simp
@[simp] theorem State.pushEntry_time (s : State) (n : Nat) (c : Completion) (i : Bool) : (s.pushEntry n c i).time = s.time := by
  unfold State.pushEntry; dsimp only; split <;> simp
@[simp] theorem State.pushEntry_cap (s : State) (n : Nat) (c : Completion) (i : Bool) : (s.pushEntry n c i).cap = s.cap := by
  unfold State.pushEntry; dsimp only; split <;> simp
@[simp] theorem State.pushEntry_sched (s : State) (n : Nat) (c : Completion) (i : Bool) : (s.pushEntry n c i).sched = s.sched := by
  unfold State.pushEntry; dsimp only; split <;> simp
@[simp] theorem State.pushEntry_ep (s : State) (n : Nat) (c : Completion) (i : Bool) : (s.pushEntry n c i).ep = s.ep := by
  unfold State.pushEntry; dsimp only; split <;> simp
@[simp] theorem State.pushEntry_fw (s : State) (n : Nat) (c : Completion) (i : Bool) : (s.pushEntry n c i).fw = s.fw := by
  unfold State.pushEntry; dsimp only; split <;> simp
@[simp] theorem State.pushEntry_store (s : State) (n : Nat) (c : Completion) (i : Bool) : (s.pushEntry n c i).store = s.store := by
  unfold State.pushEntry; dsimp only; split <;> simp
@[simp] theorem State.pushEntry_panel (s : State) (n : Nat) (c : Completion) (i : Bool) : (s.pushEntry n c i).panel = s.panel := by
  unfold State.pushEntry; dsimp only; split <;> simp
@[simp] theorem State.pushEntry_capacity (s : State) (n : Nat) (c : Completion) (i : Bool) : (s.pushEntry n c i).capacity = s.capacity := by
  unfold State.pushEntry; dsimp only; split <;> simp
@[simp] theorem State.pushEntry_cells (s : State) (n : Nat) (c : Completion) (i : Bool) : (s.pushEntry n c i).cells = s.cells := by
  unfold State.pushEntry; dsimp only; split <;> simp
@[simp] theorem State.pushEntry_mem (s : State) (n : Nat) (c : Completion) (i : Bool) : (s.pushEntry n c i).mem = s.mem := by
  unfold State.pushEntry; dsimp only; split <;> simp
@[simp] theorem State.pushEntry_link (s : State) (n : Nat) (c : Completion) (i : Bool) : (s.pushEntry n c i).link = s.link := by
  unfold State.pushEntry; dsimp only; split <;> simp
@[simp] theorem State.pushEntry_xforms (s : State) (n : Nat) (c : Completion) (i : Bool) : (s.pushEntry n c i).xforms = s.xforms := by
  unfold State.pushEntry; dsimp only; split <;> simp
@[simp] theorem State.pushEntry_stg (s : State) (n : Nat) (c : Completion) (i : Bool) : (s.pushEntry n c i).stg = s.stg := by
  unfold State.pushEntry; dsimp only; split <;> simp
@[simp] theorem State.pushEntry_place (s : State) (n : Nat) (c : Completion) (i : Bool) : (s.pushEntry n c i).place = s.place := by
  unfold State.pushEntry; dsimp only; split <;> simp
@[simp] theorem State.pushEntry_route (s : State) (n : Nat) (c : Completion) (i : Bool) : (s.pushEntry n c i).route = s.route := by
  unfold State.pushEntry; dsimp only; split <;> simp
@[simp] theorem State.pushEntry_comp (s : State) (n : Nat) (c : Completion) (i : Bool) : (s.pushEntry n c i).comp = s.comp := by
  unfold State.pushEntry; dsimp only; split <;> simp
@[simp] theorem State.pushEntry_agent (s : State) (n : Nat) (c : Completion) (i : Bool) : (s.pushEntry n c i).agent = s.agent := by
  unfold State.pushEntry; dsimp only; split <;> simp
@[simp] theorem State.pushEntry_pending (s : State) (n : Nat) (c : Completion) (i : Bool) : (s.pushEntry n c i).pending = s.pending := by
  unfold State.pushEntry; dsimp only; split <;> simp
@[simp] theorem State.pushEntry_freeCtr (s : State) (n : Nat) (c : Completion) (i : Bool) : (s.pushEntry n c i).freeCtr = s.freeCtr := by
  unfold State.pushEntry; dsimp only; split <;> simp
@[simp] theorem State.pushEntry_due (s : State) (n : Nat) (c : Completion) (i : Bool) : (s.pushEntry n c i).due = s.due := by
  unfold State.pushEntry; dsimp only; split <;> simp

/-! ### disableQp -/

@[simp] theorem State.disableQp_unit (s : State) (n : Nat) : (s.disableQp n).unit = s.unit := by
  simp [State.disableQp]
@[simp] theorem State.disableQp_wafer (s : State) (n : Nat) : (s.disableQp n).wafer = s.wafer := by
  simp [State.disableQp]
@[simp] theorem State.disableQp_flash (s : State) (n : Nat) : (s.disableQp n).flash = s.flash := by
  simp [State.disableQp]
@[simp] theorem State.disableQp_time (s : State) (n : Nat) : (s.disableQp n).time = s.time := by
  simp [State.disableQp]
@[simp] theorem State.disableQp_cap (s : State) (n : Nat) : (s.disableQp n).cap = s.cap := by
  simp [State.disableQp]
@[simp] theorem State.disableQp_sched (s : State) (n : Nat) : (s.disableQp n).sched = s.sched := by
  simp [State.disableQp]
@[simp] theorem State.disableQp_ep (s : State) (n : Nat) : (s.disableQp n).ep = s.ep := by
  simp [State.disableQp]
@[simp] theorem State.disableQp_fw (s : State) (n : Nat) : (s.disableQp n).fw = s.fw := by
  simp [State.disableQp]
@[simp] theorem State.disableQp_store (s : State) (n : Nat) : (s.disableQp n).store = s.store := by
  simp [State.disableQp]
@[simp] theorem State.disableQp_panel (s : State) (n : Nat) : (s.disableQp n).panel = s.panel := by
  simp [State.disableQp]
@[simp] theorem State.disableQp_capacity (s : State) (n : Nat) : (s.disableQp n).capacity = s.capacity := by
  simp [State.disableQp]
@[simp] theorem State.disableQp_cells (s : State) (n : Nat) : (s.disableQp n).cells = s.cells := by
  simp [State.disableQp]
@[simp] theorem State.disableQp_mem (s : State) (n : Nat) : (s.disableQp n).mem = s.mem := by
  simp [State.disableQp]
@[simp] theorem State.disableQp_link (s : State) (n : Nat) : (s.disableQp n).link = s.link := by
  simp [State.disableQp]
@[simp] theorem State.disableQp_xforms (s : State) (n : Nat) : (s.disableQp n).xforms = s.xforms := by
  simp [State.disableQp]
@[simp] theorem State.disableQp_stg (s : State) (n : Nat) : (s.disableQp n).stg = s.stg := by
  simp [State.disableQp]
@[simp] theorem State.disableQp_place (s : State) (n : Nat) : (s.disableQp n).place = s.place := by
  simp [State.disableQp]
@[simp] theorem State.disableQp_route (s : State) (n : Nat) : (s.disableQp n).route = s.route := by
  simp [State.disableQp]
@[simp] theorem State.disableQp_comp (s : State) (n : Nat) : (s.disableQp n).comp = s.comp := by
  simp [State.disableQp]
@[simp] theorem State.disableQp_agent (s : State) (n : Nat) : (s.disableQp n).agent = s.agent := by
  simp [State.disableQp]
@[simp] theorem State.disableQp_pending (s : State) (n : Nat) : (s.disableQp n).pending = s.pending := by
  simp [State.disableQp]
@[simp] theorem State.disableQp_freeCtr (s : State) (n : Nat) : (s.disableQp n).freeCtr = s.freeCtr := by
  simp [State.disableQp]
@[simp] theorem State.disableQp_due (s : State) (n : Nat) : (s.disableQp n).due = s.due := by
  simp [State.disableQp]

/-! ### unsol -/

@[simp] theorem State.unsol_unit (s : State) (c a : Nat) : (s.unsol c a).unit = s.unit := by
  unfold State.unsol; repeat' split
  all_goals simp
@[simp] theorem State.unsol_wafer (s : State) (c a : Nat) : (s.unsol c a).wafer = s.wafer := by
  unfold State.unsol; repeat' split
  all_goals simp
@[simp] theorem State.unsol_flash (s : State) (c a : Nat) : (s.unsol c a).flash = s.flash := by
  unfold State.unsol; repeat' split
  all_goals simp
@[simp] theorem State.unsol_time (s : State) (c a : Nat) : (s.unsol c a).time = s.time := by
  unfold State.unsol; repeat' split
  all_goals simp
@[simp] theorem State.unsol_cap (s : State) (c a : Nat) : (s.unsol c a).cap = s.cap := by
  unfold State.unsol; repeat' split
  all_goals simp
@[simp] theorem State.unsol_sched (s : State) (c a : Nat) : (s.unsol c a).sched = s.sched := by
  unfold State.unsol; repeat' split
  all_goals simp
@[simp] theorem State.unsol_ep (s : State) (c a : Nat) : (s.unsol c a).ep = s.ep := by
  unfold State.unsol; repeat' split
  all_goals simp
@[simp] theorem State.unsol_fw (s : State) (c a : Nat) : (s.unsol c a).fw = s.fw := by
  unfold State.unsol; repeat' split
  all_goals simp
@[simp] theorem State.unsol_store (s : State) (c a : Nat) : (s.unsol c a).store = s.store := by
  unfold State.unsol; repeat' split
  all_goals simp
@[simp] theorem State.unsol_panel (s : State) (c a : Nat) : (s.unsol c a).panel = s.panel := by
  unfold State.unsol; repeat' split
  all_goals simp
@[simp] theorem State.unsol_capacity (s : State) (c a : Nat) : (s.unsol c a).capacity = s.capacity := by
  unfold State.unsol; repeat' split
  all_goals simp
@[simp] theorem State.unsol_cells (s : State) (c a : Nat) : (s.unsol c a).cells = s.cells := by
  unfold State.unsol; repeat' split
  all_goals simp
@[simp] theorem State.unsol_mem (s : State) (c a : Nat) : (s.unsol c a).mem = s.mem := by
  unfold State.unsol; repeat' split
  all_goals simp
@[simp] theorem State.unsol_link (s : State) (c a : Nat) : (s.unsol c a).link = s.link := by
  unfold State.unsol; repeat' split
  all_goals simp
@[simp] theorem State.unsol_xforms (s : State) (c a : Nat) : (s.unsol c a).xforms = s.xforms := by
  unfold State.unsol; repeat' split
  all_goals simp
@[simp] theorem State.unsol_stg (s : State) (c a : Nat) : (s.unsol c a).stg = s.stg := by
  unfold State.unsol; repeat' split
  all_goals simp
@[simp] theorem State.unsol_place (s : State) (c a : Nat) : (s.unsol c a).place = s.place := by
  unfold State.unsol; repeat' split
  all_goals simp
@[simp] theorem State.unsol_route (s : State) (c a : Nat) : (s.unsol c a).route = s.route := by
  unfold State.unsol; repeat' split
  all_goals simp
@[simp] theorem State.unsol_comp (s : State) (c a : Nat) : (s.unsol c a).comp = s.comp := by
  unfold State.unsol; repeat' split
  all_goals simp
@[simp] theorem State.unsol_agent (s : State) (c a : Nat) : (s.unsol c a).agent = s.agent := by
  unfold State.unsol; repeat' split
  all_goals simp
@[simp] theorem State.unsol_pending (s : State) (c a : Nat) : (s.unsol c a).pending = s.pending := by
  unfold State.unsol; repeat' split
  all_goals simp
@[simp] theorem State.unsol_freeCtr (s : State) (c a : Nat) : (s.unsol c a).freeCtr = s.freeCtr := by
  unfold State.unsol; repeat' split
  all_goals simp
@[simp] theorem State.unsol_due (s : State) (c a : Nat) : (s.unsol c a).due = s.due := by
  unfold State.unsol; repeat' split
  all_goals simp

/-! ### netSend -/

@[simp] theorem State.netSend_unit (s : State) (p i u : Nat) (l : List Bytes) : (s.netSend p i u l).unit = s.unit := rfl
@[simp] theorem State.netSend_wafer (s : State) (p i u : Nat) (l : List Bytes) : (s.netSend p i u l).wafer = s.wafer := rfl
@[simp] theorem State.netSend_flash (s : State) (p i u : Nat) (l : List Bytes) : (s.netSend p i u l).flash = s.flash := rfl
@[simp] theorem State.netSend_time (s : State) (p i u : Nat) (l : List Bytes) : (s.netSend p i u l).time = s.time := rfl
@[simp] theorem State.netSend_cap (s : State) (p i u : Nat) (l : List Bytes) : (s.netSend p i u l).cap = s.cap := rfl
@[simp] theorem State.netSend_sched (s : State) (p i u : Nat) (l : List Bytes) : (s.netSend p i u l).sched = s.sched := rfl
@[simp] theorem State.netSend_ep (s : State) (p i u : Nat) (l : List Bytes) : (s.netSend p i u l).ep = s.ep := rfl
@[simp] theorem State.netSend_fw (s : State) (p i u : Nat) (l : List Bytes) : (s.netSend p i u l).fw = s.fw := rfl
@[simp] theorem State.netSend_store (s : State) (p i u : Nat) (l : List Bytes) : (s.netSend p i u l).store = s.store := rfl
@[simp] theorem State.netSend_panel (s : State) (p i u : Nat) (l : List Bytes) : (s.netSend p i u l).panel = s.panel := rfl
@[simp] theorem State.netSend_capacity (s : State) (p i u : Nat) (l : List Bytes) : (s.netSend p i u l).capacity = s.capacity := rfl
@[simp] theorem State.netSend_cells (s : State) (p i u : Nat) (l : List Bytes) : (s.netSend p i u l).cells = s.cells := rfl
@[simp] theorem State.netSend_mem (s : State) (p i u : Nat) (l : List Bytes) : (s.netSend p i u l).mem = s.mem := rfl
@[simp] theorem State.netSend_link (s : State) (p i u : Nat) (l : List Bytes) : (s.netSend p i u l).link = s.link := rfl
@[simp] theorem State.netSend_xforms (s : State) (p i u : Nat) (l : List Bytes) : (s.netSend p i u l).xforms = s.xforms := rfl
@[simp] theorem State.netSend_stg (s : State) (p i u : Nat) (l : List Bytes) : (s.netSend p i u l).stg = s.stg := rfl
@[simp] theorem State.netSend_place (s : State) (p i u : Nat) (l : List Bytes) : (s.netSend p i u l).place = s.place := rfl
@[simp] theorem State.netSend_route (s : State) (p i u : Nat) (l : List Bytes) : (s.netSend p i u l).route = s.route := rfl
@[simp] theorem State.netSend_comp (s : State) (p i u : Nat) (l : List Bytes) : (s.netSend p i u l).comp = s.comp := rfl
@[simp] theorem State.netSend_agent (s : State) (p i u : Nat) (l : List Bytes) : (s.netSend p i u l).agent = s.agent := rfl
@[simp] theorem State.netSend_pending (s : State) (p i u : Nat) (l : List Bytes) : (s.netSend p i u l).pending = s.pending := rfl
@[simp] theorem State.netSend_freeCtr (s : State) (p i u : Nat) (l : List Bytes) : (s.netSend p i u l).freeCtr = s.freeCtr := rfl
@[simp] theorem State.netSend_due (s : State) (p i u : Nat) (l : List Bytes) : (s.netSend p i u l).due = s.due := rfl

/-! ### finish -/

@[simp] theorem State.finish_unit (s : State) (c : Cmd) (st d : Nat) (r : Bytes) : (s.finish c st d r).unit = s.unit := by
  unfold State.finish; dsimp only; repeat' split
  all_goals simp
@[simp] theorem State.finish_wafer (s : State) (c : Cmd) (st d : Nat) (r : Bytes) : (s.finish c st d r).wafer = s.wafer := by
  unfold State.finish; dsimp only; repeat' split
  all_goals simp
@[simp] theorem State.finish_flash (s : State) (c : Cmd) (st d : Nat) (r : Bytes) : (s.finish c st d r).flash = s.flash := by
  unfold State.finish; dsimp only; repeat' split
  all_goals simp
@[simp] theorem State.finish_time (s : State) (c : Cmd) (st d : Nat) (r : Bytes) : (s.finish c st d r).time = s.time := by
  unfold State.finish; dsimp only; repeat' split
  all_goals simp
@[simp] theorem State.finish_cap (s : State) (c : Cmd) (st d : Nat) (r : Bytes) : (s.finish c st d r).cap = s.cap := by
  unfold State.finish; dsimp only; repeat' split
  all_goals simp
@[simp] theorem State.finish_sched (s : State) (c : Cmd) (st d : Nat) (r : Bytes) : (s.finish c st d r).sched = s.sched := by
  unfold State.finish; dsimp only; repeat' split
  all_goals simp
@[simp] theorem State.finish_ep (s : State) (c : Cmd) (st d : Nat) (r : Bytes) : (s.finish c st d r).ep = s.ep := by
  unfold State.finish; dsimp only; repeat' split
  all_goals simp
@[simp] theorem State.finish_fw (s : State) (c : Cmd) (st d : Nat) (r : Bytes) : (s.finish c st d r).fw = s.fw := by
  unfold State.finish; dsimp only; repeat' split
  all_goals simp
@[simp] theorem State.finish_store (s : State) (c : Cmd) (st d : Nat) (r : Bytes) : (s.finish c st d r).store = s.store := by
  unfold State.finish; dsimp only; repeat' split
  all_goals simp
@[simp] theorem State.finish_panel (s : State) (c : Cmd) (st d : Nat) (r : Bytes) : (s.finish c st d r).panel = s.panel := by
  unfold State.finish; dsimp only; repeat' split
  all_goals simp
@[simp] theorem State.finish_capacity (s : State) (c : Cmd) (st d : Nat) (r : Bytes) : (s.finish c st d r).capacity = s.capacity := by
  unfold State.finish; dsimp only; repeat' split
  all_goals simp
@[simp] theorem State.finish_cells (s : State) (c : Cmd) (st d : Nat) (r : Bytes) : (s.finish c st d r).cells = s.cells := by
  unfold State.finish; dsimp only; repeat' split
  all_goals simp
@[simp] theorem State.finish_mem (s : State) (c : Cmd) (st d : Nat) (r : Bytes) : (s.finish c st d r).mem = s.mem := by
  unfold State.finish; dsimp only; repeat' split
  all_goals simp
@[simp] theorem State.finish_link (s : State) (c : Cmd) (st d : Nat) (r : Bytes) : (s.finish c st d r).link = s.link := by
  unfold State.finish; dsimp only; repeat' split
  all_goals simp
@[simp] theorem State.finish_xforms (s : State) (c : Cmd) (st d : Nat) (r : Bytes) : (s.finish c st d r).xforms = s.xforms := by
  unfold State.finish; dsimp only; repeat' split
  all_goals simp
@[simp] theorem State.finish_stg (s : State) (c : Cmd) (st d : Nat) (r : Bytes) : (s.finish c st d r).stg = s.stg := by
  unfold State.finish; dsimp only; repeat' split
  all_goals simp
@[simp] theorem State.finish_place (s : State) (c : Cmd) (st d : Nat) (r : Bytes) : (s.finish c st d r).place = s.place := by
  unfold State.finish; dsimp only; repeat' split
  all_goals simp
@[simp] theorem State.finish_route (s : State) (c : Cmd) (st d : Nat) (r : Bytes) : (s.finish c st d r).route = s.route := by
  unfold State.finish; dsimp only; repeat' split
  all_goals simp
@[simp] theorem State.finish_comp (s : State) (c : Cmd) (st d : Nat) (r : Bytes) : (s.finish c st d r).comp = s.comp := by
  unfold State.finish; dsimp only; repeat' split
  all_goals simp
@[simp] theorem State.finish_agent (s : State) (c : Cmd) (st d : Nat) (r : Bytes) : (s.finish c st d r).agent = s.agent := by
  unfold State.finish; dsimp only; repeat' split
  all_goals simp
@[simp] theorem State.finish_pending (s : State) (c : Cmd) (st d : Nat) (r : Bytes) : (s.finish c st d r).pending = s.pending := by
  unfold State.finish; dsimp only; repeat' split
  all_goals simp
@[simp] theorem State.finish_freeCtr (s : State) (c : Cmd) (st d : Nat) (r : Bytes) : (s.finish c st d r).freeCtr = s.freeCtr := by
  unfold State.finish; dsimp only; repeat' split
  all_goals simp
@[simp] theorem State.finish_due (s : State) (c : Cmd) (st d : Nat) (r : Bytes) : (s.finish c st d r).due = s.due := by
  unfold State.finish; dsimp only; repeat' split
  all_goals simp

/-! ### complete -/

@[simp] theorem State.complete_unit (s : State) (q t st d : Nat) (r : Bytes) : (s.complete q t st d r).unit = s.unit := by
  unfold State.complete; split <;> simp
@[simp] theorem State.complete_wafer (s : State) (q t st d : Nat) (r : Bytes) : (s.complete q t st d r).wafer = s.wafer := by
  unfold State.complete; split <;> simp
@[simp] theorem State.complete_flash (s : State) (q t st d : Nat) (r : Bytes) : (s.complete q t st d r).flash = s.flash := by
  unfold State.complete; split <;> simp
@[simp] theorem State.complete_time (s : State) (q t st d : Nat) (r : Bytes) : (s.complete q t st d r).time = s.time := by
  unfold State.complete; split <;> simp
@[simp] theorem State.complete_cap (s : State) (q t st d : Nat) (r : Bytes) : (s.complete q t st d r).cap = s.cap := by
  unfold State.complete; split <;> simp
@[simp] theorem State.complete_sched (s : State) (q t st d : Nat) (r : Bytes) : (s.complete q t st d r).sched = s.sched := by
  unfold State.complete; split <;> simp
@[simp] theorem State.complete_ep (s : State) (q t st d : Nat) (r : Bytes) : (s.complete q t st d r).ep = s.ep := by
  unfold State.complete; split <;> simp
@[simp] theorem State.complete_fw (s : State) (q t st d : Nat) (r : Bytes) : (s.complete q t st d r).fw = s.fw := by
  unfold State.complete; split <;> simp
@[simp] theorem State.complete_store (s : State) (q t st d : Nat) (r : Bytes) : (s.complete q t st d r).store = s.store := by
  unfold State.complete; split <;> simp
@[simp] theorem State.complete_panel (s : State) (q t st d : Nat) (r : Bytes) : (s.complete q t st d r).panel = s.panel := by
  unfold State.complete; split <;> simp
@[simp] theorem State.complete_capacity (s : State) (q t st d : Nat) (r : Bytes) : (s.complete q t st d r).capacity = s.capacity := by
  unfold State.complete; split <;> simp
@[simp] theorem State.complete_cells (s : State) (q t st d : Nat) (r : Bytes) : (s.complete q t st d r).cells = s.cells := by
  unfold State.complete; split <;> simp
@[simp] theorem State.complete_mem (s : State) (q t st d : Nat) (r : Bytes) : (s.complete q t st d r).mem = s.mem := by
  unfold State.complete; split <;> simp
@[simp] theorem State.complete_link (s : State) (q t st d : Nat) (r : Bytes) : (s.complete q t st d r).link = s.link := by
  unfold State.complete; split <;> simp
@[simp] theorem State.complete_xforms (s : State) (q t st d : Nat) (r : Bytes) : (s.complete q t st d r).xforms = s.xforms := by
  unfold State.complete; split <;> simp
@[simp] theorem State.complete_stg (s : State) (q t st d : Nat) (r : Bytes) : (s.complete q t st d r).stg = s.stg := by
  unfold State.complete; split <;> simp
@[simp] theorem State.complete_place (s : State) (q t st d : Nat) (r : Bytes) : (s.complete q t st d r).place = s.place := by
  unfold State.complete; split <;> simp
@[simp] theorem State.complete_route (s : State) (q t st d : Nat) (r : Bytes) : (s.complete q t st d r).route = s.route := by
  unfold State.complete; split <;> simp
@[simp] theorem State.complete_comp (s : State) (q t st d : Nat) (r : Bytes) : (s.complete q t st d r).comp = s.comp := by
  unfold State.complete; split <;> simp
@[simp] theorem State.complete_agent (s : State) (q t st d : Nat) (r : Bytes) : (s.complete q t st d r).agent = s.agent := by
  unfold State.complete; split <;> simp
@[simp] theorem State.complete_pending (s : State) (q t st d : Nat) (r : Bytes) : (s.complete q t st d r).pending = s.pending := by
  unfold State.complete; split <;> simp
@[simp] theorem State.complete_freeCtr (s : State) (q t st d : Nat) (r : Bytes) : (s.complete q t st d r).freeCtr = s.freeCtr := by
  unfold State.complete; split <;> simp
@[simp] theorem State.complete_due (s : State) (q t st d : Nat) (r : Bytes) : (s.complete q t st d r).due = s.due := by
  unfold State.complete; split <;> simp

/-! ### completeOpt -/

@[simp] theorem State.completeOpt_unit (s : State) (c : Option (Nat × Nat)) (st d : Nat) (r : Bytes) : (s.completeOpt c st d r).unit = s.unit := by
  unfold State.completeOpt; split <;> simp
@[simp] theorem State.completeOpt_wafer (s : State) (c : Option (Nat × Nat)) (st d : Nat) (r : Bytes) : (s.completeOpt c st d r).wafer = s.wafer := by
  unfold State.completeOpt; split <;> simp
@[simp] theorem State.completeOpt_flash (s : State) (c : Option (Nat × Nat)) (st d : Nat) (r : Bytes) : (s.completeOpt c st d r).flash = s.flash := by
  unfold State.completeOpt; split <;> simp
@[simp] theorem State.completeOpt_time (s : State) (c : Option (Nat × Nat)) (st d : Nat) (r : Bytes) : (s.completeOpt c st d r).time = s.time := by
  unfold State.completeOpt; split <;> simp
@[simp] theorem State.completeOpt_cap (s : State) (c : Option (Nat × Nat)) (st d : Nat) (r : Bytes) : (s.completeOpt c st d r).cap = s.cap := by
  unfold State.completeOpt; split <;> simp
@[simp] theorem State.completeOpt_sched (s : State) (c : Option (Nat × Nat)) (st d : Nat) (r : Bytes) : (s.completeOpt c st d r).sched = s.sched := by
  unfold State.completeOpt; split <;> simp
@[simp] theorem State.completeOpt_ep (s : State) (c : Option (Nat × Nat)) (st d : Nat) (r : Bytes) : (s.completeOpt c st d r).ep = s.ep := by
  unfold State.completeOpt; split <;> simp
@[simp] theorem State.completeOpt_fw (s : State) (c : Option (Nat × Nat)) (st d : Nat) (r : Bytes) : (s.completeOpt c st d r).fw = s.fw := by
  unfold State.completeOpt; split <;> simp
@[simp] theorem State.completeOpt_store (s : State) (c : Option (Nat × Nat)) (st d : Nat) (r : Bytes) : (s.completeOpt c st d r).store = s.store := by
  unfold State.completeOpt; split <;> simp
@[simp] theorem State.completeOpt_panel (s : State) (c : Option (Nat × Nat)) (st d : Nat) (r : Bytes) : (s.completeOpt c st d r).panel = s.panel := by
  unfold State.completeOpt; split <;> simp
@[simp] theorem State.completeOpt_capacity (s : State) (c : Option (Nat × Nat)) (st d : Nat) (r : Bytes) : (s.completeOpt c st d r).capacity = s.capacity := by
  unfold State.completeOpt; split <;> simp
@[simp] theorem State.completeOpt_cells (s : State) (c : Option (Nat × Nat)) (st d : Nat) (r : Bytes) : (s.completeOpt c st d r).cells = s.cells := by
  unfold State.completeOpt; split <;> simp
@[simp] theorem State.completeOpt_mem (s : State) (c : Option (Nat × Nat)) (st d : Nat) (r : Bytes) : (s.completeOpt c st d r).mem = s.mem := by
  unfold State.completeOpt; split <;> simp
@[simp] theorem State.completeOpt_link (s : State) (c : Option (Nat × Nat)) (st d : Nat) (r : Bytes) : (s.completeOpt c st d r).link = s.link := by
  unfold State.completeOpt; split <;> simp
@[simp] theorem State.completeOpt_xforms (s : State) (c : Option (Nat × Nat)) (st d : Nat) (r : Bytes) : (s.completeOpt c st d r).xforms = s.xforms := by
  unfold State.completeOpt; split <;> simp
@[simp] theorem State.completeOpt_stg (s : State) (c : Option (Nat × Nat)) (st d : Nat) (r : Bytes) : (s.completeOpt c st d r).stg = s.stg := by
  unfold State.completeOpt; split <;> simp
@[simp] theorem State.completeOpt_place (s : State) (c : Option (Nat × Nat)) (st d : Nat) (r : Bytes) : (s.completeOpt c st d r).place = s.place := by
  unfold State.completeOpt; split <;> simp
@[simp] theorem State.completeOpt_route (s : State) (c : Option (Nat × Nat)) (st d : Nat) (r : Bytes) : (s.completeOpt c st d r).route = s.route := by
  unfold State.completeOpt; split <;> simp
@[simp] theorem State.completeOpt_comp (s : State) (c : Option (Nat × Nat)) (st d : Nat) (r : Bytes) : (s.completeOpt c st d r).comp = s.comp := by
  unfold State.completeOpt; split <;> simp
@[simp] theorem State.completeOpt_agent (s : State) (c : Option (Nat × Nat)) (st d : Nat) (r : Bytes) : (s.completeOpt c st d r).agent = s.agent := by
  unfold State.completeOpt; split <;> simp
@[simp] theorem State.completeOpt_pending (s : State) (c : Option (Nat × Nat)) (st d : Nat) (r : Bytes) : (s.completeOpt c st d r).pending = s.pending := by
  unfold State.completeOpt; split <;> simp
@[simp] theorem State.completeOpt_freeCtr (s : State) (c : Option (Nat × Nat)) (st d : Nat) (r : Bytes) : (s.completeOpt c st d r).freeCtr = s.freeCtr := by
  unfold State.completeOpt; split <;> simp
@[simp] theorem State.completeOpt_due (s : State) (c : Option (Nat × Nat)) (st d : Nat) (r : Bytes) : (s.completeOpt c st d r).due = s.due := by
  unfold State.completeOpt; split <;> simp

end Sys2Proof.Machine
end

