-- ==== Sys2Proof/Laws/Answer.lean ====
section
/-! SUPPORT. Accepted commands: what carrying one out and completing it come to (17 R435, R441). -/

namespace Sys2Proof.Machine

open Sys2Proof

theorem find_name {l : List Cmd} {qp tag : Nat} {c : Cmd}
    (h : l.find? (fun c => c.qp == qp && c.tag == tag) = some c) : c.qp = qp ∧ c.tag = tag := by
  have := List.find?_some h
  simpa using this

/-- Carrying out an accepted command. -/
theorem State.run_accepted {s : State} {x : At} {qp tag op : Nat} {c : Cmd} {f : State → Cmd → State}
    (h : Accepted (s.enter x).host qp tag op c) : s.run x qp tag op f = f (s.enter x) c := by
  obtain ⟨⟨h1, h2, h3, -⟩, h4⟩ := h
  simp [State.run, h1, h2, h3, h4]

theorem msix_host (s : State) (p v : Nat) : (s.msix p v).host.completions = s.host.completions ∧
    (s.msix p v).host.accepted = s.host.accepted := by
  unfold State.msix; dsimp only; split <;> simp [State.modPort]

theorem pushEntry_host (s : State) (n : Nat) (e : Completion) (i : Bool) :
    (s.pushEntry n e i).host.completions = s.host.completions ++ [e] ∧
      (s.pushEntry n e i).host.accepted = s.host.accepted := by
  unfold State.pushEntry; dsimp only; split <;> simp [msix_host, State.modQp]

/-- The completion of a local command whose entry can be written. -/
theorem State.finish_push {s : State} {c : Cmd} (hg : (s.qp c.qp).gen = c.gen) (hn : c.net = none)
    (hq : s.host.cqOk = true) (hr : s.host.resultOk = true) (hs : c.synth = false) (st d : Nat) (r : Bytes) :
    ∃ e : Completion, s.finish c st d r =
        (s.modQp c.qp fun q => { q with reserved := q.reserved - 1 }).pushEntry c.qp e (!c.noIrq) ∧
      e.tag = c.tag ∧ e.qp = c.qp ∧ e.status = (if s.passed c.deadline && st = 0 then 1 else st) ∧
      e.cqFlags = b2n (s.qp c.qp).cqPhase + 4 * b2n (s.passed c.deadline) ∧ e.detail = d % 4294967296 ∧
      e.result = r ∧ e.epoch = s.ep.epoch ∧ e.stamp = s.stamp64 ∧ e.sqHead = c.sqHead := by
  unfold State.finish
  simp only [hg, hn, hr, hs, ne_eq, not_true_eq_false, if_false, Bool.false_and, Bool.false_eq_true]
  rw [if_pos (show (s.modQp c.qp _).host.cqOk = true from hq)]
  refine ⟨_, rfl, rfl, rfl, rfl, ?_, rfl, rfl, rfl, rfl, rfl⟩
  simp [b2n]

/-- The completion of a local command in time whose results can be written. -/
theorem State.finish_local {s : State} {c : Cmd} (hg : (s.qp c.qp).gen = c.gen) (hn : c.net = none)
    (hq : s.host.cqOk = true) (hr : s.host.resultOk = true) (hd : c.deadline = .none) (hs : c.synth = false) (st d : Nat) (r : Bytes) :
    ∃ e : Completion, s.finish c st d r =
        (s.modQp c.qp fun q => { q with reserved := q.reserved - 1 }).pushEntry c.qp e (!c.noIrq) ∧
      e.tag = c.tag ∧ e.qp = c.qp ∧ e.status = st ∧ e.detail = d % 4294967296 ∧ e.result = r ∧ e.epoch = s.ep.epoch ∧
      e.stamp = s.stamp64 ∧ e.sqHead = c.sqHead := by
  obtain ⟨e, h, h1, h2, h3, -, hr⟩ := State.finish_push hg hn hq hr hs st d r
  exact ⟨e, h, h1, h2, by simpa [hd, State.passed] using h3, hr⟩

/-- Completing an accepted command answers it. -/
theorem State.complete_answers {s : State} {qp tag op : Nat} {p : Prog} {c : Cmd} (h : Held s.host qp tag op p c)
    (st d : Nat) (r : Bytes) : Answers s (s.complete qp tag st d r) c st d r := by
  obtain ⟨h1, -, -, h4, h5, h6, h7, h8, h9⟩ := h
  obtain ⟨rfl, rfl⟩ := find_name h1
  have hf : s.findCmd c.qp c.tag = some c := h1
  unfold State.complete
  rw [hf]
  obtain ⟨e, he, h⟩ := State.finish_local
    (s := { s with host := { s.host with accepted := dropFirst s.host.accepted c.qp c.tag } }) h5 h4 h6 h7 h8 h9 st d r
  dsimp only
  rw [he]
  refine ⟨?_, e, ?_, h⟩
  · rw [(pushEntry_host _ _ _ _).2]; rfl
  · rw [(pushEntry_host _ _ _ _).1]; rfl

/-- Completing a command changes the host interface only. -/
theorem State.complete_hostOnly (s : State) (qp tag st d : Nat) (r : Bytes) :
    HostOnly s (s.complete qp tag st d r) := by
  have h : ∀ t : State, t.unit = s.unit → t.wafer = s.wafer → t.flash = s.flash → t.time = s.time → t.cap = s.cap →
      t.sched = s.sched → t.ep = s.ep → t.fw = s.fw → t.store = s.store → t.panel = s.panel → t.capacity = s.capacity →
      t.cells = s.cells → t.mem = s.mem → t.link = s.link → t.xforms = s.xforms → t.stg = s.stg → t.place = s.place →
      t.route = s.route → t.comp = s.comp → t.agent = s.agent → t.pending = s.pending → t.freeCtr = s.freeCtr → t.due = s.due →
      HostOnly s t := by
    intro t h1 h2 h3 h4 h5 h6 h7 h8 h9 h10 h11 h12 h13 h14 h15 h16 h17 h18 h19 h20 h21 h22 h23
    cases t
    simp only at h1 h2 h3 h4 h5 h6 h7 h8 h9 h10 h11 h12 h13 h14 h15 h16 h17 h18 h19 h20 h21 h22 h23
    subst h1 h2 h3 h4 h5 h6 h7 h8 h9 h10 h11 h12 h13 h14 h15 h16 h17 h18 h19 h20 h21 h22 h23
    rfl
  apply h <;> simp

/-- A command completed by its own queue pair and TAG is answered, and only the host interface changes. -/
theorem State.answered {u : State} {qp tag op : Nat} {p : Prog} {c : Cmd} (h : Held u.host qp tag op p c) (st d : Nat)
    (r : Bytes) : Answers u (u.complete c.qp c.tag st d r) c st d r ∧ HostOnly u (u.complete c.qp c.tag st d r) := by
  obtain ⟨rfl, rfl⟩ := find_name h.1
  exact ⟨State.complete_answers h st d r, State.complete_hostOnly _ _ _ _ _ _⟩

/-- The same after the command's effect `v` on a state `u`: the effect leaves the accepted commands, the epoch and the
time alone. -/
theorem State.answered_after {u v : State} {qp tag op : Nat} {p : Prog} {c : Cmd} (h : Held u.host qp tag op p c)
    (hv : v.host = u.host) (he : v.ep.epoch = u.ep.epoch) (ht : v.time = u.time) (st d : Nat) (r : Bytes) :
    Answers u (v.complete c.qp c.tag st d r) c st d r ∧ HostOnly v (v.complete c.qp c.tag st d r) := by
  obtain ⟨⟨a1, e, a2, b⟩, a3⟩ := State.answered (u := v) (by rw [hv]; exact h) st d r
  have hs : v.stamp64 = u.stamp64 := by simp only [State.stamp64, State.counter, State.dom, ht]
  rw [hv] at a1 a2
  rw [he, hs] at b
  exact ⟨⟨a1, e, a2, b⟩, a3⟩

/-- What an accepted command's row answers, where its meaning completes it on some state. -/
theorem State.run_next {s : State} {x : At} {qp tag op : Nat} {c : Cmd} {f : State → Cmd → State} {t : State}
    (h : Accepted (s.enter x).host qp tag op c) (hf : f (s.enter x) c = t) :
    (Host.Outcome.next (s.run x qp tag op f) : Host.Outcome State Fault Refusal) = .next t := by
  rw [State.run_accepted h, hf]

end Sys2Proof.Machine
end

