-- ==== Sys2Proof/Laws/HostIf.lean ====
section
/-! SUPPORT. Queue pairs: what a list update reads back as, and the fields of a masked QP_SIZE value (17 Table 17-2). -/

namespace Sys2Proof.Machine

theorem lmod_length {α : Type} (l : List α) (i : Nat) (f : α → α) : (lmod l i f).length = l.length := by
  induction l generalizing i with
  | nil => rfl
  | cons a r ih => cases i <;> simp [lmod, ih]

/-- An update read at its own place. -/
theorem lmod_getD_self {α : Type} (l : List α) (i : Nat) (f : α → α) (d : α) (h : i < l.length) :
    (lmod l i f).getD i d = f (l.getD i d) := by
  induction l generalizing i with
  | nil => simp at h
  | cons a r ih =>
    cases i with
    | zero => simp [lmod]
    | succ i => simpa [lmod] using ih i (by simpa using h)

/-- An update read elsewhere. -/
theorem lmod_getD_ne {α : Type} (l : List α) (i j : Nat) (f : α → α) (d : α) (h : j ≠ i) :
    (lmod l i f).getD j d = l.getD j d := by
  induction l generalizing i j with
  | nil => rfl
  | cons a r ih =>
    cases i with
    | zero => cases j with
      | zero => exact absurd rfl h
      | succ j => simp [lmod]
    | succ i => cases j with
      | zero => simp [lmod]
      | succ j => simpa [lmod] using ih i j (by omega)

theorem State.modQp_qp_self (s : State) (n : Nat) (f : QueuePair → QueuePair) (h : n < s.host.qps.length) :
    (s.modQp n f).qp n = f (s.qp n) := lmod_getD_self _ _ _ _ h

theorem State.modQp_qp_ne (s : State) (n m : Nat) (f : QueuePair → QueuePair) (h : m ≠ n) :
    (s.modQp n f).qp m = s.qp m := lmod_getD_ne _ _ _ _ _ h

/-- A bit of a masked size value. -/
theorem sizeMask_bit (v i : Nat) : (sizeMask v).toNat.testBit i = (decide (i < 32) && v.testBit i && (0x3F070F0F).testBit i) := by
  have h : (v % 4294967296).testBit i = (decide (i < 32) && v.testBit i) := Nat.testBit_mod_two_pow v 32 i
  simp [sizeMask, BitVec.toNat_and, Nat.testBit_and, h]

/-- A field the mask keeps whole reads as in the value written. -/
theorem sizeMask_field (v lo n : Nat) (h : ∀ i, i < n → (lo + i < 32 ∧ (0x3F070F0F).testBit (lo + i) = true)) :
    (sizeMask v).toNat / 2 ^ lo % 2 ^ n = v / 2 ^ lo % 2 ^ n := by
  apply Nat.eq_of_testBit_eq
  intro i
  simp only [Nat.testBit_mod_two_pow, Nat.testBit_div_two_pow]
  by_cases hi : i < n
  · have := h i hi
    rw [show lo + i = i + lo from by omega] at this
    rw [Nat.add_comm i lo] at *
    simp [hi, sizeMask_bit, this]
  · simp [hi]

theorem msix_qps (s : State) (p v : Nat) : (s.msix p v).host.qps = s.host.qps := by
  unfold State.msix; dsimp only; split <;> rfl

theorem armVector_qps (s : State) (p v : Nat) : (s.armVector p v).host.qps = s.host.qps := by
  unfold State.armVector; dsimp only; split
  · rw [msix_qps]; rfl
  · rfl

theorem armVector_held (s : State) (p v : Nat) : (s.armVector p v).host.held = s.host.held := by
  unfold State.armVector; dsimp only; split
  · unfold State.msix; dsimp only; split <;> rfl
  · rfl

/-- With nothing held, nothing is written. -/
theorem State.flushHeld_none {s : State} (h : s.host.held = []) : s.flushHeld = s := by
  simp [State.flushHeld, h]

end Sys2Proof.Machine
end

