-- ==== Sys2Proof/Laws/Table.lean ====
section
/-! SUPPORT. Sparse tables: what an update reads back as; and what waking used groups leaves unchanged. -/

namespace Sys2Proof.Machine

/-- A table read at the key just set. -/
@[simp] theorem tget_tset_self {α : Type} (t : List (Nat × α)) (k : Nat) (a : α) : tget (tset t k a) k = some a := by
  induction t with
  | nil => simp [tset, tget]
  | cons p r ih =>
    obtain ⟨j, b⟩ := p
    unfold tset
    split
    · simp [tget]
    · split
      · simp [tget]
      · rename_i h; simp [tget, h, ih]

/-- A table read at another key than the one set. -/
theorem tget_tset_ne {α : Type} (t : List (Nat × α)) (k j : Nat) (a : α) (h : j ≠ k) : tget (tset t k a) j = tget t j := by
  have h' : k ≠ j := fun e => h e.symm
  induction t with
  | nil => simp [tset, tget, h']
  | cons p r ih =>
    obtain ⟨i, b⟩ := p
    unfold tset
    split
    · simp [tget, h']
    · split
      · rename_i e; subst e; simp [tget, h']
      · simp only [tget]; split <;> first | rfl | exact ih

/-- Waking a group changes the link state only. -/
theorem State.wakePort_link (s : State) (p : Nat) : s.wakePort p = { s with link := (s.wakePort p).link } := by
  unfold State.wakePort; dsimp only; split
  · rfl
  · split <;> rfl

/-- Waking the groups a change made used changes the link state only. -/
theorem State.wakeUsed_link (s : State) : s.wakeUsed = { s with link := s.wakeUsed.link } := by
  have h : ∀ (l : List Nat) (s : State), l.foldl State.wakePort s = { s with link := (l.foldl State.wakePort s).link } := by
    intro l
    induction l with
    | nil => intro s; rfl
    | cons p r ih =>
      intro s
      obtain ⟨k, hk⟩ : ∃ k, s.wakePort p = { s with link := k } := ⟨_, State.wakePort_link s p⟩
      rw [List.foldl_cons, hk]
      exact ih _
  unfold State.wakeUsed
  split
  · rfl
  · exact h _ _

end Sys2Proof.Machine
end

