-- ==== Sys2Proof/Laws/Mem.lean ====
section
/-! SUPPORT. Memory: every operation keeps the canonical form, a byte read back is the byte written, and the
bytes beside it stay. -/

namespace Sys2Proof.Machine

/-! ### Rising addresses -/

/-- A rising list: its head lies below all the rest, and the rest rises. -/
theorem tsorted_cons {α : Type} (a : Nat × α) (r : List (Nat × α)) :
    tsorted (a :: r) = true ↔ (∀ b ∈ r, a.1 < b.1) ∧ tsorted r = true := by
  induction r generalizing a with
  | nil => simp [tsorted]
  | cons b r ih =>
    simp only [tsorted, Bool.and_eq_true, decide_eq_true_eq, List.mem_cons, forall_eq_or_imp]
    constructor
    · rintro ⟨hab, hr⟩
      exact ⟨⟨hab, fun c hc => Nat.lt_trans hab (((ih b).mp hr).1 c hc)⟩, hr⟩
    · rintro ⟨⟨hab, -⟩, hr⟩
      exact ⟨hab, hr⟩

/-- The entries after an update: the new one, or old ones. -/
theorem mem_tset {α : Type} (t : List (Nat × α)) (k : Nat) (a : α) (c : Nat × α) (h : c ∈ tset t k a) :
    c = (k, a) ∨ c ∈ t := by
  induction t with
  | nil => simpa [tset] using h
  | cons p r ih =>
    obtain ⟨j, b⟩ := p
    unfold tset at h
    split at h
    · simpa using h
    · split at h
      · rcases List.mem_cons.mp h with h | h <;> simp [h]
      · rcases List.mem_cons.mp h with h | h
        · simp [h]
        · rcases ih h with h | h <;> simp [h]

/-- An update keeps the keys rising. -/
theorem tsorted_tset {α : Type} (t : List (Nat × α)) (k : Nat) (a : α) (h : tsorted t = true) :
    tsorted (tset t k a) = true := by
  induction t with
  | nil => rfl
  | cons p r ih =>
    obtain ⟨j, b⟩ := p
    have hp := (tsorted_cons _ _).mp h
    unfold tset
    split
    · rename_i hk
      refine (tsorted_cons _ _).mpr ⟨?_, h⟩
      intro c hc
      rcases List.mem_cons.mp hc with rfl | hc
      · exact hk
      · exact Nat.lt_trans hk (hp.1 c hc)
    · split
      · rename_i e
        subst e
        exact (tsorted_cons _ _).mpr hp
      · rename_i h1 h2
        refine (tsorted_cons _ _).mpr ⟨?_, ih hp.2⟩
        intro c hc
        rcases mem_tset r k a c hc with rfl | hc
        · exact Nat.lt_of_le_of_ne (Nat.le_of_not_lt h1) h2
        · exact hp.1 c hc

/-- The entries after a removal are old ones. -/
theorem mem_memDrop (m : List Host.Cell) (a : Nat) (c : Host.Cell) (h : c ∈ memDrop m a) : c ∈ m := by
  induction m with
  | nil => simp [memDrop] at h
  | cons p r ih =>
    obtain ⟨k, b⟩ := p
    unfold memDrop at h
    split at h
    · simp [h]
    · rcases List.mem_cons.mp h with h | h
      · simp [h]
      · simp [ih h]

/-- A removal keeps the addresses rising. -/
theorem tsorted_memDrop (m : List Host.Cell) (a : Nat) (h : tsorted m = true) : tsorted (memDrop m a) = true := by
  induction m with
  | nil => rfl
  | cons p r ih =>
    obtain ⟨k, b⟩ := p
    have hp := (tsorted_cons _ _).mp h
    unfold memDrop
    split
    · exact hp.2
    · exact (tsorted_cons _ _).mpr ⟨fun c hc => hp.1 c (mem_memDrop r a c hc), ih hp.2⟩

/-- Keeping some of the entries keeps the keys rising. -/
theorem tsorted_filter {α : Type} (t : List (Nat × α)) (f : Nat × α → Bool) (h : tsorted t = true) :
    tsorted (t.filter f) = true := by
  induction t with
  | nil => rfl
  | cons p r ih =>
    have hp := (tsorted_cons _ _).mp h
    rw [List.filter_cons]
    split
    · exact (tsorted_cons _ _).mpr ⟨fun c hc => hp.1 c ((List.mem_filter.mp hc).1), ih hp.2⟩
    · exact ih hp.2

/-! ### The canonical form -/

/-- What the canonical form says. -/
theorem Memory.wf_iff (m : List Host.Cell) : Memory.wf m = true ↔ tsorted m = true ∧ ∀ c ∈ m, c.2 ≠ 0 := by
  simp [Memory.wf, List.all_eq_true]

/-- Storing a byte keeps the canonical form. -/
theorem memPut_wf (m : List Host.Cell) (a : Nat) (b : Byte) (h : Memory.wf m = true) :
    Memory.wf (memPut m a b) = true := by
  obtain ⟨hs, hn⟩ := (Memory.wf_iff m).mp h
  unfold memPut
  split
  · exact (Memory.wf_iff _).mpr ⟨tsorted_memDrop m a hs, fun c hc => hn c (mem_memDrop m a c hc)⟩
  · rename_i hb
    refine (Memory.wf_iff _).mpr ⟨tsorted_tset m a b hs, fun c hc => ?_⟩
    rcases mem_tset m a b c hc with rfl | hc
    · exact hb
    · exact hn c hc

/-- Storing bytes keeps the canonical form. -/
theorem memWrite_wf (bs : Bytes) (m : List Host.Cell) (a : Nat) (h : Memory.wf m = true) :
    Memory.wf (memWrite m a bs) = true := by
  induction bs generalizing m a with
  | nil => exact h
  | cons b bs ih => exact ih _ _ (memPut_wf m a b h)

/-- Keeping some of the bytes keeps the canonical form. -/
theorem memFilter_wf (m : List Host.Cell) (f : Host.Cell → Bool) (h : Memory.wf m = true) :
    Memory.wf (m.filter f) = true := by
  obtain ⟨hs, hn⟩ := (Memory.wf_iff m).mp h
  exact (Memory.wf_iff _).mpr ⟨tsorted_filter m f hs, fun c hc => hn c ((List.mem_filter.mp hc).1)⟩

/-- Storing a byte for each entry of a list keeps the canonical form. -/
theorem memPuts_wf {α : Type} (l : List α) (key : α → Nat) (val : α → Byte) (m : List Host.Cell)
    (h : Memory.wf m = true) : Memory.wf (l.foldl (fun m c => memPut m (key c) (val c)) m) = true := by
  induction l generalizing m with
  | nil => exact h
  | cons c l ih => exact ih _ (memPut_wf m _ _ h)

/-! ### Reading back -/

/-- Nothing is listed below a rising list's head. -/
theorem tget_below {α : Type} (t : List (Nat × α)) (k : Nat) (h : ∀ c ∈ t, k < c.1) : tget t k = none := by
  induction t with
  | nil => rfl
  | cons p r ih =>
    obtain ⟨j, b⟩ := p
    have hj : k < j := h (j, b) (by simp)
    unfold tget
    rw [if_neg (Nat.ne_of_gt hj)]
    exact ih fun c hc => h c (by simp [hc])

/-- A removed address is not listed. -/
theorem tget_memDrop_self (m : List Host.Cell) (a : Nat) (h : tsorted m = true) : tget (memDrop m a) a = none := by
  induction m with
  | nil => rfl
  | cons p r ih =>
    obtain ⟨k, b⟩ := p
    have hp := (tsorted_cons _ _).mp h
    unfold memDrop
    split
    · rename_i e
      subst e
      exact tget_below r k hp.1
    · rename_i e
      unfold tget
      rw [if_neg e]
      exact ih hp.2

/-- A removal leaves the other addresses. -/
theorem tget_memDrop_ne (m : List Host.Cell) (a b : Nat) (h : b ≠ a) : tget (memDrop m a) b = tget m b := by
  induction m with
  | nil => rfl
  | cons p r ih =>
    obtain ⟨k, v⟩ := p
    unfold memDrop
    split
    · rename_i e
      subst e
      simp only [tget, if_neg (fun e : k = b => h e.symm)]
    · simp only [tget]
      split
      · rfl
      · exact ih

/-- The byte stored reads back. -/
theorem memGet_memPut_self (m : List Host.Cell) (a : Nat) (b : Byte) (h : Memory.wf m = true) :
    memGet (memPut m a b) a = b := by
  unfold memPut memGet tgetD
  split
  · rename_i e
    rw [tget_memDrop_self m a ((Memory.wf_iff m).mp h).1, e]
    rfl
  · rw [tget_tset_self]
    rfl

/-- A store leaves the other bytes. -/
theorem memGet_memPut_ne (m : List Host.Cell) (a j : Nat) (b : Byte) (h : j ≠ a) :
    memGet (memPut m a b) j = memGet m j := by
  unfold memPut memGet tgetD
  split
  · rw [tget_memDrop_ne m a j h]
  · rw [tget_tset_ne m a j b h]

/-- A store of several bytes leaves the bytes outside it. -/
theorem memGet_memWrite_out (bs : Bytes) (m : List Host.Cell) (a j : Nat) (h : j < a ∨ a + bs.length ≤ j) :
    memGet (memWrite m a bs) j = memGet m j := by
  induction bs generalizing m a with
  | nil => rfl
  | cons b bs ih =>
    simp only [List.length_cons] at h
    have h1 : j < a + 1 ∨ a + 1 + bs.length ≤ j := by omega
    have h2 : j ≠ a := by omega
    rw [memWrite, ih _ _ h1, memGet_memPut_ne _ _ _ _ h2]

/-- The bytes stored read back. -/
theorem memGet_memWrite_in (bs : Bytes) (m : List Host.Cell) (a i : Nat) (hm : Memory.wf m = true)
    (h : i < bs.length) : memGet (memWrite m a bs) (a + i) = bs[i] := by
  induction bs generalizing m a i with
  | nil => simp at h
  | cons b bs ih =>
    rw [memWrite]
    cases i with
    | zero => rw [memGet_memWrite_out _ _ _ _ (by omega)]; exact memGet_memPut_self m a b hm
    | succ i =>
      have := ih (memPut m a b) (a + 1) i (memPut_wf m a b hm) (by simpa using h)
      rw [show a + (i + 1) = a + 1 + i by omega, this]
      rfl

/-- What was stored reads back whole. -/
theorem memRead_memWrite (m : List Host.Cell) (a : Nat) (bs : Bytes) (hm : Memory.wf m = true) :
    memRead (memWrite m a bs) a bs.length = bs := by
  apply List.ext_getElem
  · simp [memRead]
  · intro i h1 h2
    simp [memRead, memGet_memWrite_in bs m a i hm h2]

/-- Nothing is listed, so nothing but 0 is read: a rising list is given by what it reads. -/
theorem wf_head_reads (k : Nat) (b : Byte) (r : List Host.Cell) (h : Memory.wf ((k, b) :: r) = true) :
    memGet ((k, b) :: r) k = b ∧ b ≠ 0 ∧ Memory.wf r = true ∧ ∀ c ∈ r, k < c.1 := by
  obtain ⟨hs, hn⟩ := (Memory.wf_iff _).mp h
  obtain ⟨hb, hr⟩ := (tsorted_cons _ _).mp hs
  exact ⟨by simp [memGet, tgetD, tget], hn (k, b) (by simp),
    (Memory.wf_iff r).mpr ⟨hr, fun c hc => hn c (by simp [hc])⟩, hb⟩

/-! ### The machine's memory operations -/

/-- Storing a word keeps the canonical form. -/
theorem State.putWord_wf (s : State) (g w d c : Nat) (h : Memory.wf s.mem = true) :
    Memory.wf (s.putWord g w d c).mem = true := memWrite_wf _ _ _ h

/-- Storing a line's symbols keeps the canonical form. -/
theorem State.putLine1_wf (s : State) (r addr : Nat) (l : Bytes) (h : Memory.wf s.mem = true) :
    Memory.wf (s.putLine1 r addr l).mem = true := memWrite_wf _ _ _ h

/-- Zeroing a cell keeps the canonical form. -/
theorem State.zeroCell_wf (s : State) (g : Nat) (h : Memory.wf s.mem = true) :
    Memory.wf (s.zeroCell g).mem = true := memFilter_wf _ _ h

/-- Losing a super's cells keeps the canonical form. -/
theorem State.wipeSuper_wf (s : State) (p : Nat) (h : Memory.wf s.mem = true) :
    Memory.wf (s.wipeSuper p).mem = true := memFilter_wf _ _ h

/-- Folding an operation that keeps the canonical form keeps it. -/
theorem foldl_wf {α : Type} (l : List α) (f : State → α → State)
    (hf : ∀ s a, Memory.wf s.mem = true → Memory.wf (f s a).mem = true) (s : State) (h : Memory.wf s.mem = true) :
    Memory.wf (l.foldl f s).mem = true := by
  induction l generalizing s with
  | nil => exact h
  | cons a r ih => exact ih _ (hf _ _ h)

/-- A fault-record event leaves memory alone. -/
@[simp] theorem State.event_mem (s : State) (k c u d : Nat) : (s.event k c u d).mem = s.mem := by
  unfold State.event
  dsimp only
  split
  · unfold State.panelTouch; repeat' split
    all_goals rfl
  · rfl

@[simp] theorem State.noteExtent_mem (s : State) (r addr : Nat) : (s.noteExtent r addr).mem = s.mem := by
  unfold State.noteExtent; split <;> rfl

/-- Listing a poisoned line leaves memory alone. -/
@[simp] theorem State.listPoison_mem (s : State) (r addr : Nat) : (s.listPoison r addr).mem = s.mem := by
  unfold State.listPoison
  generalize s.holders r = l
  induction l generalizing s with
  | nil => rfl
  | cons q t ih => rw [List.foldl_cons, ih]; rfl

/-- Storing a line wherever it is held keeps the canonical form. -/
theorem State.putLine_wf (s : State) (r addr : Nat) (l : Bytes) (h : Memory.wf s.mem = true) :
    Memory.wf (s.putLine r addr l).mem = true := by
  unfold State.putLine
  rw [State.noteExtent_mem]
  exact foldl_wf _ _ (fun s _ h => State.putLine1_wf s _ _ _ h) s h

/-- Reading a line keeps the canonical form, whatever it corrects or poisons. -/
theorem State.readLine_wf (s : State) (r addr : Nat) (h : Memory.wf s.mem = true) :
    Memory.wf (s.readLine r addr).2.mem = true := by
  unfold State.readLine
  dsimp only
  split
  · exact h
  · rw [State.event_mem]; exact State.putLine1_wf _ _ _ _ h
  · rw [State.event_mem, State.listPoison_mem]; exact State.putLine_wf _ _ _ _ h
  · exact h

/-- A full line write keeps the canonical form. -/
theorem State.fullLine_wf (s : State) (r addr : Nat) (d : Bytes) (h : Memory.wf s.mem = true) :
    Memory.wf (s.fullLine r addr d).mem = true := by
  unfold State.fullLine
  exact foldl_wf _ _ (fun s _ h => by rw [State.event_mem]; exact h) _ (State.putLine_wf _ _ _ _ h)

/-- A masked line write keeps the canonical form. -/
theorem State.writeLine_wf (s : State) (r addr : Nat) (d : Bytes) (mask : Nat) (h : Memory.wf s.mem = true) :
    Memory.wf (s.writeLine r addr d mask).2.mem = true := by
  unfold State.writeLine
  dsimp only
  split
  · exact h
  · split
    · exact State.fullLine_wf _ _ _ _ h
    · split
      · exact State.putLine_wf _ _ _ _ h
      · rw [State.event_mem]; exact State.putLine_wf _ _ _ _ h
      · rw [State.event_mem, State.listPoison_mem]; exact State.putLine_wf _ _ _ _ h
      · exact State.putLine_wf _ _ _ _ h

/-- Copying a line keeps the canonical form. -/
theorem State.copyLine_wf (s : State) (r p a : Nat) (h : Memory.wf s.mem = true) :
    Memory.wf (s.copyLine r p a).mem = true := by
  unfold State.copyLine
  dsimp only
  split
  · rw [State.modRow_mem]; exact State.putLine1_wf _ _ _ _ (State.readLine_wf _ _ _ h)
  · exact State.putLine1_wf _ _ _ _ (State.readLine_wf _ _ _ h)

/-- Copying a store keeps the canonical form. -/
theorem State.copyLines_wf (s : State) (r p : Nat) (inside : Nat → Bool) (h : Memory.wf s.mem = true) :
    Memory.wf (s.copyLines r p inside).mem = true := by
  unfold State.copyLines
  exact foldl_wf _ _ (fun s _ h => State.copyLine_wf s _ _ _ h) _ (memFilter_wf _ _ h)

/-- Poisoning a word keeps the canonical form. -/
theorem State.poisonWord_wf (s : State) (g w d : Nat) (h : Memory.wf s.mem = true) :
    Memory.wf (s.poisonWord g w d).mem = true := by
  unfold State.poisonWord
  dsimp only
  split <;> exact State.putWord_wf _ _ _ _ _ h

/-- A poisoned word or a stored one stands on the word's nine bytes alone. -/
theorem State.putWord_out (s : State) (g w d c j : Nat) (h : j < wordAt g w ∨ wordAt g w + 9 ≤ j) :
    memGet (s.putWord g w d c).mem j = memGet s.mem j :=
  memGet_memWrite_out _ _ _ _ (by simpa [toLE] using h)

/-- A stored line stands on the line's bytes alone. -/
theorem State.putLine1_out (s : State) (r addr : Nat) (l : Bytes) (j : Nat)
    (h : j < lineAt r addr ∨ lineAt r addr + l.length ≤ j) :
    memGet (s.putLine1 r addr l).mem j = memGet s.mem j := memGet_memWrite_out _ _ _ _ h

end Sys2Proof.Machine
end

