-- ==== Sys2Proof/WellFormed.lean ====
section
/-! DEFINITION. Commands whose operands name things the engine has: ports, queue pairs, supers, cells and so on. `exec` is
total on every command, well-formed or not; this is the sender's side of the contract. -/

namespace Sys2Proof

/-- Bytes of a command packet's DATA are 64-bit lengths at most (17 Table 17-3). -/
def dataWf (d : Option (List Byte)) : Bool :=
  match d with
  | some b => decide (b.length ≤ 0xFFFFFFFF)
  | none => true

/-- A host command names a queue pair and a TAG (17 R429, R432). -/
def hostWf (qp tag : Nat) (d : Option (List Byte)) : Bool := decide (qp < 64) && decide (tag < 65536) && dataWf d

/-- A datagram's addresses and lengths (17 R454). -/
def Datagram.wf (d : Datagram) : Bool :=
  (d.port == 8 || d.port == 9) && decide (d.srcIp < 4294967296) && decide (d.dstIp < 4294967296) &&
    decide (d.srcPort < 65536) && decide (d.dstPort < 65536) && decide (d.payload.length ≤ d.frameLen)

/-- A frame on a site port 0 to 7 (16 R401). -/
def EthFrame.wf (f : EthFrame) : Bool :=
  decide (f.port < 8) && f.dst.length == 6 && f.src.length == 6 && decide (f.ethertype < 65536)

/-- A frame on a sensor port (09 R220). -/
def OshFrame.wf (f : OshFrame) : Bool := decide (f.port < 16)

/-- A rolling part names a super, a region or a shard (19 R486). -/
def RollPart.wf : RollPart → Bool
  | .slots sup => decide (sup < 64)
  | .region idx => decide (idx < 65536)
  | .shard idx => decide (idx < 65536)

/-- Every operand of a command names something the engine has. -/
def Instr.wf : Instr → Bool
  | .standbyRailRises _ | .standbyRailLost _ | .standbyPowerOnTimer _ _ | .buttonShortPress _ _ | .buttonLongPress _ => true
  | .regionsPoweredDown _ | .startupStepComplete _ _ | .keeperBootAttemptTimeout _ => true
  | .regionRegulationTimeout _ sup _ | .keeperReadyReport _ sup => decide (sup < 64)
  | .hifReset _ port _ => decide (port < 2)
  | .hifFlagsRead _ port | .pciePortLost _ port => decide (port < 2)
  | .registerWrite _ port _ _ _ => decide (port < 2)
  | .qpEnable _ port qp _ | .qpDisable _ port qp _ | .dbCq _ port qp _ => decide (port < 2) && decide (qp < 64)
  | .dbSq _ port qp _ _ => decide (port < 2) && decide (qp < 64)
  | .packetAccept _ qp | .netIdleTimeout _ qp => decide (qp < 64)
  | .netOpen _ dg | .netRequest _ dg | .netClose _ dg => dg.wf
  | .arpRequest _ _ | .icmpEchoRequest _ _ | .shortfallRestartTimer _ _ | .mapOptimiseCommit _ _
    | .occDeltaGrant _ _ => true
  | .stateRead _ qp tag d | .waferMapRead _ qp tag d | .storeRead _ qp tag d | .unitQuiesce _ qp tag d
    | .unitPowerOff _ qp tag d | .netConfig _ qp tag d | .timeRead _ qp tag d | .timeIncrSet _ qp tag d
    | .timeStep _ qp tag d | .domainSelect _ qp tag d | .captureArm _ qp tag d | .captureRead _ qp tag d
    | .captureSoft _ qp tag d | .ptpRead _ qp tag d | .sourceDefine _ qp tag d | .phaseRead _ qp tag d
    | .schedArm _ qp tag d | .schedCancel _ qp tag d | .schedRead _ qp tag d | .tsoFireNow _ qp tag d
    | .linkStateRead _ qp tag d | .linkSleep _ qp tag d | .linkWake _ qp tag d | .linkBufWrite _ qp tag d
    | .moduleRead _ qp tag d | .moduleRecordRead _ qp tag d | .moduleSiteWrite _ qp tag d
    | .moduleReattach _ qp tag d | .veMatchRead _ qp tag d | .veMatchSubmit _ qp tag d | .xformWrite _ qp tag d
    | .xformRead _ qp tag d | .trackRead _ qp tag d | .tfeObsRead _ qp tag d | .tfeAssocSubmit _ qp tag d
    | .placeQuery _ qp tag d | .codebookLoad _ qp tag d | .loopCandRead _ qp tag d | .loopCloseSubmit _ qp tag d
    | .mapGraphRead _ qp tag d | .mapPoseWrite _ qp tag d | .mapDistSet _ qp tag d | .edgeRead _ qp tag d
    | .blockedRead _ qp tag d | .occInject _ qp tag d | .routeGoalSet _ qp tag d | .routeCancel _ qp tag d
    | .routeRead _ qp tag d | .routeEventRead _ qp tag d | .routeSubmit _ qp tag d | .layerWrite _ qp tag d
    | .layerCommit _ qp tag d | .layerUpload _ qp tag d | .displayRead _ qp tag d | .panelRead _ qp tag d
    | .poseRead _ qp tag d | .poseWrite _ qp tag d | .agentBufWrite _ qp tag d | .tsnListWrite _ qp tag d
    | .fnModeSet _ qp tag d | .epochCommit _ qp tag d | .epochDiscard _ qp tag d | .epochRead _ qp tag d
    | .faultRead _ qp tag d | .fwRead _ qp tag d | .fwStage _ qp tag d | .fwBootSelect _ qp tag d
    | .memRead _ qp tag d | .memWrite _ qp tag d | .memReadRaw _ qp tag d | .memWriteRaw _ qp tag d =>
    hostWf qp tag d
  | .imageLoad _ qp tag d _ => hostWf qp tag d
  | .waitTimeout _ qp tag => decide (qp < 64) && decide (tag < 65536)
  | .imageAreaWritten _ | .commitEffect _ | .engineCommit _ | .rollingChangeEnd _ | .ppsOutRise _ | .ppsOutFall _
    | .timeWriteTakesEffect _ | .refLost _ | .refRelock _ | .coolantLoss _ | .supplyShortfall _ | .treePauseEnd _
    | .batchClose _ | .queryComplete _ | .blockedRecordDelivered _ | .panelUpdateStepComplete _
    | .quiesceComplete _ => true
  | .entryFires _ id | .armingTakesEffect _ id | .heldArmingReleased _ id => decide (id < 65536)
  | .pulseTrailingEdge _ output => decide (output < 32)
  | .rollingPartApplied _ part => part.wf
  | .encoderCount _ k input _ _ => decide (k < 64) && decide (input < 8)
  | .encoderZEdge _ k input _ => decide (k < 64) && decide (input < 8)
  | .sourceStall _ src => decide (src < 8)
  | .tsiEdge _ k input _ => decide (k < 64) && decide (input < 64)
  | .holdoverEntry _ dom | .ptpDelayReqTimer _ dom | .ptpPdelayReqTimer _ dom => (dom == 1 || dom == 2)
  | .ptpSync _ k port _ | .ptpFollowUp _ k port _ | .ptpAnnounce _ k port _ | .ptpDelayResp _ k port _
    | .ptpPdelayReq _ k port _ | .ptpPdelayResp _ k port _ => decide (k < 64) && decide (port < 10)
  | .overcurrentTrip _ sup _ | .bundleRetryTimer _ sup _ => decide (sup < 64)
  | .overTemperatureTrip _ sup | .provisionalSealExpiry _ sup | .bundleLinkLost _ sup =>
    decide (sup < 64)
  | .keeperWatchdogExpiry _ core => decide (core < 256)
  | .keeperCacheUe _ core _ => decide (core < 256)
  | .spareTestComplete _ gcell _ => decide (gcell < 9216)
  | .cellRebuildComplete _ sup lcell => decide (sup < 64) && decide (lcell < 136)
  | .stageInstanceComplete _ stage _ | .pass1Complete _ stage _ | .pass2Complete _ stage _ =>
    decide (stage < 65536)
  | .foragerTransferComplete _ idx => decide (idx < 65536)
  | .bundleTrained _ sup serial _ => decide (sup < 64) && decide (serial < 18446744073709551616)
  | .storeReady _ row _ => decide (row < 8)
  | .mirrorCopyComplete _ row | .mirrorLinkLost _ row | .mirrorLinkUp _ row => decide (row < 8)
  | .sweepScanEnd _ _ _ => true
  | .recountComplete _ edge => decide (edge < 65536)
  | .repairStart _ agent | .repairComplete _ agent | .fullPlanComplete _ agent | .hostRouteWaitExpiry _ agent
    | .routeRetryTimer _ agent => decide (agent < 65536)
  | .hello _ k f | .poseReq _ k f | .odo _ k f | .routeAck _ k f | .oshData _ k f | .oshEvent _ k f
    | .oshDelayReq _ k f => decide (k < 64) && f.wf
  | .poseAnswer _ port | .tsnListSwitch _ port | .tsnGateEvent _ port => decide (port < 8)
  | .sensorLinkUp _ port | .sensorLinkDown _ port | .sleepIdleTimer _ port | .sleepEntry _ port
    | .sleepOnWindow _ port | .sensorUplinkRelock _ port => decide (port < 16)
  | .mgmtResp _ f | .portState _ f | .sleepCommit _ f | .sleepAbort _ f => f.wf
  | .mgmtTimeout _ target | .attachRetryTimer _ target => decide (target < 272)
  | .frameStart _ head | .hotPlugLost _ head => decide (head < 2)
  | .frameEnd _ head _ | .hotPlugDetect _ head _ => decide (head < 2)
  | .pluggableModuleInserted _ cage _ => decide (cage < 26)
  | .residencyReadIssue _ stage => decide (stage < 65536)

end Sys2Proof
end

