-- ==== Sys2Proof/Tests/Slice0.lean ====
section
/-! SUPPORT. The model's own tests: ill-formed commands, and for every statement states and operands that meet its
hypotheses. -/

namespace Sys2Proof.Tests

open Sys2Proof.Machine

-- One theorem after the other, so that few of them are held in memory at once.
set_option Elab.async false

/-! ### Ill-formed commands -/

theorem test_ill_port : Instr.wf (.hifFlagsRead ⟨0, true, true⟩ 2) = false := by decide
theorem test_ill_qp : Instr.wf (.packetAccept ⟨0, true, true⟩ 64) = false := by decide
theorem test_ill_host : Instr.wf (.stateRead ⟨0, true, true⟩ 64 0 none) = false := by decide
theorem test_ill_tag : Instr.wf (.timeRead ⟨0, true, true⟩ 0 65536 none) = false := by decide
theorem test_ill_dg : Instr.wf (.netOpen ⟨0, true, true⟩ ⟨7, 0, 0, 0, 0, false, 0, []⟩) = false := by decide
theorem test_ill_sup : Instr.wf (.overTemperatureTrip ⟨0, true, true⟩ 64) = false := by decide
theorem test_ill_core : Instr.wf (.keeperWatchdogExpiry ⟨0, true, true⟩ 256) = false := by decide
theorem test_ill_cell : Instr.wf (.spareTestComplete ⟨0, true, true⟩ 9216 true) = false := by decide
theorem test_ill_stage : Instr.wf (.pass1Complete ⟨0, true, true⟩ 65536 []) = false := by decide
theorem test_ill_dom : Instr.wf (.holdoverEntry ⟨0, true, true⟩ 0) = false := by decide
theorem test_ill_step : Instr.wf (.tsiEdge ⟨0, true, true⟩ 64 0 true) = false := by decide
theorem test_ill_part : Instr.wf (.rollingPartApplied ⟨0, true, true⟩ (.slots 64)) = false := by decide
theorem test_ill_head : Instr.wf (.frameStart ⟨0, true, true⟩ 2) = false := by decide
theorem test_ill_row : Instr.wf (.mirrorLinkUp ⟨0, true, true⟩ 8) = false := by decide
theorem test_ill_frame : Instr.wf (.hello ⟨0, true, true⟩ 0 ⟨8, true, [], [], none, 0, []⟩) = false := by decide
theorem test_ill_osh : Instr.wf (.oshData ⟨0, true, true⟩ 0 ⟨16, [], []⟩) = false := by decide
theorem test_ill_target : Instr.wf (.mgmtTimeout ⟨0, true, true⟩ 272) = false := by decide
theorem test_ill_cage : Instr.wf (.pluggableModuleInserted ⟨0, true, true⟩ 26 0) = false := by decide

/-! ### Small states -/

/-- A command at the model's first tick, with the host's memory working. -/
def x0 : At := ⟨0, true, true⟩

/-- Both PCI Express ports up and every interpreter ready. -/
def hostUp : HostSt :=
  { HostSt.reset with
    fastReady := true, keeperReady := true
    ports := [{ PciePort.down with up := true }, { PciePort.down with up := true }] }

/-- An enabled queue pair 0 of 4 slots and 4 entries on port 0, with some packets unread. -/
def qp0 (unread : List (Option Bytes)) : QueuePair :=
  { QueuePair.blank with size := 0x00010202, cqPhase := true, unread := unread }

/-- The host interface with queue pair 0 enabled. -/
def hostOn (unread : List (Option Bytes)) : HostSt := { hostUp with qps := qp0 unread :: List.replicate 63 QueuePair.blank }

/-- An accepted command of queue pair 0 with TAG 5. -/
def cmd (op : Nat) (params : Bytes) (p : Prog) : Cmd :=
  { qp := 0, tag := 5, opcode := op, params := params, noIrq := false, fence := false, deadline := .none, timeout := (0, 0), localC := 0,
    activeC := 0, latch := [], resultBuf := 64,
    sqHead := 1, tick := 0, gen := 0, net := none, synth := false, prog := p }

/-- The unit in RUN with the timebase running and one accepted command. -/
def ran (op : Nat) (params : Bytes) (p : Prog) : State :=
  { State.reset with
    unit := { State.reset.unit with state := .run, step := 16 }
    time := { State.reset.time with running := true }
    host := { hostOn [] with accepted := [cmd op params p] } }

/-- A host command is accepted whatever its opcode and parameters. -/
theorem ran_accepted (op : Nat) (params : Bytes) : Accepted ((ran op params .fresh).enter x0).host 0 5 op (cmd op params .fresh) :=
  ⟨⟨rfl, rfl, rfl, rfl, rfl, rfl, rfl, rfl, rfl⟩, Bool.or_true _⟩

theorem wit_step_front : ({ State.reset with pending := [.refLost ⟨0, true, true⟩] }).pending =
    .refLost ⟨0, true, true⟩ :: [] := rfl
theorem wit_step_idle : State.reset.pending = [] := rfl

/-! ### The host interface (17) -/

def upS : State := { State.reset with host := hostUp }
def onS (unread : List (Option Bytes)) : State := { State.reset with host := hostOn unread }

theorem wit_registers : ((upS.enter x0).port 1).up = true ∧ ((upS.enter x0).qp 63).enabled = false := by decide
theorem wit_qp_enable : ((upS.enter x0).port 0).up = true ∧ 63 < (upS.enter x0).host.qps.length ∧ bitAt 0x10C0A 16 = true ∧
    ((upS.enter x0).qp 63).enabled = false ∧ bitsOf 0x10C0A 17 17 = 0 ∧ (upS.enter x0).host.held = [] ∧
    bitsOf 0x10C0A 3 0 = 10 ∧ bitsOf 0x10C0A 11 8 = 12 ∧ ((upS.enter x0).qp 63).sqBase.toNat % 4096 = 0 ∧
    ((upS.enter x0).qp 63).cqBase.toNat % 4096 = 0 := by decide
theorem wit_qp_enable_bad : bitAt 0x1010B 16 = true ∧ bitsOf 0x1010B 17 17 = 0 ∧ bitsOf 0x1010B 3 0 = 11 := by decide
theorem wit_qp_enable_port : bitAt 0x30101 16 = true ∧ bitsOf 0x30101 17 17 ≠ 0 := by decide
theorem wit_qp_disable : (((onS []).enter x0).port 0).up = true ∧ bitAt 0x202 16 = false ∧
    (((onS []).enter x0).qp 0).enabled = true ∧
    (BitVec.ofNat 32 0x202 &&& 0x3F070F0F) ||| 0x00010000 = (((onS []).enter x0).qp 0).size &&& 0x3F070F0F := by decide
theorem wit_doorbells : 0 < ((onS []).enter x0).host.qps.length ∧ (((onS []).enter x0).port 0).up = true ∧
    (((onS []).enter x0).qp 0).enabled = true ∧ (((onS []).enter x0).qp 0).network = false ∧
    (((onS []).enter x0).qp 0).port = 0 ∧ 3 < (((onS []).enter x0).qp 0).sqSlots ∧
    3 < (((onS []).enter x0).qp 0).cqSlots ∧ ((onS []).enter x0).host.held = [] ∧
    (3 + (((onS []).enter x0).qp 0).sqSlots - (((onS []).enter x0).qp 0).sqTail) % (((onS []).enter x0).qp 0).sqSlots = 3 := by
  decide
theorem wit_doorbell_outside : (((onS []).enter x0).qp 0).sqSlots ≤ 4 ∧ (((onS []).enter x0).port 1).up = true ∧
    (((onS []).enter x0).qp 0).port ≠ 1 := by decide

/-- A TIME_READ packet of queue pair 0, TAG 5, with no check set: the words of 17 Table 17-3. -/
def packet : Bytes := toLE 2 0x0201 ++ toLE 2 5 ++ toLE 1 0 ++ toLE 1 0 ++ toLE 2 0 ++ toLE 16 0 ++ toLE 8 64

def onR : State := { onS [some packet] with unit := { State.reset.unit with state := .run, step := 16 } }

theorem wit_packet : ((onR.enter x0).qp 0).enabled = true ∧ ((onR.enter x0).qp 0).network = false ∧
    ((onR.enter x0).qp 0).unread = some packet :: [] ∧ 32 + (parsePacket packet).plen ≤ packet.length ∧
    (onR.enter x0).qpTurn 0 = true ∧ (onR.enter x0).qpTurn 1 = false ∧
    (onR.enter x0).refusal (parsePacket packet) 0 false true = none := by decide
theorem wit_packet_refused : (({ onR with host := hostOn [some (toLE 2 0x0D01 ++ toLE 30 0)] }.enter x0).refusal
      (parsePacket (toLE 2 0x0D01 ++ toLE 30 0)) 0 false true).isSome = true ∧
    ({ onR with host := hostOn [some (toLE 2 0x0D01 ++ toLE 30 0)] }.enter x0).qpTurn 0 = true := by decide
theorem wit_plen : 4064 < (parsePacket (toLE 6 0 ++ toLE 2 4065)).plen := by decide
theorem wit_bad_opcode : (parsePacket (toLE 2 0x0D01)).plen ≤ 4064 ∧ opSpec (parsePacket (toLE 2 0x0D01)).opcode = none := by
  decide

/-- A datagram of a kind to queue pair 1 from 10.0.0.1 port 7, TSEQ `k`. -/
def dgram (kind k : Nat) : Datagram :=
  { port := 8, srcIp := 0x0A000001, srcPort := 7, dstIp := 0xC0A8C80A, dstPort := 49170, fragmented := false, frameLen := 9018,
    payload := toLE 1 kind ++ toLE 1 1 ++ toLE 2 0 ++ toLE 4 k ++ toLE 8 0 ++ packet }

/-- Queue pair 1 open on the network, waiting for TSEQ 3, with 2 completed and as many requests unread as given. -/
def netQp (waiting : Nat) : QueuePair :=
  { QueuePair.blank with
    size := 0x00090000, unread := List.replicate waiting (some packet),
    net := some { port := 8, ip := 0x0A000001, udp := 7, tseq := 3, recent := [(2, none)], lastTick := 0 } }

def netS (waiting : Nat) : State :=
  { State.reset with host := { hostUp with qps := QueuePair.blank :: netQp waiting :: List.replicate 62 QueuePair.blank } }

theorem wit_net_open : (upS.enter x0).dgOk (dgram 0 0) = true ∧ fieldN (dgram 0 0).payload 1 1 = 1 ∧
    fieldN (dgram 0 0).payload 0 1 = 0 ∧ ((upS.enter x0).qp 1).enabled = false := by decide
theorem wit_net_request : ((netS 63).enter x0).dgOk (dgram 1 3) = true ∧ ((netS 63).enter x0).fromPeer (dgram 1 3) = true ∧
    fieldN (dgram 1 3).payload 4 4 = 3 ∧ (((netS 63).enter x0).qp 1).unread.length < 64 ∧
    (((netS 63).enter x0).qp 1).enabled = true := by decide
theorem wit_net_full : ((netS 64).enter x0).fromPeer (dgram 1 3) = true ∧ 64 ≤ (((netS 64).enter x0).qp 1).unread.length := by
  decide
theorem wit_net_ahead : ((netS 0).enter x0).fromPeer (dgram 1 4) = true ∧ fieldN (dgram 1 4).payload 4 4 ≠ 3 := by decide
theorem wit_net_repeat : [(2, some (cmd 0 [] .fresh))].find? (fun r => r.1 == 2) = some (2, some (cmd 0 [] .fresh)) ∧
    ((netS 0).enter x0).fromPeer (dgram 1 2) = true ∧ fieldN (dgram 1 2).payload 4 4 = 2 := by decide
theorem wit_net_close : ((netS 0).enter x0).fromPeer (dgram 3 0) = true ∧ fieldN (dgram 3 0).payload 0 1 = 3 := by decide
theorem wit_net_idle : 0 + 7500000000 ≤ ((netS 0).enter ⟨7500000000, true, true⟩).time.tick := by decide
theorem wit_arp : (upS.enter x0).netUp 9 = true ∧ ((upS.enter x0).netPort 9).ip = 0xC0A8C80B := by decide
theorem wit_port_lost : (({ onS [] with wafer := { State.reset.wafer with
    supers := List.replicate 64 { Super.blank with st := 1 } } }.enter x0).port 0).up = true ∧
    ({ onS [] with wafer := { State.reset.wafer with
      supers := List.replicate 64 { Super.blank with st := 1 } } }.enter x0).unsealed 3 = false := by decide
theorem wit_wait_timeout : Held ((ran 0x0206 [] (.waiting 0 0)).enter ⟨1, true, true⟩).host 0 5 0x0206 (.waiting 0 0)
    (cmd 0x0206 [] (.waiting 0 0)) ∧ 0 < ((ran 0x0206 [] (.waiting 0 0)).enter ⟨1, true, true⟩).counter 0 :=
  ⟨⟨rfl, rfl, rfl, rfl, rfl, rfl, rfl, rfl, rfl⟩, by decide⟩


/-! ### System commands (18) -/

theorem wit_completion : (ran 0x0101 [] .fresh).findCmd 0 5 = some (cmd 0x0101 [] .fresh) ∧
    ((ran 0x0101 [] .fresh).qp 0).gen = (cmd 0x0101 [] .fresh).gen := ⟨rfl, rfl⟩
theorem wit_state_read : Accepted ((ran 0x0101 [] .fresh).enter x0).host 0 5 0x0101 (cmd 0x0101 [] .fresh) := ran_accepted _ _
theorem wit_net_config : fieldN (toLE 4 9 ++ toLE 4 1 ++ toLE 4 30 ++ toLE 4 1) 0 1 = 9 ∧
    ((ran 0x0106 (toLE 16 9) .fresh).enter x0).host.netPorts.length = 2 := by decide
theorem wit_fault_read : ({ ran 0x0B01 (toLE 8 0) .fresh with flash := { FlashSt.reset with
    ring := [⟨7, 0, 1, 0, 0, 0, [], 0⟩] } }.enter x0).flash.ring = ⟨7, 0, 1, 0, 0, 0, [], 0⟩ :: [] := by decide
theorem wit_fw_stage : fieldN (toLE 8 2 ++ toLE 8 16777216) 2 1 = 0 ∧ fieldN (toLE 8 2 ++ toLE 8 16777216) 0 1 < 3 ∧
    ((ran 0x0B03 [] .fresh).enter x0).fwOpen 2 0 = none ∧ fieldN (toLE 8 2 ++ toLE 8 16777216) 8 4 ≤ 16777216 ∧
    fieldN (toLE 8 2 ++ toLE 8 16777216) 12 4 = 0 := by decide


/-! ### Time (04) -/

def running : State := { State.reset with time := { State.reset.time with running := true } }
theorem wit_counters : running.time.tick ≤ (⟨125000000, true, true⟩ : At).tick ∧ running.time.running = true ∧
    running.time.autoAt = none ∧ running.due = [] ∧ 0 + 125000000 * 8 * 4294967296 ≤ 1000000000 * 4294967296 := by decide
theorem wit_stopped : State.reset.time.running = false ∧ State.reset.time.autoAt = none := by decide
theorem wit_time_cmds : ((ran 0x0201 [] .fresh).enter x0).wafer.pause = none := by decide
theorem wit_time_step_to : fieldN (toLE 24 0) 1 1 = 0 := by decide
theorem wit_time_step_by : fieldN ([1, 1] ++ toLE 22 0) 1 1 ≠ 0 ∧
    0 ≤ ((((ran 0x0203 [] .fresh).enter x0).atEffect 1).value : Int) + stepOffset ([1, 1] ++ toLE 22 0) ∧
    (((ran 0x0203 [] .fresh).enter x0).atEffect 1).value + 0 < 2 ^ 64 * secU ∧ ((ran 0x0203 [] .fresh).enter x0).time.writes = [] := by
  decide
theorem wit_time_step_range : ((((ran 0x0203 [] .fresh).enter x0).atEffect 1).value : Int) +
    stepOffset ([1, 1] ++ toLE 6 0 ++ toLE 8 0xFFFFFFFFFFFFFF00 ++ toLE 8 0) < 0 := by decide
theorem wit_domain_select : (({ ran 0x0204 [] .fresh with time := { running.time with
    domA := { running.time.domA with valid := true } } }.enter x0).dom 1).valid = true ∧
    (((ran 0x0204 [] .fresh).enter x0).dom 2).valid = false := by decide
theorem wit_write_due : (({ running with time := { running.time with
    writes := [⟨1, .stepBy (-5), some 3, none⟩], domA := { running.time.domA with value := 7 } } }.enter
      ⟨3, true, true⟩).time.writes = [⟨1, .stepBy (-5), some 3, none⟩]) ∧
    0 ≤ ((({ running with time := { running.time with domA := { running.time.domA with value := 7 } } }.enter
      ⟨3, true, true⟩).dom 1).value : Int) + -5 := by decide
theorem wit_holdover : (({ running with time := { running.time with domB := { running.time.domB with holdover := false } } }.enter
    ⟨250000000, true, true⟩).dom 2).holdover = false ∧
    ((running.enter ⟨250000000, true, true⟩).dom 2).lastWrite + (running.enter ⟨250000000, true, true⟩).time.settings.holdoverB *
      4294967296 ≤ (running.enter ⟨250000000, true, true⟩).time.localC ∧ running.time.writes = [] := by decide
def capS (o : Option Owner) (last : Option Nat) : State :=
  { ran 0x0205 [] .fresh with cap := { CapSt.reset with inputs := [(63, ⟨o, 2, 0, last, 0⟩)] } }
theorem wit_tsi_edge : ((capS (some (.queue 0)) none).enter x0).time.running = true ∧
    ((capS (some (.queue 0)) none).enter x0).unsealed (edgeSuper 63) = true ∧
    (((capS (some (.queue 0)) none).enter x0).capIn 63).owner = some (.queue 0) ∧
    bitAt (((capS (some (.queue 0)) none).enter x0).capIn 63).edges 1 = true ∧
    (((capS (some (.queue 0)) none).enter x0).capBuf 0).recs.length < 256 ∧
    ((capS (some (.queue 0)) none).enter x0).waitingRead 0 0x0206 = none := by decide
theorem wit_records : (∀ e ∈ [((5 : Nat), toLE 64 0)], e.1 ≤ 5) ∧ (∀ e ∈ [((6 : Nat), toLE 64 0)], 5 < e.1) ∧
    synthRec (toLE 64 0) = false := by decide
theorem wit_tsi_near : (((capS (some (.queue 0)) (some 0)).enter x0).capIn 63).last = some 0 ∧
    ((capS (some (.queue 0)) (some 0)).enter x0).counterAt 0 63 < 0 + 34359738368 := by decide
theorem wit_tsi_no_owner : ((State.reset.enter x0).capIn 64).owner = none := by decide
theorem wit_capture_arm : (((capS (some (.queue 9)) none).enter x0).capIn (capIndex (fieldN [0, 63, 3, 1] 0 1)
    (fieldN [0, 63, 3, 1] 1 1))).owner = some (.queue 9) ∧ fieldN [0, 63, 3, 1] 3 1 = 1 ∧
    ((capS none none).enter x0).stagedNames 63 = false ∧ (((capS none none).enter x0).capIn 63).owner = none := by decide
theorem wit_capture_read : fieldN ([1, 0, 0] ++ toLE 9 0) 2 1 = 0 ∧ (((ran 0x0206 [] .fresh).enter x0).capBuf 0).recs = [] ∧
    (((ran 0x0207 [] .fresh).enter x0).capBuf 0).recs.length < 256 ∧
    ((ran 0x0207 [] .fresh).enter x0).waitingRead 0 0x0206 = none := by decide
def ppsS : State := { running with time := { running.time with
    localC := 34359738368, domA := { running.time.domA with value := 4294967296000000000, valid := true } } }
theorem wit_pps_rise : (ppsS.enter x0).time.settings.ppsDomain = 1 ∧ ((ppsS.enter x0).dom 1).valid = true ∧
    (ppsS.enter x0).unsealed 15 = true ∧ (ppsS.enter x0).time.ppsMarked = none ∧
    (ppsS.enter x0).counterPrev 1 / 4294967296000000000 < (ppsS.enter x0).counter 1 / 4294967296000000000 := by decide
theorem wit_pps_fall : ({ running with time := { running.time with ppsHigh := true } }.enter x0).time.ppsHigh = true ∧
    (running.enter x0).time.ppsFall < (running.enter x0).time.localC + 34359738368 := by decide
theorem wit_reference : ({ running with time := { running.time with
    settings := { running.time.settings with refExternal := true }, refPresent := true, refFree := false } }.enter
      x0).time.refFree = false := by decide


/-! ### Phase sources and the schedule (03) -/

/-- A running encoder source on ENC0. -/
def encSrc : Source := { Source.blank with
  defn := { SourceDef.disabled with kind := 1, units := 4, stride := 1, stallTime := 10, period := 65536000000 }, st := .running, seen := 5 }
/-- The unit in RUN with one accepted command and source PS0 an encoder. -/
def schedS (op : Nat) (params : Bytes) : State := { ran op params .fresh with
  sched := { State.reset.sched with sources := encSrc :: List.replicate 15 Source.blank } }
/-- SCHED_ARM's parameters: any super, relative target of one cycle, a snapshot of PS0. -/
def armP : Bytes := [255] ++ toLE 7 0 ++ [1] ++ toLE 7 0 ++ ([0, 0, 2, 0] ++ toLE 28 0) ++ toLE 8 1 ++ toLE 8 0
/-- An armed entry of queue pair 0. -/
def ent0 : Entry := { parseEntry ([0, 0, 2, 0] ++ toLE 4 0 ++ toLE 8 10 ++ toLE 16 0) with st := .armed, owner := .queue 0 }
/-- The last entry of super 0 armed by queue pair 0, one command waiting to begin. -/
def entS (op : Nat) (params : Bytes) (e : Entry) : State :=
  let s := schedS op params
  { s with sched := { s.sched with entries := [(255, e)] } }
theorem wit_source_define : ((schedS 0x0209 []).enter x0).hostArmedOn 0 = false ∧
    ((entS 0x0209 [] ent0).enter x0).hostArmedOn 0 = true := by decide
theorem wit_sched_arm : fieldN armP 0 1 = 255 ∧ ((parseEntry (sliceB armP 16 32)).tkind = 0 ∧ (parseEntry (sliceB armP 16 32)).src = 0) ∧
    (((schedS 0x020B armP).enter x0).source 0).st = .running := by decide
theorem wit_sched_alloc : (((schedS 0x020B armP).enter x0).allocEntry 255 2 0) = .ok 224 := rfl
theorem wit_sched_carrier : 0 ∉ ((schedS 0x020B armP).enter x0).carriers 3 0 := by decide +kernel
theorem wit_sched_error :
    (((schedS 0x020B armP).modSuper 0 fun u => { u with st := 1 }).enter x0).allocEntry 0 2 0 = .error 0x0801 := rfl
theorem wit_sched_cancel : ((entS 0x020C [255, 0] ent0).enter x0).entry (fieldN [255, 0] 0 2) = some ent0 ∧
    ((entS 0x020C [255, 0] ent0).enter x0).unsealed (255 / 256) = true ∧ ent0.owner = .queue 0 ∧ ent0.action = 2 := by decide
theorem wit_sched_read : ((entS 0x020D [255, 0] ent0).enter x0).entryFree 255 = false ∧
    ((schedS 0x020D [255, 0]).enter x0).entryFree 255 = true := by decide
theorem wit_tso_fire : ((ran 0x020E [4, 3] .fresh).enter x0).unsealed 12 = true ∧
    4 < ((ran 0x020E [4, 3] .fresh).enter x0).sched.tso.length ∧ fieldN [4, 3] 1 1 ≤ 3 ∧
    (((ran 0x020E [4, 3] .fresh).enter x0).tso 4).due = [] := by decide
/-- ENC0 at level (0, 0), PS0 counting it. -/
def encS (d : SourceDef) : State := { running with sched := { State.reset.sched with
  sources := { encSrc with defn := d } :: List.replicate 15 Source.blank } }
theorem wit_encoder : ((encS encSrc.defn).enter x0).encSources 0 = [0] ∧ ((encS encSrc.defn).enter x0).unsealed 14 = true ∧
    ((encS encSrc.defn).enter x0).wafer.pause = none ∧ (((encS encSrc.defn).enter x0).encIn 0).a = false ∧
    (((encS encSrc.defn).enter x0).encIn 0).lastA = none ∧ (((encS encSrc.defn).enter x0).encIn 0).z = false ∧
    (((encS encSrc.defn).enter x0).encIn 0).lastZ = none := by decide
/-- Input 0 with its last accepted A edge 20 ns and 19 ns ago, the level held low. -/
def encE (ns : Nat) : EncIn :=
  { a := false, b := false, z := false, pinA := false, pinB := false, pinZ := false, lastA := some (100 - ns), lastB := none
    lastZ := none }
theorem wit_encoder_edge : ((encE 0).a != (({ encE 0 with lastA := none }).step true false 100).a) ≠
      ((encE 0).b != (({ encE 0 with lastA := none }).step true false 100).b) ∧
    ((encE 0).a != ((encE 0).step true false 100).a) = ((encE 0).b != ((encE 0).step true false 100).b) ∧
    (100 : Nat) < 100 + 20 * 4294967296 := by decide
theorem wit_encoder_z : (((encS { encSrc.defn with zUse := true, zOffset := 2 }).enter x0).source 0).defn.zUse = true := by decide
theorem wit_stall : (((encS encSrc.defn).enter ⟨10000000, true, true⟩).source 0).lastEvent +
    (((encS encSrc.defn).enter ⟨10000000, true, true⟩).source 0).defn.stall ≤ ((encS encSrc.defn).enter ⟨10000000, true, true⟩).time.localC ∧
    (((encS encSrc.defn).enter ⟨10000000, true, true⟩).source 0).st = .running := by decide
theorem wit_stall_event : (((encS encSrc.defn).enter x0).source 0).willUse [⟨0, 1, 3, [], [], true, 0, 1, 1, true⟩] ≠ [] ∧
    ((encS encSrc.defn).enter x0).sched.waiting = [] := by decide
theorem wit_stall_synth : (((encS { encSrc.defn with synth := true }).enter x0).source 0).defn.synth = true := by decide
/-- A unit in RUN at tick 1 whose super 0 holds one entry. -/
def firing (e : Entry) : State := { entS 0x020B [] e with time := { running.time with tick := 1, localC := 8 * 4294967296 } }
/-- PS0 a synthetic source of 1 us. -/
def synthS (e : Entry) : State := { firing e with sched := { (firing e).sched with
  sources := { Source.blank with defn := { SourceDef.disabled with kind := 4, period := 65536000 }, st := .running } :: List.replicate 15 Source.blank } }
theorem wit_arming : ((firing { ent0 with st := .arming, cmd := some (0, 5) }).enter x0).entry 255 =
    some { ent0 with st := .arming, cmd := some (0, 5) } ∧ ent0.tick < ((firing ent0).enter x0).time.tick ∧ ent0.tkind = 0 := by decide
theorem wit_turn : ((firing ent0).enter x0).turnOf 255 = true ∧
    ({ firing { ent0 with owner := .image, cmd := none } with unit := { running.unit with state := .quiesce } }.enter
      x0).unit.state = .quiesce := by decide
theorem wit_turn_lower : (({ firing ent0 with sched := { (firing ent0).sched with
    entries := [(3, { ent0 with st := .arming }), (255, ent0)] } }).enter x0).turnOf 255 = false := by decide
theorem wit_held : (((ran 0 [] .fresh).enter x0).source 0).st ≠ .starting := by decide
theorem wit_late : (0 : Int) ≤ ((firing { ent0 with target := 0 }).enter x0).lateness { ent0 with target := 0 } 0 := by decide
theorem wit_fires : 0 < dphase { ent0 with target := 500 }.target (((synthS ent0).enter x0).phasePrev 0 0) ∧
    dphase { ent0 with target := 500 }.target (((synthS ent0).enter x0).phase 0) ≤ 0 := by decide
/-- Output 0 high, with its falling edge to come and none due. -/
def pulseS : State := { running with sched := { running.sched with
  tso := [{ level := true, due := [], trails := [⟨0, 1, 5, 0⟩] }] } }
theorem wit_pulse : ((pulseS.enter x0).tso 0).trails = [⟨0, 1, 5, 0⟩] ∧ ((pulseS.enter x0).tso 0).due = [] ∧
    5 < (pulseS.enter x0).time.localC + 8 * 4294967296 ∧ 0 < (pulseS.enter x0).sched.tso.length := by decide


/-! ### Power, sealing and start-up (06, 21) -/

/-- The unit in STANDBY after step 4. -/
def standbyS : State := { State.reset with unit := { State.reset.unit with state := .standby, step := 4, step4Done := true } }
theorem wit_power_on : (standbyS.enter x0).unit.state = .standby ∧ (standbyS.enter x0).unit.step4Done = true ∧
    (standbyS.enter x0).unit.fusesBad = false := by decide
theorem wit_power_held : ({ standbyS with unit := { standbyS.unit with step4Done := false } }.enter x0).unit.step4Done = false := by decide
theorem wit_rail : (State.reset.enter x0).unit.state = .off ∧ (State.reset.enter x0).unit.shortfall = false := by decide
theorem wit_shortfall_restart : ({ standbyS with unit := { standbyS.unit with shortfall := true, fusesBad := true } }.enter x0).unit.shortfall = true := by decide
theorem wit_long_press : ((ran 0 [] .fresh).enter x0).unit.state = .run ∧
    ({ standbyS with unit := { standbyS.unit with state := .quiesce } }.enter x0).unit.state = .quiesce ∧
    ({ standbyS with unit := { standbyS.unit with state := .ready } }.enter x0).unit.state = .ready := by decide
theorem wit_regions : ({ standbyS with unit := { standbyS.unit with state := .ready, poweringDown := true } }.enter x0).unit.poweringDown = true ∧
    (standbyS.enter x0).unit.poweringDown = false := by decide
theorem wit_hif_reset : (((ran 0 [] .fresh).enter x0).port 0).up = true ∧ (0xA501).testBit 0 = true ∧ 0xA501 / 256 % 256 = 0xA5 ∧
    (State.reset.enter x0).port 0 = PciePort.down := by decide
/-- In BRINGUP at a step. -/
def bringS (n : Nat) : State := { State.reset with unit := { State.reset.unit with state := .bringup, step := n } }
/-- What a step found when all is well. -/
def rep0 : StepReport := StepReport.mk none true true [] false [0] false [] [] [] [] [] true
theorem wit_steps : ((bringS 5).enter x0).unit.poweringDown = false ∧ ((bringS 5).enter x0).unit.step = 5 ∧
    ((bringS 6).enter x0).unit.state = .bringup ∧ 0 < ((bringS 5).enter x0).host.ports.length := by decide
theorem wit_paths : ({ State.reset with wafer := { State.reset.wafer with paths := some ⟨[], []⟩ } }).wafer.paths = some ⟨[], []⟩ ∧
    (9215 : Nat) < 9216 := by decide
/-- The worked case of 05 R132: S(5,2) sealed, a transfer from C(3,7) of S(6,2) to C(10,2) of S(1,6), 120 hops in 244 cycles. -/
theorem test_path_worked : ((PathBasis.mk [21] []).path 3211 7178).length = 120 ∧
    pathCycles ((PathBasis.mk [21] []).path 3211 7178) = 244 ∧
    lastSite (siteOf 3211) ((PathBasis.mk [21] []).path 3211 7178) = siteOf 7178 := by decide +kernel
/-- The same path never enters the sealed super, and takes the row below its block. -/
theorem test_path_around : (((PathBasis.mk [21] []).path 3211 7178).all fun h => h.to_.sup != 21) = true ∧
    (((PathBasis.mk [21] []).path 3211 7178).any fun h => h.to_.y == 36) = true := by decide +kernel
theorem wit_step7 : ((bringS 7).enter x0).unit.step = 7 ∧ rep0.failedKeepers = [] := by decide
/-- Some firmware image that needs nothing. -/
def fw0 : FwImage := { level := 1, maker := 0, model := 0, prov := [⟨6, 1, 1⟩], reqs := [], pairs := [] }
theorem wit_step9 : ((bringS 9).enter x0).fw.micro = none ∧ rep0.loadOk = true ∧
    ({ bringS 9 with fw := { State.reset.fw with micro := some fw0 } }.enter x0).fw.micro = some fw0 ∧
    firstUnmet fw0.provides ((((bringS 9).enter x0).fw.bootImg.map FwImage.reqs).getD []) = none := by decide
theorem wit_step4 : ({ standbyS with unit := { standbyS.unit with step4Done := false } }.enter x0).unit.powerOnHeld = false ∧
    rep0.fuses = none := by decide
theorem wit_step5_ref : ({ bringS 5 with time := { running.time with settings := { TimeSettings.default with refExternal := true } } }.enter
    x0).time.settings.refExternal = true ∧ rep0.refPresent = false := by decide
theorem wit_step11 : ({ bringS 11 with fw := { State.reset.fw with held := some TimeSettings.default } }.enter x0).fw.held.isSome = true ∧
    ((bringS 11).enter x0).fw.held = none := by decide
theorem wit_ready_report : ({ bringS 8 with fw := { State.reset.fw with trying := some (0, 1, false) } }.enter x0).fw.trying =
    some (0, 1, false) ∧ ((bringS 8).enter x0).unsealed 3 = true ∧ (((bringS 8).enter x0).super 3).keepers ≠ 0 := by decide
/-- The unit in RUN with every region powered. -/
def poweredS : State := { ran 0 [] .fresh with unit := { (ran 0 [] .fresh).unit with regionsOn := List.range 64 } }
theorem wit_trip : 27 ∈ (poweredS.enter x0).unit.regionsOn ∧ (poweredS.enter x0).unsealed 27 = true ∧
    (poweredS.enter x0).wafer.supers.length = 64 ∧ 7 ≤ (poweredS.enter x0).unit.step := by decide
theorem wit_trip_off : 27 ∉ (State.reset.enter x0).unit.regionsOn := by decide
theorem wit_regulation : 5 ∈ ({ bringS 5 with unit := { (bringS 5).unit with toPower := [5] } }.enter x0).unit.toPower := by decide
/-- Super 5 sealed provisionally. -/
def provS : State := (poweredS.modSuper 5 fun u => { u with st := 1, provisional := some 0 })
theorem wit_expiry : ((provS.enter ⟨125000000, true, true⟩).super 5).st = 1 ∧
    ((provS.enter ⟨125000000, true, true⟩).super 5).provisional = some 0 ∧
    0 + 125000000 ≤ (provS.enter ⟨125000000, true, true⟩).time.tick ∧
    5 ∉ (provS.enter ⟨125000000, true, true⟩).threeTripped ∧ (provS.enter x0).time.tick < 0 + 125000000 := by decide
theorem wit_three : ({ provS with wafer := { provS.wafer with trips := [(2, 5), (1, 6), (0, 7)] } }.enter x0).threeTrips = true ∧
    5 ∈ ({ provS with wafer := { provS.wafer with trips := [(2, 5), (1, 6), (0, 7)] } }.enter x0).threeTripped := by decide
theorem wit_pause_end : ({ poweredS with wafer := { poweredS.wafer with pause := some ⟨0, 38, [27]⟩ } }.enter x0).wafer.pause =
    some ⟨0, 38, [27]⟩ := by decide
/-- A spare of super 0 under test for logical cell 3. -/
def spareS : State := { poweredS with cells := { poweredS.cells with testing := [(3, 140)] } }
theorem wit_spare : (spareS.enter x0).cells.testing = [(3, 140)] ∧ ((spareS.enter x0).super 0).sites.length = 144 ∧
    (spareS.enter x0).unsealed 0 = true := ⟨rfl, rfl, rfl⟩
theorem wit_rebuild : ({ poweredS with cells := { poweredS.cells with rebuilding := [136 * 2 + 7] } }.enter x0).cells.rebuilding =
    [136 * 2 + 7] ∧ (poweredS.enter x0).ep.image = none ∧ (poweredS.enter x0).cells.due = [] := by decide
theorem wit_keeper : (poweredS.enter x0).unsealed (13 / 4) = true ∧ ((poweredS.enter x0).super (13 / 4)).keepers.testBit 1 = true ∧
    8 ≤ (poweredS.enter x0).unit.step ∧ (poweredS.enter x0).route.jobs = [] := by decide
theorem wit_keeper_cmd : (cmd 0x0104 [] .fresh).keeper = true ∧ ((ran 0x0104 [] .fresh).enter x0).host.accepted = [cmd 0x0104 [] .fresh] := by decide
/-- The unit in a state with one accepted command. -/
def inState (st : UnitState) (op : Nat) : State := { ran op [] .fresh with unit := { (ran op [] .fresh).unit with state := st } }
theorem wit_quiesce_cmd : ((inState .ready 0x0104).enter x0).unit.state = .ready ∧
    ((inState .quiesce 0x0104).enter x0).unit.state = .quiesce ∧ ((inState .run 0x0104).enter x0).route.jobs = [] := by decide
theorem wit_quiesce_done : ((inState .quiesce 0).enter x0).stg.runs = [] ∧ ((inState .quiesce 0).enter x0).stg.old = [] ∧
    ((inState .quiesce 0).enter x0).place.sweep = none ∧ ((inState .quiesce 0).enter x0).unit.powerOffPending = false := by decide


/-! ### The sensor links and modules (09, 10) -/

/-- A sensor port that is up, its group in a state. -/
def upPort (g : Group) : SensorPort := { SensorPort.down with up := true, group := g, modulesUp := [2] }
/-- The unit in RUN, port SP0 up, one accepted command. -/
def linkS (op : Nat) (params : Bytes) (g : Group) : State := { ran op params .fresh with
  link := { LinkSt.reset with ports := upPort g :: List.replicate 15 SensorPort.down } }
theorem wit_link_state : fieldN [1, 0, 0, 0] 0 2 = 2 ^ 0 := by decide
theorem wit_link_buf : ((linkS 0x0304 [] .awake).enter x0).ep.image = none := by decide
theorem wit_link_sleep : ((linkS 0x0302 [0] .awake).enter x0).spUp 0 = true ∧ (((linkS 0x0302 [0] .awake).enter x0).sport 0).group = .awake ∧
    0 < ((linkS 0x0302 [0] .awake).enter x0).link.ports.length ∧ ((linkS 0x0302 [1] .awake).enter x0).spUp 1 = false := by decide
theorem wit_link_wake : (((linkS 0x0303 [0] .asleep).enter x0).sport 0).group = .asleep ∧
    (((linkS 0x0303 [0] .asleep).enter x0).sport 0).wakeSent = false := by decide
/-- A frame of a type from the hub of SP0. -/
def hubFrame (type : Nat) (payload : Bytes) : OshFrame := { port := 0, start := oshStart, bytes := oshFrame type 256 0 0 0 payload }
theorem wit_idle : ((linkS 0 [] .awake).enter x0).ha 9 = false ∧ ((linkS 0 [] .awake).enter x0).portUsed 0 = false := by decide
theorem wit_commit : ((linkS 0 [] .proposed).enter x0).oshTakes (hubFrame 0x32 [0, 0, 0, 0]) 0x32 = true ∧
    fieldN (oshPayload (hubFrame 0x32 [0, 0, 0, 0])) 0 2 = (((linkS 0 [] .proposed).enter x0).sport 0).proposal := by decide +kernel
theorem wit_abort : ((linkS 0 [] .proposed).enter x0).oshTakes (hubFrame 0x33 [0, 0, 2, 7]) 0x33 = true := by decide +kernel
theorem wit_sleep_cmd : Held ((ran 0x0302 [] (.waiting 0 0)).enter x0).host 0 5 0x0302 (.waiting 0 0) (cmd 0x0302 [] (.waiting 0 0)) :=
  ⟨rfl, rfl, rfl, rfl, rfl, rfl, rfl, rfl, rfl⟩
theorem wit_entry : (((linkS 0 [] .committed).enter x0).sport 0).group = .committed ∧ ((linkS 0 [] .committed).enter x0).spUp 0 = true := by decide
/-- Port SP0 asleep, with a WAKE due. -/
def asleepS (rep : List Nat) : State := { linkS 0 [] .asleep with link := { LinkSt.reset with
  ports := { upPort .asleep with duty := true, wakeDue := true, reported := rep } :: List.replicate 15 SensorPort.down } }
theorem wit_on_window : (((asleepS []).enter x0).sport 0).duty = true ∧ (((asleepS []).enter x0).sport 0).wakeDue = true ∧
    (((asleepS (List.range 16)).enter x0).sport 0).reported.length = 16 := by decide
/-- Port SP0 asleep, with a frame waiting for its on-window. -/
def frameS : State := { linkS 0 [] .asleep with link := { LinkSt.reset with
  ports := { upPort .asleep with duty := true } :: List.replicate 15 SensorPort.down
  waiting := [(0, 2, .frame [1])] } }
theorem wit_on_window_frame : (frameS.enter x0).link.waiting = [(0, 2, .frame [1])] ∧ (frameS.enter x0).spUp 0 = true ∧
    ((frameS.enter x0).sport 0).duty = true ∧ ((frameS.enter x0).sport 0).wakeDue = false ∧ ((asleepS []).enter x0).link.waiting = [] := by decide
theorem wit_link_up : ((ran 0 [] .fresh).enter x0).attachTime = true ∧ ((ran 0 [] .fresh).enter x0).unsealed 58 = true ∧
    ((ran 0 [] .fresh).enter x0).cageDark 0 = false ∧ (((ran 0 [] .fresh).enter x0).sport 0).up = false ∧
    0 < ((ran 0 [] .fresh).enter x0).link.ports.length := by decide
theorem wit_link_down : (((linkS 0 [] .awake).enter x0).sport 0).up = true := by decide
theorem wit_port_up : ((linkS 0 [] .awake).enter x0).oshTakes (hubFrame 0x22 [3, 1, 0, 0]) 0x22 = true := by decide +kernel
theorem wit_port_down : ((linkS 0 [] .awake).enter x0).oshTakes (hubFrame 0x22 [2, 0, 0, 0]) 0x22 = true ∧
    2 ∈ (((linkS 0 [] .awake).enter x0).sport 0).modulesUp := by decide +kernel
theorem wit_answer_free : ((linkS 0 [] .awake).enter x0).spUp 0 = true ∧ (((linkS 0 [] .awake).enter x0).sport 0).duty = false ∧
    ((linkS 0 [] .awake).enter x0).link.busy.getD 0 0 ≤ 0 ∧ ((linkS 0 [] .awake).enter x0).link.waiting = [] ∧
    (((linkS 0 [] .awake).enter x0).mgmtQ 256).wait = [] := by decide
theorem wit_delay : ((linkS 0 [] .awake).enter x0).oshTakes (hubFrame 0x10 []) 0x10 = true ∧
    (((linkS 0 [] .awake).enter x0).capIn 65).owner = none ∧ ((linkS 0 [] .awake).enter x0).time.running = true := by decide +kernel
/-- Module 2 of SP0 attached, its imager 0 usable. -/
def attachedS : State := { linkS 0 [] .awake with link := { (linkS 0 [] .awake).link with
  attach := [(2, { Attach.blank with st := .attached, usable := 1 })] } }
/-- A frame of module 2 of SP0, channel 0. -/
def modFrame (type : Nat) (payload : Bytes) : OshFrame := { port := 0, start := oshStart, bytes := oshFrame type 2 0 0 0 payload }
theorem wit_data_maker : (attachedS.enter x0).oshTakes (modFrame 1 ([128] ++ toLE 15 0)) 1 = true ∧
    128 ≤ fieldN (oshPayload (modFrame 1 ([128] ++ toLE 15 0))) 0 1 ∧ ((attachedS.enter x0).att 2).st = .attached ∧
    ((attachedS.enter x0).sport 0).group.sleeping = false := by decide +kernel
theorem wit_data_lines : (attachedS.enter x0).oshTakes (modFrame 1 (toLE 16 0)) 1 = true ∧
    fieldN (oshPayload (modFrame 1 (toLE 16 0))) 0 1 = 0 ∧ (attachedS.enter x0).imagerLive 16 = true ∧
    (attachedS.enter x0).stg.frames = [] := by decide +kernel
theorem wit_event : (attachedS.enter x0).oshTakes (modFrame 2 ([6, 0, 1] ++ toLE 21 0)) 2 = true ∧
    (oshPayload (modFrame 2 ([6, 0, 1] ++ toLE 21 0))).length = 24 ∧ (attachedS.enter x0).eventLive 2 6 0 = true ∧
    (attachedS.enter x0).eventSources 2 6 0 = [] ∧ (attachedS.enter x0).eventLive 3 6 0 = false := by decide +kernel
/-- Module 2 of SP0 attached, one accepted command. -/
def modS (op : Nat) (params : Bytes) : State := { linkS op params .awake with link := attachedS.link }
theorem wit_module_read : (((modS 0x0306 [2]).enter x0).att 2).st = .attached ∧ (((modS 0x0306 [3]).enter x0).att 3).st = .down := by decide
theorem wit_module_blocked : ((modS 0x0307 [2]).enter x0).moduleBlocked 2 = none ∧ (((modS 0x0307 [2]).enter x0).att 2).isOn = true ∧
    3 % 16 ∉ (((modS 0x0307 [3]).enter x0).sport (3 / 16)).modulesUp ∧ ((modS 0x0307 [16]).enter x0).spUp 1 = false := by decide
theorem wit_module_asleep : (((linkS 0x0307 [2] .asleep).enter x0).sport 0).group.sleeping = true := by decide
/-- 10 ms and a tick after reset. -/
def late0 : At := ⟨1250001, true, true⟩
/-- A request outstanding to module 2. -/
def busyMod (n : Nat) : State := { modS 0x0307 [2] with link := { attachedS.link with
  mgmt := [(2, ⟨some (attachRead 0 64, 0, 0, 0), List.replicate n (attachRead 0 64)⟩)] } }
theorem wit_site_write_queue : (((busyMod 1).enter x0).mgmtQ 2).out.isSome = true ∧ (((busyMod 1).enter x0).mgmtQ 2).wait.length < 16 ∧
    16 ≤ (((busyMod 16).enter x0).mgmtQ 2).wait.length := by decide
/-- An attach's read outstanding to module 2 after `r` repeats. -/
def outS (u : MgmtUse) (r : Nat) (again : Bool) : State := { linkS 0 [] .awake with link := { (linkS 0 [] .awake).link with
  mgmt := [(2, ⟨some (⟨1, 0, 64, [], u⟩, 0, r, 0), []⟩)]
  attach := [(2, { Attach.blank with st := .reading, retried := again, retryDue := again })] } }
theorem wit_mgmt_timeout : (((outS .attach 1 false).enter late0).mgmtQ 2).out = some (⟨1, 0, 64, [], .attach⟩, 0, 1, 0) ∧
    0 + 10000000 * 4294967296 < ((outS .attach 1 false).enter late0).time.localC ∧ ((outS .attach 1 false).enter late0).spUp 0 = true ∧
    (((outS .attach 2 false).enter x0).att 2).retried = false ∧ (((outS .attach 2 true).enter x0).att 2).cmds = [] := by decide
theorem wit_mgmt_resp : ((outS .attach 0 false).enter x0).oshTakes (modFrame 0x21 ([1] ++ toLE 11 0)) 0x21 = true ∧
    frameTarget (modFrame 0x21 ([1] ++ toLE 11 0)) = 2 ∧ siteGenOf (sliceB [] 0 256) = none := by decide +kernel
/-- The read-back of a site write awaits its response, the command that asked for it waiting. -/
def siteS : State := { outS (.siteRead 2 [] (some (0, 5))) 0 false with
  host := { hostOn [] with accepted := [cmd 0x0307 [2] (.waiting 0 0)] } }
theorem wit_site_read : ((siteS.enter x0).mgmtQ 2) = ⟨some (⟨1, 0, 64, [], .siteRead 2 [] (some (0, 5))⟩, 0, 0, 0), []⟩ ∧
    fieldN (modFrame 0x21 ([1] ++ toLE 11 0)).bytes 6 2 = 0 ∧
    fieldN (oshPayload (modFrame 0x21 ([1] ++ toLE 11 0))) 0 1 = 1 ∧
    Held (siteS.enter x0).host 0 5 0x0307 (.waiting 0 0) (cmd 0x0307 [2] (.waiting 0 0)) := by decide +kernel
theorem wit_site_write_timeout : ((({ siteS with link := (outS (.siteWrite 2 [] (some (0, 5))) 2 false).link }.enter
    late0).mgmtQ 2)).out = some (⟨1, 0, 64, [], .siteWrite 2 [] (some (0, 5))⟩, 0, 2, 0) := by decide +kernel
theorem wit_attach_retry : (((outS .attach 0 true).enter x0).att 2).retryDue = true ∧ ((outS .attach 0 true).enter x0).attachTime = true ∧
    ((outS .attach 0 true).enter x0).tgtUp 2 = true := by decide


/-! ### Cell memory and stores (07, 08) -/

/-- Parameters of a diagnostic access of word 0 of cell 3. -/
def memP (len : Nat) : Bytes := [0, 0, 0, 0] ++ toLE 4 3 ++ toLE 8 0 ++ toLE 4 len ++ toLE 20 0
theorem wit_mem_clean : ((ran 0x0C01 (memP 8) .fresh).enter x0).cellRefusal 3 = none ∧
    classify (((ran 0x0C01 (memP 8) .fresh).enter x0).wordD 3 0) (((ran 0x0C01 (memP 8) .fresh).enter x0).wordC 3 0) = .clean ∧
    fieldN (memP 8) 4 4 = 3 ∧ fieldN (memP 8) 16 4 = 8 := by decide +kernel
/-- A single data bit wrong in word 0 of cell 3. -/
def memBad (m : List Host.Cell) (p : List (Nat × Nat)) : State :=
  { ran 0x0C01 (memP 8) .fresh with mem := m, cells := { CellSt.reset with poison := p } }
theorem wit_mem_correctable : classify ((memBad [(wordAt 3 0, 1)] []).wordD 3 0) ((memBad [(wordAt 3 0, 1)] []).wordC 3 0) =
    .correctable := by decide +kernel
theorem wit_mem_bad : (memBad [(wordAt 3 0, 3)] []).wordClass 3 0 = .uncorrectable ∧
    (memBad [(wordAt 3 0 + 8, 255)] [(3, 0)]).wordClass 3 0 = .poison := by decide +kernel
theorem wit_mem_sealed : (standbyS.modSuper 0 fun u => { u with st := 1 }).unsealed (3 / 144) = false := rfl
theorem wit_mem_off : (standbyS.modSuper 0 fun u => { u with sites := [2] }).unsealed (0 / 144) = true ∧
    ((standbyS.modSuper 0 fun u => { u with sites := [2] }).super 0).sites.getD (0 % 144) 3 ≠ 0 := by decide +kernel
theorem wit_mem_row : ((ran 0 [] .fresh).row 2).st ≠ .serving := by decide +kernel
theorem wit_mem_write : dataOf (memP 8) 24 32 8 none = some (List.replicate 8 0) ∧
    ((ran 0x0C02 (memP 8) .fresh).enter x0).planTouches 3 0 8 = false := by decide +kernel
theorem wit_mem_write_raw : fieldN (toLE 4 3 ++ toLE 4 0 ++ toLE 8 16 ++ toLE 2 1 ++ toLE 6 0 ++ toLE 12 7) 16 2 = 1 ∧
    fieldN (toLE 4 3 ++ toLE 4 0 ++ toLE 8 16 ++ toLE 2 1 ++ toLE 6 0 ++ toLE 12 7) 8 8 = 8 * 2 := by decide
/-- Rows 0 and 4 a mirrored pair, row 1 single, the engine training bundles. -/
def storeS (a b e : RowState) : State := { ran 0x0103 [] .fresh with store := { StoreSt.reset with
  rows := [{ StoreRow.blank with config := 2, st := a, mirrorUp := true }, { StoreRow.blank with config := 1, st := e },
    StoreRow.blank, StoreRow.blank, { StoreRow.blank with config := 2, st := b, mirrorUp := true }, StoreRow.blank,
    StoreRow.blank, StoreRow.blank] } }
theorem wit_trained : ((storeS .down .down .down).enter x0).trains 9 = true ∧ ((storeS .down .down .down).enter x0).mirrorBars 1 = false ∧
    ((storeS .down .down .down).enter x0).trains 16 = false ∧ ((storeS .down .down .down).enter x0).store.rows.length = 8 := by decide
theorem wit_store_ready : (((storeS .checking .serving .checking).enter x0).row 1).st = .checking ∧
    (((storeS .checking .serving .checking).enter x0).row 4).st = .serving ∧
    firstUnmet [] ((((storeS .checking .serving .checking).enter x0).fw.bootImg.map FwImage.reqs).getD []) = none := by decide
theorem wit_store_refused : firstUnmet [] [⟨9, 1⟩] = some (⟨9, 1⟩, 2, 0, 0) := by decide
theorem wit_copy : (((storeS .resync .serving .down).enter x0).row 0).st = .resync ∧
    (((storeS .resync .serving .down).enter x0).row 4).mirrorUp = true ∧ ((storeS .resync .serving .down).enter x0).areaImage = none ∧
    (((storeS .resync .serving .down).enter x0).row 4).solo = none ∧
    classifyLine (((storeS .resync .serving .down).enter x0).line 4 0x3FFBFFFFFC0) = .clean := by decide +kernel
/-- Row 1 serving over some bundles, a count of failed retries for super 8. -/
def bundleS (up : List Nat) (n : Nat) : State := { ran 0 [] .fresh with store := { StoreSt.reset with
  rows := [StoreRow.blank, { StoreRow.blank with config := 1, st := .serving, up := up }] ++ List.replicate 6 StoreRow.blank,
  retries := [(8, n)] } }
theorem wit_bundle_lost : 1 ∈ (((bundleS [1, 2] 0).enter x0).row (9 / 8)).up ∧ (((bundleS [1, 2] 0).enter x0).row 1).held = false ∧
    0 ∉ (((bundleS [1, 2] 0).enter x0).row (8 / 8)).up ∧ (((bundleS [1, 2] 0).enter x0).row 1).up.Nodup := by decide
theorem wit_retry : ((bundleS [1, 2] 2).enter x0).trains 8 = true ∧ tgetD ((bundleS [1, 2] 2).enter x0).store.retries 8 0 + 1 = 3 ∧
    ((bundleS [] 2).enter x0).trains 8 = true := by decide
theorem wit_mirror : (((storeS .serving .serving .down).enter x0).row 0).config = 2 ∧
    (((storeS .serving .serving .down).enter x0).row 4).st = .serving ∧ (((storeS .serving .serving .down).enter x0).row 1).config ≠ 2 ∧
    ((storeS .serving .serving .down).enter x0).cells.due = [] := by decide


/-! ### Images, foragers and stages (02, 07, 08) -/

/-- A stage of a kind whose output record is in region 0. -/
def desc0 (k : StageKind) : StageDesc :=
  { kind := k, sups := [0], outs := [0], descs := [List.replicate 64 0], inputs := [], weights := [], modules := [],
    imagers := [], bufs := [], calibrates := none, loop := false, period := 0, lineBase := 0, linePitch := 0, rect := none,
    occSrc := 0 }
/-- The parts of an image, with some stages. -/
def site0 (stages : List StageDesc) : SiteDesc :=
  { time := TimeSettings.default, stores := [], inputs := [], modules := [], linkBufs := [], stages := stages, xforms := [],
    pattern := [], classes := [], agents := [], trackSups := [[0]], shards := [],
    map := { maxCandDist := 0, keepDesc := false, lHit := 1, lMiss := 1, occHi := 200, occLo := 50, coordinator := [0] },
    route := { qp := 0, radius := [], cores := [], hostWait := none, extent := (1, 1, 1) }, tsn := [], agentBufs := [],
    dropsComp := [], fills := [], tiles := [] }
/-- An image with some parts: region 0 is 4 KiB of logical cell 0 of logical super 0. -/
def img0 (site : SiteDesc) : HiveImg :=
  { id := List.replicate 32 1, len := 0, crc := 0, formatLevel := 1, bMig := 0, placements := [[]], hostEntries := 0, sources := [],
    entries := [[]], reqs := [], gebetex := 1, pairs := [], modes := [], site := site,
    plan := [{ placement := 0, lsuper := 0, lcell := 0, kind := 0, offset := 0, len := 4096, owner := 0 }], codebook := none,
    roadmaps := [], slots := [], layouts := none, residency := [], bytes := [], blobs := [] }
/-- The unit in RUN with an image bound: logical super 0 to S(0,0), logical cell 0 to its site 0. -/
def imgS (m : HiveImg) (op : Nat) (params : Bytes) : State :=
  let s := ran op params .fresh
  { s.modSuper 0 (fun u => { u with remap := [0] }) with ep := { s.ep with image := some m, binding := [0] } }
/-- An image with one residency entry of stage 5: MODE, one line at store address 0, cell offset 0. -/
def resImg (mode : Nat) : HiveImg :=
  { img0 (site0 []) with residency := [[0, 0, 0] ++ toLE 1 mode ++ [5, 0, 0, 0] ++ toLE 8 0 ++ toLE 4 0 ++ toLE 4 64 ++ toLE 8 0] }
/-- Row 0 serving as a single row, with a transfer of entry 0 issued. -/
def resS (mode : Nat) (m : List Host.Cell) : State := { imgS (resImg mode) 0 [] with
  mem := m, store := { StoreSt.reset with
    rows := { StoreRow.blank with config := 1, st := .serving } :: List.replicate 7 StoreRow.blank, transfers := [⟨0, 0, 0⟩] } }
theorem wit_residency : ((resS 1 []).enter x0).resEntry 0 = some ⟨0, 0, 0, 1, 5, 0, 0, 0, 64, 0⟩ ∧
    (((resS 1 []).enter x0).row 0).st = .serving ∧ ((resS 1 []).enter x0).unsealed 0 = true ∧
    (((resS 1 []).enter x0).row 1).st ≠ .serving := by decide +kernel
theorem wit_transfer : ((resS 0 []).enter x0).resCell ⟨0, 0, 0, 0, 5, 0, 0, 0, 64, 0⟩ = some 0 ∧
    (((resS 0 []).enter x0).store.transfers.find? fun t => t.entry == 0 && (((resS 0 []).enter x0).row (t.sup / 8)).serving) =
      some ⟨0, 0, 0⟩ ∧ classifyLine (((resS 0 []).enter x0).line 0 0) = .clean ∧
    classify (((resS 2 []).enter x0).wordD 0 0) (((resS 2 []).enter x0).wordC 0 0) = .clean := by decide +kernel
theorem wit_leads : ((resS 1 []).enter x0).leadsOf 5 = [0] ∧ ((resS 0 []).enter x0).leadsOf 5 = [] ∧
    (((resS 0 []).enter x0).underWay.find? fun t => t.entry == 0 && (((resS 0 []).enter x0).row (t.sup / 8)).serving) =
      some ⟨0, 0, 0⟩ ∧ ((resS 0 []).enter x0).store.badRegions.Nodup ∧
    (∀ q ∈ ((resS 0 []).enter x0).store.transfers, q = ⟨0, 0, 0⟩) := by decide +kernel
theorem wit_transfer_bad : classifyLine (((resS 0 ((List.range 8).map fun i => (lineAt 0 0 + 64 + i, 255))).enter x0).line 0 0) =
    .poison ∧ Memory.wf (resS 0 ((List.range 8).map fun i => (lineAt 0 0 + 64 + i, 255))).mem = true := by decide +kernel
/-- Word 0 of region 0 poisoned in RUN, a transfer of the image covering it. -/
def refetchS : State := { resS 1 [(wordAt 0 0 + 8, 255)] with
  cells := { CellSt.reset with poison := [(0, 0)] }
  host := { hostOn [] with accepted := [cmd 0x0C01 (toLE 16 0 ++ toLE 4 8 ++ toLE 20 0) .fresh] } }
theorem wit_refetch : (refetchS.enter x0).wordClass 0 0 = .poison ∧ (refetchS.enter x0).unit.state = .run ∧
    (refetchS.enter x0).regionsOf (fun e => e.kind == 0) = [0] ∧ (refetchS.enter x0).regionAt 0 = some (0, 0) ∧
    (refetchS.enter x0).awaitsRefetch 0 = false ∧ (refetchS.enter x0).cellRefusal 0 = none ∧
    (refetchS.enter x0).resIndices (fun f => f.dest == 0 && f.lsuper == 0 && f.lcell == 0 && decide (f.off < 4096) &&
      decide (0 < f.off + f.len) && f.mode != 2) ≠ [] := by decide +kernel
/-- The same image with its entry addressed to engine memory 7. -/
def engMemS : State :=
  let s := resS 0 []
  { s with ep := { s.ep with image := some { resImg 0 with
    residency := [[0, 0, 7, 0, 5, 0, 0, 0] ++ toLE 8 0 ++ toLE 4 0 ++ toLE 4 64 ++ toLE 8 0] } } }
theorem wit_engine_memory : (engMemS.enter x0).resEntry 0 = some ⟨0, 0, 7, 0, 5, 0, 0, 0, 64, 0⟩ ∧
    (engMemS.enter x0).resSuper ⟨0, 0, 7, 0, 5, 0, 0, 0, 64, 0⟩ = 0 ∧
    (engMemS.enter x0).underWay.find? (fun t => t.entry == 0 && ((engMemS.enter x0).row (t.sup / 8)).serving) =
      some ⟨0, 0, 0⟩ := by decide +kernel
/-- An instance of a stage. -/
def run0 : StageRun :=
  { seq := 3, tick := 0, localC := 0, doms := [], epoch := 1, phase := 0, src := 0, synth := false, late := false, mixed := false,
    cause := 0, origin := 0, xforms := [], modes := [], frame := none, frameB := none, flags := 0, items := [], preds := [], free0 := 0, spoiled := false, begins := 0,
    points := [], queries := [], refs := [], queued := [], passed := false, open_ := 0, results := [] }
/-- What an instance found when all is well. -/
def res0 : StageResult :=
  { reads := [], engFlips := [], engReads := [], payload := [1, 2, 3, 4, 5, 6, 7, 8], closures := [], tried := [], keyframe := none, occ := [],
    pose := [], queries := [], slotUe := [], tileUe := [] }
/-- Stage 0 of a kind runs an instance. -/
def stageS (k : StageKind) (r : StageRun) : State :=
  let s := imgS (img0 (site0 [desc0 k])) 0 []
  { s with stg := { s.stg with runs := [(0, r)] } }
theorem wit_stage : ((stageS .network run0).enter x0).oldOf 0 = none ∧
    ((stageS .network run0).enter x0).stageDesc 0 = some (desc0 .network) ∧
    tget ((stageS .network run0).enter x0).stg.runs 0 = some run0 ∧ ((stageS .network run0).enter x0).layerBufs 0 = [] ∧
    ((stageS .network run0).enter x0).regionAt (((stageS .network run0).enter x0).outRegion 0) = some (0, 0) ∧
    ((stageS .network run0).enter x0).badRegion 0 = false ∧
    ((stageS .network run0).enter x0).rebuildingStage 0 (desc0 .network) = false := by decide +kernel
theorem wit_stage_ends : ((stageS .network run0).enter x0).mayEnd 0 run0 = true ∧
    ((stageS .network run0).enter x0).handsOff (desc0 .network) run0 = false ∧
    ((stageS .network run0).enter x0).tapped (((stageS .network run0).enter x0).stageSuper (desc0 .network)) ≤ 16384 ∧
    ((stageS .network run0).enter x0).spoiled 0 (desc0 .network) = false ∧
    ((stageS .network run0).enter x0).outLost 0 = false := by decide +kernel
theorem wit_engine_reads : ((stageS .network run0).enter x0).engineReads (desc0 .network) res0 =
      (false, (stageS .network run0).enter x0) ∧
    (((stageS .network run0).enter x0).engineReads (desc0 .network) { res0 with engFlips := [(7, 5, 3)], engReads := [(7, 5)] }).1 =
      true := ⟨rfl, by decide +kernel⟩
theorem wit_stage_reads : ((stageS .network run0).enter x0).stageReads (desc0 .network) res0.reads = (false, (stageS .network run0).enter x0) ∧
    tget ((stageS .network run0).enter x0).stg.runs 1 = none := ⟨rfl, rfl⟩

/-! ### Vision (11) -/

theorem wit_pass : ((stageS .veJob run0).enter x0).oldOf 0 = none ∧
    run0.hostMatch (((stageS .veJob run0).enter x0).veDesc (desc0 .veJob)) = false ∧ run0.passed = false ∧
    { run0 with passed := true }.passed = true := by decide +kernel
theorem wit_turn_pass : ((stageS .veJob run0).enter x0).veTurn 0 false = true ∧
    ((stageS .veJob run0).enter x0).veTurn 0 true = false ∧ ((stageS .veJob run0).enter x0).veTurn 1 false = false ∧
    ((stageS .veJob { run0 with passed := true }).enter x0).veTurn 0 true = true := by decide +kernel
/-- Stage 2 has made an export of no items for slot 3, and its instance runs. -/
def exportS (op : Nat) (params : Bytes) : State :=
  let s := ran op params .fresh
  { s with stg := { s.stg with runs := [(2, run0)], exports := [(2, ⟨3, 0, [9], 1, 1, false⟩), (3, ⟨4, 0x0302, [], 0, 0, false⟩)] } }
theorem wit_export : tget ((exportS 0x0401 [2]).enter x0).stg.exports 2 = some ⟨3, 0, [9], 1, 1, false⟩ ∧
    ((exportS 0x0401 [2]).enter x0).hostRegion 2 = none ∧ fieldN ([2, 0, 0, 0] ++ toLE 4 16) 4 4 = 16 ∧
    tget ((exportS 0x0401 [2]).enter x0).stg.exports 4 = none := by decide +kernel
theorem wit_submit : fieldN ([2, 0, 1, 0] ++ toLE 4 3 ++ toLE 4 0 ++ toLE 4 0 ++ toLE 8 0) 4 4 = 3 ∧
    fieldN ([2, 0, 1, 0] ++ toLE 4 3 ++ toLE 4 0 ++ toLE 4 0 ++ toLE 8 0) (16 + 8 * 0) 2 < 1 ∧
    (tget ((exportS 0x0402 [2]).enter x0).stg.runs 2).map StageRun.seq = some 3 := by decide +kernel


/-! ### Fusion (12) -/

/-- One transform entry of the site frame. -/
def xf0 : Bytes := toLE 34 0 ++ toLE 2 0xFFFF ++ toLE 12 0
theorem wit_xform_device : fieldN (toLE 2 7) 0 2 < 2304 ∧ ((ran 0x0501 [] .fresh).enter x0).ha 2 = false := by decide +kernel
theorem wit_xform_staged : ∀ e ∈ ((ran 0x0501 [] .fresh).enter x0).xformsAhead [(2400, xf0)],
    chainBad (((ran 0x0501 [] .fresh).enter x0).xformsAhead [(2400, xf0)]) [2400] 8 false e.1 = false := by decide +kernel
theorem wit_xform_cycle : chainBad [(2400, toLE 34 0 ++ toLE 2 2401 ++ toLE 12 0), (2401, toLE 34 0 ++ toLE 2 2400 ++ toLE 12 0)] [2400, 2401] 8 false 2400 =
    true := by decide +kernel
theorem wit_track_held : ((imgS (img0 (site0 [])) 0x0503 []).enter x0).trackHeld 5 = true ∧
    ((ran 0x0503 [] .fresh).enter x0).trackHeld 5 = false := by decide +kernel
/-- Stage 0 an update stage whose observations would stand in region 0. -/
def updS (op : Nat) (params : Bytes) : State :=
  imgS (img0 (site0 [{ desc0 .tfeUpdate with descs := [[1, 1] ++ List.replicate 62 0] }])) op params
theorem wit_update_stage : (((updS 0x0504 []).enter x0).updateStage 0).isSome = true ∧
    ((updS 0x0504 []).enter x0).updateStage 1 = none ∧ tgetD ((updS 0x0505 []).enter x0).stg.seqs 0 0 = 0 := by decide +kernel
theorem wit_assoc_late : 3 < tgetD [(0, 4)] 0 0 := by decide


/-! ### Place recognition and the map (13) -/

theorem wit_place_data : ((dataOf (toLE 64 0) 48 64 512 (some (List.replicate 512 0))).isSome) = true ∧
    dataOf (toLE 48 0 ++ [1] ++ toLE 15 0) 48 64 512 none = none ∧ ((ran 0x0601 [] .fresh).enter x0).liveGens = [] := by decide +kernel
/-- A query of the host waiting, with no tables. -/
def query0 : Query := { src := .host 0 5, record := [0, 0, 1] ++ toLE 61 0, desc := none, tables := [], tick := 0, prior := none }
/-- What a sweep of no shards finds. -/
def ranked0 : Ranked :=
  { seq := 1, start := List.replicate 16 0, ranked := [], shards := [], missing := [], excluded := 0, scanned := 0, ue := false,
    passed := [], ended := 0 }
/-- Place recognition with one query at a point of its way. -/
def placeS (q : List Query) (w : Option Sweep) (m : List Merged) : State :=
  let s := ran 0x0601 [] (.waiting 0 0)
  { s with place := { s.place with queue := q, sweep := w, merged := m } }
theorem wit_batch : ((placeS [query0] none []).enter x0).place.queue ≠ [] ∧ ((placeS [query0] none []).enter x0).wafer.move = none ∧
    (∀ q ∈ ((placeS [query0] none []).enter x0).place.queue, q.prior = none) ∧
    ((placeS [] none []).enter x0).place.queue = [] := by decide +kernel
theorem wit_sweep : ((placeS [] (some ⟨1, [], [query0], [], []⟩) []).enter x0).place.sweep = some ⟨1, [], [query0], [], []⟩ ∧
    ((placeS [] none []).enter x0).place.sweep = none := by decide +kernel
/-- One shard of one code, and a sweep that scans it for one query. -/
def sweepS : State :=
  let s := imgS (img0 { site0 [] with shards := [⟨0, 0, [0], (0, 4096), 8192, 0⟩] }) 0 []
  { s with place := { s.place with
    sweep := some ⟨1, List.replicate 16 0, [{ query0 with tables := [(1, toLE 16384 0)] }], [⟨0, 1, 1, 0⟩], []⟩ } }
theorem wit_sweep_codes : (sweepS.enter x0).shardPlan 0 = some ⟨0, 0, [0], (0, 4096), 8192, 0⟩ ∧
    classifyLine ((sweepS.enter x0).line 0 ((sweepS.enter x0).codeArea ⟨0, 0, [0], (0, 4096), 8192, 0⟩ false)) = .clean ∧
    classifyLine ((sweepS.enter x0).line 0 8192) = .clean ∧ (sweepS.enter x0).store.transfers = [] ∧
    (sweepS.enter x0).place.queue = [] := by decide +kernel
theorem wit_merged : ((placeS [] none [⟨query0, ranked0⟩]).enter x0).place.merged = [⟨query0, ranked0⟩] ∧
    Held ((placeS [] none [⟨query0, ranked0⟩]).enter x0).host 0 5 0x0601 (.waiting 0 0) (cmd 0x0601 [] (.waiting 0 0)) :=
  ⟨rfl, rfl, rfl, rfl, rfl, rfl, rfl, rfl, rfl, rfl⟩
theorem wit_merged_rerun : (fieldN ([0, 2, 1] ++ toLE 61 0) 1 1).testBit 1 = true ∧ { ranked0 with missing := [3] }.missing ≠ [] ∧
    { ranked0 with missing := [3] }.ue = false ∧ (fieldN query0.record 1 1).testBit 0 = false := by decide +kernel
theorem wit_merged_stage : ((stageS .cseQuery { run0 with open_ := 1 }).enter x0).stageDesc 0 = some (desc0 .cseQuery) ∧
    (tget ((stageS .cseQuery { run0 with open_ := 1 }).enter x0).stg.runs 0).map StageRun.open_ = some 1 := by decide +kernel
theorem wit_book : ((ran 0x0602 [] .fresh).enter x0).place.next = none ∧ bookOk [] = false := by decide +kernel
/-- Nodes 0 and 1 exist; every node's shard can be read. -/
def graphS (op : Nat) (params : Bytes) : State :=
  let s := ran op params .fresh
  { s with place := { s.place with
    nodes := [(0, nodeBytes 0 [] 0), (1, nodeBytes 1 [] 0)], cands := [⟨0, 1, 7, 1⟩], edges := [edgeBytes 0 1 0 [] []] } }
theorem wit_graph : tget ((graphS 0x0604 []).enter x0).place.nodes 0 ≠ none ∧ tget ((graphS 0x0604 []).enter x0).place.nodes 2 = none ∧
    ((graphS 0x0605 []).enter x0).graphAway 0 = false ∧ ((graphS 0x0603 []).enter x0).place.cands.length = 1 := by decide +kernel
theorem wit_graph_away : ((imgS (img0 { site0 [] with shards := [⟨0, 1, [0], (0, 0), 0, 0⟩] }) 0x0605 []).enter x0).graphAway 5 = true := by decide +kernel
theorem wit_optimise : ((graphS 0 []).enter x0).unit.state = .run ∧ ((graphS 0 []).enter x0).ha 6 = false := by decide +kernel


/-! ### Edge checkers and routes (14) -/

/-- An edge of one voxel, the voxel at its anchor (1, 0, 0). -/
def edge0 : Edge :=
  { id := 4, cls := 0, start := 0, stop := 1, knots := [], scale := 0, threshold := 1, ax := 1, ay := 0, az := 0, cost := 5,
    length := 1, bitmap := [1] }
/-- Its slot. -/
def slot0 : EdgeSlot := { slot := some 3, edge := edge0, count := 0, unknown := false, bad := false }
/-- A roadmap of two nodes and that edge. -/
def map0 : Roadmap := { cls := 0, maxSpeed := 0, radius := 1, nodes := [List.replicate 16 0, List.replicate 16 0], edges := [edge0] }
/-- An image with one agent, id 9 of class 0, and that roadmap. -/
def routeImg : HiveImg :=
  { img0 { site0 [] with agents := [⟨9, 0, 0, 0⟩], route := ⟨0, [], [(0, 0)], some 5, (8, 8, 8)⟩ } with
    roadmaps := [map0], slots := [[(3, 4)]] }
/-- The unit in RUN with that image, a delta word waiting, and a route of the agent. -/
def routeS (op : Nat) (params : Bytes) (v : Route) (jobs : List RouteJob) (recs : List BlockedRec) : State :=
  let s := imgS routeImg op params
  { s with route := { s.route with
    deltas := [1 + 2 ^ 48], slots := [(4, slot0)], routes := [(9, v)], jobs := jobs, recs := recs } }
theorem wit_inject : (0 : Nat) % 65536 < routeImg.site.route.extent.1 ∧ ((routeS 0x0703 [] Route.none [] []).enter x0).route.occupied.Nodup ∧
    routeImg.site.route.extent.1 ≤ 9 % 65536 := by decide +kernel
theorem wit_tap_full : ((routeS 0x0703 (toLE 2 16385) Route.none [] []).enter x0).tapped 3 = 0 ∧
    16384 < 0 + fieldN (toLE 2 16385) 0 2 ∧ fieldN (toLE 2 16385) (8 + 8 * 16384) 8 % 65536 < 8 ∧
    (0 : Nat) + fieldN (toLE 2 16384) 0 2 ≤ 16384 := by decide +kernel
theorem wit_recount_unknown : (tget { (routeS 0 [] Route.none [] []).enter x0 with
      route := { ((routeS 0 [] Route.none [] []).enter x0).route with slots := [(4, { slot0 with unknown := true })] } }.route.slots 4) =
    some { slot0 with unknown := true } := by decide +kernel
theorem wit_grant : ((routeS 0 [] Route.none [] []).enter x0).wafer.pause = none ∧ edge0.holds ((1 + 2 ^ 48) % 2 ^ 48) = true ∧
    slot0.count + 1 = edge0.threshold ∧ (((routeS 0 [] Route.none [] []).enter x0).route.slots.map Prod.fst).Nodup := by decide +kernel
theorem wit_recount : ((routeS 0 [] Route.none [] []).enter x0).slotFor 4 ((routeS 0 [] Route.none [] []).enter x0).nextBinding.1
    ((routeS 0 [] Route.none [] []).enter x0).nextBinding.2 = some 3 ∧ ((routeS 0 [] Route.none [] []).enter x0).slotsRoll 0 = false := by
  decide +kernel
/-- An active route of one edge. -/
def active0 : Route := { Route.none with st := .active, version := 1, edges := [4], hostWait := some (4, 0) }
theorem wit_record : nextRec [⟨0, 4, 1, []⟩] = some ⟨0, 4, 1, []⟩ ∧
    ((routeS 0 [] active0 [] [⟨0, 4, 1, []⟩]).enter x0).routeOf 9 = active0 ∧ active0.edges[active0.current]? = some 4 ∧
    ((routeS 0 [] active0 [] []).enter x0).ha 7 = false := by decide +kernel
theorem wit_wait_over : (((routeS 0 [] active0 [] []).enter ⟨1, true, true⟩).routeOf 9).hostWait = some (4, 0) ∧
    0 < ((routeS 0 [] active0 [] []).enter ⟨1, true, true⟩).time.tick ∧
    ((routeS 0 [] active0 [] []).enter x0).time.tick ≤ 0 := by decide +kernel
theorem wit_record_ahead : ({ active0 with edges := [7, 4] }).edges[active0.current]? ≠ some 4 ∧
    4 ∈ ({ active0 with edges := [7, 4] }).edges.drop active0.current := by decide +kernel
theorem wit_route_qp : ((routeS 0x0702 [] active0 [] []).enter x0).routeQp = some 0 ∧ ((ran 0x0702 [] .fresh).enter x0).routeQp ≠ some 0 ∧
    ((routeS 0x0707 [] active0 [] []).enter x0).waitingRead 0 0x0707 = none ∧
    ((routeS 0x0705 [] active0 [] []).enter x0).agentDesc 9 ≠ none ∧
    (∀ k ∈ ((routeS 0x0705 [] active0 [] []).enter x0).host.accepted, k.opcode ≠ 0x0707) := by decide +kernel
/-- A job of agent 9 that runs or waits. -/
def job0 (w : RouteWork) (core : Option Nat) (full : Bool) : RouteJob :=
  { agent := 9, what := w, tick := 0, core := core, shut := [], version := 1, mode := .active, cur := 0, full := full, runs := 0 }
theorem wit_goal : ((routeS 0x0704 [] active0 [] []).enter x0).agentMap 9 = some map0 ∧ ((routeS 0x0704 [] active0 [] []).enter x0).agentMap 8 = none ∧
    (1 : Nat) < map0.nodes.length ∧ active0.edges ≠ [] := by decide +kernel
theorem wit_submit_route : map0.joined [4] = true ∧ map0.edge 4 ≠ none ∧ map0.edge 5 = none ∧
    dataOf (toLE 16 0 ++ toLE 4 4) 8 16 (4 * 1) none = some [4, 0, 0, 0] ∧ dataOf (toLE 8 0 ++ toLE 8 64) 8 16 (4 * 1) none = none := by decide +kernel
theorem wit_submit_joins : (((routeS 0x0708 [] active0 [] []).enter x0).workMap 9).isSome = true ∧
    (({ Route.none with st := .hold }).st ≠ .active) ∧ ({ Route.none with st := .hold }).edges = [] ∧
    (([] : List Nat).length + 4096 ≤ 4096) := by decide +kernel
theorem wit_repair_start : ((routeS 0 [] active0 [job0 (.repair 4) none false] []).enter x0).nextJob = some (job0 (.repair 4) none false) ∧
    ((routeS 0 [] active0 [] []).enter x0).nextJob = none := by decide +kernel
theorem wit_search : ((routeS 0 [] active0 [job0 (.full 4) (some 0) true] []).enter x0).runningJob 9 true = some (job0 (.full 4) (some 0) true) ∧
    ((routeS 0 [] active0 [job0 (.full 4) (some 0) true] []).enter x0).routeOf 9 = active0 := by decide +kernel
theorem wit_search_found : (((routeS 0 [] { active0 with goal := 1 } [job0 (.full 4) (some 0) true] []).enter x0).searchResult
    (job0 (.full 4) (some 0) true)) = some ([4], []) := by decide +kernel


/-! ### Composition and the panel (15) -/

/-- An image that composes: both heads enabled, 4 by 2 pixels, region 0 a host buffer. -/
def compImg : HiveImg :=
  { img0 (site0 [desc0 .layer]) with
    layouts := some ⟨List.replicate 2 ([1, 0] ++ toLE 2 4 ++ toLE 2 2 ++ toLE 58 0), List.replicate 32 (toLE 64 0)⟩
    plan := [{ placement := 0, lsuper := 0, lcell := 0, kind := 5, offset := 0, len := 4096, owner := 0 }] }
/-- The unit in RUN with it. -/
def compS (op : Nat) (params : Bytes) (v : Head) : State :=
  let s := imgS compImg op params
  { s with comp := { s.comp with heads := [v, Head.blank] } }
/-- A head with layer 3 committed. -/
def headC : Head := { Head.blank with layers := lmod Head.blank.layers 3 fun y => { y with committed := true, cmd := some (0, 5) } }
theorem wit_layer : ((compS 0x0801 [0, 3] Head.blank).enter x0).composes = true ∧
    ((compS 0x0801 [0, 3] Head.blank).enter x0).headDark 0 = false ∧
    (((compS 0x0801 [0, 3] Head.blank).enter x0).layer 0 3).committed = false ∧
    (((compS 0x0801 [0, 3] headC).enter x0).layer 0 3).committed = true ∧ ((ran 0x0801 [] .fresh).enter x0).composes = false ∧
    ((compS 0x0801 [0, 3] Head.blank).enter x0).fetchOk 0 3 = true := by decide +kernel
theorem wit_layer_ref : ((compS 0x0801 [] Head.blank).enter x0).layerRefOk (parseLayer (toLE 64 0)) = true ∧
    ((compS 0x0801 [] Head.blank).enter x0).layerRefOk (parseLayer (toLE 20 0 ++ toLE 44 7)) = false := by decide +kernel
theorem wit_upload : ((compS 0x0803 [] Head.blank).enter x0).regionAt 0 = some (0, 0) ∧
    dataOf (toLE 8 0 ++ toLE 8 8 ++ toLE 16 0) 16 24 8 none = some (List.replicate 8 0) ∧
    ((compS 0x0803 [] Head.blank).enter x0).region 1 = none := by decide +kernel
theorem wit_upload_nowhere : ((compS 0x0803 [] Head.blank).modSuper 0 fun u => { u with remap := [] }).regionAt 0 = none ∧
    ((compS 0x0803 [] Head.blank).enter x0).region 0 = some ⟨0, 0, 0, 5, 0, 4096, 0⟩ := by decide +kernel
/-- A frame of head 0 under way. -/
def frame0 : FrameRun := { seq := 7, header := toLE 320 0, placement := 0 }
theorem wit_frame_start : ((compS 0x0802 [0, 3] headC).enter x0).headRuns 0 = true ∧
    (((compS 0x0802 [0, 3] headC).enter x0).head 0).frame = none ∧ (((compS 0x0802 [0, 3] headC).enter x0).head 0).layers.length = 16 ∧
    ((compS 0x0802 [0, 3] headC).enter x0).headRec 0 ≠ none ∧ ((ran 0x0802 [] .fresh).enter x0).headRec 0 = none := by decide +kernel
theorem wit_frame_end : (((compS 0 [] { Head.blank with frame := some frame0, link := some (4, 3) }).enter x0).head 0).frame = some frame0 ∧
    (parseLayer (((compS 0 [] Head.blank).enter x0).layer 0 3).active).visible = false := by decide +kernel
theorem wit_plug : ((compS 0 [] Head.blank).enter x0).unsealed (((compS 0 [] Head.blank).enter x0).driver 0) = true ∧
    ((compS 0 [] Head.blank).enter x0).linkCarries 0 (4, 3) = true ∧ (0 : Nat) < ((compS 0 [] Head.blank).enter x0).comp.heads.length := by
  decide +kernel
/-- The unit in RUN with a panel update at a step. -/
def panelS (n : Nat) (pend : List Nat) (repl : Bool) : State :=
  let s := ran 0x0805 [] .fresh
  { s with panel := { s.panel with update := some (n, [2]), pendingSet := pend, replFirst := repl } }
theorem wit_panel : ((panelS 1 [] false).enter x0).panel.update = some (1, [2]) ∧ ((panelS 1 [] false).enter x0).unit.state ≠ .off ∧
    ((panelS 3 [4] false).enter x0).panel.pendingSet ≠ [] ∧ ((panelS 3 [] true).enter x0).panel.replFirst = true ∧
    ((ran 0x0805 [] .fresh).enter x0).panel.update = none := by decide +kernel


/-! ### The agent service (16) -/

/-- A frame of agent 9 to port 0's own address, with a message type and payload. -/
def agFrame (type : Nat) (p : Bytes) : EthFrame :=
  { port := 0, fcsOk := true, dst := List.replicate 6 0, src := [2, 0, 0, 0, 0, 9], vlan := none, ethertype := 0x88B5,
    body := toLE 1 type ++ [1] ++ toLE 2 9 ++ toLE 2 3 ++ toLE 2 p.length ++ toLE 16 0 ++ p }
/-- HELLO of class 0 for levels 1 to 1; an acknowledgement of version 1. -/
def helloP : Bytes := [0, 1, 1] ++ toLE 13 0
def ackP (flags : Nat) : Bytes := toLE 4 1 ++ toLE 2 1 ++ toLE 2 0 ++ toLE 1 flags ++ toLE 7 0
/-- The unit in RUN with the agent's route, bound or not, its MAC addresses zero. -/
def agS (v : Route) (bind : List (Nat × Binding)) : State :=
  let s := routeS 0 [] v [] []
  { s with
    unit := { s.unit with macs := List.replicate 10 (List.replicate 6 0) }
    agent := { s.agent with bindings := bind } }
theorem wit_hello : ((agS Route.none []).enter x0).agentTakes (agFrame 1 helloP) 1 = true ∧
    ((agS Route.none []).enter x0).agentTakes (agFrame 1 helloP) 6 = false ∧
    ((agS Route.none []).enter x0).helloResult (agFrame 1 helloP) = 0 := by decide +kernel
theorem wit_ack : ((agS active0 []).enter x0).agentTakes (agFrame 6 (ackP 1)) 6 = true ∧
    (((agS active0 []).enter x0).routeOf (agAgent (agFrame 6 (ackP 1)))).version = fieldN (agPayload (agFrame 6 (ackP 1))) 0 4 ∧
    (fieldN (agPayload (agFrame 6 (ackP 1))) 8 1).testBit 0 = true ∧
    (fieldN (agPayload (agFrame 6 (ackP 2))) 8 1).testBit 0 = false := by decide +kernel
theorem wit_odo : ((agS active0 []).enter x0).agentTakes (agFrame 4 ([1] ++ toLE 7 0 ++ toLE 2 0x4000 ++ toLE 54 0)) 4 = true ∧
    lktDom (toLE 2 0x4000 ++ toLE 54 0) = 1 ∧ ((agS active0 []).enter x0).agentDesc 9 ≠ none := by decide +kernel
theorem wit_retry_route : tget ((agS active0 [(9, ⟨0, [], none⟩)]).enter x0).agent.bindings 9 = some ⟨0, [], none⟩ ∧
    ((agS active0 []).enter x0).agentMap 9 = some map0 ∧ (0 : Nat) < ((agS active0 []).enter x0).agent.waiting.length := by decide +kernel
theorem wit_pose_req : ((agS active0 []).enter x0).agentTakes (agFrame 2 (toLE 8 0)) 2 = true ∧
    ((agS active0 []).enter x0).unit.state = .run ∧ (((agS active0 []).enter x0).agent.poseQs.getD 0 []).length < 65 ∧
    (0 : Nat) < ((agS active0 []).enter x0).agent.poseQs.length ∧ ((agS active0 []).enter x0).invalidWhy 9 = 2 := by decide +kernel
/-- A request waiting on port 0. -/
def poseR : PoseReq := { agent := 9, seq := 3, ahead := 0, mac := [2, 0, 0, 0, 0, 9], vlan := none, tick := 0, step := 0, frame := toLE 204 0 }
def poseS : State :=
  let s := agS active0 []
  { s with agent := { s.agent with poseQs := [poseR] :: List.replicate 7 [] } }
theorem wit_pose_answer : (poseS.enter x0).agent.poseQs.getD 0 [] = [poseR] ∧ (poseS.enter x0).agent.poseQs.getD 1 [] = [] ∧
    (poseS.enter x0).agentPortUp 0 = true ∧ (poseS.enter x0).gateFits 0 7 0 (toLE 222 0) = true := by decide +kernel
/-- Port 0 with a gate list to come and a frame of queue 4 waiting. -/
def gateS : State :=
  let s := agS active0 []
  { s with agent := { s.agent with
    nextGates := [(0, ⟨1, 0, [(255, 1000)]⟩)], waiting := [(4, [1, 2])] :: List.replicate 7 [], bufs := [(3, ⟨0, 4, [], true⟩)] } }
theorem wit_gates : tget (gateS.enter x0).agent.nextGates 0 = some ⟨1, 0, [(255, 1000)]⟩ ∧ tget (gateS.enter x0).agent.nextGates 1 = none ∧
    (gateS.enter x0).agent.waiting.getD 0 [] = [(4, [1, 2])] ∧ (gateS.enter x0).gateFits 0 4 0 [1, 2] = true ∧
    (gateS.enter x0).agent.waiting.getD 1 [] = [] := by decide +kernel
theorem wit_port_free : (gateS.enter x0).siteBusy 0 (gateS.enter x0).time.localC = false ∧ (gateS.enter x0).agentPortUp 0 = true ∧
    (gateS.enter x0).cycleStarts 0 = true ∧ (poseS.enter x0).siteBusy 0 (poseS.enter x0).time.localC = false ∧
    (poseS.enter x0).agent.waiting.getD 0 [] = [] ∧
    { gateS with agent := { gateS.agent with busy := 5 :: List.replicate 9 0 } }.siteBusy 0 0 = true := by decide +kernel
theorem wit_cycle_runs : ({ gateS with agent := { gateS.agent with gates := [(0, ⟨0, 0, [(255, 1000)]⟩)] } }.enter
    ⟨50, true, true⟩).cycleStarts 0 = false := by decide +kernel
theorem wit_gate_shut : ({ gateS with agent := { gateS.agent with gates := [(0, ⟨1, 0, [(0, 1000)]⟩)] } }.enter x0).gateFits 0 4 0 [1, 2] =
    false := by decide +kernel
theorem wit_agent_buf : (tget (gateS.enter x0).agent.bufs 3).map AgentBuf.image = some true ∧ tget (gateS.enter x0).agent.bufs 4 = none := by
  decide +kernel


/-! ### Images and epochs (02, 19) -/

theorem wit_image_load : ((ran 0x0A01 [] .fresh).enter x0).ep.loading = none ∧ ((ran 0x0A01 [] .fresh).enter x0).ep.rolling = none ∧
    ((ran 0x0A01 [] .fresh).enter x0).unit.state = .run ∧ parseImage [] (site0 []) = none := by decide +kernel
/-- The sections of the smallest image of one placement: levels, placement, schedule, formulas, modes (02 Table 2-5). -/
def minSecs : List (Nat × Bytes) :=
  [(0x0001, toLE 8 1), (0x0010, [0, 1] ++ toLE 6 0 ++ ([2, 0, 0, 0] ++ toLE 4 0) ++ toLE 504 0),
   (0x0020, [1, 0, 8] ++ toLE 13 0 ++ toLE 768 0 ++ toLE 128 0), (0x0070, toLE 16 1), (0x0090, toLE 16 0)]
/-- The section table and the sections behind it, each from a multiple of 64 on. -/
def minParts : Bytes × Bytes :=
  minSecs.foldl (fun r e =>
    let pad := e.2 ++ List.replicate ((64 - e.2.length % 64) % 64) 0
    (r.1 ++ toLE 2 e.1 ++ toLE 2 0 ++ toLE 4 (crc32 e.2) ++ toLE 8 (192 + r.2.length) ++ toLE 8 e.2.length, r.2 ++ pad))
    ([], [])
/-- Its header but for the header's CRC (02 Table 2-4). -/
def minHead : Bytes :=
  toLE 4 0x56484B4C ++ [2, 1] ++ toLE 2 64 ++ toLE 8 (192 + minParts.2.length) ++ toLE 2 5 ++ [1] ++ toLE 5 0 ++
    List.replicate 16 7 ++ toLE 4 0 ++ toLE 16 0
def minImage : Bytes := minHead ++ toLE 4 (crc32 minHead) ++ minParts.1 ++ toLE 8 0 ++ minParts.2
set_option maxRecDepth 20000 in
theorem test_min_image : (parseImage minImage (site0 [])).map (fun m => (m.id, m.len, m.hostEntries, m.placements.length)) =
    some (List.replicate 16 7, 1920, 8, 1) := by decide +kernel
theorem wit_image_met : ({ ran 0x0A01 [] .fresh with fw := { State.reset.fw with bootImg := some fw0 } }.enter x0).imageUnmet
    (img0 (site0 [])) = none := by decide +kernel
theorem wit_image_fits : ((ran 0x0A01 [] .fresh).enter x0).imageUnmet (img0 (site0 [])) ≠ none ∧
    ((ran 0x0A01 [] .fresh).enter x0).choosePlacement (img0 (site0 [])) 0 = some (0, []) ∧
    ((ran 0x0A01 [] .fresh).enter x0).loadRefusal (img0 (site0 [])) 0 [] = none := by decide +kernel
/-- A load in progress. -/
def loadS (st : UnitState) (n : Nat) : State :=
  let s := ran 0x0A01 [] (.waiting 0 0)
  { s with unit := { s.unit with state := st, step := n }, ep := { s.ep with loading := some ⟨img0 (site0 []), 0, 0, 5⟩ } }
theorem wit_area : ((loadS .ready 14).enter x0).ep.loading ≠ none ∧ ((loadS .ready 14).enter x0).unit.step = 14 ∧
    ((loadS .run 16).enter x0).unit.state ≠ .ready ∧
    Held ((loadS .run 16).enter x0).host 0 5 0x0A01 (.waiting 0 0) (cmd 0x0A01 [] (.waiting 0 0)) := by decide +kernel
/-- Source 0 runs, a host commit is armed and fired or not. -/
def armS (op : Nat) (eff : Option Nat) : State :=
  let s := schedS op []
  { s with
    ep := { s.ep with armed := some ⟨{ StagedSet.empty with xforms := [(3000, xf0)] }, 250, 0, 9, eff, false, 0⟩ }
    host := { s.host with accepted := s.host.accepted ++ [{ cmd 0x0A03 [] (.waiting 250 0) with tag := 9 }] } }
theorem wit_epoch_commit : ((schedS 0x0A03 []).enter x0).ep.armed = none ∧ ((schedS 0x0A03 []).enter x0).ep.rolling = none ∧
    (((schedS 0x0A03 []).enter x0).source 0).st ≠ .disabled ∧ (((ran 0x0A03 [] .fresh).enter x0).source 0).st = .disabled ∧
    (((schedS 0x0A03 []).enter x0).allocEntry 255 6 0).toOption.isSome = true := by decide +kernel
theorem wit_discard : ((armS 0x0A04 none).enter x0).ep.armed ≠ none ∧ Held ((armS 0x0A04 none).enter x0).host 0 9 0x0A03 (.waiting 250 0)
    { cmd 0x0A03 [] (.waiting 250 0) with tag := 9 } ∧ Accepted ((armS 0x0A04 none).enter x0).host 0 5 0x0A04 (cmd 0x0A04 [] .fresh) := by
  decide +kernel
theorem wit_effect : (((armS 0 (some 0)).enter x0).ep.armed.bind ArmedCommit.eff) = some 0 ∧ ((armS 0 (some 0)).enter x0).wafer.move = none ∧
    (((armS 0 (some 0)).enter x0).ep.armed.map fun a => tsorted a.set.xforms) = some true ∧
    ((armS 0 none).enter x0).ep.armed ≠ none ∧ ((armS 0 (some 0)).enter x0).armingsDue = false ∧
    ((armS 0 (some 0)).enter x0).commitDone = false := by decide +kernel
/-- An attach's commit due; a move to end. -/
def engS : State := { ran 0 [] .fresh with ep := { (ran 0 [] .fresh).ep with engine := [⟨3, [(24, xf0)], [], some 0⟩] } }
def moveS : State := { imgS (img0 (site0 [])) 0 [] with wafer := { (imgS (img0 (site0 [])) 0 []).wafer with move := some (0, [1]) } }
theorem wit_engine : (engS.enter x0).engineDue = some 0 ∧ (moveS.enter x0).engineDue = none ∧ (moveS.enter x0).wafer.move ≠ none ∧
    (moveS.enter x0).place.sweep = none ∧ (moveS.enter x0).wafer.pause = none ∧ (moveS.enter x0).armingsDue = false ∧
    (moveS.enter x0).commitDone = false ∧ (moveS.enter x0).backsOpen = false ∧ (resS 2 []).backsOpen = true := by decide +kernel
/-- A rolling change with some parts. -/
def rollS (parts : List RollPart) : State :=
  let s := imgS (img0 (site0 [])) 0 []
  { s with ep := { s.ep with rolling := some ⟨1, 0, parts⟩ } }
theorem wit_roll : ((rollS [.slots 0]).enter x0).partReady [.slots 0] (.slots 0) = true ∧
    ((rollS [.region 0]).enter x0).partReady [.region 0] (.region 0) = true ∧
    ((rollS [.slots 0]).enter x0).partReady [.slots 0] (.shard 2) = false ∧ ((rollS []).enter x0).ep.rolling ≠ none := by decide +kernel

/-- The premises of MemoryStaysCanonical are met where memory lists bytes and the step answers a next state. -/
theorem wit_canonical : Memory.wf (State.putWord State.reset 3 5 77 12).mem = true ∧
    (State.putWord State.reset 3 5 77 12).mem ≠ [] ∧
    ∃ t, step (State.putWord State.reset 3 5 77 12) = .next t := ⟨by decide +kernel, by decide +kernel, _, rfl⟩
/-- The premises of CanonicalMemoryIsItsReads are met by a memory of two bytes. -/
theorem wit_canonical_reads : Memory.wf [(3, 7), (9, 1)] = true := by decide
/-- EveryStepTakesTheFrontCommand at the idle block: the queue stays empty. -/
theorem wit_front : State.reset.pending.tail = [] := rfl


/-! ### PTP (04), on the agents' port -/

/-- Domain A follows PTP domain 0 on site port 0, with its servo as given. -/
def ptpS (eight : Bool) (v : Servo) : State :=
  { agS Route.none [] with time := { (agS Route.none []).time with
      settings := { (agS Route.none []).time.settings with ptpA := some 0, portA := 0, asA := eight }, servoA := v } }

/-- A message of a type: 34 bytes of header, then its body. -/
def ptpM (type flags : Nat) (seq : Nat) (body : Bytes) : Bytes :=
  toLE 1 type ++ [2, 0, 0, 0, 0] ++ toLE 1 flags ++ [0] ++ toLE 8 0 ++ toLE 4 0 ++ [1, 2, 3, 0xFF, 0xFE, 4, 5, 6, 0, 1] ++
    netOrder 2 seq ++ [0, 0] ++ body

/-- A servo that knows its master. -/
def mastered : Servo := { State.reset.time.servoA with master := some (ptpM 11 0 0 (toLE 30 0)) }

theorem wit_announce : ((ptpS false State.reset.time.servoA).enter x0).ha 0 = false ∧
    ((ptpS false State.reset.time.servoA).enter x0).ptpDoms 0 (ptpM 11 0 0 (toLE 30 0)) = [1] ∧
    ((ptpS false State.reset.time.servoA).enter x0).ptpTakes 0 (ptpM 11 0 0 (toLE 30 0)) [11] 64 = true := by decide +kernel
theorem wit_sync_two : ((ptpS false mastered).enter x0).ptpTakes 0 (ptpM 0 2 7 (toLE 10 0)) [0] 44 = true ∧
    (((ptpS false mastered).enter x0).servo 1).fromMaster (ptpM 0 2 7 (toLE 10 0)) = true ∧
    ptpTwoStep (ptpM 0 2 7 (toLE 10 0)) = true := by decide +kernel
/-- An origin time 10 s ahead: beyond STEP_LIMIT, and within the domain's range. -/
def late10 : Bytes := netOrder 6 10 ++ netOrder 4 0
theorem wit_sync_step : ptpTwoStep (ptpM 0 0 7 late10) = false ∧
    ((ptpS false mastered).enter x0).ptpTakes 0 (ptpM 0 0 7 late10) [0] 44 = true ∧
    ((ptpS false mastered).enter x0).time.settings.stepLimit * 4294967296 <
      (((((ptpS false mastered).enter x0).counterAt 1 0 : Int) - rxDelay - (ptpTime (ptpM 0 0 7 late10) +
        ptpCorr (ptpM 0 0 7 late10)) - (((ptpS false mastered).enter x0).servo 1).path)).natAbs ∧
    ((ptpS false mastered).enter x0).stepFits 1 (10 * secU) = true := by decide +kernel
theorem wit_follow_up : (((ptpS false { mastered with sync := some (7, 0, 0) }).enter x0).servo 1).sync =
      some (ptpSeq (ptpM 8 0 7 late10), 0, 0) ∧
    ((ptpS false { mastered with sync := some (7, 0, 0) }).enter x0).ptpTakes 0 (ptpM 8 0 7 late10) [8] 44 = true := by
  decide +kernel
theorem wit_delay_resp :
    (let u := (ptpS false { mastered with delayTx := some (7, 5), last := some (1, 2) }).enter x0
     let m := ptpM 9 0 7 (late10 ++ u.clockId 0)
     u.ptpTakes 0 m [9] 54 && (u.servo 1).fromMaster m && sliceB m 44 10 == u.clockId 0 && !asOf u.time.settings 1 &&
       (u.servo 1).delayTx == some (ptpSeq m, 5)) = true := by decide +kernel
theorem wit_pdelay_resp :
    (let u := (ptpS true { mastered with delayTx := some (7, 5) }).enter x0
     let m := ptpM 3 0 7 (late10 ++ u.clockId 0)
     u.ptpTakes 0 m [3, 10] 54 && sliceB m 44 10 == u.clockId 0 && asOf u.time.settings 1 && !ptpTwoStep m &&
       (u.servo 1).delayTx == some (ptpSeq m, 5)) = true := by decide +kernel
theorem wit_delay_req : ((ptpS false mastered).enter x0).follows 1 false = true ∧
    (((ptpS false mastered).enter x0).servo 1).logInterval = none ∧ (((ptpS false mastered).enter x0).servo 1).lastReqNs = none ∧
    ((ptpS true mastered).enter x0).follows 1 true = true ∧ ptpOf (State.reset.enter x0).time.settings 1 = none := by
  decide +kernel
theorem wit_pdelay_req : ((ptpS true mastered).enter x0).ptpDoms 0 (ptpM 2 0 7 (toLE 20 0)) = [1] ∧
    ((ptpS true mastered).enter x0).ptpTakes 0 (ptpM 2 0 7 (toLE 20 0)) [2] 54 = true := by decide +kernel

end Sys2Proof.Tests
end

section
/-! PROOF. What the record of events, the panel, the host interface and the capacity state leave alone: one mask,
`State.sansReports`, under which every reporting operation is the identity. -/

namespace Sys2Proof.Machine

/-- A state less what reports of it change: the ring of events, the panel, the host interface, the capacity state and the
untested pairs seen (06 R165, 15 R396, 17 R453, 21 R529). -/
def State.sansReports (s : State) : State :=
  { s with
    flash := { s.flash with ring := [], nextSeq := 0, nextSlot := 0 }
    fw := { s.fw with pairsRunning := [], pairsSeen := [] }
    panel := PanelSt.reset
    host := HostSt.reset
    capacity := 0 }

/-- States that agree but for reports differ in what reports change alone. -/
theorem State.eq_of_sansReports {s t : State} (h : t.sansReports = s.sansReports) : t =
    { s with
      flash := { s.flash with ring := t.flash.ring, nextSeq := t.flash.nextSeq, nextSlot := t.flash.nextSlot }
      fw := { s.fw with pairsRunning := t.fw.pairsRunning, pairsSeen := t.fw.pairsSeen }
      panel := t.panel
      host := t.host
      capacity := t.capacity } := by
  have ht : t =
      { t.sansReports with
        flash := { t.sansReports.flash with ring := t.flash.ring, nextSeq := t.flash.nextSeq, nextSlot := t.flash.nextSlot }
        fw := { t.sansReports.fw with pairsRunning := t.fw.pairsRunning, pairsSeen := t.fw.pairsSeen }
        panel := t.panel
        host := t.host
        capacity := t.capacity } := rfl
  rw [h] at ht
  exact ht

theorem State.summary_of_sansReports {s t : State} (h : t.sansReports = s.sansReports) : t.summary = s.summary :=
  (congrArg State.summary h :)

/-- A fold of steps under which a view of the state stays leaves that view. -/
theorem foldl_keeps {α β : Type} (view : State → β) (f : State → α → State) (hf : ∀ s a, view (f s a) = view s)
    (l : List α) (s : State) : view (l.foldl f s) = view s :=
  List.foldlRecOn (motive := fun t => view t = view s) l f rfl fun t h a _ => (hf t a).trans h

@[simp] theorem State.panelTouch_sansReports (s : State) (r : List Nat) : (s.panelTouch r).sansReports = s.sansReports := by
  unfold State.panelTouch
  split <;> rfl

@[simp] theorem State.panelTouch_host (s : State) (r : List Nat) : (s.panelTouch r).host = s.host := by
  unfold State.panelTouch
  split <;> rfl

@[simp] theorem State.panelTouch_flash (s : State) (r : List Nat) : (s.panelTouch r).flash = s.flash := by
  unfold State.panelTouch
  split <;> rfl

@[simp] theorem State.event_sansReports (s : State) (k c u d : Nat) : (s.event k c u d).sansReports = s.sansReports := by
  unfold State.event
  dsimp only
  split
  · rw [State.panelTouch_sansReports]; rfl
  · rfl

@[simp] theorem State.event_host (s : State) (k c u d : Nat) : (s.event k c u d).host = s.host := by
  unfold State.event
  dsimp only
  split
  · rw [State.panelTouch_host]
  · rfl

@[simp] theorem State.unsol_sansReports (s : State) (c a : Nat) : (s.unsol c a).sansReports = s.sansReports := by
  simp [State.sansReports]

@[simp] theorem State.complete_sansReports (s : State) (q t st d : Nat) (r : Bytes) :
    (s.complete q t st d r).sansReports = s.sansReports := by
  simp [State.sansReports]

@[simp] theorem State.evalCapacity_sansReports (s : State) : s.evalCapacity.sansReports = s.sansReports := by
  unfold State.evalCapacity
  dsimp only
  split
  · rfl
  · simp only [State.panelTouch_sansReports, State.unsol_sansReports, State.event_sansReports]; rfl

/-- A panel region's change changes the panel alone. -/
theorem State.panelTouch_eq (s : State) (r : List Nat) : s.panelTouch r = { s with panel := (s.panelTouch r).panel } := by
  unfold State.panelTouch
  split <;> rfl

/-- A state less the host interface. -/
def State.sansHost (s : State) : State := { s with host := HostSt.reset }

theorem hostOnly_iff {s t : State} : HostOnly s t ↔ t.sansHost = s.sansHost := by
  refine ⟨fun h => by rw [h]; rfl, fun h => ?_⟩
  cases s; cases t
  simp only [State.sansHost, State.mk.injEq] at h
  simpa [HostOnly] using h

/-- An unsolicited event changes the host interface alone. -/
theorem State.unsol_hostOnly (s : State) (c a : Nat) : HostOnly s (s.unsol c a) := by
  simp [hostOnly_iff, State.sansHost]

/-- Entering a unit state changes the unit's state, the host interface and the panel. -/
theorem State.setUnit_eq (s : State) (v : UnitState) : s.setUnit v =
    { s with unit := { s.unit with state := v }, host := (s.setUnit v).host, panel := (s.setUnit v).panel } := by
  unfold State.setUnit
  split
  · rename_i h; subst h; rfl
  · rw [State.panelTouch_eq, State.unsol_hostOnly]

/-- Entering a unit state changes the state alone, reports apart. -/
@[simp] theorem State.setUnit_sansReports (s : State) (v : UnitState) :
    (s.setUnit v).sansReports = { s with unit := { s.unit with state := v } }.sansReports := by
  rw [State.setUnit_eq]; rfl

@[simp] theorem State.setUnit_unit (s : State) (v : UnitState) : (s.setUnit v).unit = { s.unit with state := v } :=
  congrArg State.unit (s.setUnit_sansReports v)

/-- With no queue pair for unsolicited events, one leaves the host interface (17 R453). -/
theorem State.unsol_host_of_noQp {s t : State} (ht : t.host = s.host) (h : s.eventQp = none) (c a : Nat) :
    (t.unsol c a).host = s.host := by
  have hq : t.eventQp = none := by simpa [State.eventQp, State.qp, ht] using h
  simpa [State.unsol, hq] using ht

theorem State.setUnit_host_of_noQp {s : State} (h : s.eventQp = none) (v : UnitState) : (s.setUnit v).host = s.host := by
  unfold State.setUnit
  split
  · rfl
  · rw [State.panelTouch_host]
    apply State.unsol_host_of_noQp _ h
    rfl

theorem State.evalCapacity_host_of_noQp {s : State} (h : s.eventQp = none) : s.evalCapacity.host = s.host := by
  unfold State.evalCapacity
  dsimp only
  split
  · rfl
  · rw [State.panelTouch_host]
    apply State.unsol_host_of_noQp _ h
    rw [State.event_host]

@[simp] theorem State.panelTouch_unit (s : State) (r : List Nat) : (s.panelTouch r).unit = s.unit :=
  (congrArg State.unit (s.panelTouch_sansReports r) :)

@[simp] theorem State.event_unit (s : State) (k c u d : Nat) : (s.event k c u d).unit = s.unit :=
  (congrArg State.unit (s.event_sansReports k c u d) :)

@[simp] theorem State.evalCapacity_unit (s : State) : s.evalCapacity.unit = s.unit :=
  (congrArg State.unit s.evalCapacity_sansReports :)

/-! ### The summary -/

/-- A changed summary is the one in use, of the next generation (06 R165, R166). -/
@[simp] theorem State.modSummary_summary (s : State) (f : Summary → Summary) :
    (s.modSummary f).summary = { f s.summary with gen := s.summary.gen + 1 } := by
  have newer : ∀ n : Nat, ¬n + 1 < n := fun n => Nat.not_lt.mpr (Nat.le_succ n)
  have older : ∀ n : Nat, n < n + 1 := Nat.lt_succ_self
  simp only [State.summary, State.modSummary, FlashSt.putSummary, FlashSt.summary]
  cases ha : s.flash.copyA with
  | none => cases hb : s.flash.copyB <;> simp only [gt_iff_lt, newer, if_false]
  | some a =>
    cases hb : s.flash.copyB with
    | none => simp only [gt_iff_lt, older, if_true]
    | some b =>
      by_cases hg : b.gen > a.gen
      · simp only [gt_iff_lt.mp hg, gt_iff_lt, newer, if_true, if_false]
      · simp only [hg, gt_iff_lt, older, if_true, if_false]

/-- A changed summary changes the copies alone. -/
theorem FlashSt.putSummary_copies (f : FlashSt) (v : Summary) :
    f.putSummary v = { f with copyA := (f.putSummary v).copyA, copyB := (f.putSummary v).copyB } := by
  unfold FlashSt.putSummary
  dsimp only
  repeat' split
  all_goals rfl

end Sys2Proof.Machine
end

section
/-! PROOF. Power-on requests (01 R28, 06 R142, R145, 21 R516). -/

namespace Sys2Proof.Machine

/-! ### What a power-on request comes to -/

theorem State.powerOn_of_ne {s : State} (h : s.unit.state ≠ .standby) (low : Bool) : s.powerOn low = s := by
  simp [State.powerOn, h]

theorem State.powerOn_held {s : State} (h : s.unit.state = .standby) (h4 : s.unit.step4Done = false) (low : Bool) :
    s.powerOn low = { s with unit := { s.unit with powerOnHeld := true } } := by
  simp [State.powerOn, h, h4]

theorem State.powerOn_refused {s : State} (h : s.unit.state = .standby) (h4 : s.unit.step4Done = true) {low : Bool}
    (hr : s.unit.fusesBad = true ∨ low = true) : s.powerOn low = s := by
  simp only [State.powerOn, h, h4]
  rcases hr with hr | hr <;> simp [hr]

theorem State.powerOn_starts {s : State} (h : s.unit.state = .standby) (h4 : s.unit.step4Done = true)
    (hf : s.unit.fusesBad = false) : s.powerOn false = s.beginStep5 := by
  simp [State.powerOn, h, h4, hf]

/-! ### Start-up step 5 begins -/

/-- The timebase as step 5 starts it, with the time settings held (04 R89). -/
def State.step5Time (s : State) : TimeSt :=
  { TimeSt.reset with
    tick := s.time.tick, running := true, settings := s.fw.held.getD TimeSettings.default
    active := (s.fw.held.getD TimeSettings.default).activeDefault }

/-- The unit as step 5 begins: the regions of unsealed supers are to be powered (06 R142). -/
def State.step5Unit (s : State) : UnitSt :=
  { s.unit with
    state := .bringup, step := 5, coolantHold := false, shortfall := false
    toPower := (List.range 64).filter fun p => (s.super p).st == 0 }

/-- Step 5 begins: the unit, the timebase and the boot count change, and what reports it. -/
theorem State.beginStep5_eq (s : State) : s.beginStep5 =
    { s with
      unit := s.step5Unit
      time := s.step5Time
      flash := s.flash.putSummary { s.summary with bootCount := s.summary.bootCount + 1 }
      host := s.beginStep5.host
      panel := s.beginStep5.panel } := by
  unfold State.beginStep5
  rw [State.setUnit_eq]
  rfl

@[simp] theorem State.beginStep5_summary (s : State) :
    s.beginStep5.summary = { s.summary with gen := s.summary.gen + 1, bootCount := s.summary.bootCount + 1 } := by
  rw [State.beginStep5_eq]
  exact State.modSummary_summary s fun m => { m with bootCount := m.bootCount + 1 }

end Sys2Proof.Machine

open Sys2Proof Sys2Proof.Machine

/-- Settles O23: each of the three requests is `State.powerOn`, whose cases are the clauses. -/
theorem powerRequestsStartTheUnit : Obligations.PowerRequestsStartTheUnit := by
  unfold Obligations.PowerRequestsStartTheUnit
  rintro s u x low rfl
  have rises : exec (.standbyRailRises x) s = execStandbyRailRises x s := rfl
  have restart : exec (.shortfallRestartTimer x low) s = execShortfallRestartTimer x low s := rfl
  have timer : exec (.standbyPowerOnTimer x low) s = .next ((s.enter x).powerOn low) := rfl
  have press : exec (.buttonShortPress x low) s = .next ((s.enter x).powerOn low) := rfl
  generalize hu : s.enter x = u at *
  refine ⟨fun hoff => ?_, fun hne => ?_, fun hs => ?_, fun i hi => ?_⟩
  · rw [rises, execStandbyRailRises]
    dsimp only
    rw [hu, if_pos hoff]
    refine ⟨_, rfl, State.setUnit_unit _ _, ?_⟩
    rw [State.setUnit_eq]
  · simp [rises, execStandbyRailRises, hu, hne]
  · simp [restart, execShortfallRestartTimer, hu, hs]
  · have request : exec i s = .next (u.powerOn low) := by
      rcases hi with rfl | rfl | ⟨rfl, hs⟩
      · exact timer
      · exact press
      · simp [restart, execShortfallRestartTimer, hu, hs]
    rw [request]
    refine ⟨fun hne => ?_, fun h h4 => ?_, fun h h4 hr => ?_, fun h h4 hf hl => ?_⟩
    · rw [State.powerOn_of_ne hne]
    · rw [State.powerOn_held h h4]
    · rw [State.powerOn_refused h h4 hr]
    · subst hl
      refine ⟨u.beginStep5, by rw [State.powerOn_starts h h4 hf], ?_⟩
      have hb := u.beginStep5_eq
      refine ⟨congrArg State.unit hb, congrArg (·.time.running) hb, congrArg (·.time.localC) hb, congrArg (·.time.tick) hb,
        congrArg (·.time.domA.valid) hb, congrArg (·.time.settings) hb, u.beginStep5_summary, ?_, ?_, ?_⟩
      · exact (congrArg (·.flash.ring) hb).trans (congrArg FlashSt.ring (FlashSt.putSummary_copies _ _))
      · exact (congrArg (·.flash.sealRecs) hb).trans (congrArg FlashSt.sealRecs (FlashSt.putSummary_copies _ _))
      · rw [hb]
end

section
/-! PROOF. The entry to QUIESCE (01 R29, 03 R85, 19 R476, R494): what holds, moves and withdrawn commits leave alone. -/

namespace Sys2Proof.Machine

/-! ### Frames to agents -/

/-- A state less the agent transmitters and what is due of them. -/
def State.sansFrames (s : State) : State := { s with agent := AgentSt.reset, due := [] }

@[simp] theorem State.addDue_sansFrames (s : State) (n : Nat) (e : DueEv) : (s.addDue n e).sansFrames = s.sansFrames := by
  unfold State.addDue
  split <;> rfl

/-- A frame of queue 5, which carries no PTP message, changes the transmitters alone as it starts. -/
theorem State.putSent5_sansFrames (s : State) (p n : Nat) (b : Bytes) : (s.putSent p 5 n b).sansFrames = s.sansFrames := by
  simp only [State.putSent, show ¬(5 : Nat) = 6 by decide, if_false]
  split
  · rfl
  · rw [State.addDue_sansFrames]; rfl

/-- A frame of queue 5 changes the transmitters alone. -/
theorem State.txFrame5_sansFrames (s : State) (p : Nat) (b : Bytes) : (s.txFrame p 5 b).sansFrames = s.sansFrames := by
  unfold State.txFrame
  dsimp only
  split
  · rfl
  · split
    · exact s.putSent5_sansFrames p _ b
    · split
      · rw [State.addDue_sansFrames]; rfl
      · rfl

@[simp] theorem State.sendSeg_sansFrames (s : State) (a : Nat) (m : Bytes) : (s.sendSeg a m).sansFrames = s.sansFrames := by
  unfold State.sendSeg State.agentTx
  split
  · rfl
  · dsimp only
    rw [State.txFrame5_sansFrames]
    rfl

/-! ### Holds -/

/-- A state less routes, agent frames and answers; the route service's work stays. -/
def State.sansRoutes (s : State) : State :=
  { s with route := { RouteSt.reset with jobs := s.route.jobs }, agent := AgentSt.reset, due := [], host := HostSt.reset }

@[simp] theorem State.complete_sansRoutes (s : State) (q t st d : Nat) (r : Bytes) :
    (s.complete q t st d r).sansRoutes = s.sansRoutes := by
  simp [State.sansRoutes]

@[simp] theorem State.sendHold_sansRoutes (s : State) (a : Nat) (b : Bool) : (s.sendHold a b).sansRoutes = s.sansRoutes := by
  have h := State.sendSeg_sansFrames (s.setRoute a { s.routeOf a with holdDue := some b }) a (holdSeg (s.routeOf a) b)
  exact (congrArg State.sansRoutes h :)

@[simp] theorem State.sendHold_host (s : State) (a : Nat) (b : Bool) : (s.sendHold a b).host = s.host := by
  have h := State.sendSeg_sansFrames (s.setRoute a { s.routeOf a with holdDue := some b }) a (holdSeg (s.routeOf a) b)
  exact (congrArg State.host h :)

@[simp] theorem State.readEvents_sansRoutes (s : State) (c : Cmd) : (s.readEvents c).sansRoutes = s.sansRoutes := by
  unfold State.readEvents
  dsimp only
  rw [State.complete_sansRoutes]
  rfl

@[simp] theorem State.routeEvent_sansRoutes (s : State) (a v c : Nat) : (s.routeEvent a v c).sansRoutes = s.sansRoutes := by
  unfold State.routeEvent
  dsimp only
  split
  · rfl
  · split
    · rw [State.readEvents_sansRoutes]; rfl
    · rfl

@[simp] theorem State.holdAgent_sansRoutes (s : State) (a : Nat) (b e : Bool) (v c : Nat) :
    (s.holdAgent a b e v c).sansRoutes = s.sansRoutes := by
  unfold State.holdAgent
  dsimp only
  rw [State.routeEvent_sansRoutes]
  exact s.sendHold_sansRoutes a b

/-- No read of route events waits, so none is answered (18 Table 18-9). -/
def State.NoEventRead (s : State) : Prop := ∀ k ∈ s.host.accepted, k.opcode ≠ 0x0707

theorem State.waitingRead_none {s t : State} (h : s.NoEventRead) (ht : t.host = s.host) (q : Nat) :
    t.waitingRead q 0x0707 = none := by
  simp only [State.waitingRead, List.find?_eq_none, ht]
  intro k hk
  simp [h k hk]

theorem State.routeEvent_host {s : State} (h : s.NoEventRead) (a v c : Nat) : (s.routeEvent a v c).host = s.host := by
  unfold State.routeEvent
  dsimp only
  split
  · rfl
  · split
    · rename_i k hk
      obtain ⟨q, -, hq⟩ := Option.bind_eq_some_iff.mp hk
      exact absurd (hq.symm.trans (State.waitingRead_none h (by rfl) q)) (by simp)
    · rfl

theorem State.holdAgent_host {s : State} (h : s.NoEventRead) (a : Nat) (b e : Bool) (v c : Nat) :
    (s.holdAgent a b e v c).host = s.host := by
  have hs := s.sendHold_host a b
  unfold State.holdAgent
  dsimp only
  rw [State.routeEvent_host (s := (s.sendHold a b).setRoute a _)]
  · exact hs
  · exact fun k hk => h k (hs ▸ hk)

/-! ### The route service stops -/

/-- The goal searches are answered and the work is gone; then every active agent is held (14 R369). -/
theorem State.quiesceRoutes_sansRoutes (s : State) :
    s.quiesceRoutes.sansRoutes = { s with route := { s.route with jobs := [] } }.sansRoutes := by
  unfold State.quiesceRoutes
  dsimp only
  rw [foldl_keeps State.sansRoutes _ fun t r => t.holdAgent_sansRoutes _ _ _ _ _]
  have hj : ∀ (t v : State), t.sansRoutes = v.sansRoutes →
      { t with route := { t.route with jobs := [] } }.sansRoutes = { v with route := { v.route with jobs := [] } }.sansRoutes :=
    fun t v e => congrArg (fun w : State => { w with route := { w.route with jobs := [] } }) e
  apply hj
  refine foldl_keeps State.sansRoutes _ (fun t j => ?_) _ _
  split
  · exact t.complete_sansRoutes _ _ _ _ _
  · rfl

theorem State.quiesceRoutes_host {s : State} (hj : s.route.jobs = []) (h : s.NoEventRead) :
    s.quiesceRoutes.host = s.host := by
  unfold State.quiesceRoutes
  rw [hj]
  refine List.foldlRecOn (motive := fun t : State => t.host = s.host) _ _ rfl fun t ht r _ => ?_
  exact (State.holdAgent_host (fun k hk => h k (ht ▸ hk)) _ _ _ _ _).trans ht

/-! ### A commit withdrawn, a move given up -/

/-- The state with an armed commit withdrawn, before its command is answered (19 R476, R477). -/
def State.withdraw (s : State) (a : ArmedCommit) (back : Bool) : State :=
  { s with
    ep := { s.ep with armed := none, staged := if back then a.set.onto s.ep.staged else s.ep.staged }
    sched := { s.sched with entries := s.sched.entries.map fun e =>
      if e.1 = a.entry ∧ e.2.action = 6 then (e.1, { e.2 with st := .free }) else e } }

theorem State.disarmCommit_none {s : State} (h : s.ep.armed = none) (st : Nat) (back : Bool) :
    s.disarmCommit st back = s := by
  simp [State.disarmCommit, h]

theorem State.disarmCommit_fired {s : State} {a : ArmedCommit} {k : Nat} (h : s.ep.armed = some a) (he : a.eff = some k)
    (st : Nat) (back : Bool) : s.disarmCommit st back = s := by
  simp [State.disarmCommit, h, he]

theorem State.disarmCommit_armed {s : State} {a : ArmedCommit} (h : s.ep.armed = some a) (he : a.eff = none)
    (st : Nat) (back : Bool) : s.disarmCommit st back = (s.withdraw a back).complete a.qp a.tag st 0 [] := by
  simp [State.disarmCommit, h, he, State.withdraw]

/-- A state less the staged changes, the armed commit, the schedule entries and the answers. -/
def State.sansCommit (s : State) : State :=
  { s with
    ep := { s.ep with armed := none, staged := StagedSet.empty }
    sched := { s.sched with entries := [] }
    host := HostSt.reset }

@[simp] theorem State.disarmCommit_sansCommit (s : State) (st : Nat) (back : Bool) :
    (s.disarmCommit st back).sansCommit = s.sansCommit := by
  cases h : s.ep.armed with
  | none => rw [State.disarmCommit_none h]
  | some a =>
    cases he : a.eff with
    | some k => rw [State.disarmCommit_fired h he]
    | none =>
      rw [State.disarmCommit_armed h he]
      simp [State.sansCommit, State.withdraw]

/-- A commit that has not fired does not stay armed. -/
theorem State.disarmCommit_unarmed {s : State} (h : ∀ a, s.ep.armed = some a → a.eff = none) (st : Nat) (back : Bool) :
    (s.disarmCommit st back).ep.armed = none := by
  cases ha : s.ep.armed with
  | none => rw [State.disarmCommit_none ha, ha]
  | some a =>
    rw [State.disarmCommit_armed ha (h a ha), State.complete_ep]
    rfl

/-- A move given up changes the commits' ticks and the move alone. -/
theorem State.moveOver_eq (s : State) : s.moveOver =
    { s with
      ep := { s.ep with armed := s.moveOver.ep.armed, engine := s.moveOver.ep.engine }
      wafer := { s.wafer with move := none } } := by
  unfold State.moveOver
  dsimp only
  split <;> rfl

/-- A commit that has not fired keeps its place through the end of a move (19 R492). -/
theorem State.moveOver_armed {s : State} (h : ∀ a, s.ep.armed = some a → a.eff = none) :
    s.moveOver.ep.armed = s.ep.armed := by
  cases ha : s.ep.armed with
  | none => simp [State.moveOver, ha]
  | some a => simp [State.moveOver, ha, h a ha]

/-! ### The entry to QUIESCE -/

theorem State.startQuiesce_of_ne {s : State} (h : s.unit.state ≠ .run) : s.startQuiesce = s := by
  simp [State.startQuiesce, h]

/-- The state in which a quiesce withdraws a commit: QUIESCE, no move, no entry of the image armed. -/
def State.quiesceBegun (s : State) : State := (s.setUnit .quiesce).moveOver.disarmImage

theorem State.startQuiesce_run {s : State} (h : s.unit.state = .run) :
    s.startQuiesce = (s.quiesceBegun.disarmCommit stBadState true).quiesceRoutes := by
  simp [State.startQuiesce, h, State.quiesceBegun]

/-- As a quiesce begins the unit is in QUIESCE, no move is in progress; memory, image and armed commit stay. -/
theorem State.quiesceBegun_parts (s : State) :
    s.quiesceBegun.unit = { s.unit with state := .quiesce } ∧ s.quiesceBegun.wafer = { s.wafer with move := none } ∧
      s.quiesceBegun.mem = s.mem ∧ s.quiesceBegun.ep.image = s.ep.image ∧ s.quiesceBegun.route = s.route := by
  have h : s.quiesceBegun = (s.setUnit .quiesce).moveOver.disarmImage := rfl
  rw [h, State.moveOver_eq, State.setUnit_eq]
  exact ⟨rfl, rfl, rfl, rfl, rfl⟩

theorem State.quiesceBegun_host (s : State) : s.quiesceBegun.host = (s.setUnit .quiesce).host := by
  have h : s.quiesceBegun = (s.setUnit .quiesce).moveOver.disarmImage := rfl
  rw [h, State.moveOver_eq]
  rfl

theorem State.quiesceBegun_armed {s : State} (h : ∀ a, s.ep.armed = some a → a.eff = none) :
    s.quiesceBegun.ep.armed = s.ep.armed := by
  have he : (s.setUnit .quiesce).ep = s.ep := by rw [State.setUnit_eq]
  have hm : (s.setUnit .quiesce).moveOver.ep.armed = (s.setUnit .quiesce).ep.armed :=
    State.moveOver_armed (by rw [he]; exact h)
  exact hm.trans (congrArg EpochSt.armed he)

/-- What a quiesce of a running unit leaves, routes and frames apart: that of its beginning, the commit withdrawn. -/
theorem State.startQuiesce_sansRoutes {s : State} (h : s.unit.state = .run) : s.startQuiesce.sansRoutes =
    (let t := s.quiesceBegun.disarmCommit stBadState true
     { t with route := { t.route with jobs := [] } }).sansRoutes := by
  rw [State.startQuiesce_run h, State.quiesceRoutes_sansRoutes]

/-- A running unit's quiesce: the unit is in QUIESCE, no move and no search is left; memory and image stay. -/
theorem State.startQuiesce_parts {s : State} (h : s.unit.state = .run) :
    s.startQuiesce.unit = { s.unit with state := .quiesce } ∧ s.startQuiesce.wafer.move = none ∧
      s.startQuiesce.route.jobs = [] ∧ s.startQuiesce.ep.image = s.ep.image ∧ s.startQuiesce.mem = s.mem := by
  have hr := State.startQuiesce_sansRoutes h
  have hc := s.quiesceBegun.disarmCommit_sansCommit stBadState true
  obtain ⟨hu, hw, hm, hi, -⟩ := s.quiesceBegun_parts
  refine ⟨(congrArg State.unit hr).trans ((congrArg State.unit hc).trans hu), ?_, (congrArg (·.route.jobs) hr :), ?_,
    (congrArg State.mem hr).trans ((congrArg State.mem hc).trans hm)⟩
  · exact (congrArg (·.wafer.move) hr).trans ((congrArg (·.wafer.move) hc).trans (congrArg WaferSt.move hw))
  · exact (congrArg (·.ep.image) hr).trans ((congrArg (·.ep.image) hc).trans hi)

/-- A host commit that has not fired is withdrawn as a quiesce begins (19 R494). -/
theorem State.startQuiesce_armed {s : State} (h : s.unit.state = .run) (ha : ∀ a, s.ep.armed = some a → a.eff = none) :
    s.startQuiesce.ep.armed = none := by
  refine (congrArg (·.ep.armed) (State.startQuiesce_sansRoutes h)).trans (State.disarmCommit_unarmed ?_ _ _)
  rw [State.quiesceBegun_armed ha]
  exact ha

theorem State.unsol_accepted (s : State) (c a : Nat) : (s.unsol c a).host.accepted = s.host.accepted := by
  unfold State.unsol
  split
  · rfl
  · split
    · split
      · exact (pushEntry_host _ _ _ _).2
      · rfl
    · rfl

theorem State.setUnit_accepted (s : State) (v : UnitState) : (s.setUnit v).host.accepted = s.host.accepted := by
  unfold State.setUnit
  split
  · rfl
  · rw [State.panelTouch_host, State.unsol_accepted]

/-- With no commit armed, no search and no waiting read of route events, a quiesce answers no command. -/
theorem State.startQuiesce_accepted {s : State} (h : s.unit.state = .run) (hj : s.route.jobs = []) (ha : s.ep.armed = none)
    (hn : s.NoEventRead) : s.startQuiesce.host.accepted = s.host.accepted := by
  have hb : s.quiesceBegun.host.accepted = s.host.accepted := by rw [s.quiesceBegun_host, State.setUnit_accepted]
  have hd : s.quiesceBegun.disarmCommit stBadState true = s.quiesceBegun :=
    State.disarmCommit_none (by rw [State.quiesceBegun_armed (by simp [ha]), ha]) _ _
  obtain ⟨-, -, -, -, hr⟩ := s.quiesceBegun_parts
  rw [State.startQuiesce_run h, hd, State.quiesceRoutes_host, hb]
  · rw [hr, hj]
  · exact fun k hk => hn k (hb ▸ hk)

end Sys2Proof.Machine
end

section
/-! PROOF. The regions power down (03 R85, 06 R142, 17 R457, 21 R516): all volatile state is lost, the flash is kept. -/

namespace Sys2Proof.Machine

/-! ### What comes before the loss leaves alone -/

/-- What a power-down keeps: the flash and the firmware. -/
def State.kept (s : State) : FlashSt × FwSt := (s.flash, s.fw)

theorem State.tornWrite_kept (s : State) (t : Transfer) : (s.tornWrite t).kept = s.kept := by
  unfold State.tornWrite
  split
  · rfl
  · split
    · rfl
    · dsimp only
      refine foldl_keeps State.kept _ (fun s i => ?_) _ _
      split
      · rfl
      · refine foldl_keeps State.kept _ (fun s q => ?_) _ _
        split <;> rfl

theorem State.outputLow_kept (s : State) (o : Nat) : (s.outputLow o).kept = s.kept := by
  unfold State.outputLow
  dsimp only
  split <;> rfl

theorem State.outputsLow_kept (s : State) : s.outputsLow.kept = s.kept := by
  unfold State.outputsLow
  rw [foldl_keeps State.kept _ State.outputLow_kept]
  unfold State.ppsLow
  split <;> rfl

theorem State.regionOff_kept (s : State) (p : Nat) : (s.regionOff p).kept = s.kept := by
  unfold State.regionOff
  split <;> rfl

theorem State.regionOff_wafer (s : State) (p : Nat) : (s.regionOff p).wafer = s.wafer := by
  unfold State.regionOff
  split <;> rfl

theorem State.undoProvisional_kept (s : State) : s.undoProvisional.kept = s.kept := rfl

/-- No super holds a provisional seal once they are undone (06 R144). -/
theorem State.undoProvisional_super (s : State) (p : Nat) : (s.undoProvisional.super p).provisional = none := by
  have h : ∀ u ∈ s.undoProvisional.wafer.supers, u.provisional = none := by
    intro u hu
    obtain ⟨v, -, rfl⟩ := List.mem_map.mp hu
    split
    · rfl
    · simpa using ‹¬v.provisional.isSome = true›
  unfold State.super
  rw [List.getD_eq_getElem?_getD]
  cases hp : s.undoProvisional.wafer.supers[p]? with
  | none => rfl
  | some u => exact h u (List.mem_of_getElem? hp)

/-- The state whose volatile part is then dropped: transfers torn, outputs low, provisional seals undone, rails off. -/
def State.railsOff (s : State) : State :=
  let t := (s.store.transfers.foldl State.tornWrite s).outputsLow
  t.unit.regionsOn.reverse.foldl State.regionOff t.undoProvisional

theorem State.railsOff_kept (s : State) : s.railsOff.kept = s.kept := by
  unfold State.railsOff
  dsimp only
  rw [foldl_keeps State.kept _ State.regionOff_kept, State.undoProvisional_kept]
  exact (State.outputsLow_kept _).trans (foldl_keeps State.kept _ State.tornWrite_kept _ _)

theorem State.railsOff_super (s : State) (p : Nat) : (s.railsOff.super p).provisional = none := by
  unfold State.railsOff State.super
  dsimp only
  rw [foldl_keeps State.wafer _ State.regionOff_wafer]
  exact State.undoProvisional_super _ p

/-! ### The loss -/

/-- From `u` to `t` all volatile state is lost, and what the flash holds stays (06 R142, 21 R516). -/
def RegionsLost (u t : State) : Prop :=
  t.host.accepted = [] ∧ (∀ n, (t.qp n).enabled = false) ∧ t.sched.entries = [] ∧ (∀ n, (t.source n).st = .disabled) ∧
    t.cap = CapSt.reset ∧ t.ep = EpochSt.reset ∧ t.stg = StageSt.reset ∧ t.xforms = [] ∧ t.cells = CellSt.reset ∧
    t.link.ports = LinkSt.reset.ports ∧ t.wafer.pause = none ∧ t.wafer.move = none ∧
    t.unit.regionsOn = [] ∧ (∀ c, c ∈ t.mem → lineAt 0 0 ≤ c.1 ∧ c.1 < engBase) ∧ (∀ p, (t.super p).provisional = none) ∧
    (∀ o, (t.tso o).level = false) ∧
    t.flash.retired = u.flash.retired ∧ t.flash.sealRecs = u.flash.sealRecs ∧ t.flash.keepersGone = u.flash.keepersGone ∧
    t.summary.sealedMask = u.summary.sealedMask ∧ (∀ n, t.fw.slot n = u.fw.slot n) ∧ t.fw.micro = u.fw.micro

theorem getD_replicate_self {α : Type} (n i : Nat) (a : α) : (List.replicate n a).getD i a = a := by
  simp [List.getD_eq_getElem?_getD, List.getElem?_replicate]
  split <;> rfl

/-- What the loss does not drop it takes over from the state with the rails off. -/
theorem State.volatileReset_railsOff (s : State) : s.volatileReset.flash = s.railsOff.flash ∧
    s.volatileReset.wafer.supers = s.railsOff.wafer.supers ∧ s.volatileReset.fw.slotA = s.railsOff.fw.slotA ∧
    s.volatileReset.fw.slotB = s.railsOff.fw.slotB ∧ s.volatileReset.fw.micro = s.railsOff.fw.micro := by
  unfold State.volatileReset State.railsOff
  dsimp only
  simp only [and_self]

theorem State.railsOff_flash_fw (s : State) : s.railsOff.flash = s.flash ∧ s.railsOff.fw = s.fw := by
  simpa [State.kept] using s.railsOff_kept

theorem State.volatileReset_flash (s : State) : s.volatileReset.flash = s.flash := by
  obtain ⟨hf, -⟩ := s.volatileReset_railsOff
  rw [hf, s.railsOff_flash_fw.1]

theorem State.volatileReset_fw (s : State) : (∀ n, s.volatileReset.fw.slot n = s.fw.slot n) ∧
    s.volatileReset.fw.micro = s.fw.micro := by
  obtain ⟨-, -, ha, hb, hm⟩ := s.volatileReset_railsOff
  rw [s.railsOff_flash_fw.2] at ha hb hm
  exact ⟨fun n => by simp only [FwSt.slot, ha, hb], hm⟩

theorem State.volatileReset_super (s : State) (p : Nat) : (s.volatileReset.super p).provisional = none := by
  obtain ⟨-, hw, -⟩ := s.volatileReset_railsOff
  have h := s.railsOff_super p
  unfold State.super at h ⊢
  rwa [hw]

/-- The memory left is that of the stores. -/
theorem State.volatileReset_mem (s : State) (c : Host.Cell) (h : c ∈ s.volatileReset.mem) :
    lineAt 0 0 ≤ c.1 ∧ c.1 < engBase := by
  unfold State.volatileReset at h
  dsimp only at h
  simpa using (List.mem_filter.mp h).2

theorem regionsLost_volatileReset (s : State) : RegionsLost s s.volatileReset := by
  have hf := s.volatileReset_flash
  obtain ⟨hslot, hmicro⟩ := s.volatileReset_fw
  refine ⟨rfl, fun n => ?_, rfl, fun n => ?_, rfl, rfl, rfl, rfl, rfl, rfl, rfl, rfl, rfl, s.volatileReset_mem,
    s.volatileReset_super, fun o => ?_, congrArg _ hf, congrArg _ hf, congrArg _ hf, ?_, hslot, hmicro⟩
  · exact (congrArg QueuePair.enabled (getD_replicate_self 64 n QueuePair.blank) :)
  · exact (congrArg Source.st (getD_replicate_self 16 n Source.blank) :)
  · exact (congrArg Tso.level (getD_replicate_self 32 o _) :)
  · exact congrArg (fun f : FlashSt => f.summary.sealedMask) hf

/-! ### What follows the loss -/

theorem State.eventQp_none {s : State} (h : ∀ n, (s.qp n).enabled = false) : s.eventQp = none := by
  simp [State.eventQp, firstBelow, List.find?_eq_none, h]

theorem RegionsLost.eventQp {u s : State} (h : RegionsLost u s) : s.eventQp = none :=
  let ⟨_, enabled, _⟩ := h
  State.eventQp_none enabled

/-- Reports that leave the host interface keep the loss. -/
theorem RegionsLost.reported {u s t : State} (h : RegionsLost u s) (hr : t.sansReports = s.sansReports)
    (hh : t.host = s.host) : RegionsLost u t := by
  rw [State.eq_of_sansReports hr, hh]
  exact h

/-- What is reported before the loss is not part of it. -/
theorem RegionsLost.of_reported {u s t : State} (h : RegionsLost s t) (hr : s.sansReports = u.sansReports) :
    RegionsLost u t := by
  rw [State.eq_of_sansReports hr] at h
  exact h

/-- The loss says of the unit only that no region is on, and nothing of the panel. -/
theorem RegionsLost.setUnitPanel {u s : State} (h : RegionsLost u s) {v : UnitSt} (hv : v.regionsOn = s.unit.regionsOn)
    (p : PanelSt) : RegionsLost u { s with unit := v, panel := p } := by
  obtain ⟨accepted, enabled, entries, source, cap, ep, stg, xforms, cells, ports, pause, move, rails, kept⟩ := h
  exact ⟨accepted, enabled, entries, source, cap, ep, stg, xforms, cells, ports, pause, move, hv.trans rails, kept⟩

theorem RegionsLost.setUnit {u s : State} (h : RegionsLost u s) (v : UnitState) : RegionsLost u (s.setUnit v) := by
  have hs : RegionsLost u { s with unit := { s.unit with state := v } } := h
  exact hs.reported (s.setUnit_sansReports v) (State.setUnit_host_of_noQp h.eventQp v)

theorem RegionsLost.panelTouch {u s : State} (h : RegionsLost u s) (r : List Nat) : RegionsLost u (s.panelTouch r) :=
  h.reported (s.panelTouch_sansReports r) (s.panelTouch_host r)

theorem RegionsLost.evalCapacity {u s : State} (h : RegionsLost u s) : RegionsLost u s.evalCapacity :=
  h.reported s.evalCapacity_sansReports (State.evalCapacity_host_of_noQp h.eventQp)

/-- A change of the summary that leaves the seals keeps the loss. -/
theorem RegionsLost.modSummary {u s : State} (h : RegionsLost u s) {f : Summary → Summary}
    (hf : ∀ m, (f m).sealedMask = m.sealedMask) : RegionsLost u (s.modSummary f) := by
  obtain ⟨accepted, enabled, entries, source, cap, ep, stg, xforms, cells, ports, pause, move, rails, mem, prov, tso, retired,
    seals, keepers, mask, slots⟩ := h
  have hc := s.flash.putSummary_copies (f s.summary)
  refine ⟨accepted, enabled, entries, source, cap, ep, stg, xforms, cells, ports, pause, move, rails, mem, prov, tso,
    (congrArg FlashSt.retired hc).trans retired, (congrArg FlashSt.sealRecs hc).trans seals,
    (congrArg FlashSt.keepersGone hc).trans keepers, ?_, slots⟩
  rw [State.modSummary_summary]
  exact (hf _).trans mask

/-- Step 5 begins without bringing anything back (17 R457). -/
theorem RegionsLost.beginStep5 {u s : State} (h : RegionsLost u s) : RegionsLost u s.beginStep5 := by
  unfold State.beginStep5
  refine RegionsLost.setUnit ?_ .bringup
  refine RegionsLost.modSummary ?_ fun _ => rfl
  exact h

theorem State.bundlesDown_sansReports (s : State) : s.bundlesDown.sansReports = s.sansReports := by
  unfold State.bundlesDown
  refine foldl_keeps State.sansReports _ (fun s p => ?_) _ _
  dsimp only
  split
  · exact s.event_sansReports _ _ _ _
  · rfl

/-! ### Powering down -/

theorem regionsLost_powerDown (s : State) : RegionsLost s s.powerDown := by
  have h := (regionsLost_volatileReset s).setUnitPanel (v := { s.volatileReset.unit with step := 4 }) rfl s.volatileReset.panel
  unfold State.powerDown
  exact ((h.setUnit .standby).panelTouch _).evalCapacity

theorem State.powerDown_unit (s : State) :
    s.powerDown.unit = { s.volatileReset.unit with state := .standby, step := 4 } := by
  unfold State.powerDown
  simp

/-! ### An event stays in the ring through those that follow it at once (06 R164, R165) -/

/-- An event stands in the ring, and at most `n` slots from its own have been programmed since. -/
def State.Recorded (s : State) (e : FaultEvent) (n : Nat) : Prop :=
  e ∈ s.flash.ring ∧ s.flash.nextSlot ≤ e.slot + n

/-- The entry an event makes (06 Table 6-7). -/
def State.newEvent (s : State) (k c u d : Nat) : FaultEvent where
  seq := s.flash.nextSeq
  boot := s.summary.bootCount
  kind := k
  cause := c
  subject := u
  detail := d
  stamp := s.evStamp
  slot := s.flash.nextSlot

@[simp] theorem State.event_ring (s : State) (k c u d : Nat) :
    (s.event k c u d).flash.ring = eraseSector s.flash.ring s.flash.nextSlot ++ [s.newEvent k c u d] := by
  unfold State.event
  dsimp only
  split
  · rw [State.panelTouch_flash]; rfl
  · rfl

@[simp] theorem State.event_nextSlot (s : State) (k c u d : Nat) : (s.event k c u d).flash.nextSlot = s.flash.nextSlot + 1 := by
  unfold State.event
  dsimp only
  split
  · rw [State.panelTouch_flash]
  · rfl

/-- An event just made stands in the ring. -/
theorem State.event_recorded (s : State) (k c u d : Nat) : (s.event k c u d).Recorded (s.newEvent k c u d) 1 := by
  refine ⟨?_, Nat.le_of_eq (s.event_nextSlot k c u d)⟩
  rw [State.event_ring]
  exact List.mem_append_right _ (List.mem_singleton_self _)

/-- The sector erased next lies nearly the whole ring behind, so a recent event stays. -/
theorem State.Recorded.event {s : State} {e : FaultEvent} {n : Nat} (h : s.Recorded e n) (hn : n ≤ 32640) (k c u d : Nat) :
    (s.event k c u d).Recorded e (n + 1) := by
  obtain ⟨hr, hs⟩ := h
  refine ⟨?_, by rw [State.event_nextSlot]; omega⟩
  rw [State.event_ring]
  refine List.mem_append_left _ ?_
  unfold eraseSector
  split
  · exact List.mem_filter.mpr ⟨hr, by simp; omega⟩
  · exact hr

theorem State.Recorded.mono {s : State} {e : FaultEvent} {n m : Nat} (h : s.Recorded e n) (hm : n ≤ m) : s.Recorded e m :=
  ⟨h.1, by have := h.2; omega⟩

/-- The same ring holds the event. -/
theorem State.Recorded.congr {s t : State} {e : FaultEvent} {n : Nat} (h : s.Recorded e n) (hf : t.flash = s.flash) :
    t.Recorded e n := by
  unfold State.Recorded at h ⊢
  rwa [hf]

theorem State.Recorded.evalCapacity {s : State} {e : FaultEvent} {n : Nat} (h : s.Recorded e n) (hn : n ≤ 32640) :
    s.evalCapacity.Recorded e (n + 1) := by
  unfold State.evalCapacity
  dsimp only
  split
  · exact h.mono (by omega)
  · have hc : { s with capacity := s.capacityNow }.Recorded e n := h
    refine (hc.event hn 0x13 0 0 (s.capacity + 4 * s.capacityNow)).congr ?_
    rw [State.panelTouch_flash, State.unsol_flash]

/-- At most one event a bundle is made as they go down. -/
theorem State.Recorded.bundlesDown {s : State} {e : FaultEvent} {n : Nat} (h : s.Recorded e n) (hn : n ≤ 32000) :
    s.bundlesDown.Recorded e (n + 64) := by
  have step : ∀ (l : List Nat) (t : State) (m : Nat), t.Recorded e m → m + l.length ≤ 32640 →
      (l.foldl (fun s p =>
        let v := s.row (p / 8)
        if v.up.contains (p % 8) && !v.held then s.event 8 1 p 0 else s) t).Recorded e (m + l.length) := by
    intro l
    induction l with
    | nil => exact fun t m ht _ => ht
    | cons p r ih =>
      intro t m ht hm
      rw [List.length_cons] at hm ⊢
      rw [show m + (r.length + 1) = m + 1 + r.length by omega, List.foldl_cons]
      refine ih _ (m + 1) ?_ (by omega)
      dsimp only
      split
      · exact ht.event (by omega) _ _ _ _
      · exact ht.mono (by omega)
  have h64 := step (List.range 64) s n h (by rw [List.length_range]; omega)
  rwa [List.length_range] at h64

theorem State.setUnit_flash (s : State) (v : UnitState) : (s.setUnit v).flash = s.flash := by
  rw [State.setUnit_eq]

theorem State.Recorded.powerDown {s : State} {e : FaultEvent} {n : Nat} (h : s.Recorded e n) (hn : n ≤ 32640) :
    s.powerDown.Recorded e (n + 1) := by
  unfold State.powerDown
  refine (h.congr ?_).evalCapacity hn
  rw [State.panelTouch_flash, State.setUnit_flash]
  simp only [State.volatileReset_flash]

end Sys2Proof.Machine
end

section
/-! PROOF. The rows by which the regions power down (01 R28, 06 R144, R145, 17 R457, 22 R541). -/

namespace Sys2Proof.Machine

open Sys2Proof

/-! ### A power-off request -/

theorem State.powerOff_down {s : State} (h : s.unit.state = .off ∨ s.unit.state = .standby) : s.powerOff = s := by
  rcases h with h | h <;> simp [State.powerOff, h]

theorem State.powerOff_quiesce {s : State} (h : s.unit.state = .quiesce) :
    s.powerOff = { s with unit := { s.unit with powerOffPending := true } } := by
  simp [State.powerOff, h]

theorem State.powerOff_idle {s : State} (h : s.unit.state = .bringup ∨ s.unit.state = .hold ∨ s.unit.state = .ready) :
    s.powerOff = { s with unit := { s.unit with poweringDown := true } } := by
  rcases h with h | h | h <;> simp [State.powerOff, h]

theorem State.powerOff_run {s : State} (h : s.unit.state = .run) :
    s.powerOff = State.startQuiesce { s with unit := { s.unit with powerOffPending := true } } := by
  simp [State.powerOff, h]

/-- A power-off request to a running unit begins a quiesce, and waits for it (01 R28). -/
theorem State.powerOff_run_unit {s : State} (h : s.unit.state = .run) :
    s.powerOff.unit.state = .quiesce ∧ s.powerOff.unit.powerOffPending = true := by
  have hr : ({ s with unit := { s.unit with powerOffPending := true } } : State).unit.state = .run := h
  obtain ⟨hunit, -⟩ := State.startQuiesce_parts hr
  rw [State.powerOff_run h]
  exact ⟨congrArg UnitSt.state hunit, congrArg UnitSt.powerOffPending hunit⟩

/-! ### The rows that lose the regions -/

/-- A command has one outcome, so what it leads to has lost the regions. -/
theorem RegionsLost.of_exec {i : Instr} {s t t' u : State} (h : RegionsLost u t') (h' : exec i s = .next t')
    (ht : exec i s = .next t) : RegionsLost u t := by
  obtain rfl : t' = t := Host.Outcome.next.inj (h'.symm.trans ht)
  exact h

section
variable {s u : State} {x : At} (hu : s.enter x = u)
include hu

theorem buttonLongPress_powerOff : exec (.buttonLongPress x) s = .next u.powerOff := by
  subst hu
  rfl

theorem regionsPoweredDown_ignored (h : u.unit.poweringDown = false) : exec (.regionsPoweredDown x) s = .next u := by
  change execRegionsPoweredDown x s = .next u
  rw [execRegionsPoweredDown, hu]
  exact congrArg Host.Outcome.next (if_neg (by simp [h]))

theorem supplyShortfall_ignored (h : u.unit.state = .off ∨ u.unit.state = .standby) :
    exec (.supplyShortfall x) s = .next u := by
  change execSupplyShortfall x s = .next u
  rw [execSupplyShortfall]
  dsimp only
  rw [hu, if_pos h]

theorem standbyRailLost_lost (h : u.unit.state ≠ .off) : ∃ t, exec (.standbyRailLost x) s = .next t ∧
    (t.unit.state = .off ∧ t.unit.step = 0) ∧ RegionsLost u t := by
  change ∃ t, execStandbyRailLost x s = .next t ∧ _
  rw [execStandbyRailLost]
  dsimp only
  rw [hu, if_neg h]
  exact ⟨_, rfl, ⟨rfl, rfl⟩, (regionsLost_volatileReset u).setUnitPanel (by rfl) _⟩

theorem regionsPoweredDown_lost (h : u.unit.poweringDown = true) : ∃ t, exec (.regionsPoweredDown x) s = .next t ∧
    t.unit.state = .standby ∧ RegionsLost u t := by
  change ∃ t, execRegionsPoweredDown x s = .next t ∧ _
  rw [execRegionsPoweredDown]
  rw [hu, if_pos h]
  refine ⟨_, rfl, ?_, (regionsLost_powerDown _).of_reported u.bundlesDown_sansReports⟩
  rw [State.powerDown_unit]

theorem supplyShortfall_lost (ho : u.unit.state ≠ .off) (hs : u.unit.state ≠ .standby) :
    ∃ t, exec (.supplyShortfall x) s = .next t ∧ (t.unit.state = .standby ∧ t.unit.shortfall = true) ∧ RegionsLost u t := by
  change ∃ t, execSupplyShortfall x s = .next t ∧ _
  rw [execSupplyShortfall]
  dsimp only
  rw [hu, if_neg (by simp [ho, hs])]
  have hlost := regionsLost_powerDown u
  have hst : u.powerDown.unit.state = .standby := by rw [State.powerDown_unit]
  generalize u.powerDown = v at hlost hst
  exact ⟨_, rfl, ⟨hst, rfl⟩, hlost.setUnitPanel (v := { v.unit with shortfall := true }) rfl v.panel⟩

/-- A coolant loss while regions are on: its event is made, then the regions go down (06 R144, R145). -/
theorem coolantLoss_lost (ho : u.unit.state ≠ .off) (hs : u.unit.state ≠ .standby) :
    ∃ t e, exec (.coolantLoss x) s = .next t ∧ (t.unit.state = .standby ∧ t.unit.coolantHold = true ∧ t.faultL = true ∧
      e ∈ t.flash.ring ∧ e.kind = 14 ∧ e.cause = (if u.threeTrips then 2 else 1) ∧ e.detail = u.trippedMask ∧
      e.seq = u.flash.nextSeq) ∧ RegionsLost u t := by
  change ∃ t e, execCoolantLoss x s = .next t ∧ _
  rw [execCoolantLoss]
  dsimp only
  rw [hu, if_neg ho]
  have hrec := u.event_recorded 0x0E (if u.threeTrips then 2 else 1) 0 u.trippedMask
  generalize hv : u.event 0x0E (if u.threeTrips then 2 else 1) 0 u.trippedMask = v at hrec
  have hvr : v.sansReports = u.sansReports := hv ▸ u.event_sansReports _ _ _ _
  have hvs : v.unit.state ≠ .standby := by rwa [← hv, State.event_unit]
  rw [if_neg hvs]
  have hdown := (hrec.bundlesDown (by decide)).powerDown (by decide)
  have hlost : RegionsLost u v.bundlesDown.powerDown :=
    (regionsLost_powerDown v.bundlesDown).of_reported (v.bundlesDown_sansReports.trans hvr)
  have hst : v.bundlesDown.powerDown.unit.state = .standby := by rw [State.powerDown_unit]
  generalize v.bundlesDown.powerDown = w at hdown hlost hst
  refine ⟨_, u.newEvent 0x0E (if u.threeTrips then 2 else 1) 0 u.trippedMask, rfl,
    ⟨?_, ?_, ?_, ?_, rfl, rfl, rfl, rfl⟩, ?_⟩
  · rw [State.panelTouch_unit]; exact hst
  · rw [State.panelTouch_unit]
  · simp [State.faultL, hst]
  · rw [State.panelTouch_flash]; exact hdown.1
  · exact (hlost.setUnitPanel (v := { w.unit with coolantHold := true }) rfl w.panel).panelTouch _

/-- A coolant loss in STANDBY is recorded and holds the unit there (01 Table 1-3). -/
theorem coolantLoss_standby (hs : u.unit.state = .standby) : ∃ t e, exec (.coolantLoss x) s = .next t ∧
    t.unit.coolantHold = true ∧ e ∈ t.flash.ring ∧ e.kind = 14 ∧ t.mem = u.mem ∧ t.unit.state = .standby := by
  change ∃ t e, execCoolantLoss x s = .next t ∧ _
  rw [execCoolantLoss]
  dsimp only
  rw [hu, if_neg (by simp [hs]), if_pos (by rw [State.event_unit, hs])]
  have hrec := u.event_recorded 0x0E (if u.threeTrips then 2 else 1) 0 u.trippedMask
  refine ⟨_, u.newEvent 0x0E (if u.threeTrips then 2 else 1) 0 u.trippedMask, rfl, ?_, ?_, rfl, ?_, ?_⟩
  · rw [State.panelTouch_unit]
  · rw [State.panelTouch_flash]; exact hrec.1
  · exact (congrArg State.mem (State.panelTouch_sansReports _ _)).trans (State.event_mem _ _ _ _ _)
  · rw [State.panelTouch_unit, State.event_unit]; exact hs

theorem hifReset_ignored {port value : Nat}
    (h : ¬((u.port port).up = true ∧ value.testBit 0 = true ∧ value / 256 % 256 = 0xA5)) :
    exec (.hifReset x port value) s = .next u := by
  change execHifReset x port value s = .next u
  rw [execHifReset, hu]
  exact congrArg Host.Outcome.next (if_neg h)

/-- HIF_RESET with its key: the regions power down and step 5 begins again (17 R457). -/
theorem hifReset_lost {port value : Nat} (hp : (u.port port).up = true) (hb : value.testBit 0 = true)
    (hk : value / 256 % 256 = 0xA5) : ∃ t, exec (.hifReset x port value) s = .next t ∧
      (t.unit.state = .bringup ∧ t.unit.step = 5 ∧ t.summary.bootCount = u.summary.bootCount + 1 ∧ t.time.running = true ∧
        t.time.localC = 0) ∧ RegionsLost u t := by
  change ∃ t, execHifReset x port value s = .next t ∧ _
  rw [execHifReset, hu]
  generalize hv : u.bundlesDown.volatileReset = v
  have hlost : RegionsLost u v := hv ▸ (regionsLost_volatileReset _).of_reported u.bundlesDown_sansReports
  have hsum : v.summary = u.summary := by
    have hf : v.flash = u.bundlesDown.flash := hv ▸ State.volatileReset_flash _
    have hb : u.bundlesDown.summary = u.summary := State.summary_of_sansReports u.bundlesDown_sansReports
    rw [← hb, State.summary, State.summary, hf]
  have hr : ∀ l, (v.beginStep5.panelTouch l).evalCapacity.sansReports = v.beginStep5.sansReports := fun l => by
    rw [State.evalCapacity_sansReports, State.panelTouch_sansReports]
  have hb5 := v.beginStep5_eq
  refine ⟨_, congrArg Host.Outcome.next (if_pos ⟨hp, hb, hk⟩), ?_, (hlost.beginStep5.panelTouch _).evalCapacity⟩
  rw [State.evalCapacity_unit, State.panelTouch_unit]
  refine ⟨congrArg (·.unit.state) hb5, congrArg (·.unit.step) hb5, ?_, ?_, ?_⟩
  · rw [State.summary_of_sansReports (hr _), State.beginStep5_summary, hsum]
  · exact (congrArg (·.time.running) (hr _)).trans (congrArg (·.time.running) hb5)
  · exact (congrArg (·.time.localC) (hr _)).trans (congrArg (·.time.localC) hb5)

end
end Sys2Proof.Machine

open Sys2Proof Sys2Proof.Machine

/-- Settles O24: the power-off request by its unit states, then the five rows that lose the regions, each with `RegionsLost`. -/
theorem regionsPowerDown : Obligations.RegionsPowerDown := by
  unfold Obligations.RegionsPowerDown
  intro s u x port value hu
  replace hu := hu.symm
  have press := buttonLongPress_powerOff hu
  refine ⟨fun h => ?_, fun h => ?_, fun h => ?_, fun h => ?_, fun h => ?_, fun h => ?_, regionsPoweredDown_ignored hu,
    fun ho hs => ⟨?_, ?_⟩, coolantLoss_standby hu, supplyShortfall_ignored hu, hifReset_ignored hu, fun hp hb hk => ?_, ?_⟩
  · rw [press, State.powerOff_down h]
  · rw [press, State.powerOff_quiesce h]
  · rw [press, State.powerOff_idle h]
  · rw [press, State.powerOff_run h]
    have hr : ({ u with unit := { u.unit with powerOffPending := true } } : Machine.State).unit.state = .run := h
    obtain ⟨hstate, hpend⟩ := State.powerOff_run_unit h
    rw [State.powerOff_run h] at hstate hpend
    obtain ⟨-, hmove, -⟩ := State.startQuiesce_parts hr
    exact ⟨_, rfl, hstate, hpend, hmove, State.startQuiesce_armed hr⟩
  · obtain ⟨t, ht, hst, -⟩ := standbyRailLost_lost hu h
    exact ⟨t, ht, hst⟩
  · obtain ⟨t, ht, hst, -⟩ := regionsPoweredDown_lost hu h
    exact ⟨t, ht, hst⟩
  · obtain ⟨t, ht, hst, -⟩ := supplyShortfall_lost hu ho hs
    exact ⟨t, ht, hst⟩
  · obtain ⟨t, e, ht, hst, -⟩ := coolantLoss_lost hu ho hs
    exact ⟨t, e, ht, hst⟩
  · obtain ⟨t, ht, hst, -⟩ := hifReset_lost hu hp hb hk
    exact ⟨t, ht, hst⟩
  · rintro i t (⟨rfl, h⟩ | ⟨rfl, h⟩ | ⟨rfl, ho, hs⟩ | ⟨rfl, ho, hs⟩ | ⟨rfl, hp, hb, hk⟩) ht
    · obtain ⟨t', ht', -, h'⟩ := standbyRailLost_lost hu h
      exact h'.of_exec ht' ht
    · obtain ⟨t', ht', -, h'⟩ := regionsPoweredDown_lost hu h
      exact h'.of_exec ht' ht
    · obtain ⟨t', ht', -, h'⟩ := supplyShortfall_lost hu ho hs
      exact h'.of_exec ht' ht
    · obtain ⟨t', e, ht', -, h'⟩ := coolantLoss_lost hu ho hs
      exact h'.of_exec ht' ht
    · obtain ⟨t', ht', -, h'⟩ := hifReset_lost hu hp hb hk
      exact h'.of_exec ht' ht
end

section
/-! PROOF. UNIT_QUIESCE, UNIT_POWER_OFF and the end of a quiesce (01 R28, R29, 18 R465). -/

namespace Sys2Proof.Machine

/-! ### Writes to stores leave the unit alone -/

theorem State.noteExtent_unit (s : State) (r a : Nat) : (s.noteExtent r a).unit = s.unit := by
  unfold State.noteExtent
  split <;> rfl

theorem State.putLine_unit (s : State) (r a : Nat) (l : Bytes) : (s.putLine r a l).unit = s.unit := by
  unfold State.putLine
  rw [State.noteExtent_unit]
  refine foldl_keeps State.unit _ (fun _ _ => ?_) _ _
  rfl

theorem State.listPoison_unit (s : State) (r a : Nat) : (s.listPoison r a).unit = s.unit := by
  refine foldl_keeps State.unit _ (fun _ _ => ?_) _ _
  rfl

theorem State.fullLine_unit (s : State) (r a : Nat) (d : Bytes) : (s.fullLine r a d).unit = s.unit := by
  refine Eq.trans (foldl_keeps State.unit _ (fun _ _ => ?_) _ _) (s.putLine_unit _ _ _)
  exact State.event_unit _ _ _ _ _

theorem State.writeLine_unit (s : State) (r a : Nat) (d : Bytes) (m : Nat) : (s.writeLine r a d m).2.unit = s.unit := by
  unfold State.writeLine
  dsimp only
  split
  · rfl
  · split
    · exact s.fullLine_unit _ _ _
    · split <;> simp only [State.event_unit, State.listPoison_unit, State.putLine_unit]

theorem State.writeStore_unit (s : State) (r a : Nat) (b : Bytes) : (s.writeStore r a b).2.unit = s.unit := by
  unfold State.writeStore
  refine List.foldlRecOn (motive := fun p : Total × State => p.2.unit = s.unit) _ _ rfl fun p hp i _ => ?_
  exact (State.writeLine_unit _ _ _ _ _).trans hp

theorem State.distribute_unit (s : State) (n : Nat) (b : Bytes) : (s.distribute n b).unit = s.unit := by
  refine foldl_keeps State.unit _ (fun t i => ?_) _ _
  split
  · rfl
  · split <;> rfl

theorem State.tileOut_unit (s : State) (e : ResEntry) (t row : Nat) : (s.tileOut e t row).unit = s.unit := by
  unfold State.tileOut State.tileStore
  rw [State.distribute_unit]
  exact s.writeStore_unit _ _ _

theorem State.flushTiles_unit (s : State) : s.flushTiles.unit = s.unit := by
  refine foldl_keeps State.unit _ (fun t k => ?_) _ _
  split
  · dsimp only
    split
    · exact t.tileOut_unit _ _ _
    · rfl
  · rfl

/-! ### Retirements due with no image -/

/-- What a retirement of cells leaves alone while no image is in use: the unit, epochs, stages and agents. -/
def State.service (s : State) : UnitSt × EpochSt × StageSt × AgentSt := (s.unit, s.ep, s.stg, s.agent)

theorem State.service_of_sansReports {s t : State} (h : t.sansReports = s.sansReports) : t.service = s.service :=
  (congrArg State.service h :)

theorem State.event_service (s : State) (k c u d : Nat) : (s.event k c u d).service = s.service :=
  State.service_of_sansReports (s.event_sansReports k c u d)

theorem State.unsol_service (s : State) (c a : Nat) : (s.unsol c a).service = s.service :=
  State.service_of_sansReports (s.unsol_sansReports c a)

theorem State.withPanel_service (s : State) (p : PanelSt) : ({ s with panel := p } : State).service = s.service := rfl

theorem State.modSummary_service (s : State) (f : Summary → Summary) : (s.modSummary f).service = s.service := rfl

theorem State.addCauses_service (s : State) (c : Nat) : (s.addCauses c).service = s.service := by
  unfold State.addCauses
  dsimp only
  split
  · rfl
  · rw [State.service_of_sansReports (State.panelTouch_sansReports _ _)]
    split
    · rw [State.unsol_service, State.event_service, State.modSummary_service]
    · rw [State.withPanel_service, State.unsol_service, State.event_service, State.modSummary_service]

theorem State.mapChanged_service (s : State) : s.mapChanged.service = s.service := rfl

theorem State.giveSpare_service (s : State) (p l : Nat) : (s.giveSpare p l).service = s.service := by
  unfold State.giveSpare
  dsimp only
  split <;> rfl

/-- With no image in use no seal event does anything (06 R150). -/
theorem State.sealEvent_noImage {s : State} (h : s.ep.image = none) : s.sealEvent = s := by
  simp [State.sealEvent, State.sealOutcome, h]

theorem State.sealEvent_service {s t : State} (h : s.ep.image = none) (ht : t.service = s.service) :
    t.sealEvent.service = s.service := by
  have hi : t.ep.image = none := (congrArg (·.2.1.image) ht).trans h
  rw [State.sealEvent_noImage hi, ht]

theorem State.retire_service {s : State} (h : s.ep.image = none) (g c : Nat) : (s.retire g c).service = s.service := by
  refine State.sealEvent_service h ((State.addCauses_service _ _).trans ?_)
  rw [State.service_of_sansReports (State.evalCapacity_sansReports _), State.mapChanged_service]
  split
  · rw [State.giveSpare_service, State.event_service]; rfl
  · rw [State.event_service]; rfl

theorem State.retireDue_service {s : State} (h : s.ep.image = none) : s.retireDue.service = s.service := by
  unfold State.retireDue
  dsimp only
  refine List.foldlRecOn (motive := fun t : State => t.service = s.service) _ _ rfl fun t ht e _ => ?_
  split
  · have hi : t.ep.image = none := (congrArg (·.2.1.image) ht).trans h
    exact (State.retire_service hi _ _).trans ht
  · exact ht

theorem State.retireDue_none {s : State} (h : s.cells.due = []) : s.retireDue = s := by
  unfold State.retireDue
  rw [h]
  exact congrArg (fun d => { s with cells := { s.cells with due := d } }) h.symm

/-! ### The image goes, the unit is ready -/

theorem State.endQuiesce_sansReports (s : State) : s.endQuiesce.sansReports = s.sansReports :=
  foldl_keeps State.sansReports _ (fun _ _ => State.complete_sansReports _ _ _ _ _ _) _ _

theorem State.endQuiesce_unit (s : State) : s.endQuiesce.unit = s.unit :=
  (congrArg State.unit s.endQuiesce_sansReports :)

theorem State.updatePairs_sansReports (s : State) : s.updatePairs.sansReports = s.sansReports := by
  have starts : ∀ (t : State) (p : Nat × Nat), (t.pairStarts p).sansReports = t.sansReports := by
    intro t p
    unfold State.pairStarts
    dsimp only
    split
    · exact t.unsol_sansReports _ _
    · rw [State.event_sansReports]
      exact t.unsol_sansReports _ _
  have all : ∀ (l : List (Nat × Nat)) (t : State), (l.foldl State.pairStarts t).sansReports = t.sansReports :=
    foldl_keeps State.sansReports _ starts
  unfold State.updatePairs
  dsimp only
  split
  · rfl
  · split
    · rw [State.panelTouch_sansReports, all]; rfl
    · rw [all]; rfl

/-- Entering READY with no power-off waiting, reports apart. -/
theorem State.toReady_sansReports {s : State} (h : s.unit.powerOffPending = false) :
    s.toReady.sansReports = { s with unit := { s.unit with state := .ready, step := 13 } }.sansReports := by
  have hp : (({ s with unit := { s.unit with step := 13 } }.setUnit .ready).endQuiesce).unit.powerOffPending = false :=
    by rw [State.endQuiesce_unit, State.setUnit_unit]; exact h
  unfold State.toReady
  dsimp only
  rw [if_neg (by simp [hp]), State.evalCapacity_sansReports, State.updatePairs_sansReports, State.endQuiesce_sansReports,
    State.setUnit_sansReports]

/-- An unload leaves no image, stage, agent binding behind; the unit stays. -/
theorem State.unload_parts (s : State) (st : Nat) : (s.unload st).unit = s.unit ∧ (s.unload st).ep.image = none ∧
    (s.unload st).ep.placement = 0 ∧ (s.unload st).stg = StageSt.reset ∧ (s.unload st).agent.bindings = [] := by
  have hu : (s.endImageCmds st).disarmImage.moveOver.unit = s.unit := by
    rw [State.moveOver_eq]
    exact foldl_keeps State.unit _ (fun _ _ => State.complete_unit _ _ _ _ _ _) _ _
  refine ⟨?_, rfl, rfl, rfl, rfl⟩
  rw [← hu]
  unfold State.unload
  dsimp only
  split
  · rw [State.complete_unit]
  · rfl

/-! ### The end of a quiesce -/

section
variable {s u : State} {x : At} (hu : s.enter x = u)
include hu

theorem quiesceComplete_waits (h : ¬(u.unit.state = .quiesce ∧ u.drained = true)) :
    exec (.quiesceComplete x) s = .next u := by
  change execQuiesceComplete x s = .next u
  rw [execQuiesceComplete]
  dsimp only
  rw [hu, if_neg h]

/-- Drained with no power-off waiting: the unit is ready and the image gone (01 R29). -/
theorem quiesceComplete_ready (h : u.unit.state = .quiesce) (hd : u.drained = true) (hp : u.unit.powerOffPending = false) :
    ∃ t, exec (.quiesceComplete x) s = .next t ∧ t.unit.state = .ready ∧ t.unit.step = 13 ∧ t.ep.image = none ∧
      t.ep.placement = 0 ∧ t.stg.runs = [] ∧ t.agent.bindings = [] := by
  change ∃ t, execQuiesceComplete x s = .next t ∧ _
  rw [execQuiesceComplete]
  dsimp only
  rw [hu, if_pos ⟨h, hd⟩]
  obtain ⟨hunit, himage, hplace, hstg, hbind⟩ := u.flushTiles.unload_parts stBadState
  rw [State.flushTiles_unit] at hunit
  generalize u.flushTiles.unload stBadState = v at *
  have hpend : v.unit.powerOffPending = false := by rw [hunit, hp]
  rw [if_neg (by simp [hpend])]
  have hr := State.toReady_sansReports hpend
  have hi : v.toReady.ep.image = none := (congrArg (·.ep.image) hr).trans himage
  have hd := (State.retireDue_service hi).trans (State.service_of_sansReports hr)
  exact ⟨_, rfl, congrArg (·.1.state) hd, congrArg (·.1.step) hd, (congrArg (·.2.1.image) hd).trans himage,
    (congrArg (·.2.1.placement) hd).trans hplace, (congrArg (·.2.2.1.runs) hd).trans (congrArg StageSt.runs hstg),
    (congrArg (·.2.2.2.bindings) hd).trans hbind⟩

/-- Drained with a power-off waiting: the regions power down (21 R516). -/
theorem quiesceComplete_off (h : u.unit.state = .quiesce) (hd : u.drained = true) (hp : u.unit.powerOffPending = true) :
    ∃ t, exec (.quiesceComplete x) s = .next t ∧ t.unit.state = .standby ∧ t.unit.regionsOn = [] ∧ t.host.accepted = [] := by
  change ∃ t, execQuiesceComplete x s = .next t ∧ _
  rw [execQuiesceComplete]
  dsimp only
  rw [hu, if_pos ⟨h, hd⟩]
  obtain ⟨hunit, -⟩ := u.flushTiles.unload_parts stBadState
  rw [State.flushTiles_unit] at hunit
  generalize u.flushTiles.unload stBadState = v at *
  rw [if_pos (by rw [hunit, hp])]
  have hst : v.endQuiesce.powerDown.unit.state = .standby := by rw [State.powerDown_unit]
  obtain ⟨hacc, -, -, -, -, -, -, -, hcells, -, -, -, hon, -⟩ := regionsLost_powerDown v.endQuiesce
  refine ⟨_, rfl, ?_⟩
  rw [State.retireDue_none (by rw [hcells]; rfl)]
  exact ⟨hst, hon, hacc⟩

end

/-! ### A command begins to wait -/

/-- A named command set to wait is accepted still, as a waiting one. -/
theorem State.setProg_waits {s : State} {qp tag : Nat} {c : Cmd} (hc : c ∈ s.host.accepted) (hq : c.qp = qp) (ht : c.tag = tag)
    (p : Prog) : { c with prog := p } ∈ (s.setProg qp tag p).host.accepted :=
  List.mem_map.mpr ⟨c, hc, if_pos ⟨hq, ht⟩⟩

theorem State.setProg_noEventRead {s : State} (h : s.NoEventRead) (qp tag : Nat) (p : Prog) :
    (s.setProg qp tag p).NoEventRead := by
  intro k hk
  obtain ⟨c, hc, rfl⟩ := List.mem_map.mp hk
  split <;> exact h c hc

/-- While something still runs, the quiesce is not over. -/
theorem State.not_drained {s : State} (h : s.stg.runs ≠ [] ∨ s.place.sweep.isSome = true ∨ s.place.queue ≠ []) :
    s.drained = false := by
  rcases h with h | h | h
  · simp [State.drained, h]
  · obtain ⟨w, hw⟩ := Option.isSome_iff_exists.mp h
    simp [State.drained, hw]
  · simp [State.drained, h]

end Sys2Proof.Machine

open Sys2Proof Sys2Proof.Machine

/-- Settles O28: the two commands by the unit's state, then the end of the quiesce. -/
theorem quiesceAndPowerOffCommands : Obligations.QuiesceAndPowerOffCommands := by
  unfold Obligations.QuiesceAndPowerOffCommands
  intro s u x qp tag dt c hu
  replace hu := hu.symm
  have drained : u.stg.runs = [] → (∀ o ∈ u.stg.old, o.runs = []) → u.place.sweep = none → u.place.merged = [] →
      u.place.queue = [] → u.drained = true := by
    intro h1 h2 h3 h4 h5
    simpa [State.drained, h1, h3, h4, h5] using h2
  refine ⟨fun hc => ?_, fun hc => ?_, fun h => quiesceComplete_waits hu ?_, fun h h1 h2 h3 h4 h5 =>
    ⟨quiesceComplete_ready hu h (drained h1 h2 h3 h4 h5), quiesceComplete_off hu h (drained h1 h2 h3 h4 h5)⟩⟩
  · subst hu
    obtain ⟨rfl, rfl⟩ := find_name hc.1.1
    have row : exec (.unitQuiesce x c.qp c.tag dt) s = execUnitQuiesce x c.qp c.tag dt s := rfl
    rw [row,  execUnitQuiesce, State.run_accepted hc]
    generalize s.enter x = u at *
    refine ⟨fun h => ?_, fun h => ?_, fun h => ?_⟩
    · obtain ⟨hans, hhost⟩ := State.answered hc.1 0 0 []
      exact ⟨_, congrArg Host.Outcome.next (if_neg (by simp [h])), hhost, hans⟩
    · rw [if_pos (Or.inr h), State.startQuiesce_of_ne (by simp [h])]
    · rw [if_pos (Or.inl h)]
      have hr : (u.setProg c.qp c.tag (.waiting 0 0)).unit.state = .run := h
      obtain ⟨hunit, hmove, hjobs, himage, hmem⟩ := State.startQuiesce_parts hr
      refine ⟨_, rfl, congrArg UnitSt.state hunit, hmove, hjobs, himage, hmem, fun hj ha hn => ?_⟩
      rw [State.startQuiesce_accepted hr hj ha]
      · exact State.setProg_waits (List.mem_of_find?_eq_some hc.1.1) rfl rfl _
      · exact State.setProg_noEventRead hn _ _ _
  · subst hu
    have row : exec (.unitPowerOff x qp tag dt) s = execUnitPowerOff x qp tag dt s := rfl
    rw [row,  execUnitPowerOff, State.run_accepted hc]
    generalize s.enter x = u at *
    obtain ⟨⟨hacc, hentry⟩, hhost⟩ := State.answered hc.1 0 0 []
    have hunit : (u.complete c.qp c.tag stOK 0 []).unit = u.unit := State.complete_unit _ _ _ _ _ _
    refine ⟨fun h => ⟨_, rfl, ?_⟩, fun h => ⟨_, rfl, ?_⟩⟩
    · rw [State.powerOff_idle (by simp [h])]
      refine ⟨⟨hacc, hentry⟩, ?_⟩
      rw [State.complete_hostOnly u c.qp c.tag stOK 0 []]
    · exact State.powerOff_run_unit (by rw [hunit, h])
  · rintro ⟨hq, hd⟩
    have hn := State.not_drained (h.resolve_left (fun hne => hne hq))
    rw [hd] at hn
    cases hn
end

section
/-! PROOF. What reading a field back gives (00 R10), and commands completed in turn (17 R435, R441). -/

namespace Sys2Proof.Machine

open Sys2Proof

/-! ### Fields of little-endian bytes -/

theorem toLE_length (n v : Nat) : (toLE n v).length = n := by
  induction n generalizing v with
  | zero => rfl
  | succ n ih => simp [toLE, ih]

theorem leNat_toLE (n v : Nat) : leNat (toLE n v) = v % 256 ^ n := by
  induction n generalizing v with
  | zero => simp [toLE, leNat, Nat.mod_one]
  | succ n ih =>
    have h := Nat.mod_mul (x := v) (a := 256) (b := 256 ^ n)
    rw [Nat.pow_succ', h]
    simp [toLE, leNat, ih]

/-- The field a number was put in, behind `a`, reads as that number (00 R10). -/
theorem fieldN_toLE (a b : Bytes) (n v : Nat) : fieldN (a ++ (toLE n v ++ b)) a.length n = v % 256 ^ n := by
  have h : ((a ++ (toLE n v ++ b)).drop a.length).take n = toLE n v := by
    rw [List.drop_left]
    exact List.take_left' (toLE_length n v)
  rw [fieldN, h, leNat_toLE]

/-! ### Two commands answered in turn -/

/-- Taking a command out of the accepted ones leaves the command of another name to be found. -/
theorem find_dropFirst {l : List Cmd} {q t q' t' : Nat} (h : ¬(q = q' ∧ t = t')) :
    (dropFirst l q' t').find? (fun c => c.qp == q && c.tag == t) = l.find? (fun c => c.qp == q && c.tag == t) := by
  induction l with
  | nil => rfl
  | cons k l ih =>
    by_cases hk : k.qp = q' ∧ k.tag = t'
    · obtain ⟨rfl, rfl⟩ := hk
      have hn : (k.qp == q && k.tag == t) = false := by
        simpa using fun e e' => h ⟨e.symm, e'.symm⟩
      have hd : dropFirst (k :: l) k.qp k.tag = l := by simp [dropFirst]
      rw [hd, List.find?_cons, hn]
    · have hn : (k.qp == q' && k.tag == t') = false := by simpa using hk
      have hd : dropFirst (k :: l) q' t' = k :: dropFirst l q' t' := by simp [dropFirst, hn]
      rw [hd, List.find?_cons, List.find?_cons, ih]

/-- An update under which a view of the element stays leaves that view of every element. -/
theorem lmod_getD_view {α β : Type} (g : α → β) {f : α → α} (hf : ∀ a, g (f a) = g a) (l : List α) (i j : Nat) (d : α) :
    g ((lmod l i f).getD j d) = g (l.getD j d) := by
  induction l generalizing i j with
  | nil => rfl
  | cons a r ih =>
    cases i with
    | zero =>
      cases j with
      | zero => exact hf a
      | succ j => rfl
    | succ i =>
      cases j with
      | zero => rfl
      | succ j => exact ih i j

/-- What the acceptance of a command looks at and no completion of another changes: the queue pairs' enablings and whether
the host's memory can be written. -/
def HostSt.ready (h : HostSt) (n : Nat) : Nat × Bool × Bool := ((h.qps.getD n QueuePair.blank).gen, h.cqOk, h.resultOk)

theorem State.modQp_ready (s : State) (m : Nat) {f : QueuePair → QueuePair} (hf : ∀ q, (f q).gen = q.gen) (n : Nat) :
    (s.modQp m f).host.ready n = s.host.ready n := by
  simp only [HostSt.ready, State.modQp, lmod_getD_view QueuePair.gen hf]

theorem State.msix_ready (s : State) (p v n : Nat) : (s.msix p v).host.ready n = s.host.ready n := by
  unfold State.msix
  dsimp only
  split <;> rfl

theorem State.pushEntry_ready (s : State) (m : Nat) (e : Completion) (i : Bool) (n : Nat) :
    (s.pushEntry m e i).host.ready n = s.host.ready n := by
  unfold State.pushEntry
  dsimp only
  split
  · rw [State.msix_ready, State.modQp_ready]
    · rfl
    · exact fun _ => rfl
  · rw [State.modQp_ready]
    · rfl
    · exact fun _ => rfl

/-- A command held stays held as another is completed. -/
theorem State.held_complete {s : State} {qp tag op qp' tag' op' : Nat} {p p' : Prog} {c c' : Cmd}
    (h : Held s.host qp tag op p c) (h' : Held s.host qp' tag' op' p' c') (hne : ¬(qp = qp' ∧ tag = tag')) (st d : Nat)
    (r : Bytes) : Held (s.complete qp' tag' st d r).host qp tag op p c := by
  obtain ⟨hfind, hop, hprog, hnet, hgen, hcq, hres, hdead, hsyn⟩ := h
  obtain ⟨rfl, rfl⟩ := find_name h'.1
  have hacc := (State.complete_answers h' st d r).1
  have hready : (s.complete c'.qp c'.tag st d r).host.ready qp = s.host.ready qp := by
    obtain ⟨hfind', -, -, hnet', hgen', hcq', hres', hdead', hsyn'⟩ := h'
    obtain ⟨e, he, -⟩ := State.finish_local
      (s := { s with host := { s.host with accepted := dropFirst s.host.accepted c'.qp c'.tag } }) hgen' hnet' hcq' hres'
      hdead' hsyn' st d r
    rw [State.complete, show s.findCmd c'.qp c'.tag = some c' from hfind']
    dsimp only
    rw [he, State.pushEntry_ready, State.modQp_ready]
    · rfl
    · exact fun _ => rfl
  simp only [HostSt.ready, Prod.mk.injEq] at hready
  obtain ⟨hg, hc, hr⟩ := hready
  refine ⟨?_, hop, hprog, hnet, hg.trans hgen, hc.trans hcq, hr.trans hres, hdead, hsyn⟩
  rw [hacc, find_dropFirst hne]
  exact hfind

end Sys2Proof.Machine
end

section
/-! PROOF. Staging, arming, withdrawing and reading of commits (01 R32, 19 R475 to R477, R481, 18 R469). -/

namespace Sys2Proof.Machine

open Sys2Proof

/-! ### The epoch record (18 R469) -/

/-- The flags byte of the epoch record. -/
def State.epochFlags (s : State) : Nat := b2n s.ep.rolling.isSome + 2 * b2n s.ep.staged.any + 4 * b2n s.ep.armed.isSome

theorem State.epochRec_length (s : State) : s.epochRec.length = 32 := by
  simp [State.epochRec, toLE_length]

theorem State.epochRec_epoch (s : State) : fieldN s.epochRec 0 4 = s.ep.epoch % 2 ^ 32 := by
  simpa [State.epochRec] using fieldN_toLE [] _ 4 s.ep.epoch

theorem State.epochRec_from (s : State) : fieldN s.epochRec 4 4 = s.epochFrom % 2 ^ 32 := by
  simpa [State.epochRec, toLE_length] using fieldN_toLE (toLE 4 s.ep.epoch) _ 4 s.epochFrom

theorem State.epochRec_flags (s : State) : fieldN s.epochRec 8 1 = s.epochFlags % 256 := by
  simpa [State.epochRec, toLE_length, State.epochFlags] using
    fieldN_toLE (toLE 4 s.ep.epoch ++ toLE 4 s.epochFrom) _ 1 s.epochFlags

theorem State.epochRec_next (s : State) : fieldN s.epochRec 12 4 = (if s.ep.armed.isSome then s.nextEpoch else 0) % 2 ^ 32 := by
  simpa [State.epochRec, toLE_length, State.epochFlags] using fieldN_toLE (toLE 4 s.ep.epoch ++ toLE 4 s.epochFrom ++
    toLE 1 s.epochFlags ++ toLE 3 0) (toLE 16 0) 4 (if s.ep.armed.isSome then s.nextEpoch else 0)

/-- The three flags stand in bits 0 to 2. -/
theorem flags3_testBit (a b c : Bool) :
    ((b2n a + 2 * b2n b + 4 * b2n c) % 256).testBit 0 = a ∧ ((b2n a + 2 * b2n b + 4 * b2n c) % 256).testBit 1 = b ∧
      ((b2n a + 2 * b2n b + 4 * b2n c) % 256).testBit 2 = c := by
  revert a b c
  decide

/-! ### EPOCH_COMMIT's grounds -/

/-- A commit by phase fires at the phase given on the source selected; any other is by time (19 R477). -/
theorem State.commitEntry_target (s : State) (qp : Nat) (p : Bytes) :
    ((s.commitEntry qp p).tkind = 0 ↔ fieldN p 0 1 ≠ 1) ∧
      (fieldN p 0 1 ≠ 1 → (s.commitEntry qp p).src = fieldN p 1 1 ∧ (s.commitEntry qp p).target = fieldN p 8 6) := by
  by_cases h : fieldN p 0 1 = 1 <;> simp [State.commitEntry, h]

/-- A commit by time is never 2^31 cycles ahead, one by phase only where its phase is. -/
theorem State.targetFar_commit (s : State) (qp : Nat) (p : Bytes) (h : fieldN p 0 1 = 1 ∨
    dphase (fieldN p 8 6) (s.phase (fieldN p 1 1)) ≠ -140737488355328) : s.targetFar (s.commitEntry qp p) = false := by
  obtain ⟨hk, ht⟩ := s.commitEntry_target qp p
  by_cases h1 : fieldN p 0 1 = 1
  · have : (s.commitEntry qp p).tkind ≠ 0 := fun h0 => hk.mp h0 h1
    simp [State.targetFar, this]
  · obtain ⟨hsrc, htgt⟩ := ht h1
    simp [State.targetFar, hsrc, htgt, h.resolve_left h1]

/-- A commit has no ground for BAD_STATE: none armed, nothing that rolls meets a rolling change, and its source is not
disabled, its target not 2^31 cycles ahead (19 R477, R481). -/
structure State.MayCommit (s : State) (p : Bytes) : Prop where
  armed : s.ep.armed = none
  rolls : s.ep.rolling = none ∨ (s.ep.staged.codebook = none ∧ s.ep.staged.image = none)
  target : fieldN p 0 1 = 1 ∨ ((s.source (fieldN p 1 1)).st ≠ .disabled ∧
    dphase (fieldN p 8 6) (s.phase (fieldN p 1 1)) ≠ -140737488355328)

theorem State.MayCommit.not_refused {s : State} {p : Bytes} (h : s.MayCommit p) (qp : Nat) :
    ¬(s.ep.armed.isSome = true ∨ (s.ep.staged.rolls = true ∧ s.ep.rolling.isSome = true) ∨
      ((s.commitEntry qp p).tkind = 0 ∧ (s.source (s.commitEntry qp p).src).st = .disabled)) := by
  obtain ⟨harmed, hrolls, htarget⟩ := h
  obtain ⟨hkind, hsrc⟩ := s.commitEntry_target qp p
  rintro (ha | ⟨hi, hr⟩ | ⟨hk, hd⟩)
  · simp [harmed] at ha
  · rcases hrolls with hrolls | ⟨hc, hm⟩
    · simp [hrolls] at hr
    · simp [StagedSet.rolls, hc, hm] at hi
  · obtain ⟨hs, -⟩ := hsrc (hkind.mp hk)
    rcases htarget with ht | ⟨ht, -⟩
    · exact hkind.mp hk ht
    · exact ht (hs ▸ hd)

theorem State.MayCommit.not_far {s : State} {p : Bytes} (h : s.MayCommit p) (qp : Nat) :
    s.targetFar (s.commitEntry qp p) = false :=
  s.targetFar_commit qp p (h.target.imp_right And.right)

/-- The entry of a commit withdrawn is free. -/
theorem State.withdraw_free (s : State) (a : ArmedCommit) (back : Bool) (e : Nat × Entry)
    (he : e ∈ (s.withdraw a back).sched.entries) (h1 : e.1 = a.entry) (h6 : e.2.action = 6) : e.2.st = .free := by
  obtain ⟨f, -, rfl⟩ := List.mem_map.mp he
  by_cases hf : f.1 = a.entry ∧ f.2.action = 6
  · rw [if_pos hf]
  · rw [if_neg hf] at h1 h6
    exact absurd ⟨h1, h6⟩ hf

/-! ### The rows -/

/-- The state with a commit armed on an entry, whose command waits (19 R477). -/
def State.armCommit (s : State) (c : Cmd) (id : Nat) : State :=
  { s.setEntry id (s.commitEntry c.qp c.params) with
    ep := { s.ep with
      armed := some { set := s.ep.staged, entry := id, qp := c.qp, tag := c.tag, eff := none, waits := false, detail := 0 }
      staged := StagedSet.empty } }.setProg c.qp c.tag (.waiting id 0)

section
variable {s u : State} {x : At} {dt : Option Bytes} {c : Cmd} (hu : s.enter x = u)
include hu

/-- FN_MODE_SET stages the function's mode alone. -/
theorem fnModeSet_stages (hc : Accepted u.host c.qp c.tag 0x0A02 c) :
    ∃ t, exec (.fnModeSet x c.qp c.tag dt) s = .next t ∧ Answers u t c 0 0 [] ∧
      tget t.ep.staged.modes (fieldN c.params 0 1) = some (fieldN c.params 1 1 == 1) ∧
      (∀ f, f ≠ fieldN c.params 0 1 → tget t.ep.staged.modes f = tget u.ep.staged.modes f) ∧
      t = { u with
        ep := { u.ep with staged := { u.ep.staged with modes := t.ep.staged.modes } }
        host := t.host } := by
  subst hu
  have row : exec (.fnModeSet x c.qp c.tag dt) s = execFnModeSet x c.qp c.tag dt s := rfl
  rw [row, execFnModeSet, State.run_accepted hc]
  generalize s.enter x = u at *
  generalize hv : u.stage _ = v
  have hmodes : v.ep.staged.modes = tset u.ep.staged.modes (fieldN c.params 0 1) (fieldN c.params 1 1 == 1) := hv ▸ rfl
  have hstage : v = { u with ep := { u.ep with staged := { u.ep.staged with modes := v.ep.staged.modes } } } := by
    subst hv; rfl
  obtain ⟨hans, hhost⟩ := State.answered_after (v := v) hc.1 (hv ▸ rfl) (hv ▸ rfl) (hv ▸ rfl) stOK 0 []
  refine ⟨_, rfl, hans, ?_, fun f hf => ?_, ?_⟩
  · rw [State.complete_ep, hmodes, tget_tset_self]
  · rw [State.complete_ep, hmodes, tget_tset_ne _ _ _ _ hf]
  · rw [State.complete_ep, hhost]
    exact congrArg (fun w : State => { w with host := (v.complete c.qp c.tag stOK 0 []).host }) hstage

/-- EPOCH_COMMIT refused: a host commit is armed, a rolling change meets an item that rolls, or the source is disabled. -/
theorem epochCommit_badState (hc : Accepted u.host c.qp c.tag 0x0A03 c)
    (h : u.ep.armed ≠ none ∨ (u.ep.rolling ≠ none ∧ (u.ep.staged.codebook ≠ none ∨ u.ep.staged.image ≠ none)) ∨
      (fieldN c.params 0 1 ≠ 1 ∧ (u.source (fieldN c.params 1 1)).st = .disabled)) :
    ∃ t, exec (.epochCommit x c.qp c.tag dt) s = .next t ∧ HostOnly u t ∧ Answers u t c 0x0104 0 [] := by
  subst hu
  have row : exec (.epochCommit x c.qp c.tag dt) s = execEpochCommit x c.qp c.tag dt s := rfl
  rw [row, execEpochCommit, State.run_accepted hc]
  generalize s.enter x = u at *
  obtain ⟨hans, hhost⟩ := State.answered hc.1 stBadState 0 []
  obtain ⟨hkind, hsrc⟩ := u.commitEntry_target c.qp c.params
  refine ⟨_, congrArg Host.Outcome.next (if_pos ?_), hhost, hans⟩
  rcases h with h | ⟨hr, hi⟩ | ⟨hk, hd⟩
  · exact .inl (Option.isSome_iff_ne_none.mpr h)
  · refine .inr (.inl ⟨?_, Option.isSome_iff_ne_none.mpr hr⟩)
    simpa [StagedSet.rolls, Option.isSome_iff_ne_none] using hi
  · obtain ⟨hs, -⟩ := hsrc hk
    exact .inr (.inr ⟨hkind.mpr hk, by rw [hs]; exact hd⟩)

/-- With no free entry of the host reserve, EPOCH_COMMIT is answered NO_RESOURCE. -/
theorem epochCommit_noEntry (hc : Accepted u.host c.qp c.tag 0x0A03 c) (h : u.MayCommit c.params) {k : Nat}
    (hk : u.allocEntry 255 6 0 = .error k) :
    ∃ t, exec (.epochCommit x c.qp c.tag dt) s = .next t ∧ HostOnly u t ∧ Answers u t c 0x0201 0 [] := by
  subst hu
  have row : exec (.epochCommit x c.qp c.tag dt) s = execEpochCommit x c.qp c.tag dt s := rfl
  rw [row, execEpochCommit, State.run_accepted hc]
  generalize s.enter x = u at *
  obtain ⟨hans, hhost⟩ := State.answered hc.1 stNoResource 0 []
  dsimp only
  rw [if_neg (h.not_refused c.qp), if_neg (by simp [h.not_far]), hk]
  exact ⟨_, rfl, hhost, hans⟩

/-- With a free entry, EPOCH_COMMIT arms the staged set on it and waits. -/
theorem epochCommit_arms (hc : Accepted u.host c.qp c.tag 0x0A03 c) (h : u.MayCommit c.params) {id : Nat}
    (hk : u.allocEntry 255 6 0 = .ok id) :
    exec (.epochCommit x c.qp c.tag dt) s = .next (u.armCommit c id) := by
  subst hu
  have row : exec (.epochCommit x c.qp c.tag dt) s = execEpochCommit x c.qp c.tag dt s := rfl
  rw [row, execEpochCommit, State.run_accepted hc]
  generalize s.enter x = u at *
  dsimp only
  rw [if_neg (h.not_refused c.qp), if_neg (by simp [h.not_far]), hk]
  rfl

/-- EPOCH_DISCARD withdraws the set staged and, first, the armed commit. -/
theorem epochDiscard_row (hc : Accepted u.host c.qp c.tag 0x0A04 c) : exec (.epochDiscard x c.qp c.tag dt) s =
    .next (((u.stage fun _ => StagedSet.empty).disarmCommit stBadState false).complete c.qp c.tag stOK 0 []) := by
  subst hu
  have row : exec (.epochDiscard x c.qp c.tag dt) s = execEpochDiscard x c.qp c.tag dt s := rfl
  rw [row, execEpochDiscard, State.run_accepted hc]

/-- EPOCH_DISCARD with no commit to withdraw leaves nothing staged. -/
theorem epochDiscard_staged (hc : Accepted u.host c.qp c.tag 0x0A04 c) (ha : ∀ a, u.ep.armed = some a → a.eff ≠ none) :
    ∃ t, exec (.epochDiscard x c.qp c.tag dt) s = .next t ∧ Answers u t c 0 0 [] ∧
      t = { u with ep := { u.ep with staged := StagedSet.empty }, host := t.host } := by
  have hd : (u.stage fun _ => StagedSet.empty).disarmCommit stBadState false = u.stage fun _ => StagedSet.empty := by
    cases h : u.ep.armed with
    | none => exact State.disarmCommit_none (s := u.stage fun _ => StagedSet.empty) h _ _
    | some a =>
      obtain ⟨k, hk⟩ := Option.ne_none_iff_exists'.mp (ha a h)
      exact State.disarmCommit_fired (s := u.stage fun _ => StagedSet.empty) h hk _ _
  obtain ⟨hans, hhost⟩ := State.answered_after (v := u.stage fun _ => StagedSet.empty) hc.1 rfl rfl rfl stOK 0 []
  rw [epochDiscard_row hu hc, hd]
  exact ⟨_, rfl, hans, hhost⟩

/-- EPOCH_DISCARD of an armed commit: its command answers BAD_STATE, then the discard answers OK. -/
theorem epochDiscard_withdraws (hc : Accepted u.host c.qp c.tag 0x0A04 c) {a : ArmedCommit} (ha : u.ep.armed = some a)
    (he : a.eff = none) {d : Cmd} {p : Prog} (hd : Held u.host a.qp a.tag 0x0A03 p d) :
    ∃ t, exec (.epochDiscard x c.qp c.tag dt) s = .next t ∧ t.ep.armed = none ∧ t.ep.staged = StagedSet.empty ∧
      (∃ e ∈ t.host.completions, e.tag = c.tag ∧ e.qp = c.qp ∧ e.status = 0) ∧
      (∃ e ∈ t.host.completions, e.tag = a.tag ∧ e.qp = a.qp ∧ e.status = 0x0104) ∧
      (∀ e ∈ t.sched.entries, e.1 = a.entry → e.2.action = 6 → e.2.st = .free) ∧ t.ep.epoch = u.ep.epoch := by
  have hw : (u.stage fun _ => StagedSet.empty).disarmCommit stBadState false =
      ((u.stage fun _ => StagedSet.empty).withdraw a false).complete a.qp a.tag stBadState 0 [] :=
    State.disarmCommit_armed (s := u.stage fun _ => StagedSet.empty) ha he _ _
  have hne : ¬(c.qp = a.qp ∧ c.tag = a.tag) := by
    rintro ⟨hq, ht⟩
    have hcd : some c = some d := by rw [← hc.1.1, ← hd.1, hq, ht]
    obtain ⟨-, hopc, -⟩ := hc.1
    obtain ⟨-, hopd, -⟩ := hd
    rw [Option.some.inj hcd, hopd] at hopc
    exact absurd hopc (by decide)
  rw [epochDiscard_row hu hc, hw]
  generalize hv : (u.stage fun _ => StagedSet.empty).withdraw a false = v
  have hvh : v.host = u.host := hv ▸ rfl
  have hent : ∀ e ∈ v.sched.entries, e.1 = a.entry → e.2.action = 6 → e.2.st = .free := hv ▸ State.withdraw_free _ a false
  have hep : v.ep = { u.ep with armed := none, staged := StagedSet.empty } := hv ▸ rfl
  rw [← hvh] at hc hd
  obtain ⟨⟨-, e1, hc1, ht1, hq1, hs1, -⟩, -⟩ := State.answered hd stBadState 0 []
  obtain ⟨⟨-, e2, hc2, ht2, hq2, hs2, -⟩, -⟩ := State.answered (State.held_complete hc.1 hd hne stBadState 0 []) stOK 0 []
  obtain ⟨hq, ht⟩ := find_name hd.1
  rw [hq, ht] at hc1
  refine ⟨_, rfl, ?_, ?_, ⟨e2, ?_, ht2, hq2, hs2⟩, ⟨e1, ?_, ht1.trans ht, hq1.trans hq, hs1⟩, ?_, ?_⟩
  · rw [State.complete_ep, State.complete_ep, hep]
  · rw [State.complete_ep, State.complete_ep, hep]
  · rw [hc2]; simp
  · rw [hc2, hc1]; simp
  · rw [State.complete_sched, State.complete_sched]; exact hent
  · rw [State.complete_ep, State.complete_ep, hep]

end

end Sys2Proof.Machine

open Sys2Proof Sys2Proof.Machine

/-- Settles O56: one lemma a row and outcome; the discard of an armed commit is two completions in turn. -/
theorem commitsAreStagedAndArmed : Obligations.CommitsAreStagedAndArmed := by
  unfold Obligations.CommitsAreStagedAndArmed
  intro s u x qp tag dt c hu
  replace hu := hu.symm
  refine ⟨fun hc => ?_, fun hc sel hsel => ?_, fun hc => ?_, fun hc => ?_⟩ <;> obtain ⟨rfl, rfl⟩ := find_name hc.1.1
  · exact fnModeSet_stages hu hc
  · subst hsel
    exact ⟨epochCommit_badState hu hc, fun ha hr ht => ⟨fun k hk => epochCommit_noEntry hu hc ⟨ha, hr, ht⟩ hk, fun id hk =>
      ⟨_, u.commitEntry c.qp c.params, _, epochCommit_arms hu hc ⟨ha, hr, ht⟩ hk, tget_tset_self _ _ _, rfl, rfl, rfl, rfl,
        rfl, rfl, rfl, rfl, rfl, rfl, rfl, rfl⟩⟩⟩
  · refine ⟨fun ha => epochDiscard_staged hu hc (by simp [ha]), fun a k ha => ⟨fun he => ?_, fun he d p hd =>
      epochDiscard_withdraws hu hc ha he hd⟩⟩
    obtain ⟨t, hrow, hans, ht⟩ := epochDiscard_staged (dt := dt) hu hc (by simp [ha, he])
    exact ⟨t, hrow, hans, (congrArg (·.ep.armed) ht).trans ha, congrArg (·.ep.staged) ht, (congrArg State.sched ht :)⟩
  · subst hu
    have row : exec (.epochRead x c.qp c.tag dt) s = execEpochRead x c.qp c.tag dt s := rfl
    rw [row, execEpochRead, State.run_accepted hc]
    generalize s.enter x = u at *
    obtain ⟨hans, hhost⟩ := State.answered hc.1 stOK 0 u.epochRec
    obtain ⟨hr, hs, ha⟩ := flags3_testBit u.ep.rolling.isSome u.ep.staged.any u.ep.armed.isSome
    refine ⟨_, _, rfl, hhost, hans, u.epochRec_length, u.epochRec_epoch, fun h => ?_, fun o h => ?_, ?_, ?_, ?_, fun h => ?_⟩
    · rw [u.epochRec_from]; simp [State.epochFrom, h]
    · rw [u.epochRec_from]; simp [State.epochFrom, h]
    · rw [u.epochRec_flags, State.epochFlags, hr]; simp [Option.isSome_iff_ne_none]
    · rw [u.epochRec_flags, State.epochFlags, hs]; simp [StagedSet.any]
    · rw [u.epochRec_flags, State.epochFlags, ha]; simp [Option.isSome_iff_ne_none]
    · rw [u.epochRec_next]; simp [h]
end

section
/-! PROOF. What writes to stores leave alone (08 R204, R207, R210): one mask, `State.sansLines`, and with it what the image
areas of serving rows come to (08 R199, 19 R487). -/

namespace Sys2Proof.Machine

/-! ### Writes of lines -/

/-- A row less the lists that writes of its lines keep (08 R207, R210). -/
def StoreRow.sansLists (v : StoreRow) : StoreRow := { v with extents := [], poisoned := [] }

/-- A state less what a write of store lines changes: memory, the rows' lists, the ring of events and the panel. -/
def State.sansLines (s : State) : State :=
  { s with
    mem := []
    flash := { s.flash with ring := [], nextSeq := 0, nextSlot := 0 }
    panel := PanelSt.reset
    store := { s.store with rows := s.store.rows.map StoreRow.sansLists } }

/-- An update under which a view of the element stays leaves the list's view. -/
theorem map_lmod_view {α β : Type} (g : α → β) {f : α → α} (hf : ∀ a, g (f a) = g a) (l : List α) (i : Nat) :
    (lmod l i f).map g = l.map g := by
  induction l generalizing i with
  | nil => rfl
  | cons a r ih => cases i <;> simp [lmod, hf, ih]

theorem State.modRow_sansLines {f : StoreRow → StoreRow} (hf : ∀ v, (f v).sansLists = v.sansLists) (s : State) (r : Nat) :
    (s.modRow r f).sansLines = s.sansLines := by
  simp [State.sansLines, State.modRow, map_lmod_view StoreRow.sansLists hf]

theorem State.event_sansLines (s : State) (k c u d : Nat) : (s.event k c u d).sansLines = s.sansLines := by
  unfold State.event State.panelTouch
  dsimp only
  repeat' split
  all_goals rfl

theorem State.noteExtent_sansLines (s : State) (r a : Nat) : (s.noteExtent r a).sansLines = s.sansLines := by
  unfold State.noteExtent
  split
  · apply State.modRow_sansLines
    exact fun _ => rfl
  · rfl

theorem State.putLine_sansLines (s : State) (r a : Nat) (l : Bytes) : (s.putLine r a l).sansLines = s.sansLines := by
  refine (State.noteExtent_sansLines _ _ _).trans (foldl_keeps State.sansLines _ (fun _ _ => ?_) _ _)
  rfl

theorem State.listPoison_sansLines (s : State) (r a : Nat) : (s.listPoison r a).sansLines = s.sansLines := by
  refine foldl_keeps State.sansLines _ (fun t q => ?_) _ _
  apply State.modRow_sansLines
  exact fun _ => rfl

theorem State.fullLine_sansLines (s : State) (r a : Nat) (d : Bytes) : (s.fullLine r a d).sansLines = s.sansLines := by
  refine Eq.trans (foldl_keeps State.sansLines _ (fun t q => ?_) _ _) (s.putLine_sansLines _ _ _)
  rw [State.event_sansLines]
  apply State.modRow_sansLines
  exact fun _ => rfl

theorem State.writeLine_sansLines (s : State) (r a : Nat) (d : Bytes) (m : Nat) :
    (s.writeLine r a d m).2.sansLines = s.sansLines := by
  unfold State.writeLine
  dsimp only
  split
  · rfl
  · split
    · exact s.fullLine_sansLines _ _ _
    · split <;> simp only [State.event_sansLines, State.listPoison_sansLines, State.putLine_sansLines]

theorem State.writeStore_sansLines (s : State) (r a : Nat) (b : Bytes) : (s.writeStore r a b).2.sansLines = s.sansLines := by
  unfold State.writeStore
  refine List.foldlRecOn (motive := fun p : Total × State => p.2.sansLines = s.sansLines) _ _ rfl fun p hp i _ => ?_
  exact (State.writeLine_sansLines _ _ _ _ _).trans hp

/-- A row, its lists apart, can be read under the mask. -/
theorem State.sansLines_row (s : State) (q : Nat) : s.sansLines.row q = (s.row q).sansLists := by
  simp only [State.row, State.sansLines, List.getD_eq_getElem?_getD, List.getElem?_map]
  cases s.store.rows[q]? <;> rfl

theorem State.row_of_sansLines {s t : State} (h : t.sansLines = s.sansLines) (q : Nat) :
    (t.row q).st = (s.row q).st ∧ (t.row q).image = (s.row q).image := by
  have hq : (t.row q).sansLists = (s.row q).sansLists := by rw [← State.sansLines_row, h, State.sansLines_row]
  exact ⟨(congrArg StoreRow.st hq :), (congrArg StoreRow.image hq :)⟩

/-! ### The image areas -/

theorem State.modRow_row_self (s : State) (r : Nat) (f : StoreRow → StoreRow) (h : r < s.store.rows.length) :
    (s.modRow r f).row r = f (s.row r) := lmod_getD_self _ _ _ _ h

/-- A row beyond the configured ones is blank, so a row that serves is there. -/
theorem State.row_lt {s : State} {r : Nat} (h : (s.row r).st = .serving) : r < s.store.rows.length := by
  refine Nat.lt_of_not_le fun hr => ?_
  rw [State.row, List.getD_eq_getElem?_getD, List.getElem?_eq_none hr] at h
  cases h

theorem State.writeArea_ep (s : State) (r base : Nat) (m : HiveImg) : (s.writeArea r base m).ep = s.ep :=
  (congrArg State.ep (s.writeStore_sansLines r base _) :)

theorem State.writeArea_st (s : State) (r base : Nat) (m : HiveImg) (q : Nat) :
    ((s.writeArea r base m).row q).st = (s.row q).st := by
  refine Eq.trans (lmod_getD_view StoreRow.st (fun _ => ?_) _ _ _ _)
    (State.row_of_sansLines (s.writeStore_sansLines r base _) q).1
  rfl

/-- The row written records the image. -/
theorem State.writeArea_image_self {s : State} {r : Nat} (h : (s.row r).st = .serving) (base : Nat) (m : HiveImg) :
    ((s.writeArea r base m).row r).image = some (m.id, m.crc) := by
  have hst := (State.row_of_sansLines
    (s.writeStore_sansLines r base (m.bytes ++ List.replicate ((64 - m.bytes.length % 64) % 64) 0)) r).1.trans h
  rw [State.writeArea, State.modRow_row_self _ _ _ (State.row_lt hst)]

/-- Any row that records the image goes on recording it. -/
theorem State.writeArea_image_keeps {s : State} {q : Nat} (hs : (s.row q).st = .serving) {m : HiveImg}
    (h : (s.row q).image = some (m.id, m.crc)) (r base : Nat) :
    ((s.writeArea r base m).row q).image = some (m.id, m.crc) := by
  by_cases hq : q = r
  · subst hq
    exact State.writeArea_image_self hs base m
  · rw [State.writeArea, State.row, State.modRow, lmod_getD_ne _ _ _ _ _ hq]
    exact (State.row_of_sansLines (s.writeStore_sansLines r base _) q).2.trans h

/-- Bring one row's area to the image a load brings (08 R199). -/
def State.fillArea (m : HiveImg) (base : Nat) (s : State) (r : Nat) : State :=
  if s.areaMatches r m then s else s.writeArea r base m

theorem State.areaMatches_image {s : State} {r : Nat} {m : HiveImg} (h : s.areaMatches r m = true) :
    (s.row r).image = some (m.id, m.crc) := by
  simp only [State.areaMatches, Bool.and_eq_true, beq_iff_eq] at h
  exact h.1

theorem State.fillArea_ep (m : HiveImg) (base : Nat) (s : State) (r : Nat) : (s.fillArea m base r).ep = s.ep := by
  unfold State.fillArea
  split
  · rfl
  · exact s.writeArea_ep r base m

theorem State.fillArea_st (m : HiveImg) (base : Nat) (s : State) (r q : Nat) :
    ((s.fillArea m base r).row q).st = (s.row q).st := by
  unfold State.fillArea
  split
  · rfl
  · exact s.writeArea_st r base m q

theorem State.fillArea_image_self {s : State} {r : Nat} (h : (s.row r).st = .serving) (m : HiveImg) (base : Nat) :
    ((s.fillArea m base r).row r).image = some (m.id, m.crc) := by
  unfold State.fillArea
  split
  · exact State.areaMatches_image ‹_›
  · exact State.writeArea_image_self h base m

theorem State.fillArea_image_keeps {s : State} {q : Nat} (hs : (s.row q).st = .serving) {m : HiveImg}
    (h : (s.row q).image = some (m.id, m.crc)) (base r : Nat) :
    ((s.fillArea m base r).row q).image = some (m.id, m.crc) := by
  unfold State.fillArea
  split
  · exact h
  · exact State.writeArea_image_keeps hs h r base

theorem State.fillAreas_st (m : HiveImg) (base : Nat) (l : List Nat) (s : State) (q : Nat) :
    ((l.foldl (State.fillArea m base) s).row q).st = (s.row q).st :=
  foldl_keeps (fun t => (t.row q).st) _ (fun t r => t.fillArea_st m base r q) l s

/-- Every serving row among those brought to the image records it. -/
theorem State.fillAreas_image (m : HiveImg) (base : Nat) (l : List Nat) (s : State) {q : Nat} (hq : q ∈ l)
    (hs : (s.row q).st = .serving) : ((l.foldl (State.fillArea m base) s).row q).image = some (m.id, m.crc) := by
  induction l generalizing s with
  | nil => cases hq
  | cons r l ih =>
    have hst : ((s.fillArea m base r).row q).st = .serving := (s.fillArea_st m base r q).trans hs
    rw [List.foldl_cons]
    rcases List.mem_cons.mp hq with rfl | hq
    · refine (List.foldlRecOn (motive := fun t : State => (t.row q).st = .serving ∧ (t.row q).image = some (m.id, m.crc))
        l _ ⟨hst, State.fillArea_image_self hs m base⟩ fun t ht r _ => ?_).2
      obtain ⟨ht, hi⟩ := ht
      exact ⟨(t.fillArea_st m base r q).trans ht, State.fillArea_image_keeps ht hi base r⟩
    · exact ih _ hq hst

/-- Once a load's areas are written the epochs are as before, and every serving row serves and records the image. -/
theorem State.loadAreas_parts (s : State) (m : HiveImg) : (s.loadAreas m).ep = s.ep ∧
    ∀ r, r < 8 → (s.row r).st = .serving →
      ((s.loadAreas m).row r).st = .serving ∧ ((s.loadAreas m).row r).image = some (m.id, m.crc) := by
  have fill : ∃ base, s.loadAreas m = ((List.range 8).filter fun r => (s.row r).serving).foldl (State.fillArea m base)
      { s with store := { s.store with imageBase := base, stagedRows := [] } } := ⟨_, rfl⟩
  obtain ⟨base, fill⟩ := fill
  rw [fill]
  refine ⟨foldl_keeps State.ep _ (State.fillArea_ep m base) _ _, fun r hr hs => ?_⟩
  have hmem : r ∈ (List.range 8).filter fun r => (s.row r).serving := by
    simp [hr, StoreRow.serving, hs]
  exact ⟨(State.fillAreas_st m base _ _ r).trans hs, State.fillAreas_image m base _ _ hmem hs⟩

/-! ### A replacement staged (19 R475, R487) -/

/-- The staged set with a replacement in it: it takes the place of the sources and modes staged, and of the frames of its own
(19 R475). -/
def StagedSet.withImage (t : StagedSet) (m : HiveImg) (p : Nat) : StagedSet :=
  { t with
    xforms := t.xforms.filter fun e => decide (e.1 < 2304)
    sources := []
    modes := []
    codebook := if m.codebook.isSome then none else t.codebook
    image := some (m, p) }

theorem tget_filter_key {α : Type} (f : Nat → Bool) (l : List (Nat × α)) (k : Nat) (h : tget (l.filter fun e => f e.1) k ≠ none) :
    f k = true := by
  induction l with
  | nil => exact absurd rfl h
  | cons e l ih =>
    by_cases he : f e.1 = true
    · rw [List.filter_cons_of_pos (by exact he)] at h
      obtain ⟨j, a⟩ := e
      by_cases hj : j = k
      · exact hj ▸ he
      · exact ih (by simpa [tget, hj] using h)
    · rw [List.filter_cons_of_neg (by exact he)] at h
      exact ih h

/-- Staging a replacement, and waking what it uses, changes the staged set and neither the host interface nor the time. -/
theorem State.stageImage_wakeUsed_parts (s : State) (m : HiveImg) (p : Nat) :
    (s.stageImage m p).wakeUsed.ep = { s.ep with staged := s.ep.staged.withImage m p } ∧
      (s.stageImage m p).wakeUsed.host = s.host ∧ (s.stageImage m p).wakeUsed.time = s.time := by
  rw [State.wakeUsed_link]
  unfold State.stageImage
  dsimp only
  generalize List.replicate _ _ = pad
  generalize (List.range 8).filter _ = rows
  have written := foldl_keeps State.sansLines (fun s r => (s.writeStore r (s.stageBase m) (m.bytes ++ pad)).2)
    (fun t r => t.writeStore_sansLines _ _ _) rows s
  generalize rows.foldl _ s = t at *
  have hep : t.ep = s.ep := (congrArg State.ep written :)
  refine ⟨?_, (congrArg State.host written :), (congrArg State.time written :)⟩
  rw [← hep]
  rfl

end Sys2Proof.Machine
end

section
/-! PROOF. IMAGE_LOAD and IMAGE_AREA_WRITTEN (02 R55, 19 R475, R487, 21 R517, R528). -/

namespace Sys2Proof.Machine

open Sys2Proof

/-! ### What a load begins with -/

/-- No load and no rolling change runs, and the unit is in READY or RUN. -/
structure State.MayLoad (s : State) : Prop where
  loading : s.ep.loading = none
  rolling : s.ep.rolling = none
  state : s.unit.state = .ready ∨ s.unit.state = .run

/-- These are the grounds on which the row refuses a load before it looks at the image. -/
theorem State.mayLoad_iff (s : State) : s.MayLoad ↔ ¬(s.ep.loading.isSome = true ∨
    ¬(decide (s.unit.state = .ready) = true ∨ s.unit.state = .run) ∨ s.ep.rolling.isSome = true) := by
  rw [not_or, not_or, Classical.not_not, decide_eq_true_eq, Option.not_isSome_iff_eq_none, Option.not_isSome_iff_eq_none]
  exact ⟨fun ⟨hl, hr, hs⟩ => ⟨hl, hs, hr⟩, fun ⟨hl, hs, hr⟩ => ⟨hl, hr, hs⟩⟩

/-- In READY the rows are configured as the image says; in RUN they stay as they are (log entry 4). -/
def State.rowsFor (s : State) (m : HiveImg) : State :=
  if decide (s.unit.state = .ready) then s.mapped fun v => v.configRows m.site.stores else s

theorem State.rowsFor_eq (s : State) (m : HiveImg) :
    s.rowsFor m = if s.unit.state = .ready then s.mapped fun v => v.configRows m.site.stores else s := by
  unfold State.rowsFor
  by_cases h : s.unit.state = .ready <;> simp [h]

/-- The load is in progress, in READY at start-up step 14, and its command waits. -/
def State.beginLoad (w : State) (ready : Bool) (c : Cmd) (m : HiveImg) (p : Nat) : State :=
  let t := { w with ep := { w.ep with loading := some { img := m, placement := p, qp := c.qp, tag := c.tag } } }
  (if ready then { t with unit := { t.unit with step := 14 } } else t).setProg c.qp c.tag (.waiting 0 0)

theorem State.beginLoad_eq (w : State) (ready : Bool) (c : Cmd) (m : HiveImg) (p : Nat) : w.beginLoad ready c m p =
    { w with
      ep := { w.ep with loading := some ⟨m, p, c.qp, c.tag⟩ }
      unit := { w.unit with step := if ready then 14 else w.unit.step }
      host := (w.setProg c.qp c.tag (.waiting 0 0)).host } := by
  cases ready <;> rfl

/-- What a load comes to whose image meets its requirements: the rows are configured, then it is refused or begins. -/
def State.placeImage (s : State) (c : Cmd) (m : HiveImg) : State :=
  let w := s.rowsFor m
  match w.choosePlacement m 0 with
  | none => w.complete c.qp c.tag stNoResource 0 []
  | some (p, b) => match w.loadRefusal m p b with
    | some r => w.complete c.qp c.tag r.1 r.2 []
    | none => w.beginLoad (decide (s.unit.state = .ready)) c m p

/-- What a load comes to by what its bytes read as. -/
def State.takeImage (s : State) (c : Cmd) : Option HiveImg → State
  | none => s.complete c.qp c.tag stImage 0 []
  | some m => match s.imageUnmet m with
    | some v => (s.refuseHive m v).complete c.qp c.tag stVersion 0 []
    | none => s.placeImage c m

section
variable {s : State} {m : HiveImg} (c : Cmd)

theorem State.takeImage_unmet {v : (IfaceReq × Nat × Nat × Nat) × Nat} (h : s.imageUnmet m = some v) :
    s.takeImage c (some m) = (s.refuseHive m v).complete c.qp c.tag stVersion 0 [] := by
  simp only [State.takeImage, h]

theorem State.takeImage_met (h : s.imageUnmet m = none) : s.takeImage c (some m) = s.placeImage c m := by
  simp only [State.takeImage, h]

theorem State.placeImage_noFit (h : (s.rowsFor m).choosePlacement m 0 = none) :
    s.placeImage c m = (s.rowsFor m).complete c.qp c.tag stNoResource 0 [] := by
  simp only [State.placeImage, h]

variable {p : Nat} {b : List Nat} (h : (s.rowsFor m).choosePlacement m 0 = some (p, b))
include h

theorem State.placeImage_refused {st n : Nat} (hr : (s.rowsFor m).loadRefusal m p b = some (st, n)) :
    s.placeImage c m = (s.rowsFor m).complete c.qp c.tag st n [] := by
  simp only [State.placeImage, h, hr]

theorem State.placeImage_begins (hr : (s.rowsFor m).loadRefusal m p b = none) :
    s.placeImage c m = (s.rowsFor m).beginLoad (decide (s.unit.state = .ready)) c m p := by
  simp only [State.placeImage, h, hr]

end

/-- A VERSION_REFUSED event of a presented image stands in the ring; it changes the fault record and the panel alone. -/
theorem State.refuseHive_parts (s : State) (m : HiveImg) (v : (IfaceReq × Nat × Nat × Nat) × Nat) :
    s.refuseHive m v = { s with flash := (s.refuseHive m v).flash, panel := (s.refuseHive m v).panel } ∧
      ∃ e ∈ (s.refuseHive m v).flash.ring, e.kind = 17 := by
  refine ⟨?_, _, (s.event_recorded _ _ _ _).1, rfl⟩
  unfold State.refuseHive State.event State.panelTouch
  dsimp only
  repeat' split
  all_goals rfl

/-- A command whose row completes it on a state is answered there, and nothing but the host interface changes. -/
theorem answered_of_completes {i : Instr} {s w : State} {qp tag op st d : Nat} {p : Prog} {c : Cmd}
    (hc : Held w.host qp tag op p c) (h : exec i s = .next (w.complete c.qp c.tag st d [])) :
    ∃ t, exec i s = .next t ∧ HostOnly w t ∧ Answers w t c st d [] := by
  obtain ⟨hans, hhost⟩ := State.answered hc st d []
  exact ⟨_, h, hhost, hans⟩

/-! ### IMAGE_LOAD -/

section
variable {s u : State} {x : At} {c : Cmd} {sd : SiteDesc} (hu : s.enter x = u) (hc : Accepted u.host c.qp c.tag 0x0A01 c)
include hu hc

theorem imageLoad_busy (dt : Option Bytes) (h : ¬u.MayLoad) :
    exec (.imageLoad x c.qp c.tag dt sd) s = .next (u.complete c.qp c.tag stBadState 0 []) := by
  subst hu
  change execImageLoad x c.qp c.tag dt sd s = _
  rw [execImageLoad, State.run_accepted hc]
  exact congrArg Host.Outcome.next (if_pos (Classical.not_not.mp fun hn => h ((State.mayLoad_iff _).mpr hn)))

theorem imageLoad_noData (h : u.MayLoad) :
    exec (.imageLoad x c.qp c.tag none sd) s = .next (u.complete c.qp c.tag stBadParam 0xFFFFFFFF []) := by
  subst hu
  change execImageLoad x c.qp c.tag none sd s = _
  rw [execImageLoad, State.run_accepted hc]
  exact congrArg Host.Outcome.next (if_neg ((State.mayLoad_iff _).mp h))

theorem imageLoad_reads (h : u.MayLoad) (d : Bytes) : exec (.imageLoad x c.qp c.tag (some d) sd) s =
    .next (u.takeImage c (parseImage (d.take (fieldN c.params 8 8)) sd)) := by
  subst hu
  change execImageLoad x c.qp c.tag (some d) sd s = _
  rw [execImageLoad, State.run_accepted hc]
  refine congrArg Host.Outcome.next ((if_neg ((State.mayLoad_iff _).mp h)).trans ?_)
  dsimp only
  cases parseImage (d.take (fieldN c.params 8 8)) sd <;> rfl

/-- A requirement not met: VERSION_REFUSED is answered, and its event stands in the ring (21 R528). -/
theorem imageLoad_unmet (h : u.MayLoad) {d : Bytes} {m : HiveImg}
    (hp : parseImage (d.take (fieldN c.params 8 8)) sd = some m) {v : (IfaceReq × Nat × Nat × Nat) × Nat}
    (hv : u.imageUnmet m = some v) :
    ∃ t e, exec (.imageLoad x c.qp c.tag (some d) sd) s = .next t ∧ Answers u t c 0x0501 0 [] ∧ e ∈ t.flash.ring ∧
      e.kind = 17 ∧ t = { u with flash := t.flash, panel := t.panel, host := t.host } := by
  rw [imageLoad_reads hu hc h, hp, State.takeImage_unmet c hv]
  obtain ⟨heq, e, he, hk⟩ := u.refuseHive_parts m v
  generalize u.refuseHive m v = w at *
  obtain ⟨hans, hhost⟩ := State.answered_after hc.1 (congrArg State.host heq :) (congrArg (·.ep.epoch) heq :)
    (congrArg State.time heq :) stVersion 0 []
  generalize w.complete c.qp c.tag stVersion 0 [] = t at *
  rw [hhost]
  refine ⟨_, e, rfl, by rw [← hhost]; exact hans, he, hk, ?_⟩
  rw [heq]

end

/-! ### IMAGE_AREA_WRITTEN -/

section
variable {s u : State} {x : At} (hu : s.enter x = u)
include hu

theorem imageAreaWritten_ignored (h : u.ep.loading = none ∨ (u.unit.state = .ready ∧ u.unit.step ≠ 14)) :
    exec (.imageAreaWritten x) s = .next u := by
  subst hu
  change execImageAreaWritten x s = _
  rw [execImageAreaWritten]
  dsimp only
  cases hl : (s.enter x).ep.loading with
  | none => rfl
  | some l =>
    obtain ⟨hst, hstep⟩ := h.resolve_left (by simp [hl])
    exact congrArg Host.Outcome.next ((if_pos hst).trans (if_neg hstep))

variable {l : Loading} (hl : u.ep.loading = some l)
include hl

/-- In READY the areas are written and step 15 begins. -/
theorem imageAreaWritten_ready (hst : u.unit.state = .ready) (h14 : u.unit.step = 14) : exec (.imageAreaWritten x) s =
    .next { u.loadAreas l.img with unit := { u.unit with step := 15 } }.retireDue := by
  subst hu
  change execImageAreaWritten x s = _
  rw [execImageAreaWritten]
  dsimp only
  rw [hl]
  exact congrArg Host.Outcome.next ((if_pos hst).trans (if_pos h14))

/-- In RUN the load ends with the image staged, and its command is answered with the placement. -/
theorem imageAreaWritten_stages (hst : u.unit.state ≠ .ready) : exec (.imageAreaWritten x) s =
    .next (((({ u with ep := { u.ep with loading := none } } : State).stageImage l.img l.placement).wakeUsed.complete l.qp
      l.tag stOK l.placement []).retireDue) := by
  subst hu
  change execImageAreaWritten x s = _
  rw [execImageAreaWritten]
  dsimp only
  rw [hl]
  exact congrArg Host.Outcome.next (if_neg hst)

/-- The image stands staged in place of the sources and modes staged before (19 R475). -/
theorem imageAreaWritten_staged (hst : u.unit.state ≠ .ready) {c : Cmd} (hc : Held u.host l.qp l.tag 0x0A01 (.waiting 0 0) c) :
    ∃ v : State, exec (.imageAreaWritten x) s = .next v.retireDue ∧
      v.ep = { u.ep with loading := none, staged := u.ep.staged.withImage l.img l.placement } ∧
      Answers u v c 0 l.placement [] := by
  refine ⟨_, imageAreaWritten_stages hu hl hst, ?_⟩
  obtain ⟨hep, hhost, htime⟩ :=
    State.stageImage_wakeUsed_parts { u with ep := { u.ep with loading := none } } l.img l.placement
  generalize (State.stageImage _ l.img l.placement).wakeUsed = v at *
  obtain ⟨hans, -⟩ := State.answered_after hc hhost (congrArg EpochSt.epoch hep :) htime stOK l.placement []
  obtain ⟨hq, ht⟩ := find_name hc.1
  rw [hq, ht] at hans
  exact ⟨(State.complete_ep _ _ _ _ _ _).trans hep, hans⟩

end

end Sys2Proof.Machine

open Sys2Proof Sys2Proof.Machine

/-- Settles O55: IMAGE_LOAD's outcomes in the order of its checks, then the areas by the unit's state. -/
theorem imagesAreCheckedAndWritten : Obligations.ImagesAreCheckedAndWritten := by
  unfold Obligations.ImagesAreCheckedAndWritten
  refine ⟨fun s u w x qp tag dt sd c hu hc => ?_, fun s u x hu => ?_⟩
  · replace hu := hu.symm
    obtain ⟨rfl, rfl⟩ := find_name hc.1.1
    refine ⟨fun hbusy => ?_, fun hl hr hst => ?_⟩
    · refine answered_of_completes hc.1 (imageLoad_busy hu hc dt ?_)
      rintro ⟨hl, hr, hst⟩
      rcases hbusy with h | h | ⟨hy, hn⟩
      · exact h hl
      · exact h hr
      · exact hst.elim hy hn
    have h : u.MayLoad := ⟨hl, hr, hst⟩
    refine ⟨fun hd => ?_, fun d hd => ?_⟩ <;> subst hd
    · exact answered_of_completes hc.1 (imageLoad_noData hu hc h)
    have reads := imageLoad_reads (sd := sd) hu hc h d
    refine ⟨fun hp => ?_, fun m hp => ⟨fun v hv => imageLoad_unmet hu hc h hp hv, fun hm hw hcw => ?_⟩⟩
    · exact answered_of_completes hc.1 (by rw [reads, hp]; rfl)
    rw [hp] at reads
    replace reads := reads.trans (congrArg Host.Outcome.next (State.takeImage_met c hm))
    rw [← State.rowsFor_eq] at hw
    subst hw
    refine ⟨fun hp => ?_, fun p b hp => ⟨fun st n hr => ?_, fun hr => ?_⟩⟩
    · exact answered_of_completes hcw.1 (reads.trans (congrArg Host.Outcome.next (State.placeImage_noFit c hp)))
    · exact answered_of_completes hcw.1 (reads.trans (congrArg Host.Outcome.next (State.placeImage_refused c hp hr)))
    · rw [reads, State.placeImage_begins c hp hr, State.beginLoad_eq]
      refine ⟨_, rfl, rfl, fun hready => ?_, fun hrun => ?_, rfl⟩
      · simp [hready]
      · have hne : ¬u.unit.state = .ready := by simp [hrun]
        rw [decide_eq_false hne, State.rowsFor_eq, if_neg hne]
        rfl
  · replace hu := hu.symm
    refine ⟨imageAreaWritten_ignored hu, fun l hl => ⟨fun hst h14 => ?_, fun hst c hc => ?_⟩⟩
    · obtain ⟨hep, hrows⟩ := u.loadAreas_parts l.img
      exact ⟨_, imageAreaWritten_ready hu hl hst h14, rfl, hep, hrows⟩
    · obtain ⟨v, hv, hep, hans⟩ := imageAreaWritten_staged hu hl hst hc
      refine ⟨v, hv, ?_⟩
      rw [hep]
      refine ⟨rfl, rfl, rfl, rfl, fun i hi => ?_, rfl, rfl, rfl, hans⟩
      exact of_decide_eq_true (tget_filter_key (fun k => decide (k < 2304)) _ i hi)
end

section
/-! PROOF. The host's commands on phase sources, schedule entries and timed outputs (03 R72 to R82). -/

namespace Sys2Proof.Machine

open Sys2Proof

/-! ### Rows that complete their command -/

/-- A command whose row completes it with a result is answered with it, and nothing but the host interface changes. -/
theorem answeredWith_of_completes {i : Instr} {s w : State} {qp tag op st d : Nat} {p : Prog} {c : Cmd} {r : Bytes}
    (hc : Held w.host qp tag op p c) (h : exec i s = .next (w.complete c.qp c.tag st d r)) :
    ∃ t, exec i s = .next t ∧ HostOnly w t ∧ Answers w t c st d r := by
  obtain ⟨hans, hhost⟩ := State.answered hc st d r
  exact ⟨_, h, hhost, hans⟩

/-- A command whose row completes it after an effect `v` is answered, and nothing but the host interface of `v` changes. -/
theorem answered_of_completes_after {i : Instr} {s u v : State} {qp tag op st d : Nat} {p : Prog} {c : Cmd} {r : Bytes}
    (hc : Held u.host qp tag op p c) (h : exec i s = .next (v.complete c.qp c.tag st d r)) (hv : v.host = u.host)
    (he : v.ep.epoch = u.ep.epoch) (ht : v.time = u.time) :
    ∃ t, exec i s = .next t ∧ Answers u t c st d r ∧ HostOnly v t :=
  ⟨_, h, State.answered_after hc hv he ht st d r⟩

theorem HostOnly.sched {s t : State} (h : HostOnly s t) : t.sched = s.sched := (congrArg State.sched h :)

/-! ### Schedule entries -/

@[simp] theorem State.setEntry_entry_self (s : State) (id : Nat) (e : Entry) : (s.setEntry id e).entry id = some e :=
  tget_tset_self _ _ _

theorem State.setEntry_entry_ne (s : State) {id j : Nat} (e : Entry) (h : j ≠ id) :
    (s.setEntry id e).entry j = s.entry j :=
  tget_tset_ne _ _ _ _ h

theorem State.entryFree_iff (s : State) (id : Nat) :
    s.entryFree id = true ↔ ∀ e, s.entry id = some e → e.st = .free ∨ e.st = .fired := by
  unfold State.entryFree
  cases s.entry id <;> simp

/-- The entries of the host reserve of the image in use are never left (03 R73, R86). -/
theorem State.le_reserveFrom (s : State) : 256 - s.ep.hostEntries ≤ s.reserveFrom :=
  List.foldlRecOn (motive := fun h : Nat => 256 - s.ep.hostEntries ≤ h) _ _ (Nat.le_refl _) fun _ hn _ _ =>
    Nat.le_trans hn (Nat.le_max_left _ _)

theorem State.allocIn_free {s : State} {sup id : Nat} (h : s.allocIn sup = some id) :
    256 - s.ep.hostEntries ≤ id % 256 ∧ s.entryFree id = true := by
  obtain ⟨k, hk, rfl⟩ := Option.map_eq_some_iff.mp h
  have hlt : k < 256 := List.mem_range.mp (List.mem_of_find?_eq_some hk)
  have hok := List.find?_some hk
  rw [Bool.and_eq_true, decide_eq_true_eq] at hok
  obtain ⟨hres, hfree⟩ := hok
  have := s.le_reserveFrom
  exact ⟨by omega, hfree⟩

/-- An entry allocated is one of the host reserve that was free (03 R73). -/
theorem State.allocEntry_free {s : State} {sup action arg id : Nat} (h : s.allocEntry sup action arg = .ok id) :
    256 - s.ep.hostEntries ≤ id % 256 ∧ s.entryFree id = true := by
  unfold State.allocEntry at h
  dsimp only at h
  split at h
  · split at h
    · cases h
    · split at h
      · rename_i k hk
        obtain ⟨p, -, hp⟩ := List.exists_of_findSome?_eq_some hk
        cases h
        exact State.allocIn_free hp
      · cases h
  · split at h
    · cases h
    · split at h
      · rename_i k hk
        cases h
        exact State.allocIn_free hk
      · cases h

/-! ### Timed outputs (03 R78, R79) -/

theorem HostOnly.tso {s t : State} (h : HostOnly s t) (o : Nat) : t.tso o = s.tso o := (congrArg (State.tso · o) h :)

theorem State.modTso_tso_self {s : State} {o : Nat} (h : o < s.sched.tso.length) (f : Tso → Tso) :
    (s.modTso o f).tso o = f (s.tso o) := lmod_getD_self _ _ _ _ h

theorem State.modTso_tso_ne (s : State) {o p : Nat} (f : Tso → Tso) (h : p ≠ o) : (s.modTso o f).tso p = s.tso p :=
  lmod_getD_ne _ _ _ _ _ h

/-- An output as an edge of it is decided at an instant. -/
def Tso.decided (v : Tso) (now : Nat) (e : TsoEdge) : Tso :=
  { v.settle now with due := putEdge (v.settle now).due e }

theorem State.edge_tso_self {s : State} {e : TsoEdge} (h : e.output < s.sched.tso.length) :
    (s.edge e).tso e.output = (s.tso e.output).decided s.time.localC e := lmod_getD_self _ _ _ _ h

theorem State.edge_tso_ne (s : State) (e : TsoEdge) {p : Nat} (h : p ≠ e.output) : (s.edge e).tso p = s.tso p :=
  lmod_getD_ne _ _ _ _ _ h

/-- An output with no other edge to come has from an edge on the level it leaves. -/
theorem Tso.decided_levelAt {v : Tso} (h : v.due = []) (now : Nat) (e : TsoEdge) :
    (v.decided now e).levelAt e.at_ = e.on v.level := by
  simp [Tso.decided, Tso.settle, Tso.levelAt, putEdge, h]

/-- An operation decides its edge, and a pulse its trailing edge with it. -/
theorem State.drive_tso_self {s : State} {o : Nat} (h : o < s.sched.tso.length) (id op width at_ : Nat) :
    (s.drive id o op width at_).tso o =
      { (s.tso o).decided s.time.localC ⟨o, if op = 3 then 0 else op, at_, id⟩ with
        trails := if op = 3 then putEdge (s.tso o).trails ⟨o, 1, at_ + width * tickU, id⟩ else (s.tso o).trails } := by
  have he := State.edge_tso_self (e := ⟨o, if op = 3 then 0 else op, at_, id⟩) h
  unfold State.drive
  dsimp only at he ⊢
  by_cases hop : op = 3
  · rw [if_pos hop] at he ⊢
    rw [if_pos hop, State.modTso_tso_self (by rw [State.edge, State.modTso, lmod_length]; exact h), if_pos hop, he]
    rfl
  · rw [if_neg hop] at he ⊢
    rw [if_neg hop, if_neg hop, he]
    rfl

theorem State.drive_tso_ne (s : State) {o p : Nat} (id op width at_ : Nat) (h : p ≠ o) :
    (s.drive id o op width at_).tso p = s.tso p := by
  unfold State.drive
  dsimp only
  split
  · exact (State.modTso_tso_ne _ _ h).trans (s.edge_tso_ne _ h)
  · exact s.edge_tso_ne _ h

/-- An operation changes the outputs and their record alone. -/
theorem State.drive_eq (s : State) (id o op width at_ : Nat) : s.drive id o op width at_ =
    { s with sched := { s.sched with
        tso := (s.drive id o op width at_).sched.tso
        tsoLog := (s.drive id o op width at_).sched.tsoLog } } := by
  unfold State.drive
  dsimp only
  split <;> rfl

theorem State.drive_tsoLog (s : State) (id o op width at_ : Nat) : (s.drive id o op width at_).sched.tsoLog =
    s.sched.tsoLog ++ [⟨o, if op = 3 then 0 else op, at_, id⟩] := by
  unfold State.drive
  dsimp only
  split <;> rfl

/-- The level an operation leaves: high for a pulse too (03 R78). -/
theorem TsoEdge.on_operation {op : Nat} (h : op ≤ 3) (o at_ id : Nat) (l : Bool) :
    (TsoEdge.mk o (if op = 3 then 0 else op) at_ id).on l = if op = 1 then false else if op = 2 then !l else true := by
  have hcases : op = 0 ∨ op = 1 ∨ op = 2 ∨ op = 3 := by omega
  rcases hcases with rfl | rfl | rfl | rfl <;> rfl

/-! ### The rows -/

/-- The entry SCHED_ARM writes: held while its source is STARTING, else arming (03 R75, R76). -/
def State.armingEntry (s : State) (c : Cmd) : Entry :=
  let e := parseEntry (sliceB c.params 16 32)
  { e with
    st := if e.tkind = 0 ∧ (s.source e.src).st = .starting then .held else .arming
    owner := .queue c.qp
    rel := if fieldN c.params 8 1 = 1 then some (relTarget c.params) else none
    tick := s.time.tick
    cmd := some (c.qp, c.tag) }

section
variable {s u : State} {x : At} {c : Cmd} (hu : s.enter x = u) (dt : Option Bytes)
include hu

theorem phaseRead_row (hc : Accepted u.host c.qp c.tag 0x020A c) : exec (.phaseRead x c.qp c.tag dt) s =
    .next (u.complete c.qp c.tag stOK 0
      (catB (((List.range 16).filter fun i => bitAt (fieldN c.params 0 2) i).map u.srcStatus))) := by
  subst hu
  exact State.run_next hc rfl

section
variable (hc : Accepted u.host c.qp c.tag 0x0209 c)
include hc

theorem sourceDefine_refused (h : u.hostArmedOn (fieldN c.params 0 1) = true) :
    exec (.sourceDefine x c.qp c.tag dt) s = .next (u.complete c.qp c.tag stBadState 0 []) := by
  subst hu
  exact State.run_next hc (if_pos h)

theorem sourceDefine_stages (h : u.hostArmedOn (fieldN c.params 0 1) = false) :
    exec (.sourceDefine x c.qp c.tag dt) s = .next ((u.stage fun t => { t with
      sources := tset t.sources (fieldN c.params 0 1) (parseSource (sliceB c.params 8 48)) }).wakeUsed.complete c.qp c.tag
        stOK 0 []) := by
  subst hu
  exact State.run_next hc (if_neg (by simp [h]))

end

section
variable (hc : Accepted u.host c.qp c.tag 0x020B c) {e : Entry} (he : e = parseEntry (sliceB c.params 16 32))
include hc he

theorem schedArm_badSuper (h : fieldN c.params 0 1 < 64 ∧ fieldN c.params 0 1 ∉ u.carriers e.action e.arg) :
    exec (.schedArm x c.qp c.tag dt) s = .next (u.complete c.qp c.tag stBadParam 0 []) := by
  subst hu he
  exact State.run_next hc (if_pos (by simpa using h))

variable (hsup : fieldN c.params 0 1 < 64 → fieldN c.params 0 1 ∈ u.carriers e.action e.arg)
include hsup

theorem schedArm_disabled (h : e.tkind = 0 ∧ (u.source e.src).st = .disabled) :
    exec (.schedArm x c.qp c.tag dt) s = .next (u.complete c.qp c.tag stBadState 0 []) := by
  subst hu he
  refine State.run_next hc ((if_neg ?_).trans (if_pos h))
  simpa using hsup

variable (hsrc : ¬(e.tkind = 0 ∧ (u.source e.src).st = .disabled))
include hsrc

theorem schedArm_noEntry {n : Nat} (h : u.allocEntry (fieldN c.params 0 1) e.action e.arg = .error n) :
    exec (.schedArm x c.qp c.tag dt) s = .next (u.complete c.qp c.tag n 0 []) := by
  subst hu he
  refine State.run_next hc ((if_neg ?_).trans ((if_neg hsrc).trans ?_))
  · simpa using hsup
  · rw [h]

theorem schedArm_arms {id : Nat} (h : u.allocEntry (fieldN c.params 0 1) e.action e.arg = .ok id) :
    exec (.schedArm x c.qp c.tag dt) s =
      .next ((u.setEntry id (u.armingEntry c)).wakeUsed.setProg c.qp c.tag (.waiting id 0)) := by
  subst hu he
  refine State.run_next hc ((if_neg ?_).trans ((if_neg hsrc).trans ?_))
  · simpa using hsup
  · rw [h]
    rfl

end

section
variable (hc : Accepted u.host c.qp c.tag 0x020C c) {e : Entry} (he : u.entry (fieldN c.params 0 2) = some e)
  (hs : u.unsealed (fieldN c.params 0 2 / 256) = true)
include hc he hs

theorem schedCancel_notOwn (h : e.owner ≠ .queue c.qp) :
    exec (.schedCancel x c.qp c.tag dt) s = .next (u.complete c.qp c.tag stBadState 0 []) := by
  subst hu
  refine State.run_next hc ?_
  dsimp only
  rw [he]
  exact (if_neg (by simp [hs])).trans (if_pos (.inl h))

variable (ho : e.owner = .queue c.qp) (ha : e.action ≠ 6)
include ho ha

theorem schedCancel_armed (h : e.st = .armed) : exec (.schedCancel x c.qp c.tag dt) s =
    .next ((u.setEntry (fieldN c.params 0 2) { e with st := .free }).complete c.qp c.tag stOK 0 []) := by
  subst hu
  refine State.run_next hc ?_
  dsimp only
  rw [he]
  refine (if_neg (by simp [hs])).trans ((if_neg (by simp [ho, ha])).trans ?_)
  rw [h]

theorem schedCancel_fired (h : e.st = .fired) : exec (.schedCancel x c.qp c.tag dt) s =
    .next (u.complete c.qp c.tag stOK 1 []) := by
  subst hu
  refine State.run_next hc ?_
  dsimp only
  rw [he]
  refine (if_neg (by simp [hs])).trans ((if_neg (by simp [ho, ha])).trans ?_)
  rw [h]

end

section
variable (hc : Accepted u.host c.qp c.tag 0x020D c) (hs : u.unsealed (fieldN c.params 0 2 / 256) = true)
include hc hs

theorem schedRead_used {e : Entry} (he : u.entry (fieldN c.params 0 2) = some e) (hf : e.st ≠ .free)
    (hd : e.st ≠ .fired) :
    exec (.schedRead x c.qp c.tag dt) s = .next (u.complete c.qp c.tag stOK (if e.st = .held then 1 else 0) e.bytes) := by
  subst hu
  refine State.run_next hc ((if_neg (by simp [hs])).trans ?_)
  rw [he]
  refine (if_neg (by simp [hf, hd])).trans ?_
  simp only [b2n, beq_iff_eq]

theorem schedRead_free (h : u.entryFree (fieldN c.params 0 2) = true) :
    exec (.schedRead x c.qp c.tag dt) s = .next (u.complete c.qp c.tag stOK 0 (List.replicate 32 0)) := by
  subst hu
  refine State.run_next hc ((if_neg (by simp [hs])).trans ?_)
  have hf := (State.entryFree_iff _ _).mp h
  cases he : (s.enter x).entry (fieldN c.params 0 2) with
  | none => rfl
  | some e => exact if_pos (hf e he)

end

section
variable (hc : Accepted u.host c.qp c.tag 0x020E c)
include hc

theorem tsoFireNow_sealed (h : u.unsealed (tsoSuper (fieldN c.params 0 1)) = false) :
    exec (.tsoFireNow x c.qp c.tag dt) s = .next (u.complete c.qp c.tag stSealed 0 []) := by
  subst hu
  exact State.run_next hc (if_pos (by simp [h]))

theorem tsoFireNow_drives (h : u.unsealed (tsoSuper (fieldN c.params 0 1)) = true) :
    exec (.tsoFireNow x c.qp c.tag dt) s = .next ((u.drive 16384 (fieldN c.params 0 1) (fieldN c.params 1 1)
      (fieldN c.params 4 4) (u.time.localC + tsoLead)).complete c.qp c.tag stOK 0 []) := by
  subst hu
  exact State.run_next hc (if_neg (by simp [h]))

theorem tsoFireNow_answered (h : u.unsealed (tsoSuper (fieldN c.params 0 1)) = true) :
    ∃ t, exec (.tsoFireNow x c.qp c.tag dt) s = .next t ∧ Answers u t c 0 0 [] ∧
      HostOnly (u.drive 16384 (fieldN c.params 0 1) (fieldN c.params 1 1) (fieldN c.params 4 4)
        (u.time.localC + tsoLead)) t := by
  have heq := u.drive_eq 16384 (fieldN c.params 0 1) (fieldN c.params 1 1) (fieldN c.params 4 4) (u.time.localC + tsoLead)
  exact answered_of_completes_after hc.1 (tsoFireNow_drives hu dt hc h) (congrArg State.host heq :)
    (congrArg (·.ep.epoch) heq :) (congrArg State.time heq :)

end

end

/-- An arming written and its groups woken: entries, the command's progress and the link state change (03 R75, 09 R245). -/
theorem State.armed_waits_eq (s : State) (id : Nat) (e : Entry) (qp tag : Nat) (p : Prog) :
    (s.setEntry id e).wakeUsed.setProg qp tag p =
      { s with
        sched := { s.sched with entries := tset s.sched.entries id e }
        host := (s.setProg qp tag p).host
        link := (s.setEntry id e).wakeUsed.link } := by
  rw [State.wakeUsed_link]
  rfl

end Sys2Proof.Machine

open Sys2Proof Sys2Proof.Machine

/-- Settles O20: one lemma a row and outcome; what an arming and an operation of an output change is read off `setEntry` and
`drive`. -/
theorem scheduleCommands : Obligations.ScheduleCommands := by
  unfold Obligations.ScheduleCommands
  intro s u x qp tag dt c hu
  replace hu := hu.symm
  refine ⟨fun hc => ?_, fun hc => ?_, fun hc e he => ⟨fun h64 hsup => ?_, fun hsup => ⟨fun hk hd => ?_,
      fun hsrc n hn => ?_, fun hsrc id hid => ?_⟩⟩, fun hc id e hid he hs => ?_,
    fun hc hs => ⟨fun e he hf hd => ?_, fun hf => ?_⟩,
    fun hc o ho => ?_⟩ <;> obtain ⟨rfl, rfl⟩ := find_name hc.1.1
  · exact answeredWith_of_completes hc.1 (phaseRead_row hu dt hc)
  · refine ⟨fun h => answeredWith_of_completes hc.1 (sourceDefine_refused hu dt hc h), fun h => ?_⟩
    have hrow := sourceDefine_stages hu dt hc h
    rw [State.wakeUsed_link] at hrow
    obtain ⟨t, ht, hans, hhost⟩ := answered_of_completes_after hc.1 hrow rfl rfl rfl
    exact ⟨t, ht, hans, by rw [hhost]; rfl⟩
  · exact answeredWith_of_completes hc.1 (schedArm_badSuper hu dt hc he ⟨h64, hsup⟩)
  · exact answeredWith_of_completes hc.1 (schedArm_disabled hu dt hc he hsup ⟨hk, hd⟩)
  · exact answeredWith_of_completes hc.1 (schedArm_noEntry hu dt hc he hsup hsrc hn)
  · obtain ⟨hres, hfree⟩ := State.allocEntry_free hid
    refine ⟨hres, hfree, _, schedArm_arms hu dt hc he hsup hsrc hid, ?_⟩
    rw [State.armed_waits_eq]
    subst he
    exact ⟨u.setEntry_entry_self id _, fun j hj => u.setEntry_entry_ne _ hj, rfl⟩
  · subst hid
    refine ⟨fun ho ha h => ?_, fun ho ha h => ?_, fun ho => ?_⟩
    · exact answered_of_completes_after hc.1 (schedCancel_armed hu dt hc he hs ho ha h) rfl rfl rfl
    · exact answeredWith_of_completes hc.1 (schedCancel_fired hu dt hc he hs ho ha h)
    · exact answeredWith_of_completes hc.1 (schedCancel_notOwn hu dt hc he hs ho)
  · exact answeredWith_of_completes hc.1 (schedRead_used hu dt hc hs he hf hd)
  · exact answeredWith_of_completes hc.1 (schedRead_free hu dt hc hs hf)
  · subst ho
    refine ⟨fun h => answeredWith_of_completes hc.1 (tsoFireNow_sealed hu dt hc h),
      fun h hlt at_ op f hat hop h3 hf => ?_⟩
    subst hop hf
    obtain ⟨t, ht, hans, hhost⟩ := tsoFireNow_answered hu dt hc h
    rw [show u.time.localC + tsoLead = at_ from hat.symm] at hhost
    have hself := State.drive_tso_self hlt 16384 (fieldN c.params 1 1) (fieldN c.params 4 4) at_
    have htso := HostOnly.tso hhost
    have hsched := HostOnly.sched hhost
    refine ⟨t, _, ht, hans, rfl, ?_, (htso _).trans hself, fun hdue => ?_, fun p hp => ?_, ?_⟩
    · rw [hsched, State.drive_tsoLog]
    · rw [htso, hself]
      exact (Tso.decided_levelAt hdue _ ⟨_, _, at_, _⟩).trans (TsoEdge.on_operation h3 _ _ _ _)
    · exact (htso p).trans (u.drive_tso_ne _ _ _ _ hp)
    · rw [hsched]
      exact hhost.trans (congrArg (fun w : Machine.State => { w with host := t.host }) (u.drive_eq _ _ _ _ _))
end

section
/-! PROOF. Encoder edges and stalls of a phase source (03 R59, R65 to R67). -/

namespace Sys2Proof.Machine

open Sys2Proof

/-! ### Accepted edges of an encoder's lines (03 R59) -/

theorem tooSoon_iff (last : Option Nat) (now : Nat) :
    tooSoon last now = true ↔ ∃ l, last = some l ∧ now < l + 20 * 4294967296 := by
  cases last with
  | none => simp [tooSoon]
  | some l => exact decide_eq_true_iff.trans (by simp [nsU])

theorem tooSoon_eq_false_iff (last : Option Nat) (now : Nat) :
    tooSoon last now = false ↔ ∀ l, last = some l → l + 20 * 4294967296 ≤ now := by
  rw [← Bool.not_eq_true, tooSoon_iff]
  simp

section
variable (e : EncIn) (a b : Bool) (now : Nat)

theorem EncIn.step_a_accepted (h : e.pinA ≠ a) (hl : tooSoon e.lastA now = false) :
    (e.step a b now).a = a ∧ (e.step a b now).lastA = some now := by
  simp [EncIn.step, h, hl]

theorem EncIn.step_a_ignored (h : e.pinA = a ∨ tooSoon e.lastA now = true) :
    (e.step a b now).a = e.a ∧ (e.step a b now).lastA = e.lastA := by
  rcases h with h | h <;> simp [EncIn.step, h]

theorem EncIn.step_b_accepted (h : e.pinB ≠ b) (hl : tooSoon e.lastB now = false) :
    (e.step a b now).b = b ∧ (e.step a b now).lastB = some now := by
  simp [EncIn.step, h, hl]

theorem EncIn.step_b_ignored (h : e.pinB = b ∨ tooSoon e.lastB now = true) :
    (e.step a b now).b = e.b ∧ (e.step a b now).lastB = e.lastB := by
  rcases h with h | h <;> simp [EncIn.step, h]

end

/-! ### The direction of a transition -/

/-- With both lines or neither changed there is no direction. -/
theorem quadDir_of_eq : ∀ a b a' b' : Bool, (a != a') = (b != b') → quadDir a b a' b' = 0 := by
  decide

/-- The forward transitions: the steps of the order (0,0) (1,0) (1,1) (0,1). -/
def quadOrder : List (Bool × Bool × Bool × Bool) :=
  [(false, false, true, false), (true, false, true, true), (true, true, false, true), (false, true, false, false)]

/-- Any other transition of one line is in reverse. -/
theorem quadDir_of_ne : ∀ a b a' b' : Bool, (a != a') ≠ (b != b') →
    quadDir a b a' b' = if (a, b, a', b') ∈ quadOrder then 1 else -1 := by
  decide

/-- INVERT swaps the directions. -/
theorem quadDir_invert {a b a' b' : Bool} (h : (a != a') ≠ (b != b')) (inv : Bool) :
    (if inv = true then -quadDir a b a' b' else quadDir a b a' b') =
      if (a, b, a', b') ∈ quadOrder ↔ inv = false then 1 else -1 := by
  rw [quadDir_of_ne _ _ _ _ h]
  by_cases hq : (a, b, a', b') ∈ quadOrder <;> cases inv <;> simp [hq]

/-! ### A move of an encoder's count -/

theorem State.modSource_source_self {s : State} {i : Nat} (h : i < s.sched.sources.length) (f : Source → Source) :
    (s.modSource i f).source i = f (s.source i) := lmod_getD_self _ _ _ _ h

theorem State.modSource_source_ne (s : State) {i j : Nat} (f : Source → Source) (h : j ≠ i) :
    (s.modSource i f).source j = s.source j := lmod_getD_ne _ _ _ _ _ h

theorem State.setEnc_encIn_self {s : State} {n : Nat} (h : n < s.sched.enc.length) (v : EncIn) :
    (s.setEnc n v).encIn n = v := lmod_getD_self _ _ _ _ h

theorem State.setEnc_encIn_ne (s : State) {n m : Nat} (v : EncIn) (h : m ≠ n) : (s.setEnc n v).encIn m = s.encIn m :=
  lmod_getD_ne _ _ _ _ _ h

theorem State.setEnc_encSources (s : State) (n : Nat) (v : EncIn) (m : Nat) :
    (s.setEnc n v).encSources m = s.encSources m := rfl

/-- A source that is not one of the table's is disabled and of no kind, so an encoder source is there. -/
theorem State.encSources_mem {s : State} {n i : Nat} (h : i ∈ s.encSources n) :
    i < s.sched.sources.length ∧ (s.source i).st ≠ .disabled := by
  have hm := (List.mem_filter.mp h).2
  simp only [Bool.and_eq_true, beq_iff_eq, bne_iff_ne] at hm
  obtain ⟨⟨hkind, -⟩, hst⟩ := hm
  refine ⟨Nat.lt_of_not_le fun hi => ?_, hst⟩
  rw [State.source, List.getD_eq_getElem?_getD, List.getElem?_eq_none hi] at hkind
  cases hkind

/-- The state with the count of an encoder source moved by `d`, before its event. -/
def State.countMoved (s : State) (i : Nat) (d : Int) : State :=
  s.modSource i fun p => { p with count := (s.source i).count + d }

section
variable {s : State} {i : Nat} (hi : i < s.sched.sources.length) (hst : (s.source i).st ≠ .disabled)
include hi

theorem State.countMoved_source (d : Int) :
    (s.countMoved i d).source i = { s.source i with count := (s.source i).count + d } :=
  State.modSource_source_self hi _

include hst

/-- With no tree pause a moved count's event reaches its phase unit at once (03 R59, R62). -/
theorem State.moveCount_eq (hp : s.wafer.pause = none) (k : Nat) (d : Int) (z : Bool) : s.moveCount i k d z =
    (s.countMoved i d).modSource i fun p =>
      p.apply (s.encEvent i k ((s.source i).count + d) (s.source i).count z) s.time.tick s.time.localC
        ((s.countMoved i d).phase i) := by
  have huse : ((s.countMoved i d).source i).uses (s.encEvent i k ((s.source i).count + d) (s.source i).count z) = true := by
    simp [State.countMoved_source hi, Source.uses, State.encEvent, hst]
  refine (if_neg ?_).trans (if_pos huse)
  change ¬s.wafer.pause.isSome = true
  simp [hp]

/-- From `s` to `t` the count of source `i` has moved by `d` with an event stamped `k` capture steps on, a Z edge or not:
the source alone has changed, and its rate not by a Z edge (03 R59). -/
structure State.CountMoves (s t : State) (i k : Nat) (d : Int) (z : Bool) : Prop where
  count : (t.source i).count = (s.source i).count + d
  seen : (t.source i).seen = (s.source i).seen + 1
  last : (t.source i).lastEvent = s.counterAt 0 k
  defn : (t.source i).defn = (s.source i).defn
  rate : z = true → (t.source i).rateNum = (s.source i).rateNum ∧ (t.source i).rateDen = (s.source i).rateDen
  others : ∀ j, j ≠ i → t.source j = s.source j
  frame : t = { s with sched := { s.sched with sources := t.sched.sources } }

theorem State.countMoves_moveCount (hp : s.wafer.pause = none) (k : Nat) (d : Int) (z : Bool) :
    s.CountMoves (s.moveCount i k d z) i k d z := by
  have hlen : i < (s.countMoved i d).sched.sources.length := by
    rw [State.countMoved, State.modSource, lmod_length]
    exact hi
  rw [State.moveCount_eq hi hst hp]
  have hself := State.modSource_source_self hlen fun p =>
    p.apply (s.encEvent i k ((s.source i).count + d) (s.source i).count z) s.time.tick s.time.localC
      ((s.countMoved i d).phase i)
  rw [State.countMoved_source hi] at hself
  refine ⟨?_, ?_, ?_, ?_, fun hz => ?_, fun j hj => ?_, rfl⟩
  · rw [hself]; rfl
  · rw [hself]; rfl
  · rw [hself]; rfl
  · rw [hself]; rfl
  · rw [hself]; subst hz; exact ⟨rfl, rfl⟩
  · exact (State.modSource_source_ne _ _ hj).trans (State.modSource_source_ne _ _ hj)

end

/-! ### The correction of a Z edge (03 R59) -/

/-- An input after an accepted edge of its Z line. -/
def EncIn.zEdge (e : EncIn) (z : Bool) (now : Nat) : EncIn := { e with z := z, pinZ := z, lastZ := some now }

/-- The correction takes the count to a value congruent to the offset, by at most half a cycle, half taken forward. -/
theorem zDelta_nearest (n : Int) (off : Nat) {units : Nat} (h : 0 < units) :
    (n + zDelta n off units - off) % (units : Int) = 0 ∧ -(units : Int) < 2 * zDelta n off units ∧
      2 * zDelta n off units ≤ units := by
  have hpos : (0 : Int) < units := by omega
  have hlo := Int.emod_nonneg ((off : Int) - n) (Int.ne_of_gt hpos)
  have hhi := Int.emod_lt_of_pos ((off : Int) - n) hpos
  have hdvd : (units : Int) ∣ n + ((off : Int) - n) % units - off := by
    obtain ⟨q, hq⟩ := Int.dvd_self_sub_emod (x := (off : Int) - n) (m := units)
    exact ⟨-q, by rw [Int.mul_neg]; omega⟩
  unfold zDelta
  dsimp only
  split
  · refine ⟨?_, by omega, by omega⟩
    have h2 : n + (((off : Int) - n) % units - units) - off = n + ((off : Int) - n) % units - off - units := by omega
    rw [h2]
    exact Int.emod_eq_zero_of_dvd (Int.dvd_sub hdvd (Int.dvd_refl _))
  · exact ⟨Int.emod_eq_zero_of_dvd hdvd, by omega, by omega⟩

/-! ### The rows -/

section
variable {s u : State} {x : At} (hu : s.enter x = u)
include hu

section
variable {k n i : Nat} (hm : u.measures n = true) (hn : n < u.sched.enc.length)
include hm

/-- An edge that leaves the count as it is changes the input's levels alone. -/
theorem encoderCount_levels {a b : Bool} {v : EncIn} (hv : v = (u.encIn n).step a b (u.counterAt 0 (k % 64)))
    (h : ((u.encIn n).a != v.a) = ((u.encIn n).b != v.b)) : exec (.encoderCount x k n a b) s = .next (u.setEnc n v) := by
  subst hu hv
  exact congrArg Host.Outcome.next ((if_neg (by simp [hm])).trans (if_pos (quadDir_of_eq _ _ _ _ h)))

/-- A transition of one line moves the count of the input's one source by a step. -/
theorem encoderCount_moves (hi : u.encSources n = [i]) {a b : Bool} {v : EncIn}
    (hv : v = (u.encIn n).step a b (u.counterAt 0 (k % 64))) (h : ((u.encIn n).a != v.a) ≠ ((u.encIn n).b != v.b)) :
    exec (.encoderCount x k n a b) s = .next ((u.setEnc n v).moveCount i (k % 64)
      (if ((u.encIn n).a, (u.encIn n).b, v.a, v.b) ∈ quadOrder ↔ (u.source i).defn.invert = false then 1 else -1)
      false) := by
  subst hu hv
  refine congrArg Host.Outcome.next ((if_neg (by simp [hm])).trans ((if_neg ?_).trans ?_))
  · rw [quadDir_of_ne _ _ _ _ h]; split <;> decide
  · rw [State.setEnc_encSources, hi]
    exact congrArg (State.moveCount _ i (k % 64) · false) (quadDir_invert h _)

theorem encoderZEdge_ignored {z : Bool}
    (h : (u.encIn n).pinZ = z ∨ tooSoon (u.encIn n).lastZ (u.counterAt 0 (k % 64)) = true) :
    exec (.encoderZEdge x k n z) s = .next (u.setEnc n { u.encIn n with pinZ := z }) := by
  subst hu
  exact congrArg Host.Outcome.next ((if_neg (by simp [hm])).trans (if_pos (by simpa using h)))

section
variable {z : Bool} (hz : (u.encIn n).pinZ ≠ z) (hl : tooSoon (u.encIn n).lastZ (u.counterAt 0 (k % 64)) = false)
  (hi : u.encSources n = [i])
include hz hl hi

/-- An accepted Z edge of a source that does not use it changes the input's level alone. -/
theorem encoderZEdge_unused (h : (u.source i).defn.zUse = false) : exec (.encoderZEdge x k n z) s =
    .next (u.setEnc n ((u.encIn n).zEdge z (u.counterAt 0 (k % 64)))) := by
  subst hu
  refine congrArg Host.Outcome.next ((if_neg (by simp [hm])).trans ((if_neg (by simp [hz, hl])).trans ?_))
  dsimp only
  rw [State.setEnc_encSources, hi]
  exact if_neg (Bool.eq_false_iff.mp h)

/-- An accepted Z edge of a source that uses it corrects the count. -/
theorem encoderZEdge_corrects (h : (u.source i).defn.zUse = true) : exec (.encoderZEdge x k n z) s =
    .next ((u.setEnc n ((u.encIn n).zEdge z (u.counterAt 0 (k % 64)))).moveCount i (k % 64)
      (zDelta (u.source i).count (u.source i).defn.zOffset (u.source i).defn.units) true) := by
  subst hu
  refine congrArg Host.Outcome.next ((if_neg (by simp [hm])).trans ((if_neg (by simp [hz, hl])).trans ?_))
  dsimp only
  rw [State.setEnc_encSources, hi]
  exact if_pos h

end

end

/-! ### Stalls (03 R65 to R67) -/

section
variable {i : Nat}

/-- An event stamped within STALL_TIME, or one that waits and will be used, keeps a source from stalling. -/
theorem sourceStall_early (h : u.time.localC < (u.source i).lastEvent + (u.source i).defn.stall ∨
      ∃ e ∈ (u.source i).willUse (u.sched.waiting.filter fun e => e.src == i),
        u.time.localC < e.stamp + (u.source i).defn.stall) : exec (.sourceStall x i) s = .next u := by
  subst hu
  refine congrArg Host.Outcome.next (if_neg ?_)
  simp only [Bool.and_eq_true, List.all_eq_true, decide_eq_true_eq]
  rintro ⟨⟨-, hlate⟩, hall⟩
  rcases h with h | ⟨e, he, h⟩
  · omega
  · have := hall e he
    omega

/-- With no event waiting, STALL_TIME after its last one a source stalls under its policy. -/
theorem sourceStall_stalls (hr : u.time.running = true) (hst : (u.source i).st = .running)
    (hk : (u.source i).defn.kind ≠ 4)
    (hw : ∀ e ∈ u.sched.waiting, e.src ≠ i) (h : (u.source i).lastEvent + (u.source i).defn.stall ≤ u.time.localC) :
    exec (.sourceStall x i) s = .next (u.modSource i fun p => p.stalled u.time.tick (u.phase i)) := by
  subst hu
  have hnone : ((s.enter x).sched.waiting.filter fun e => e.src == i) = [] :=
    List.filter_eq_nil_iff.mpr fun e he => by simpa using hw e he
  refine congrArg Host.Outcome.next (if_pos ?_)
  rw [hnone]
  simp [hr, hst, hk, h, Source.willUse]

end

end

end Sys2Proof.Machine

open Sys2Proof Sys2Proof.Machine

/-- Settles O21: the edges of an input by what `EncIn.step` accepts, the Z edges by the correction they make, then the stalls
by their policy. -/
theorem sourcesCountAndStall : Obligations.SourcesCountAndStall := by
  unfold Obligations.SourcesCountAndStall
  refine ⟨fun s u x k n i a b z e hu he hr hn8 hn hsup hp hi => ?_, fun s u x i hu hr hst hk hlen => ⟨fun h => ?_,
    fun hw h => ⟨fun hs => ?_, fun hs => ?_⟩⟩⟩ <;> replace hu := hu.symm
  · subst he
    have hm : u.measures n = true := by simp [State.measures, encSuper, hr, hn8, hsup]
    obtain ⟨hlen, hst⟩ := State.encSources_mem (s := u) (n := n) (i := i) (by simp [hi])
    refine ⟨fun v hv => ⟨?_, fun h hl => ?_, fun h => ?_, fun h hl => ?_, fun h => ?_, encoderCount_levels hu hm hv,
      fun h => ?_⟩, fun h => ?_, fun hz hl => ?_⟩
    · subst hv; exact ⟨rfl, rfl, rfl, rfl, rfl⟩
    · subst hv; exact EncIn.step_a_accepted _ _ _ _ h ((tooSoon_eq_false_iff _ _).mpr hl)
    · subst hv; exact EncIn.step_a_ignored _ _ _ _ (h.imp_right (tooSoon_iff _ _).mpr)
    · subst hv; exact EncIn.step_b_accepted _ _ _ _ h ((tooSoon_eq_false_iff _ _).mpr hl)
    · subst hv; exact EncIn.step_b_ignored _ _ _ _ (h.imp_right (tooSoon_iff _ _).mpr)
    · have hmoves := State.countMoves_moveCount (s := u.setEnc n v) hlen hst hp (k % 64)
        (if ((u.encIn n).a, (u.encIn n).b, v.a, v.b) ∈ quadOrder ↔ (u.source i).defn.invert = false then 1 else -1) false
      obtain ⟨hcount, hseen, hlast, hdefn, -, hne, heq⟩ := hmoves
      have henc : State.encIn _ = (u.setEnc n v).encIn := (congrArg State.encIn heq :)
      refine ⟨_, encoderCount_moves hu hm hi hv h, hcount, hseen, hlast, hdefn, ?_, hne, fun m hm => ?_, ?_⟩
      · rw [henc]; exact State.setEnc_encIn_self hn v
      · rw [henc]; exact u.setEnc_encIn_ne v hm
      · rw [(congrArg (·.sched.enc) heq :)]; exact heq
    · exact encoderZEdge_ignored hu hm (h.imp_right (tooSoon_iff _ _).mpr)
    · have hl' := (tooSoon_eq_false_iff _ _).mpr hl
      refine ⟨fun huse hunits => ?_, encoderZEdge_unused hu hm hz hl' hi⟩
      have hrow := encoderZEdge_corrects hu hm hz hl' hi huse
      have hmoves := State.countMoves_moveCount (s := u.setEnc n ((u.encIn n).zEdge z (u.counterAt 0 (k % 64)))) hlen hst hp
        (k % 64) (zDelta (u.source i).count (u.source i).defn.zOffset (u.source i).defn.units) true
      generalize State.moveCount _ _ _ _ _ = t at hrow hmoves
      obtain ⟨hcount, hseen, -, -, hrate, hne, heq⟩ := hmoves
      obtain ⟨hnum, hden⟩ := hrate rfl
      obtain ⟨hcong, hlo, hhi⟩ := zDelta_nearest (u.source i).count (u.source i).defn.zOffset hunits
      have hmove : (t.source i).count - (u.source i).count = zDelta _ _ _ :=
        Int.sub_eq_iff_eq_add'.mpr hcount
      refine ⟨t, hrow, ?_, ?_, ?_, hseen, hnum, hden, hne, ?_⟩
      · rw [hcount]; exact hcong
      · rw [hmove]; exact hlo
      · rw [hmove]; exact hhi
      · rw [(congrArg (·.sched.enc) heq :)]; exact heq
  · exact sourceStall_early hu h
  · refine ⟨_, sourceStall_stalls hu hr hst hk hw h, ?_⟩
    rw [State.modSource_source_self hlen]
    simp only [Source.stalled, hs]
    exact ⟨rfl, rfl, rfl, fun j hj => u.modSource_source_ne _ hj, rfl⟩
  · refine ⟨_, sourceStall_stalls hu hr hst hk hw h, ?_⟩
    rw [State.modSource_source_self hlen]
    simp only [Source.stalled, hs]
    exact ⟨rfl, rfl, rfl, rfl, fun j hj => u.modSource_source_ne _ hj, rfl⟩
end

section
/-! PROOF. Armings take effect and entries fire (03 R57, R69 to R71, R75, R76, 01 R29), and pulses end (03 R78, R79). -/

namespace Sys2Proof.Machine

open Sys2Proof

/-! ### An arming and its late policy (03 R75, R76) -/

/-- An entry as its arming takes effect at a tick, its target absolute. -/
def Entry.armedAt (e : Entry) (target tick : Nat) : Entry :=
  { e with st := .armed, rel := none, target := target, seq := 0, tick := tick, cmd := none }

theorem leadOf_of_ne {action : Nat} (h : action ≠ 6) : leadOf action = if action = 3 then 3 else 0 := by
  simp [leadOf, h]

/-- What settles an arming's target: a relative one counts from the phase or time now, an absolute one stands. -/
theorem State.settled_eq {s : State} {e : Entry} {now target : Nat} {late : Int}
    (hnow : now = s.fineAt e (leadOf e.action) 0)
    (hrel : ∀ r, e.rel = some r → late = -r ∧ target = if e.tkind = 0 then phaseAdd now r else ((now : Int) + r).toNat)
    (habs : e.rel = none → target = e.target ∧ late = s.lateness e (leadOf e.action)) :
    s.settled e = ({ e with rel := none, target := target }, late) := by
  unfold State.settled
  dsimp only
  split
  · rename_i h
    obtain ⟨rfl, rfl⟩ := habs h
    rw [← h]
  · rename_i r h
    obtain ⟨rfl, rfl⟩ := hrel r h
    rw [hnow]

section
variable {s : State} {e : Entry} (id : Nat) (ha : e.action ≠ 6)
include ha

/-- In QUIESCE, or with its source disabled, an arming is not made (01 R29, log entry 56). -/
theorem State.takeArming_refused (h : s.unit.state = .quiesce ∨ (e.tkind = 0 ∧ (s.source e.src).st = .disabled)) :
    s.takeArming id e = (s.setEntry id { e with st := .free, cmd := none }).completeOpt e.cmd stBadState 0 [] :=
  (if_neg ha).trans (if_pos h)

variable (hq : ¬(s.unit.state = .quiesce ∨ (e.tkind = 0 ∧ (s.source e.src).st = .disabled))) {target : Nat} {late : Int}
  (hset : s.settled e = ({ e with rel := none, target := target }, late))
include hq hset

theorem State.takeArming_ahead (hl : late < 0) : s.takeArming id e =
    (s.setEntry id (e.armedAt target s.time.tick)).completeOpt e.cmd stOK 0 (armResult id) := by
  rw [State.takeArming, if_neg ha, if_neg hq, hset]
  exact if_pos hl

variable (hl : 0 ≤ late)
include hl

theorem State.takeArming_fires (hp : e.late = 0) (hk : e.tkind = 0) : s.takeArming id e =
    (s.fire id (e.armedAt target s.time.tick) false true).completeOpt e.cmd
      (if (s.source e.src).st = .stalledSynth then stSynth else stLate) (sat32 late.toNat) (armResult id) := by
  rw [State.takeArming, if_neg ha, if_neg hq, hset]
  refine (if_neg (by omega)).trans ((if_pos hp).trans ?_)
  simp [Entry.armedAt, hk]

theorem State.takeArming_skips (hp : e.late = 1) : s.takeArming id e =
    (s.setEntry id { e.armedAt target s.time.tick with st := .free }).completeOpt e.cmd stSkipped 0 [] := by
  rw [State.takeArming, if_neg ha, if_neg hq, hset]
  refine (if_neg (by omega)).trans ((if_neg ?_).trans (if_pos hp))
  simp [hp]

/-- LATE_NEXT of a phase target: the first whole number of cycles on that is ahead. -/
theorem State.takeArming_next (hp : e.late = 2) (hk : e.tkind = 0) : s.takeArming id e =
    (s.setEntry id (e.armedAt (phaseAdd target ((late.toNat / 65536 + 1) * 65536 : Nat)) s.time.tick)).completeOpt e.cmd stOK
      (late.toNat / 65536 + 1) (armResult id) := by
  rw [State.takeArming, if_neg ha, if_neg hq, hset]
  refine (if_neg (by omega)).trans ((if_neg ?_).trans ((if_neg ?_).trans ?_))
  · simp [hp]
  · simp [hp]
  · simp [Entry.armedAt, hk]

end

/-! ### Crossings (03 R64, R69) -/

/-- The phase an entry is compared with at its tick. -/
theorem State.fineAt_phase (s : State) {e : Entry} (h : e.tkind = 0) : s.fineAt e 0 0 = s.phase e.src := by
  simp [State.fineAt, State.phase, State.phaseAhead, h]

section
variable {s : State} {e : Entry} (hk : e.tkind = 0) (ha : leadOf e.action = 0)
include hk ha

theorem State.crossing_forward (hst : (s.source e.src).st ≠ .starting) (h0 : 0 < dphase e.target (s.phasePrev e.src 0))
    (h1 : dphase e.target (s.phase e.src) ≤ 0) : s.crossing e = .forward := by
  simp [State.crossing, State.finePrev, State.fineAt_phase, hk, ha, hst, h0, h1]

theorem State.crossing_none (hst : (s.source e.src).st ≠ .starting)
    (h : ¬(0 < dphase e.target (s.phasePrev e.src 0) ∧ dphase e.target (s.phase e.src) ≤ 0)) (he : e.either = false) :
    s.crossing e = .none := by
  simp only [State.crossing, State.finePrev, State.fineAt_phase, hk, ha, hst, he]
  simpa using h

omit ha in
theorem State.crossing_starting (hst : (s.source e.src).st = .starting) : s.crossing e = .none := by
  simp [State.crossing, hk, hst]

end

/-- Nothing that comes before an entry in its super's order at this tick is still to come (03 R70). -/
theorem State.turnOf_iff (s : State) (id : Nat) : s.turnOf id = true ↔ s.commitDue = false ∧
    ∀ f ∈ s.sched.entries, f.1 / 256 = id / 256 → s.armingDue f.2 = false ∧ (f.1 < id → s.fires f.2 = false) := by
  simp [State.turnOf]

/-! ### Repeats (03 R57, R71) -/

/-- A phase moved by an amount that leaves it within half the range of another is as far from it as it was, and that much
more. -/
theorem dphase_phaseAdd (a b : Nat) (d : Int) (hlo : -(2 ^ 47) ≤ dphase a b + d) (hhi : dphase a b + d < 2 ^ 47) :
    dphase (phaseAdd a d) b = dphase a b + d := by
  have half : (2 : Nat) ^ (48 - 1) = 140737488355328 := rfl
  have whole : (2 : Nat) ^ 48 = 281474976710656 := rfl
  simp only [dphase, phaseAdd, signedOf, phaseMod, half, whole] at *
  split at hlo <;> split <;> split at hhi <;> omega

section
variable (s : State) (e : Entry)

@[simp] theorem State.afterFiring_seq (rev : Bool) : (s.afterFiring e rev).1.seq = (e.seq + 1) % 4294967296 := by
  unfold State.afterFiring
  dsimp only
  repeat' split
  all_goals rfl

/-- A one-shot entry is disarmed. -/
theorem State.afterFiring_once (h : e.interval = 0) (rev : Bool) : (s.afterFiring e rev).1.st = .fired := by
  simp [State.afterFiring, h]

/-- A repeating entry goes on to the first repetition ahead of the phase, at most an interval off. -/
theorem State.afterFiring_repeats (hk : e.tkind = 0) (ha : leadOf e.action = 0) (hpos : e.interval ≠ 0)
    (hlt : e.interval < 2 ^ 47) (h1 : dphase e.target (s.phase e.src) ≤ 0) :
    (s.afterFiring e false).1.st = e.st ∧ 0 < dphase (s.afterFiring e false).1.target (s.phase e.src) ∧
      dphase (s.afterFiring e false).1.target (s.phase e.src) ≤ e.interval := by
  generalize hp : s.phase e.src = p at *
  obtain ⟨past, hpast⟩ : ∃ past : Nat, -dphase e.target p = past := ⟨_, (Int.toNat_of_nonneg (by omega)).symm⟩
  have hfire : (s.afterFiring e false).1 = { e with
      seq := (e.seq + 1) % 4294967296
      target := phaseAdd e.target ((past / e.interval + 1) * e.interval : Nat) } := by
    simp [State.afterFiring, hk, ha, hpos, State.fineAt_phase, hp, hpast]
  have hdiv := Nat.div_add_mod past e.interval
  have hmod := Nat.mod_lt past (Nat.pos_of_ne_zero hpos)
  have hby : (past / e.interval + 1) * e.interval = past - past % e.interval + e.interval := by
    rw [Nat.add_one_mul, Nat.mul_comm]
    omega
  rw [hfire, hby]
  have hd := dphase_phaseAdd e.target p ((past - past % e.interval + e.interval : Nat) : Int) (by omega) (by omega)
  dsimp only
  rw [hd]
  exact ⟨rfl, by omega, by omega⟩

end

/-! ### Snapshots (03 Table 3-6) -/

/-- The entry's id stands first in a snapshot's record, the source's phase in bytes 8 to 13. -/
theorem State.snapshot_layout (s : State) (id : Nat) (e : Entry) (f : Firing) : ∃ flags rest, s.snapshot id e f =
    toLE 2 id ++ (toLE 1 (e.arg % 16) ++ (toLE 1 flags ++ (toLE 4 e.seq ++ (toLE 6 (s.phase (e.arg % 16)) ++ rest)))) := by
  unfold State.snapshot
  simp only [List.append_assoc]
  exact ⟨_, _, rfl⟩

theorem State.snapshot_id (s : State) (id : Nat) (e : Entry) (f : Firing) :
    fieldN (s.snapshot id e f) 0 2 = id % 65536 := by
  obtain ⟨flags, rest, h⟩ := s.snapshot_layout id e f
  rw [h]
  exact fieldN_toLE [] _ 2 id

theorem State.snapshot_phase (s : State) (id : Nat) (e : Entry) (f : Firing) :
    fieldN (s.snapshot id e f) 8 6 = s.phase (e.arg % 16) % 281474976710656 := by
  obtain ⟨flags, rest, h⟩ := s.snapshot_layout id e f
  have hf := fieldN_toLE (toLE 2 id ++ toLE 1 (e.arg % 16) ++ toLE 1 flags ++ toLE 4 e.seq) rest 6 (s.phase (e.arg % 16))
  simp only [List.length_append, toLE_length, List.append_assoc] at hf
  rw [h]
  exact hf

/-- An image's SNAPSHOT entry that fires records one snapshot, and moves on. -/
theorem State.fire_snapshot (s : State) {e : Entry} (id : Nat) (ha : e.action = 2) (ho : e.owner = .image) (late : Bool) :
    ∃ f, s.fire id e false late = { s.setEntry id (s.afterFiring e false).1 with
      sched := { (s.setEntry id (s.afterFiring e false).1).sched with
        snaps := s.sched.snaps ++ [(id, (s.setEntry id (s.afterFiring e false).1).snapshot id e f)] } } := by
  unfold State.fire State.act
  dsimp only
  rw [ha, ho]
  exact ⟨_, rfl⟩

/-! ### The rows -/

section
variable {s u : State} {x : At} (hu : s.enter x = u)
include hu

section
variable {id : Nat} {e : Entry} (he : u.entry id = some e)
include he

theorem armingTakesEffect_takes (h : e.st = .arming) (ht : e.tick < u.time.tick) :
    exec (.armingTakesEffect x id) s = .next (u.takeArming id e).retireDue := by
  subst hu
  change execArmingTakesEffect x id s = _
  rw [execArmingTakesEffect]
  rw [he]
  exact congrArg Host.Outcome.next (if_pos ⟨h, by simp [State.armingDue, h, ht]⟩)

theorem heldArmingReleased_takes (h : e.st = .held) (hst : (u.source e.src).st ≠ .starting) :
    exec (.heldArmingReleased x id) s = .next (u.takeArming id e).retireDue := by
  subst hu
  change execHeldArmingReleased x id s = _
  rw [execHeldArmingReleased]
  rw [he]
  exact congrArg Host.Outcome.next (if_pos ⟨h, by simp [State.armingDue, h, hst]⟩)

theorem heldArmingReleased_waits (h : e.st = .held) (hst : (u.source e.src).st = .starting) :
    exec (.heldArmingReleased x id) s = .next u := by
  subst hu
  change execHeldArmingReleased x id s = _
  rw [execHeldArmingReleased]
  rw [he]
  exact congrArg Host.Outcome.next (if_neg (by simp [State.armingDue, h, hst]))

/-- An entry does not fire that is not crossed, or whose turn has not come. -/
theorem entryFires_not (h : u.crossing e = .none ∨ u.turnOf id = false) : exec (.entryFires x id) s = .next u := by
  subst hu
  change execEntryFires x id s = _
  rw [execEntryFires]
  rw [he]
  refine congrArg Host.Outcome.next (if_pos ?_)
  rcases h with h | h <;> simp [State.fires, h]

theorem entryFires_forward (hr : u.time.running = true) (hst : e.st = .armed) (ht : e.tick < u.time.tick)
    (hturn : u.turnOf id = true) (h : u.crossing e = .forward) :
    exec (.entryFires x id) s = .next (u.fire id e false (u.stepped e)).retireDue := by
  subst hu
  change execEntryFires x id s = _
  rw [execEntryFires]
  rw [he]
  refine congrArg Host.Outcome.next ((if_neg (by simp [State.fires, hr, hst, ht, hturn, h])).trans ?_)
  rw [h]

end

section
variable {o : Nat} {e : TsoEdge} {r : List TsoEdge} (h : (u.tso o).trails = e :: r)
include h

theorem pulseTrailingEdge_early (ht : u.time.localC + 8 * 4294967296 ≤ e.at_) :
    exec (.pulseTrailingEdge x o) s = .next u := by
  subst hu
  change execPulseTrailingEdge x o s = _
  rw [execPulseTrailingEdge]
  rw [h]
  exact congrArg Host.Outcome.next (if_neg (Nat.not_lt.mpr ht))

theorem pulseTrailingEdge_ends (ht : e.at_ < u.time.localC + 8 * 4294967296) :
    exec (.pulseTrailingEdge x o) s = .next ((u.edge e).modTso o fun v => { v with trails := r }) := by
  subst hu
  change execPulseTrailingEdge x o s = _
  rw [execPulseTrailingEdge]
  rw [h]
  exact congrArg Host.Outcome.next (if_pos ht)

end

end

end Sys2Proof.Machine

open Sys2Proof Sys2Proof.Machine

/-- Settles O22: an arming by its late policy, a firing by what its crossing leaves of the entry, then the end of a pulse. -/
theorem entriesArmAndFire : Obligations.EntriesArmAndFire := by
  unfold Obligations.EntriesArmAndFire
  refine ⟨fun s u x id e hu he ha => ⟨fun h hst => ?_, fun i hi => ?_⟩,
    fun s u x id p0 p1 e hu he hr hst htick hk ha ho => ⟨fun h => ?_, u.turnOf_iff id, fun hsrc hturn hp0 hp1 =>
      ⟨fun h hei => ?_, fun h0 h1 hlt => ?_⟩⟩,
    fun s u x o e r hu hlen h hout => ⟨fun ht => ?_, fun ht => ?_⟩⟩ <;> replace hu := hu.symm
  · exact heldArmingReleased_waits hu he h hst
  · have hrow : exec i s = .next (u.takeArming id e).retireDue := by
      rcases hi with ⟨rfl, h, ht⟩ | ⟨rfl, h, hst⟩
      · exact armingTakesEffect_takes hu he h ht
      · exact heldArmingReleased_takes hu he h hst
    rw [hrow]
    refine ⟨fun h => ?_, fun hq hd now target late a hnow hrel habs hae => ?_⟩
    · rw [State.takeArming_refused id ha h]
      rfl
    rw [← leadOf_of_ne ha] at hnow habs
    have hset := State.settled_eq hnow hrel habs
    have hmade : ¬(u.unit.state = .quiesce ∨ (e.tkind = 0 ∧ (u.source e.src).st = .disabled)) := not_or.mpr ⟨hq, hd⟩
    subst hae
    refine ⟨fun hl => ?_, fun hl hp => ?_, fun hl hp hk => ?_, fun hl hp hk => ?_⟩
    · rw [State.takeArming_ahead id ha hmade hset hl]
      rfl
    · rw [State.takeArming_skips id ha hmade hset hl hp]
      rfl
    · rw [State.takeArming_fires id ha hmade hset hl hp hk]
      rfl
    · refine ⟨late.toNat / 65536 + 1, by omega, by omega, by omega, ?_⟩
      rw [State.takeArming_next id ha hmade hset hl hp hk]
      rfl
  · exact entryFires_not hu he (h.imp_left (State.crossing_starting hk))
  · subst hp0 hp1
    exact entryFires_not hu he (.inl (State.crossing_none hk (by rw [ha]; rfl) hsrc h hei))
  · subst hp0 hp1
    have hlead : leadOf e.action = 0 := by rw [ha]; rfl
    have hrow := entryFires_forward hu he hr hst htick hturn (State.crossing_forward hk hlead hsrc h0 h1)
    obtain ⟨f, hf⟩ := u.fire_snapshot id ha ho (u.stepped e)
    rw [hf] at hrow
    refine ⟨_, _, _, hrow, u.setEntry_entry_self id _, u.afterFiring_seq e false, rfl, State.snapshot_id _ id e f,
      State.snapshot_phase _ id e f, fun j hj => u.setEntry_entry_ne _ hj, rfl, fun h => u.afterFiring_once e h false,
      fun h => ?_⟩
    obtain ⟨hst', hahead, hnear⟩ := u.afterFiring_repeats e hk hlead h hlt h1
    exact ⟨hst'.trans hst, hahead, hnear⟩
  · exact pulseTrailingEdge_early hu h ht
  · subst hout
    have hedge := State.edge_tso_self hlen
    have hself : ((u.edge e).modTso e.output fun v => { v with trails := r }).tso e.output =
        { (u.tso e.output).decided u.time.localC e with trails := r } := by
      rw [State.modTso_tso_self (by rw [State.edge, State.modTso, lmod_length]; exact hlen), hedge]
    refine ⟨_, pulseTrailingEdge_ends hu h ht, hself, fun hop hdue => ?_, rfl, fun p hp => ?_, rfl⟩
    · rw [hself]
      refine (Tso.decided_levelAt hdue u.time.localC e).trans ?_
      simp [TsoEdge.on, hop]
    · exact (State.modTso_tso_ne _ _ hp).trans (u.edge_tso_ne e hp)
end

section
/-! PROOF. A seal's event lost in its own step (06 R147, R151, R164, R165, 21 R529): the events a seal sets off are bounded by
the state's tables alone, and those of enough untested pairs go round the ring. -/

namespace Sys2Proof.Machine

open Sys2Proof

/-! ### What recording leaves alone -/

/-- A state less the fault record, the panel, the host interface and the capacity state. -/
def State.sansRecord (s : State) : State :=
  { s with flash := FlashSt.reset, panel := PanelSt.reset, host := HostSt.reset, capacity := 0 }

theorem State.panelTouch_sansRecord (s : State) (r : List Nat) : (s.panelTouch r).sansRecord = s.sansRecord := by
  rw [State.panelTouch_eq]
  rfl

theorem State.event_sansRecord (s : State) (k c u d : Nat) : (s.event k c u d).sansRecord = s.sansRecord := by
  unfold State.event
  dsimp only
  split
  · exact State.panelTouch_sansRecord _ _
  · rfl

theorem State.event_fw (s : State) (k c u d : Nat) : (s.event k c u d).fw = s.fw :=
  (congrArg State.fw (s.event_sansRecord k c u d) :)

theorem State.unsol_sansRecord (s : State) (c a : Nat) : (s.unsol c a).sansRecord = s.sansRecord := by
  rw [State.unsol_hostOnly s c a]
  rfl

/-- An event of the ring reported to the host and on the panel. -/
theorem State.report_sansRecord (s : State) (k c u d a b : Nat) (r : List Nat) :
    (((s.event k c u d).unsol a b).panelTouch r).sansRecord = s.sansRecord := by
  rw [State.panelTouch_sansRecord, State.unsol_sansRecord, State.event_sansRecord]

theorem State.report_flash (s : State) (k c u d a b : Nat) (r : List Nat) :
    (((s.event k c u d).unsol a b).panelTouch r).flash = (s.event k c u d).flash := by
  rw [State.panelTouch_flash, State.unsol_flash]

theorem State.evalCapacity_sansRecord (s : State) : s.evalCapacity.sansRecord = s.sansRecord := by
  unfold State.evalCapacity
  dsimp only
  split
  · rfl
  · exact State.report_sansRecord _ _ _ _ _ _ _ _

theorem State.addCauses_sansRecord (s : State) (c : Nat) : (s.addCauses c).sansRecord = s.sansRecord := by
  have recorded : ∀ (f : Summary → Summary) (n : Nat),
      (((s.modSummary f).event 0x0F 0 0 n).unsol 3 (256 * n)).sansRecord = s.sansRecord := fun f n => by
    rw [State.unsol_sansRecord, State.event_sansRecord]
    rfl
  unfold State.addCauses
  dsimp only
  split
  · rfl
  · rw [State.panelTouch_sansRecord]
    split <;> exact recorded _ _

theorem State.recordSeal_sansRecord (s : State) (p c : Nat) : (s.recordSeal p c).sansRecord = s.sansRecord :=
  State.event_sansRecord _ _ _ _ _

/-! ### SEAL events in the first slot -/

/-- SEAL events stand in slot 0 alone, and none once the slot whose programming erases slot 0 is passed (06 R165). -/
def State.SealsFirst (s : State) : Prop :=
  ∀ e ∈ s.flash.ring, e.kind = 1 → e.slot = 0 ∧ s.flash.nextSlot ≤ 32768

theorem State.SealsFirst.congr {s t : State} (h : s.SealsFirst) (hr : t.flash.ring = s.flash.ring)
    (hn : t.flash.nextSlot = s.flash.nextSlot) : t.SealsFirst := by
  unfold State.SealsFirst
  rwa [hr, hn]

theorem State.SealsFirst.of_flash {s t : State} (h : s.SealsFirst) (hf : t.flash = s.flash) : t.SealsFirst :=
  h.congr (congrArg FlashSt.ring hf) (congrArg FlashSt.nextSlot hf)

/-- An event of another kind pushes the SEAL events on: at slot 32,768 their sector is erased. -/
theorem State.SealsFirst.event {s : State} (h : s.SealsFirst) {k : Nat} (hk : k ≠ 1) (c u d : Nat) :
    (s.event k c u d).SealsFirst := by
  intro e he h1
  rw [State.event_ring, List.mem_append, List.mem_singleton] at he
  rcases he with he | rfl
  · rw [State.event_nextSlot]
    unfold eraseSector at he
    split at he
    · obtain ⟨hmem, hslot⟩ := List.mem_filter.mp he
      obtain ⟨h0, hn⟩ := h e hmem h1
      have hslot := of_decide_eq_true hslot
      omega
    · obtain ⟨h0, hn⟩ := h e he h1
      omega
  · exact absurd h1 hk

theorem State.SealsFirst.evalCapacity {s : State} (h : s.SealsFirst) : s.evalCapacity.SealsFirst := by
  unfold State.evalCapacity
  dsimp only
  split
  · exact h
  · have hc : { s with capacity := s.capacityNow }.SealsFirst := h
    exact (hc.event (by decide) 0 0 _).of_flash (State.report_flash _ _ _ _ _ _ _ _)

theorem State.SealsFirst.modSummary {s : State} (h : s.SealsFirst) (f : Summary → Summary) : (s.modSummary f).SealsFirst := by
  have hc := FlashSt.putSummary_copies s.flash (f s.summary)
  exact h.congr (congrArg FlashSt.ring hc :) (congrArg FlashSt.nextSlot hc :)

theorem State.SealsFirst.addCauses {s : State} (h : s.SealsFirst) (c : Nat) : (s.addCauses c).SealsFirst := by
  have recorded : ∀ (f : Summary → Summary) (n : Nat),
      (((s.modSummary f).event 0x0F 0 0 n).unsol 3 (256 * n)).SealsFirst := fun f n =>
    ((h.modSummary f).event (by decide) 0 0 n).of_flash (State.unsol_flash _ _ _)
  unfold State.addCauses
  dsimp only
  split
  · exact h
  · split
    · exact (recorded _ _).of_flash (State.panelTouch_flash _ _)
    · exact (recorded _ _).of_flash (State.panelTouch_flash _ _)

/-- The first event of an erased ring stands in slot 0. -/
theorem State.SealsFirst.of_empty {s : State} (hr : s.flash.ring = []) (hn : s.flash.nextSlot = 0) (k c u d : Nat) :
    (s.event k c u d).SealsFirst := by
  intro e he _
  rw [State.event_ring, hr, hn] at he
  have he : e = s.newEvent k c u d := by simpa [eraseSector] using he
  rw [he, State.event_nextSlot, hn]
  exact ⟨hn, by decide⟩

/-- Once the ring has gone round, no SEAL event is left in it. -/
theorem State.SealsFirst.lost {s : State} (h : s.SealsFirst) (hn : 32768 < s.flash.nextSlot) {e : FaultEvent}
    (he : e ∈ s.flash.ring) : e.kind ≠ 1 := fun hk => by
  have := (h e he hk).2
  omega

/-! ### The events of the untested pairs -/

theorem State.pairStarts_seen {s : State} {p : Nat × Nat} (h : p ∈ s.fw.pairsSeen) :
    (s.pairStarts p).flash = s.flash := by
  simp [State.pairStarts, h]

/-- A pair not yet seen in this boot makes an event. -/
theorem State.pairStarts_new {s : State} {p : Nat × Nat} (h : p ∉ s.fw.pairsSeen) : s.pairStarts p =
    ({ s.unsol 4 (256 * (p.2 % 256)) with fw := { s.fw with pairsSeen := s.fw.pairsSeen ++ [p] } }.event 0x10 0 p.1 p.2) := by
  simp [State.pairStarts, h]

theorem State.SealsFirst.pairStarts {s : State} (h : s.SealsFirst) (p : Nat × Nat) : (s.pairStarts p).SealsFirst := by
  by_cases hp : p ∈ s.fw.pairsSeen
  · exact h.of_flash (State.pairStarts_seen hp)
  · rw [State.pairStarts_new hp]
    refine State.SealsFirst.event (h.of_flash ?_) (by decide) _ _ _
    exact s.unsol_flash _ _

/-- Each of several pairs not yet seen takes a slot. -/
theorem State.foldl_pairStarts_nextSlot (l : List (Nat × Nat)) (s : State) (hl : l.Nodup)
    (hs : ∀ p ∈ l, p ∉ s.fw.pairsSeen) :
    (l.foldl State.pairStarts s).flash.nextSlot = s.flash.nextSlot + l.length := by
  induction l generalizing s with
  | nil => rfl
  | cons p r ih =>
    obtain ⟨hpr, hr⟩ := List.nodup_cons.mp hl
    have hnew := State.pairStarts_new (hs p (List.mem_cons_self ..))
    have hslot : (s.pairStarts p).flash.nextSlot = s.flash.nextSlot + 1 := by
      rw [hnew, State.event_nextSlot]
      exact congrArg (·.nextSlot + 1) (s.unsol_flash _ _)
    have hseen : (s.pairStarts p).fw.pairsSeen = s.fw.pairsSeen ++ [p] := by
      rw [hnew, State.event_fw]
    rw [List.foldl_cons, ih _ hr, hslot, List.length_cons]
    · omega
    · intro q hq
      rw [hseen, List.mem_append, List.mem_singleton]
      rintro (h | rfl)
      · exact hs q (List.mem_cons_of_mem p hq) h
      · exact hpr hq

/-- With no pair running or seen before, each untested pair takes a slot. -/
theorem State.updatePairs_nextSlot {s : State} (hr : s.fw.pairsRunning = []) (hs : s.fw.pairsSeen = []) {l : List (Nat × Nat)}
    (hl : s.untestedNow = l) (hd : l.Nodup) : s.updatePairs.flash.nextSlot = s.flash.nextSlot + l.length := by
  unfold State.updatePairs
  dsimp only
  rw [hr, hl]
  split
  · rename_i h
    rw [h]
    rfl
  · have hnone : l.filter (fun p => !([] : List (Nat × Nat)).contains p) = l := by simp
    have hall := State.foldl_pairStarts_nextSlot l { s with fw := { s.fw with pairsRunning := l } } hd (by simp [hs])
    rw [hnone]
    split
    · rw [State.panelTouch_flash, hall]
    · exact hall

theorem State.SealsFirst.updatePairs {s : State} (h : s.SealsFirst) : s.updatePairs.SealsFirst := by
  have all : ∀ (l : List (Nat × Nat)) (t : State), t.SealsFirst → (l.foldl State.pairStarts t).SealsFirst := fun l t ht =>
    List.foldlRecOn (motive := State.SealsFirst) l _ ht fun t ht p _ => ht.pairStarts p
  unfold State.updatePairs
  dsimp only
  split
  · exact h
  · split
    · exact (all _ { s with fw := { s.fw with pairsRunning := s.untestedNow } } h).of_flash (State.panelTouch_flash _ _)
    · exact all _ _ h

theorem State.evalCapacity_nextSlot_le (s : State) : s.flash.nextSlot ≤ s.evalCapacity.flash.nextSlot := by
  unfold State.evalCapacity
  dsimp only
  split
  · exact Nat.le_refl _
  · rw [State.report_flash, State.event_nextSlot]
    exact Nat.le_succ _

/-! ### An image that no placement fits (06 R151) -/

/-- What the untested pairs are made of, but for the image, with the fault record. -/
def State.pairParts (s : State) : FlashSt × FwSt × LinkSt × StoreSt := (s.flash, s.fw, s.link, s.store)

theorem State.complete_pairParts (s : State) (q t st d : Nat) (r : Bytes) :
    (s.complete q t st d r).pairParts = s.pairParts := by
  simp [State.pairParts]

theorem State.unload_keeps (s : State) (st : Nat) : (s.unload st).flash = s.flash ∧ (s.unload st).fw = s.fw ∧
    (s.unload st).link = s.link ∧ (s.unload st).store.rows = s.store.rows := by
  have hc : (s.endImageCmds st).pairParts = s.pairParts :=
    foldl_keeps State.pairParts _ (fun t _ => t.complete_pairParts _ _ _ _ _) _ _
  have hm : (s.endImageCmds st).disarmImage.moveOver.pairParts = s.pairParts := by
    rw [State.moveOver_eq]
    exact hc
  have hu : ∀ v : State, v.pairParts = s.pairParts →
      v.flash = s.flash ∧ v.fw = s.fw ∧ v.link = s.link ∧ v.store.rows = s.store.rows := fun v h =>
    ⟨congrArg (·.1) h, congrArg (·.2.1) h, congrArg (·.2.2.1) h, congrArg (·.2.2.2.rows) h⟩
  unfold State.unload
  dsimp only
  split
  · exact hu _ ((State.complete_pairParts _ _ _ _ _ _).trans hm)
  · exact hu _ hm

theorem State.complete_sansRecord (s : State) (q t st d : Nat) (r : Bytes) :
    (s.complete q t st d r).sansRecord = s.sansRecord := by
  simp [State.sansRecord]

/-- Entering READY ends by the untested pairs and the capacity state. -/
theorem State.toReady_pairs {s : State} (h : s.unit.powerOffPending = false) : ∃ r : State,
    s.toReady = r.updatePairs.evalCapacity ∧ r.flash = s.flash ∧
      r.sansRecord = { s with unit := { s.unit with state := .ready, step := 13 } }.sansRecord := by
  have hset : ({ s with unit := { s.unit with step := 13 } }.setUnit .ready).sansRecord =
      { s with unit := { s.unit with state := .ready, step := 13 } }.sansRecord := by
    rw [State.setUnit_eq]
    rfl
  have hend : ∀ t : State, t.endQuiesce.sansRecord = t.sansRecord :=
    fun t => foldl_keeps State.sansRecord _ (fun v _ => v.complete_sansRecord _ _ _ _ _) _ t
  have hflash : ∀ t : State, t.endQuiesce.flash = t.flash :=
    fun t => foldl_keeps State.flash _ (fun v _ => v.complete_flash _ _ _ _ _) _ t
  refine ⟨({ s with unit := { s.unit with step := 13 } }.setUnit .ready).endQuiesce, ?_,
    (hflash _).trans (State.setUnit_flash _ _), (hend _).trans hset⟩
  unfold State.toReady
  dsimp only
  rw [if_neg]
  rw [State.endQuiesce_unit, State.setUnit_unit]
  simp [h]

/-- A state in which no placement fits (06 R151). -/
def State.unfit (s : State) : State := { s with unit := { s.unit with noFit := true } }

/-- The image unloaded, the pairs without it are looked at; no SEAL event was made. -/
theorem State.noPlacement_pairs {s : State} (h : s.unit.powerOffPending = false) : ∃ r : State,
    s.noPlacement = r.updatePairs.evalCapacity ∧ r.fw = s.fw ∧ r.link = s.link ∧ r.store.rows = s.store.rows ∧
      r.ep.image = none ∧ (s.SealsFirst → r.SealsFirst) := by
  obtain ⟨hflash, hfw, hlink, hrows⟩ := s.unload_keeps stSealed
  obtain ⟨hunit, himage, -⟩ := s.unload_parts stSealed
  unfold State.noPlacement
  dsimp only
  generalize s.unload stSealed = v at *
  change ∃ r, State.toReady (((v.unfit.event 0x12 0 0 (s.ep.placement + 16)).unsol 7 1024).panelTouch [2]) = _ ∧ _
  have hmask := v.unfit.report_sansRecord 0x12 0 0 (s.ep.placement + 16) 7 1024 [2]
  have hring := v.unfit.report_flash 0x12 0 0 (s.ep.placement + 16) 7 1024 [2]
  have hfirst : s.SealsFirst → (v.unfit.event 0x12 0 0 (s.ep.placement + 16)).SealsFirst := fun hs =>
    State.SealsFirst.event (hs.of_flash (t := v.unfit) hflash) (by decide) 0 0 _
  generalize ((v.unfit.event 0x12 0 0 (s.ep.placement + 16)).unsol 7 1024).panelTouch [2] = z at *
  have hoff : z.unit.powerOffPending = false :=
    (congrArg (·.unit.powerOffPending) hmask :).trans ((congrArg UnitSt.powerOffPending hunit :).trans h)
  obtain ⟨r, hr, hrflash, hrmask⟩ := State.toReady_pairs hoff
  exact ⟨r, hr, (congrArg State.fw hrmask :).trans ((congrArg State.fw hmask :).trans hfw),
    (congrArg State.link hrmask :).trans ((congrArg State.link hmask :).trans hlink),
    (congrArg (·.store.rows) hrmask :).trans ((congrArg (·.store.rows) hmask :).trans hrows),
    (congrArg (·.ep.image) hrmask :).trans ((congrArg (·.ep.image) hmask :).trans himage),
    fun hs => (hfirst hs).of_flash (hrflash.trans hring)⟩

/-! ### A super with nothing on it -/

/-- No work is in progress, in memory or on its way. -/
structure State.Idle (s : State) : Prop where
  stg : s.stg = StageSt.reset
  place : s.place = PlaceSt.reset
  route : s.route = RouteSt.reset
  sched : s.sched = SchedSt.reset
  comp : s.comp = CompSt.reset
  store : s.store = StoreSt.reset
  cells : s.cells = CellSt.reset
  mem : s.mem = []

theorem State.Idle.congr {s t : State} (h : s.Idle) (hm : t.sansRecord = s.sansRecord) : t.Idle where
  stg := (congrArg State.stg hm :).trans h.stg
  place := (congrArg State.place hm :).trans h.place
  route := (congrArg State.route hm :).trans h.route
  sched := (congrArg State.sched hm :).trans h.sched
  comp := (congrArg State.comp hm :).trans h.comp
  store := (congrArg State.store hm :).trans h.store
  cells := (congrArg State.cells hm :).trans h.cells
  mem := (congrArg State.mem hm :).trans h.mem

/-- S(4,2) carries no port, timed output or head. -/
theorem State.dropIo_eq_self (s : State) : s.dropIo 20 = s := by
  have hd : ∀ i, s.driver i ≠ 20 := fun i => by
    unfold State.driver headSuper b2n
    split <;> split <;> decide
  have hp : ((List.range 16).filter fun i => spSuper i == 20 && (s.sport i).up) = [] := by
    refine List.filter_eq_nil_iff.mpr fun i _ => ?_
    simp only [spSuper, Bool.and_eq_true, beq_iff_eq]
    omega
  have ho : ((List.range 32).filter fun o => tsoSuper o == 20) = [] := by decide
  simp [State.dropIo, State.dropHead, hd, hp, ho]

section
variable {s : State} (h : s.Idle)
include h

theorem State.Idle.dropRuns (p : Nat) : s.dropRuns p = s := by
  simp [State.dropRuns, State.dropOwnRuns, h.stg, StageSt.reset]

theorem State.Idle.dropTracks (p : Nat) : s.dropTracks p = s := by
  have : s.stg.tracks = [] := by rw [h.stg]; rfl
  unfold State.dropTracks
  rw [this, List.map_nil, ← this]

theorem State.Idle.dropEdges (p : Nat) : s.dropEdges p = s := by
  simp [State.dropEdges, h.route, RouteSt.reset]

theorem State.Idle.dropSweep (p : Nat) : s.dropSweep p = s := by
  have : s = { s with place := PlaceSt.reset } := by rw [← h.place]
  rw [this]
  simp [State.dropSweep, PlaceSt.reset]

theorem State.Idle.restartJobs (f : Nat → Bool) : s.restartJobs f = s := by
  have : s.route.jobs = [] := by rw [h.route]; rfl
  unfold State.restartJobs
  rw [this, List.map_nil, ← this]

theorem State.Idle.dropEntries (p : Nat) : s.dropEntries p = s := by
  simp [State.dropEntries, h.sched, SchedSt.reset]

theorem State.Idle.dropTransfers (p : Nat) : s.dropTransfers p = s := by
  have : s = { s with store := StoreSt.reset } := by rw [← h.store]
  rw [this]
  simp [State.dropTransfers, StoreSt.reset]

theorem State.Idle.wipeSuper (p : Nat) : s.wipeSuper p = s := by
  have : s = { s with mem := [], cells := CellSt.reset } := by rw [← h.mem, ← h.cells]
  rw [this]
  simp [State.wipeSuper, CellSt.reset]

theorem State.Idle.bundleDown (p : Nat) : s.bundleDown p = s := by
  have : ∀ r, (s.row r).up = [] := fun r => by
    rw [State.row, h.store]
    exact congrArg StoreRow.up (getD_replicate_self 8 r StoreRow.blank)
  simp [State.bundleDown, this]

theorem State.Idle.dropSuper : s.dropSuper 20 = s := by
  simp only [State.dropSuper, h.dropRuns, h.dropTracks, h.dropEdges, h.dropSweep, h.restartJobs, h.dropEntries,
    State.dropIo_eq_self, h.dropTransfers, h.wipeSuper, h.bundleDown]

end

/-! ### A seal whose event is lost -/

/-- An image whose one placement needs S(4,2). -/
def pinnedImage : HiveImg where
  id := []
  len := 0
  crc := 0
  formatLevel := 1
  bMig := 0
  placements := [[{ pinned := true, phys := 20, cells := 0, keepers := 0, rowMask := 0, storeBound := false }]]
  hostEntries := 0
  sources := []
  entries := []
  reqs := []
  gebetex := 1
  pairs := []
  modes := []
  site := {
    time := TimeSettings.default
    stores := [], inputs := [], modules := [], linkBufs := [], stages := [], xforms := [], pattern := [], classes := []
    agents := [], trackSups := [], shards := []
    map := { maxCandDist := 0, keepDesc := false, lHit := 0, lMiss := 0, occHi := 0, occLo := 0, coordinator := [] }
    route := { qp := 0, radius := [], cores := [], hostWait := none, extent := (0, 0, 0) }
    tsn := [], agentBufs := [], dropsComp := [], fills := [], tiles := [] }
  plan := []
  codebook := none
  roadmaps := []
  slots := []
  layouts := none
  residency := []
  bytes := []
  blobs := []

/-- Some hubs attached (10 Table 10-6), at 256 and on. -/
def attachedHubs (n : Nat) : List (Nat × Attach) :=
  (List.range n).map fun i => (256 + i, { Attach.blank with st := .attached })

/-- The Keeper firmware, tested with nothing. -/
def untestedKeeper : FwImage where
  level := 1
  maker := 0
  model := 0
  prov := []
  reqs := []
  pairs := []

/-- The unit in RUN with that image, S(4,2) powered, and `n` hubs attached. -/
def crowded (n : Nat) : State :=
  { State.reset with
    unit := { UnitSt.reset with state := .run, step := 16, regionsOn := [20] }
    ep := { EpochSt.reset with image := some pinnedImage, binding := [20] }
    fw := { FwSt.reset with booted := some 0, bootImg := some untestedKeeper }
    link := { LinkSt.reset with attach := attachedHubs n } }

/-- The untested pair of that firmware and the i-th hub (21 Table 21-9). -/
def hubPair (i : Nat) : Nat × Nat :=
  pairCode { kind := 0, index := 0, level := 1, maker := 0, model := 0 }
    { kind := 4, index := i, level := 0, maker := 0, model := 0 }

theorem hubPair_injective : Function.Injective hubPair := fun i j h => by
  have := congrArg Prod.snd h
  simp only [hubPair, pairCode] at this
  omega

theorem hubPairs_nodup (n : Nat) : ((List.range n).map hubPair).Nodup :=
  List.pairwise_map.mpr (List.nodup_range.imp fun hne heq => hne (hubPair_injective heq))

theorem crowded_enter (n : Nat) : (crowded n).enter ⟨0, true, true⟩ = crowded n := rfl

theorem attachedHubs_images {s : State} {n : Nat} (h : s.link.attach = attachedHubs n) :
    s.moduleImgs = (List.range n).map fun i => { kind := 4, index := i, level := 0, maker := 0, model := 0 } := by
  have hall : (attachedHubs n).filter (fun a => a.2.st == .attached || a.2.st == .mismatch) = attachedHubs n := by
    refine List.filter_eq_self.mpr fun a ha => ?_
    obtain ⟨i, -, rfl⟩ := List.mem_map.mp ha
    rfl
  have hempty : recLevel [] = 0 ∧ recMaker [] = 0 ∧ recModel [] = 0 := by decide
  obtain ⟨hlevel, hmaker, hmodel⟩ := hempty
  have hhub : ∀ i, ¬256 + i < 256 := fun i => by omega
  have hindex : ∀ i, 256 + i - 256 = i := fun i => by omega
  unfold State.moduleImgs
  rw [h, hall, attachedHubs, List.map_map]
  refine List.map_congr_left fun i _ => ?_
  simp only [Function.comp_apply, hhub, hindex, if_false, Attach.blank, hlevel, hmaker, hmodel]

/-- Where no list names anything, every pair is untested (21 R529). -/
theorem filter_untested_nil (k : PairImg) (l : List PairImg) :
    ((l.map fun i => (i, ([] : List PairEntry))).filter fun p => untested (k, []) p) = l.map fun i => (i, []) := by
  refine List.filter_eq_self.mpr fun p hp => ?_
  obtain ⟨i, -, rfl⟩ := List.mem_map.mp hp
  rfl

/-- With the image gone the firmware makes a pair with each hub. -/
theorem crowded_untested {s : State} {n : Nat} (hf : s.fw = (crowded n).fw) (hl : s.link = (crowded n).link)
    (hr : s.store.rows = StoreSt.reset.rows) (hi : s.ep.image = none) : s.untestedNow = (List.range n).map hubPair := by
  have hm := attachedHubs_images (congrArg LinkSt.attach hl)
  have hs : s.storeImgs = [] := by
    have hrow : ∀ r, (s.row r).st = .notConfigured := fun r => by
      rw [State.row, hr]
      exact congrArg StoreRow.st (getD_replicate_self 8 r StoreRow.blank)
    simp [State.storeImgs, hrow]
  have hk : s.keeperImg = some ({ kind := 0, index := 0, level := 1, maker := 0, model := 0 }, []) := by
    rw [State.keeperImg, hf]
    rfl
  have hn : s.microImg = none := by
    rw [State.microImg, hf]
    rfl
  have hh : s.hiveImg = none := by
    rw [State.hiveImg, hi]
    rfl
  simp only [State.untestedNow, hm, hs, hk, hn, hh, Option.toList_none, List.nil_append, List.append_nil]
  rw [filter_untested_nil, List.map_map, List.map_map]
  rfl

theorem State.fixPaths_eq (s : State) : s.fixPaths = { s with wafer := { s.wafer with paths := s.fixPaths.wafer.paths } } := by
  unfold State.fixPaths
  split <;> rfl

/-- With no super to enclose, none is enclosed. -/
theorem State.enclose_eq_self {s : State} (h : ∀ b, enclosures (s.shutSet b) = []) : s.enclose = s := by
  have hf : s.firmEnclosures = s := by simp [State.firmEnclosures, h]
  simp [State.enclose, hf, h]

/-- S(4,2) sealed, nothing yet recorded. -/
def crowdedMark (n : Nat) : State := (crowded n).mark 20 1 none

/-- The seal recorded, capacity and replacement looked at. -/
def crowdedSeal (n : Nat) : State := (((crowdedMark n).recordSeal 20 1).evalCapacity).evalReplace

theorem crowdedSeal_sansRecord (n : Nat) : (crowdedSeal n).sansRecord = (crowdedMark n).sansRecord :=
  (State.addCauses_sansRecord _ _).trans ((State.evalCapacity_sansRecord _).trans (State.recordSeal_sansRecord _ _ _))

theorem crowdedSeal_sealsFirst (n : Nat) : (crowdedSeal n).SealsFirst := by
  have hr : ((crowdedMark n).recordSeal 20 1).SealsFirst := State.SealsFirst.of_empty rfl rfl _ _ _ _
  exact hr.evalCapacity.addCauses _

theorem crowdedSeal_idle (n : Nat) : (crowdedSeal n).Idle :=
  State.Idle.congr ⟨rfl, rfl, rfl, rfl, rfl, rfl, rfl, rfl⟩ (crowdedSeal_sansRecord n)

theorem crowdedSeal_supers (n : Nat) : (crowdedSeal n).wafer.supers = lmod WaferSt.reset.supers 20 fun u => { u with st := 1 } :=
  (congrArg (·.wafer.supers) (crowdedSeal_sansRecord n) :)

theorem crowdedSeal_shutSet (n : Nat) (b : Bool) : (crowdedSeal n).shutSet b = [20] := by
  unfold State.shutSet State.super
  rw [crowdedSeal_supers]
  revert b
  decide

/-- A super sealed alone is its own block (05 R132). -/
theorem groupOf_single : ∀ f, groupOf [20] f [20] = [20]
  | 0 => rfl
  | f + 1 => groupOf_single f

theorem rectOf_single : rectOf [20] 20 = { x0 := 4, x1 := 4, y0 := 2, y1 := 2 } := by
  simp [rectOf, groupOf_single]

/-- A block of one super away from the edges cuts nothing else off (05 R133). -/
theorem closeSet_single : ∀ f, closeSet f [20] = [20]
  | 0 => rfl
  | f + 1 => by
    have hcut : (List.range 64).filter (fun p => [20].contains p || ((rectOf [20] 20).cuts [20]).contains p) = [20] := by
      rw [rectOf_single]
      decide
    rw [closeSet]
    simp only [List.map_cons, List.map_nil, List.flatten_cons, List.flatten_nil, List.append_nil, hcut]
    exact closeSet_single f

theorem enclosures_single : enclosures [20] = [] := by
  rw [enclosures, closeSet_single]
  decide

theorem crowdedSeal_enclose (n : Nat) : (crowdedSeal n).enclose = crowdedSeal n :=
  State.enclose_eq_self fun b => by rw [crowdedSeal_shutSet, enclosures_single]

theorem State.mark_pause (s : State) (p st : Nat) (v : Option Nat) : (s.mark p st v).wafer.pause = s.wafer.pause := by
  unfold State.mark State.mapChanged
  dsimp only
  split
  · rw [State.regionOff_wafer]
    rfl
  · rfl

/-- Outside a tree pause, a super without a trunk node is sealed with all that follows its notice (06 Table 6-3). -/
theorem State.sealSuper_outsidePause {s : State} {p : Nat} (hp : p < 64) (hst : (s.super p).st = 0)
    (hw : s.wafer.pause = none) (ht : trunk p = false) (c : Nat) : s.sealSuper p c none =
      ((((s.mark p 1 none).recordSeal p c).evalCapacity.evalReplace).dropSuper p).afterNotice := by
  have hr : ((s.mark p 1 none).recordSeal p c).wafer.pause = none := by
    have hm : ((s.mark p 1 none).recordSeal p c).wafer.pause = (s.mark p 1 none).wafer.pause :=
      (congrArg (·.wafer.pause) (State.recordSeal_sansRecord _ p c) :)
    rw [hm, State.mark_pause, hw]
  simp [State.sealSuper, hst, hr, ht, Nat.not_le.mpr hp]

/-- Nothing stands on the super, so the seal goes on to what its notice brings (06 Table 6-3 steps 4 to 6). -/
theorem crowded_sealSuper (n : Nat) : (crowded n).sealSuper 20 1 none = (crowdedSeal n).fixPaths.sealEvent := by
  have hd : (crowded n).sealSuper 20 1 none = ((crowdedSeal n).dropSuper 20).afterNotice :=
    State.sealSuper_outsidePause (by decide) rfl rfl (by decide) 1
  rw [hd, (crowdedSeal_idle n).dropSuper, State.afterNotice, crowdedSeal_enclose]

/-- S(4,2) sealed as the image needs it, and no other placement: the image is to be unloaded (02 R50, 06 R151). -/
theorem State.sealEvent_noPlacement {s : State} (hep : s.ep = (crowded 0).ep) (hu : s.unit.state = .run)
    (h : s.unsealed 20 = false) : s.sealEvent = s.noPlacement := by
  have himg : s.ep.image = some pinnedImage := by rw [hep]; rfl
  have hplace : s.ep.placement = 0 := by rw [hep]; rfl
  have hbind : s.ep.binding = [20] := by rw [hep]; rfl
  have hfit : s.stillFits = false := by
    simp [State.stillFits, himg, hplace, hbind, pinnedImage, State.meetsReq, State.meetsCore, h]
  have hch : s.choosePlacement pinnedImage 1 = none := by
    simp [State.choosePlacement, pinnedImage]
  simp [State.sealEvent, State.sealOutcome, himg, hplace, hu, hfit, hch]

/-- As the seal's notice is carried out, all else is as before the trip. -/
theorem crowdedSeal_parts (n : Nat) {w : State} (hw : (crowdedSeal n).fixPaths = w) :
    w.flash = (crowdedSeal n).flash ∧ w.fw = (crowded n).fw ∧ w.link = (crowded n).link ∧ w.store = StoreSt.reset ∧
      w.ep = (crowded 0).ep ∧ w.unit.state = .run ∧ w.unit.powerOffPending = false ∧ w.unsealed 20 = false := by
  have h := crowdedSeal_sansRecord n
  rw [← hw, State.fixPaths_eq]
  exact ⟨rfl, (congrArg State.fw h :), (congrArg State.link h :), (congrArg State.store h :), (congrArg State.ep h :),
    (congrArg (·.unit.state) h :), (congrArg (·.unit.powerOffPending) h :), (congrArg (·.unsealed 20) h :)⟩

/-- More hubs than the ring has slots: their pairs' events leave no SEAL event in it. -/
theorem crowded_sealSuper_lost {n : Nat} (hn : 32768 < n) {e : FaultEvent}
    (he : e ∈ ((crowded n).sealSuper 20 1 none).flash.ring) : e.kind ≠ 1 := by
  rw [crowded_sealSuper] at he
  generalize hw : (crowdedSeal n).fixPaths = w at he
  obtain ⟨hflash, hfw, hlink, hstore, hep, hrun, hoff, hsealed⟩ := crowdedSeal_parts n hw
  obtain ⟨r, hr, hrfw, hrlink, hrrows, hrimg, hfirst⟩ := State.noPlacement_pairs hoff
  rw [State.sealEvent_noPlacement hep hrun hsealed, hr] at he
  have hpairs : r.untestedNow = (List.range n).map hubPair :=
    crowded_untested (hrfw.trans hfw) (hrlink.trans hlink) (hrrows.trans (congrArg StoreSt.rows hstore)) hrimg
  have hnext := State.updatePairs_nextSlot (congrArg FwSt.pairsRunning (hrfw.trans hfw))
    (congrArg FwSt.pairsSeen (hrfw.trans hfw)) hpairs (hubPairs_nodup n)
  rw [List.length_map, List.length_range] at hnext
  have hle := r.updatePairs.evalCapacity_nextSlot_le
  have hlast := (hfirst ((crowdedSeal_sealsFirst n).of_flash hflash)).updatePairs.evalCapacity
  exact hlast.lost (by omega) he

theorem crowded_trip (n : Nat) : exec (.overcurrentTrip ⟨0, true, true⟩ 20 .core) (crowded n) =
    .next ((crowded n).sealSuper 20 1 none) := by
  change execOvercurrentTrip ⟨0, true, true⟩ 20 .core (crowded n) = _
  have hon : (crowded n).unit.regionsOn.contains 20 = true := rfl
  rw [execOvercurrentTrip, crowded_enter]
  simp only [State.tripAt, hon, if_true, railCause]

end Sys2Proof.Machine

open Sys2Proof Sys2Proof.Machine

/-- Refutes O26: the clause on an overcurrent asks of every state that the SEAL event stands in the ring after the step, and
nothing bounds what the seal sets off in that step, where the ring holds 32,768 slots (06 R164, R165). In `crowded 32769` the trip
of S(4,2) unloads an image that needs it, each attached hub then makes an untested pair with the Keeper firmware, and the pairs'
events go round the ring, so the SEAL event's sector is erased. No run reaches that state: the unit has 16 hub ports (05 Table
5-4). -/
theorem not_tripsSealSupers : ¬ Obligations.TripsSealSupers := by
  unfold Obligations.TripsSealSupers
  intro h
  obtain ⟨-, trip, -⟩ := h (crowded 32769) (crowded 32769) ⟨0, true, true⟩ 20 (crowded_enter _).symm (by decide)
    List.length_replicate
  obtain ⟨t, e, hexec, -, -, -, he, hk, -⟩ := trip (.overcurrentTrip ⟨0, true, true⟩ 20 .core) .core
    (.inl ⟨rfl, .inl (List.mem_singleton_self 20)⟩) rfl
  rw [crowded_trip] at hexec
  obtain rfl := Host.Outcome.next.inj hexec
  exact crowded_sealSuper_lost (by decide) he hk
end

section
/-! PROOF. FAULT_READ and the firmware commands (06 R167, 18 R470, 21 R522, R536). -/

namespace Sys2Proof.Machine

open Sys2Proof

/-- The report is its header of 16 bytes, then entries (21 Table 21-7). -/
theorem State.fwReport_layout (s : State) : ∃ n es, s.fwReport =
    toLE 1 1 ++ toLE 1 s.fw.bootSlot ++ toLE 1 (s.fw.booted.getD 255) ++ toLE 1 (min 255 s.fw.pairsRunning.length) ++
      toLE 2 n ++ toLE 10 0 ++ es :=
  ⟨_, _, List.append_assoc _ _ _⟩

/-- The greatest length of an image for a flash slot (21 Table 21-10). -/
theorem targetMax_of_flash {t : Nat} (h : t < 3) : targetMax t = if t ≤ 1 then 67108864 else 16777216 := by
  simp [targetMax, Nat.ne_of_lt h]

/-- A transfer begun (18 R470). -/
def State.beginTransfer (s : State) (c : Cmd) : State :=
  { s with fw := { s.fw with transfers := s.fw.transfers ++
    [FwTransfer.mk (fieldN c.params 0 1) (fieldN c.params 1 1) c.qp (fieldN c.params 8 4) []] } }

section
variable {s u : State} {x : At} {c : Cmd} (hu : s.enter x = u) (dt : Option Bytes)
include hu

theorem faultRead_row (hc : Accepted u.host c.qp c.tag 0x0B01 c) : exec (.faultRead x c.qp c.tag dt) s =
    .next (u.complete c.qp c.tag stOK (u.ringLost (fieldN c.params 0 4)) (u.summary.bytes ++
      catB (((u.flash.ring.filter fun e => decide (fieldN c.params 0 4 ≤ e.seq)).take (fieldN c.params 4 2)).map
        FaultEvent.bytes))) := by
  subst hu
  exact State.run_next hc rfl

theorem fwRead_row (hc : Accepted u.host c.qp c.tag 0x0B02 c) :
    exec (.fwRead x c.qp c.tag dt) s = .next (u.complete c.qp c.tag stOK 0 u.fwReport) := by
  subst hu
  exact State.run_next hc rfl

theorem fwBootSelect_row (hc : Accepted u.host c.qp c.tag 0x0B04 c) : exec (.fwBootSelect x c.qp c.tag dt) s =
    .next ({ u with fw := { u.fw with bootSlot := fieldN c.params 0 1 } }.complete c.qp c.tag stOK 0 []) := by
  subst hu
  exact State.run_next hc rfl

/-- A begin to a flash slot, none being open or sent to it, opens a transfer. -/
theorem fwStage_begins (hc : Accepted u.host c.qp c.tag 0x0B03 c) (hphase : fieldN c.params 2 1 = 0)
    (htarget : fieldN c.params 0 1 < 3) (hopen : u.fwOpen (fieldN c.params 0 1) (fieldN c.params 1 1) = none)
    (hsends : ∀ f ∈ u.fw.sends, f.target ≠ fieldN c.params 0 1)
    (hlen : fieldN c.params 8 4 ≤ targetMax (fieldN c.params 0 1)) (hrest : fieldN c.params 12 4 = 0) :
    exec (.fwStage x c.qp c.tag dt) s = .next ((u.beginTransfer c).complete c.qp c.tag stOK 0 []) := by
  have hidle : (u.fw.sends.any fun f => f.target == fieldN c.params 0 1 && f.index == fieldN c.params 1 1) = false :=
    List.any_eq_false.mpr fun f hf => by simp [hsends f hf]
  have hreach : u.fwBlocked (fieldN c.params 0 1) (fieldN c.params 1 1) = none := if_neg (by omega)
  subst hu
  refine State.run_next hc ((if_neg (by omega)).trans ?_)
  rw [hreach, hphase, hopen]
  exact (if_neg (by simp [hidle])).trans (if_neg (by omega))

end

end Sys2Proof.Machine

open Sys2Proof Sys2Proof.Machine

/-- Settles O12: each row completes its command, after its effect if it has one. -/
theorem faultRecordAndFirmwareReports : Obligations.FaultRecordAndFirmwareReports := by
  unfold Obligations.FaultRecordAndFirmwareReports
  intro s x qp tag d c
  generalize hu : s.enter x = u
  refine ⟨fun e r hc hring => ?_, fun hc => ?_, fun hc => ?_, fun hc hphase htarget hopen hsends hlen hrest => ?_⟩ <;>
    obtain ⟨rfl, rfl⟩ := find_name hc.1.1
  · have hrow := faultRead_row hu d hc
    rw [State.ringLost, hring] at hrow
    exact answeredWith_of_completes hc.1 hrow
  · obtain ⟨n, es, hreport⟩ := u.fwReport_layout
    obtain ⟨t, ht, hhost, hans⟩ := answeredWith_of_completes hc.1 (fwRead_row hu d hc)
    exact ⟨t, n, es, ht, hhost, hreport ▸ hans⟩
  · exact answered_of_completes_after hc.1 (fwBootSelect_row hu d hc) rfl rfl rfl
  · rw [← targetMax_of_flash htarget] at hlen
    exact answered_of_completes_after hc.1 (fwStage_begins hu d hc hphase htarget hopen hsends hlen hrest) rfl rfl rfl
end

section
/-! PROOF. Events lost in the step that makes them (06 R164, R165, 21 R529): what the reports that follow an event do to the
ring, and the events of untested pairs, which the state's tables alone bound. -/

namespace Sys2Proof.Machine

open Sys2Proof

/-! ### What a report does to the ring -/

/-- From `s` to `t` the ring is left alone or takes one event, of kind `k`. -/
def State.Reports (k : Nat) (s t : State) : Prop :=
  (t.flash.ring = s.flash.ring ∧ t.flash.nextSlot = s.flash.nextSlot) ∨
    ∃ e : FaultEvent, e.kind = k ∧ t.flash.ring = eraseSector s.flash.ring s.flash.nextSlot ++ [e] ∧
      t.flash.nextSlot = s.flash.nextSlot + 1

theorem State.reports_of_flash {s t : State} (h : t.flash = s.flash) (k : Nat) : State.Reports k s t :=
  .inl ⟨congrArg FlashSt.ring h, congrArg FlashSt.nextSlot h⟩

theorem State.event_reports (s : State) (k c u d : Nat) : State.Reports k s (s.event k c u d) :=
  .inr ⟨s.newEvent k c u d, rfl, s.event_ring k c u d, s.event_nextSlot k c u d⟩

theorem State.Reports.congr {k : Nat} {s t v : State} (h : State.Reports k s t) (hf : v.flash = t.flash) :
    State.Reports k s v := by
  unfold State.Reports at h ⊢
  rwa [hf]

theorem State.evalCapacity_reports (s : State) : State.Reports 0x13 s s.evalCapacity := by
  unfold State.evalCapacity
  dsimp only
  split
  · exact State.reports_of_flash rfl _
  · have h : State.Reports 0x13 s ({ s with capacity := s.capacityNow }.event 0x13 0 0 (s.capacity + 4 * s.capacityNow)) :=
      State.event_reports _ _ _ _ _
    exact h.congr (State.report_flash _ _ _ _ _ _ _ _)

theorem State.addCauses_reports (s : State) (c : Nat) : State.Reports 0x0F s (s.addCauses c) := by
  have recorded : ∀ (f : Summary → Summary) (n : Nat),
      State.Reports 0x0F s (((s.modSummary f).event 0x0F 0 0 n).unsol 3 (256 * n)) := fun f n => by
    have h : State.Reports 0x0F s ((s.modSummary f).event 0x0F 0 0 n) := by
      have hc := FlashSt.putSummary_copies s.flash (f s.summary)
      refine .inr ⟨(s.modSummary f).newEvent 0x0F 0 0 n, rfl, ?_, ?_⟩
      · rw [State.event_ring, State.modSummary, hc]
      · rw [State.event_nextSlot, State.modSummary, hc]
    exact h.congr (State.unsol_flash _ _ _)
  unfold State.addCauses
  dsimp only
  split
  · exact State.reports_of_flash rfl _
  · refine State.Reports.congr ?_ (State.panelTouch_flash _ _)
    split <;> exact recorded _ _

theorem State.pairStarts_reports (s : State) (p : Nat × Nat) : State.Reports 0x10 s (s.pairStarts p) := by
  by_cases hp : p ∈ s.fw.pairsSeen
  · exact State.reports_of_flash (State.pairStarts_seen hp) _
  · rw [State.pairStarts_new hp]
    have h := State.event_reports { s.unsol 4 (256 * (p.2 % 256)) with fw := { s.fw with pairsSeen := s.fw.pairsSeen ++ [p] } }
      0x10 0 p.1 p.2
    simpa only [State.Reports, State.unsol_flash] using h

/-! ### Events of a kind in the first slot -/

/-- `State.SealsFirst` for events of any kind: they stand in slot 0 alone, and none once the slot whose programming erases
slot 0 is passed (06 R165). -/
def State.FirstOnly (k : Nat) (s : State) : Prop :=
  ∀ e ∈ s.flash.ring, e.kind = k → e.slot = 0 ∧ s.flash.nextSlot ≤ 32768

section
variable {s : State} {k : Nat} (h : s.FirstOnly k)
include h

theorem State.FirstOnly.of_flash {t : State} (hf : t.flash = s.flash) : t.FirstOnly k := by
  unfold State.FirstOnly
  rwa [hf]

/-- A report of another kind pushes such events on: at slot 32,768 their sector is erased. -/
theorem State.FirstOnly.reports {t : State} {j : Nat} (ht : State.Reports j s t) (hj : j ≠ k) : t.FirstOnly k := by
  obtain ⟨hring, hslot⟩ | ⟨new, hnew, hring, hslot⟩ := ht
  · unfold State.FirstOnly
    rwa [hring, hslot]
  · intro e he hk
    rw [hring, List.mem_append, List.mem_singleton] at he
    rcases he with he | rfl
    · rw [hslot]
      unfold eraseSector at he
      split at he
      · obtain ⟨hmem, hlate⟩ := List.mem_filter.mp he
        have hlate := of_decide_eq_true hlate
        obtain ⟨h0, hn⟩ := h e hmem hk
        omega
      · obtain ⟨h0, hn⟩ := h e he hk
        omega
    · exact absurd (hnew.symm.trans hk) hj

theorem State.FirstOnly.evalCapacity (hk : 0x13 ≠ k) : s.evalCapacity.FirstOnly k :=
  h.reports s.evalCapacity_reports hk

theorem State.FirstOnly.updatePairs (hk : 0x10 ≠ k) : s.updatePairs.FirstOnly k := by
  have all : ∀ (l : List (Nat × Nat)) (t : State), t.FirstOnly k → (l.foldl State.pairStarts t).FirstOnly k := fun l t ht =>
    List.foldlRecOn (motive := State.FirstOnly k) l _ ht fun t ht p _ => ht.reports (t.pairStarts_reports p) hk
  unfold State.updatePairs
  dsimp only
  split
  · exact h
  · have hset : ({ s with fw := { s.fw with pairsRunning := s.untestedNow } } : State).FirstOnly k := h
    split
    · exact (all _ _ hset).of_flash (State.panelTouch_flash _ _)
    · exact all _ _ hset

/-- Once the ring has gone round, no such event is left in it. -/
theorem State.FirstOnly.lost (hn : 32768 < s.flash.nextSlot) {e : FaultEvent} (he : e ∈ s.flash.ring) : e.kind ≠ k :=
  fun hk => by
    have := (h e he hk).2
    omega

end

/-- The first event of an erased ring stands in slot 0. -/
theorem State.FirstOnly.of_empty {s : State} (hr : s.flash.ring = []) (hn : s.flash.nextSlot = 0) (k c u d : Nat) :
    (s.event k c u d).FirstOnly k := by
  intro e he _
  rw [State.event_ring, hr, hn] at he
  have he : e = s.newEvent k c u d := by simpa [eraseSector] using he
  rw [he, State.event_nextSlot, hn]
  exact ⟨hn, by decide⟩

/-- As the pairs of the firmware and many hubs are looked at, each takes a slot. -/
theorem State.updatePairs_slots {s : State} {n : Nat} (hf : s.fw = (crowded n).fw)
    (hu : s.untestedNow = (List.range n).map hubPair) : n ≤ s.updatePairs.evalCapacity.flash.nextSlot := by
  have hnext := State.updatePairs_nextSlot (congrArg FwSt.pairsRunning hf) (congrArg FwSt.pairsSeen hf) hu (hubPairs_nodup n)
  rw [List.length_map, List.length_range] at hnext
  have hle := s.updatePairs.evalCapacity_nextSlot_le
  omega

end Sys2Proof.Machine
end

section
/-! PROOF. A bundle's event lost as its link is (08 R211, 21 R529). -/

namespace Sys2Proof.Machine

open Sys2Proof

/-- Where no store's level check has passed, the firmware makes a pair with each hub alone. -/
theorem untestedNow_hubs {s : State} {n : Nat} (hf : s.fw = (crowded n).fw) (hl : s.link = (crowded n).link)
    (hs : s.storeImgs = []) (hi : s.ep.image = none) : s.untestedNow = (List.range n).map hubPair := by
  have hno : ({ s with store := StoreSt.reset } : State).storeImgs = [] := rfl
  rw [← crowded_untested (s := { s with store := StoreSt.reset }) hf hl rfl hi]
  unfold State.untestedNow
  rw [hs, hno]
  rfl

/-- Row 0 is being checked, with two bundles up; no image runs, and `n` hubs are attached. -/
def crowdedStore (n : Nat) : State :=
  { crowded n with
    ep := EpochSt.reset
    store := { StoreSt.reset with
      rows := lmod StoreSt.reset.rows 0 fun v => { v with config := 1, st := .checking, up := [0, 1] } } }

theorem crowdedStore_enter (n : Nat) : (crowdedStore n).enter ⟨0, true, true⟩ = crowdedStore n := rfl

theorem crowdedStore_rows (n : Nat) : (crowdedStore n).store.rows.length = 8 := rfl

theorem crowdedStore_row (n : Nat) : 0 % 8 ∈ ((crowdedStore n).row (0 / 8)).up ∧ ((crowdedStore n).row (0 / 8)).up.Nodup ∧
    ((crowdedStore n).row (0 / 8)).held = false ∧ 2 ≤ ((crowdedStore n).row (0 / 8)).up.length := by
  have hrow : (crowdedStore n).row (0 / 8) = { StoreRow.blank with config := 1, st := .checking, up := [0, 1] } := rfl
  rw [hrow]
  exact ⟨List.mem_cons_self .., by decide, rfl, Nat.le_refl 2⟩

theorem State.mapped_flash (s : State) (f : State → State) : (s.mapped f).flash = (f s).flash := by
  unfold State.mapped
  dsimp only
  split <;> rfl

/-- The bundle's event is the first of the ring; the row's other bundle stays up. -/
theorem crowdedStore_bundleDown (n : Nat) : (crowdedStore n).bundleDown 0 =
    { (crowdedStore n).event 8 1 0 0 with
      store := { (crowdedStore n).store with
        rows := lmod (crowdedStore n).store.rows 0 fun v => { v with up := [1] } } } := rfl

theorem bundleLinkLost_up {s u : State} {x : At} (hu : s.enter x = u) {sup : Nat} (h : sup % 8 ∈ (u.row (sup / 8)).up) :
    ∃ t, exec (.bundleLinkLost x sup) s = .next t ∧ t.flash = (u.bundleDown sup).updatePairs.evalCapacity.flash := by
  subst hu
  refine ⟨_, rfl, ?_⟩
  rw [State.mapped_flash, if_neg (by simpa using h)]

/-- More hubs than the ring has slots: their pairs' events leave no event of the bundle in it. -/
theorem crowdedStore_event_lost {n : Nat} (hn : 32768 < n) {e : FaultEvent}
    (he : e ∈ ((crowdedStore n).bundleDown 0).updatePairs.evalCapacity.flash.ring) : e.kind ≠ 8 := by
  rw [crowdedStore_bundleDown] at he
  have hfirst := State.FirstOnly.of_empty (s := crowdedStore n) rfl rfl 8 1 0 0
  refine (((hfirst.of_flash ?_).updatePairs (by decide)).evalCapacity (by decide)).lost
    (Nat.lt_of_lt_of_le hn (State.updatePairs_slots ?_ (untestedNow_hubs ?_ ?_ ?_ ?_))) he
  all_goals rfl

end Sys2Proof.Machine

open Sys2Proof Sys2Proof.Machine

/-- Refutes O37: the clause on a lost bundle asks of every state that its event stands in the ring after the step, and nothing
bounds the events of the untested pairs the step goes on to make, where the ring holds 32,768 slots (06 R164, R165). In
`crowdedStore 32769` two bundles of row 0 are up; one link is lost, the other bundle stays, and the events of the Keeper
firmware's pairs with the attached hubs, looked at in the same step, go round the ring. No run reaches that state: the unit has
16 hub ports (05 Table 5-4). -/
theorem not_storeRowsAndMirrorsFail : ¬ Obligations.StoreRowsAndMirrorsFail := by
  unfold Obligations.StoreRowsAndMirrorsFail
  intro h
  obtain ⟨-, lost, -⟩ := h (crowdedStore 32769) (crowdedStore 32769) ⟨0, true, true⟩ (crowdedStore_enter _).symm
    (crowdedStore_rows _)
  obtain ⟨hup, hnodup, hheld, htwo⟩ := crowdedStore_row 32769
  obtain ⟨t, hexec, -, two, -⟩ := lost 0 (by decide) hup hnodup hheld
  obtain ⟨-, e, he, hk, -⟩ := two htwo
  obtain ⟨t', hexec', hflash⟩ := bundleLinkLost_up (crowdedStore_enter 32769) hup
  rw [hexec'] at hexec
  obtain rfl := Host.Outcome.next.inj hexec
  rw [hflash] at he
  exact crowdedStore_event_lost (by decide) he hk
end

section
/-! PROOF. A keeper core's event lost as the core is removed (06 R151, R156, 21 R529). -/

namespace Sys2Proof.Machine

open Sys2Proof

/-! ### The unloading of an image makes no event of another kind -/

section
variable {s : State} {k : Nat} (h : s.FirstOnly k) (hoff : s.unit.powerOffPending = false)
include h hoff

theorem State.FirstOnly.toReady (hp : 0x10 ≠ k) (hc : 0x13 ≠ k) : s.toReady.FirstOnly k := by
  obtain ⟨r, hr, hflash, -⟩ := State.toReady_pairs hoff
  rw [hr]
  exact ((h.of_flash hflash).updatePairs hp).evalCapacity hc

theorem State.FirstOnly.noPlacement (hp : 0x10 ≠ k) (hn : 0x12 ≠ k) (hc : 0x13 ≠ k) : s.noPlacement.FirstOnly k := by
  obtain ⟨hunit, -⟩ := s.unload_parts stSealed
  have hun : (s.unload stSealed).unfit.FirstOnly k := h.of_flash (s.unload_keeps stSealed).1
  have hev := (hun.reports ((s.unload stSealed).unfit.event_reports 0x12 0 0 (s.ep.placement + 16)) hn).of_flash
    (State.report_flash _ _ _ _ _ 7 1024 [2])
  have hmask := (s.unload stSealed).unfit.report_sansRecord 0x12 0 0 (s.ep.placement + 16) 7 1024 [2]
  refine hev.toReady ?_ hp hc
  exact (congrArg (·.unit.powerOffPending) hmask :).trans ((congrArg UnitSt.powerOffPending hunit :).trans hoff)

end

/-! ### A keeper core removed -/

/-- A keeper core removed and recorded; what a seal event brings is still to come (06 R156). -/
def State.keeperLost (s : State) (core cause : Nat) : State :=
  let s := s.modSuper (core / 4) fun u => { u with keepers := maskOf 4 ((List.range 4).filter fun j =>
    bitAt u.keepers j && j != core % 4) }
  let s := { s with flash := { s.flash with keepersGone := sins s.flash.keepersGone core } }
  (((s.event 4 cause core 0).restartJobs fun c => c == core).mapChanged.evalCapacity).evalReplace

theorem State.removeKeeper_eq (s : State) (core cause : Nat) : s.removeKeeper core cause =
    (s.keeperLost core cause).sealEvent := rfl

/-- What the fit of the image and the untested pairs are judged by, but for the summary. -/
def State.fitParts (s : State) : UnitSt × EpochSt × FwSt × LinkSt × StoreSt × List Super :=
  (s.unit, s.ep, s.fw, s.link, s.store, s.wafer.supers)

/-- Of those a keeper core's removal changes its super alone. -/
theorem State.keeperLost_fitParts (s : State) (core cause : Nat) : (s.keeperLost core cause).fitParts =
    (s.modSuper (core / 4) fun u => { u with keepers := maskOf 4 ((List.range 4).filter fun j =>
      bitAt u.keepers j && j != core % 4) }).fitParts := by
  unfold State.keeperLost
  dsimp only
  refine (congrArg State.fitParts (State.addCauses_sansRecord _ _) :).trans ?_
  refine (congrArg State.fitParts (State.evalCapacity_sansRecord _) :).trans ?_
  exact (congrArg State.fitParts (State.event_sansRecord _ _ _ _ _) :)

/-- In an erased ring the core's event stands in slot 0, and what is looked at next makes events of other kinds. -/
theorem State.keeperLost_firstOnly {s : State} (hr : s.flash.ring = []) (hn : s.flash.nextSlot = 0) (core cause : Nat) :
    (s.keeperLost core cause).FirstOnly 4 := by
  unfold State.keeperLost
  dsimp only
  refine State.FirstOnly.reports ?_ (State.addCauses_reports _ _) (by decide)
  refine State.FirstOnly.evalCapacity ?_ (by decide)
  refine State.FirstOnly.of_flash (State.FirstOnly.of_empty ?_ ?_ 4 cause core 0) rfl
  · exact hr
  · exact hn

/-! ### An image that needs the core -/

/-- An image whose one placement needs all four keeper cores of S(4,2). -/
def keeperImage : HiveImg :=
  { pinnedImage with
    placements := [[{ pinned := true, phys := 20, cells := 0, keepers := 4, rowMask := 0, storeBound := false }]] }

/-- The unit in RUN with that image, all cores of S(4,2) working, and `n` hubs attached. -/
def crowdedKeepers (n : Nat) : State :=
  { crowded n with ep := { (crowded n).ep with image := some keeperImage } }

theorem crowdedKeepers_enter (n : Nat) : (crowdedKeepers n).enter ⟨0, true, true⟩ = crowdedKeepers n := rfl

/-- Core 80, the first of S(4,2), works. -/
theorem crowdedKeepers_works (n : Nat) : (crowdedKeepers n).unsealed (80 / 4) = true ∧
    ((crowdedKeepers n).super (80 / 4)).keepers.testBit (80 % 4) = true ∧ 8 ≤ (crowdedKeepers n).unit.step := by
  have hsuper : (crowdedKeepers n).super (80 / 4) = Super.blank := rfl
  rw [State.unsealed, hsuper]
  exact ⟨rfl, by decide, Nat.le_add_left 8 8⟩

theorem keeperWatchdogExpiry_removes {s u : State} {x : At} (hu : s.enter x = u) {core : Nat}
    (h : u.unsealed (core / 4) = true ∧ (u.super (core / 4)).keepers.testBit (core % 4) = true ∧ 8 ≤ u.unit.step) :
    exec (.keeperWatchdogExpiry x core) s = .next (u.removeKeeper core 2) := by
  subst hu
  obtain ⟨hopen, hbit, hstep⟩ := h
  have hworks : (s.enter x).coreWorks core = true := by simp [State.coreWorks, bitAt, hopen, hbit]
  exact congrArg Host.Outcome.next (if_pos (by simp [hworks, hstep]))

/-- A running image that no longer fits, and has no further placement that does, is unloaded (02 R50, 06 R151). -/
theorem State.sealEvent_unfit {s : State} {m : HiveImg} (himg : s.ep.image = some m) (hrun : s.unit.state = .run)
    (hfit : s.stillFits = false) (hnone : s.choosePlacement m (s.ep.placement + 1) = none) : s.sealEvent = s.noPlacement := by
  simp [State.sealEvent, State.sealOutcome, himg, hrun, hfit, hnone]

/-- With core 80 gone the image does not fit, and it has no other placement (02 R50, 06 R151). -/
theorem crowdedKeepers_sealEvent (n : Nat) : ((crowdedKeepers n).keeperLost 80 2).sealEvent =
    ((crowdedKeepers n).keeperLost 80 2).noPlacement := by
  have hparts := (crowdedKeepers n).keeperLost_fitParts 80 2
  generalize (crowdedKeepers n).keeperLost 80 2 = w at *
  have hrun : w.unit.state = .run := (congrArg (·.1.state) hparts :)
  have hep : w.ep = (crowdedKeepers n).ep := (congrArg (·.2.1) hparts :)
  have hsuper : w.super 20 = { Super.blank with keepers := 14 } :=
    (congrArg (·.2.2.2.2.2.getD 20 Super.blank) hparts :)
  have hkeepers : popcount (w.super 20).keepers = 3 := by
    rw [hsuper]
    decide
  have himg : w.ep.image = some keeperImage := by rw [hep]; rfl
  have hplace : w.ep.placement = 0 := by rw [hep]; rfl
  have hbind : w.ep.binding = [20] := by rw [hep]; rfl
  refine State.sealEvent_unfit himg hrun ?_ ?_
  · simp [State.stillFits, himg, hplace, hbind, keeperImage, State.meetsReq, State.meetsCore, hkeepers]
  · simp [State.choosePlacement, hplace, keeperImage]

/-- More hubs than the ring has slots: their pairs' events leave no event of the core in it. -/
theorem crowdedKeepers_event_lost {n : Nat} (hn : 32768 < n) {e : FaultEvent}
    (he : e ∈ ((crowdedKeepers n).removeKeeper 80 2).flash.ring) : e.kind ≠ 4 := by
  rw [State.removeKeeper_eq, crowdedKeepers_sealEvent] at he
  have hparts := (crowdedKeepers n).keeperLost_fitParts 80 2
  have hfirst := State.keeperLost_firstOnly (s := crowdedKeepers n) rfl rfl 80 2
  generalize (crowdedKeepers n).keeperLost 80 2 = w at *
  have hoff : w.unit.powerOffPending = false := (congrArg (·.1.powerOffPending) hparts :)
  have hfw : w.fw = (crowded n).fw := (congrArg (·.2.2.1) hparts :)
  have hlink : w.link = (crowded n).link := (congrArg (·.2.2.2.1) hparts :)
  have hrows : w.store.rows = StoreSt.reset.rows := (congrArg (·.2.2.2.2.1.rows) hparts :)
  obtain ⟨r, hr, hrfw, hrlink, hrrows, hrimg, -⟩ := State.noPlacement_pairs hoff
  have hpairs := crowded_untested (hrfw.trans hfw) (hrlink.trans hlink) (hrrows.trans hrows) hrimg
  have hslots := State.updatePairs_slots (hrfw.trans hfw) hpairs
  rw [← hr] at hslots
  exact (hfirst.noPlacement hoff (by decide) (by decide) (by decide)).lost (Nat.lt_of_lt_of_le hn hslots) he

end Sys2Proof.Machine

open Sys2Proof Sys2Proof.Machine

/-- Refutes O27: the clause on a silent keeper core asks of every state that its event stands in the ring after the step, and
nothing bounds what the removal sets off in that step, where the ring holds 32,768 slots (06 R164, R165). In
`crowdedKeepers 32769` the removal of core 80 unloads an image that needs it, the Keeper firmware then makes an untested pair
with each attached hub, and the pairs' events go round the ring. No run reaches that state: the unit has 16 hub ports (05
Table 5-4). -/
theorem not_cellsAndKeepersFail : ¬ Obligations.CellsAndKeepersFail := by
  unfold Obligations.CellsAndKeepersFail
  intro h
  obtain ⟨-, -, -, -, core⟩ := h (crowdedKeepers 32769) (crowdedKeepers 32769) ⟨0, true, true⟩ (crowdedKeepers_enter _).symm
    List.length_replicate
  obtain ⟨removed, -⟩ := core 80 (by decide)
  have hworks := crowdedKeepers_works 32769
  obtain ⟨t, e, hexec, -, -, he, hk, -⟩ := removed hworks
  rw [keeperWatchdogExpiry_removes (crowdedKeepers_enter _) hworks] at hexec
  obtain rfl := Host.Outcome.next.inj hexec
  exact crowdedKeepers_event_lost (by decide) he hk
end

section
/-! PROOF. Pass 1 where the table of instances holds a stage twice (11 R286, R294, R295). -/

namespace Sys2Proof.Machine

open Sys2Proof

/-- A stage whose one placement has a match job's descriptor (11 Table 11-7). -/
def matchStage : StageDesc where
  kind := .veJob
  sups := []
  outs := []
  descs := [[2]]
  inputs := []
  weights := []
  modules := []
  imagers := []
  bufs := []
  calibrates := none
  loop := false
  period := 0
  lineBase := 0
  linePitch := 0
  rect := none
  occSrc := 0

/-- An image of that stage alone. -/
def matchImage : HiveImg :=
  { pinnedImage with site := { pinnedImage.site with stages := [matchStage] } }

/-- A run of a job that awaits its pass 1, fired under these function modes: mode 3 gives the matching to the host. -/
def waitingRun (modes : List Bool) : StageRun where
  seq := 0
  tick := 0
  localC := 0
  doms := []
  epoch := 0
  phase := 0
  src := 0
  synth := false
  late := false
  mixed := false
  cause := 0
  origin := 0
  xforms := []
  modes := modes
  frame := none
  frameB := none
  flags := 0
  items := []
  preds := []
  points := []
  queries := []
  refs := []
  queued := []
  passed := false
  free0 := 0
  spoiled := false
  open_ := 0
  results := []
  begins := 0

/-- The run whose matching is the host's. -/
def hostRun : StageRun := waitingRun [false, false, false, true]

/-- The image runs, and stage 0 stands twice in the table of instances: the host's run, and behind it the engine's. -/
def twiceRunning : State :=
  { State.reset with
    ep := { EpochSt.reset with image := some matchImage }
    stg := { StageSt.reset with runs := [(0, hostRun), (0, waitingRun [])] } }

theorem twiceRunning_enter : twiceRunning.enter ⟨0, true, true⟩ = twiceRunning := rfl

theorem twiceRunning_run : tget twiceRunning.stg.runs 0 = some hostRun := rfl

theorem twiceRunning_stageDesc : twiceRunning.stageDesc 0 = some matchStage := rfl

theorem hostRun_hostMatch : hostRun.hostMatch (twiceRunning.veDesc matchStage) = true := by decide

/-- The engine's run, not the one the table reads as, gives the stage its turn. -/
theorem twiceRunning_veTurn : twiceRunning.veTurn 0 false = true := by decide

/-- PASS1_COMPLETE of a match job whose turn has come and that has met no cause runs its pass 1, whoever does the matching (11
R286); no replaced image has runs left. -/
theorem pass1Complete_match {s u : State} {x : At} {i : Nat} {bad : List (Nat × Nat)} {r : StageRun} {d : StageDesc}
    (hu : s.enter x = u) (hold : u.stg.old = []) (hturn : u.veTurn i false = true) (hr : tget u.stg.runs i = some r)
    (hd : u.stageDesc i = some d) (hkind : d.kind = .veJob) (hpassed : r.passed = false) (hv : (u.veDesc d).kind = 2)
    (hcause : ((u.readBufs d (u.veDesc d) r bad false).2.endCauses i d r r.spoiled).cause = 0) :
    exec (.pass1Complete x i bad) s = .next (((u.readBufs d (u.veDesc d) r bad false).2.passOneMatch i (u.veDesc d)
      ((u.readBufs d (u.veDesc d) r bad false).2.endCauses i d r r.spoiled)
      (u.readBufs d (u.veDesc d) r bad false).1).veEnded i).retireDue := by
  subst hu
  have hpass (f : State → State) (back : State → Nat → State) : (s.enter x).asPass i false f back = f (s.enter x) := by
    simp [State.asPass, hold]
  refine congrArg Host.Outcome.next ?_
  simp only [hturn, hpass, hr, hd, hkind, hpassed, hv, hcause]
  rfl

/-- Its corner records are absent, so the job ends: both entries leave the table. -/
theorem twiceRunning_pass1 : ∃ t, exec (.pass1Complete ⟨0, true, true⟩ 0 []) twiceRunning = .next t ∧ t.stg.runs = [] := by
  refine ⟨_, pass1Complete_match twiceRunning_enter rfl twiceRunning_veTurn twiceRunning_run twiceRunning_stageDesc rfl rfl
    rfl rfl, ?_⟩
  rw [State.retireDue_none rfl]
  rfl

end Sys2Proof.Machine

open Sys2Proof Sys2Proof.Machine

/-- Refutes O40: the statement asks of every state that PASS1_COMPLETE of a host-matched job does nothing. The row itself does not
look at who does the matching; it passes such a job by because the engines' work leaves it out, so it has no turn (11 R286, R295).
In `twiceRunning` stage 0 has two entries in the table of instances: `tget` reads the host-matched one, the engine's entry behind
it has the turn, and pass 1 ends the job. No run reaches that state: instances enter the table by `tset`, one entry a stage. -/
theorem not_visionPassesAndHostMatches : ¬ Obligations.VisionPassesAndHostMatches := by
  unfold Obligations.VisionPassesAndHostMatches
  intro h
  obtain ⟨passes, -⟩ := h
  obtain ⟨-, -, veJob⟩ := passes twiceRunning twiceRunning ⟨0, true, true⟩ 0 [] twiceRunning_enter.symm rfl
  obtain ⟨idle, -⟩ := veJob hostRun matchStage twiceRunning_run twiceRunning_stageDesc rfl
  obtain ⟨t, hexec, hruns⟩ := twiceRunning_pass1
  rw [idle (.inr hostRun_hostMatch), State.retireDue_none rfl] at hexec
  obtain rfl := Host.Outcome.next.inj hexec
  exact List.cons_ne_nil _ _ hruns
end

section
/-! PROOF. The transform table and the track slots as the host writes and reads them (12 R297, R298, R312, R315). -/

namespace Sys2Proof.Machine

open Sys2Proof

/-! ### Records in a row -/

/-- The `k`-th of byte strings of one length, cut out of their concatenation. -/
theorem catB_slice {l : List Bytes} {n k : Nat} {b : Bytes} (hlen : ∀ a ∈ l, a.length = n) (hk : l[k]? = some b) :
    ((catB l).drop (n * k)).take n = b := by
  induction l generalizing k with
  | nil => simp at hk
  | cons a l ih =>
    obtain rfl : a.length = n := hlen a List.mem_cons_self
    cases k with
    | zero =>
      obtain rfl : a = b := by simpa using hk
      simp [catB]
    | succ k =>
      have hrest := ih (fun c hc => hlen c (List.mem_cons_of_mem a hc)) (by simpa using hk)
      rwa [catB, List.flatten_cons, Nat.mul_succ, Nat.add_comm, ← List.drop_drop, List.drop_left]

theorem catB_length {l : List Bytes} {n : Nat} (hlen : ∀ a ∈ l, a.length = n) : (catB l).length = n * l.length := by
  induction l with
  | nil => rfl
  | cons a l ih =>
    have hrest : l.flatten.length = n * l.length := ih fun c hc => hlen c (List.mem_cons_of_mem a hc)
    rw [catB, List.flatten_cons, List.length_append, hrest, hlen a List.mem_cons_self, List.length_cons, Nat.mul_succ,
      Nat.add_comm]

/-- A field reads from the part of the bytes that covers it. -/
theorem fieldN_take_drop (b : Bytes) {at_ m off n : Nat} (h : off + n ≤ m) :
    fieldN ((b.drop at_).take m) off n = fieldN b (at_ + off) n := by
  rw [fieldN, List.drop_take, List.take_take, Nat.min_eq_left (by omega), List.drop_drop, ← fieldN]

/-- A field of the `k`-th of records of one length. -/
theorem fieldN_catB {l : List Bytes} {n k off len : Nat} {b : Bytes} (hlen : ∀ a ∈ l, a.length = n) (hk : l[k]? = some b)
    (h : off + len ≤ n) : fieldN (catB l) (n * k + off) len = fieldN b off len := by
  rw [← catB_slice hlen hk, fieldN_take_drop _ h]

theorem fieldN_append_left {a b : Bytes} {off n : Nat} (h : off + n ≤ a.length) : fieldN (a ++ b) off n = fieldN a off n := by
  have hfront := fieldN_take_drop (a ++ b) (at_ := 0) h
  rwa [List.drop_zero, List.take_left, Nat.zero_add, eq_comm] at hfront

theorem fieldN_append_right {a b : Bytes} {m : Nat} (h : a.length = m) (off n : Nat) :
    fieldN (a ++ b) (m + off) n = fieldN b off n := by
  subst h
  rw [fieldN, ← List.drop_drop, List.drop_left, ← fieldN]

/-- A number put in behind `m` bytes reads as that number. -/
theorem fieldN_toLE_behind {a b : Bytes} {m : Nat} (h : a.length = m) (n v : Nat) :
    fieldN (a ++ (toLE n v ++ b)) m n = v % 256 ^ n := h ▸ fieldN_toLE a b n v

/-! ### The track record (12 Table 12-3) -/

/-- The slot a reader sees: that of a sealed super is free, its generation kept. -/
def State.trackSeen (s : State) (id : Nat) : Track :=
  if s.trackHeld id then s.track id else { Track.free with gen := (s.track id).gen }

theorem State.trackSeen_gen (s : State) (id : Nat) : (s.trackSeen id).gen = (s.track id).gen := by
  unfold State.trackSeen
  split <;> rfl

theorem State.trackSeen_held {s : State} {id : Nat} (h : s.trackHeld id = true) : s.trackSeen id = s.track id := if_pos h

theorem State.trackSeen_sealed {s : State} {id : Nat} (h : s.trackHeld id = false) :
    s.trackSeen id = { Track.free with gen := (s.track id).gen } := if_neg (by simp [h])

/-- The words of the state vector. -/
def Track.stateWords (k : Track) : List Bytes := (List.range 12).map fun i => toLE 4 (vGet k.x i).toNat

/-- The words of a row of the covariance. -/
def Track.covWords (k : Track) (i : Nat) : List Bytes := (List.range 12).map fun j => toLE 4 (mGet k.p i j).toNat

/-- The rows of the covariance. -/
def Track.covRows (k : Track) : List Bytes := (List.range 12).map fun i => catB (k.covWords i)

theorem Track.stateWords_length (k : Track) : ∀ a ∈ k.stateWords, a.length = 4 := by
  simp [Track.stateWords, toLE_length]

theorem Track.covWords_length (k : Track) (i : Nat) : ∀ a ∈ k.covWords i, a.length = 4 := by
  simp [Track.covWords, toLE_length]

theorem Track.covRows_length (k : Track) : ∀ a ∈ k.covRows, a.length = 48 := by
  intro a ha
  obtain ⟨i, -, rfl⟩ := List.mem_map.mp ha
  rw [catB_length (k.covWords_length i), Track.covWords, List.length_map, List.length_range]

theorem Track.stateBytes_length (k : Track) : (catB k.stateWords).length = 48 := by
  rw [catB_length k.stateWords_length, Track.stateWords, List.length_map, List.length_range]

theorem Track.covBytes_length (k : Track) : (catB k.covRows).length = 576 := by
  rw [catB_length k.covRows_length, Track.covRows, List.length_map, List.length_range]

theorem word32_mod (w : BitVec 32) : w.toNat % 256 ^ 4 = w.toNat := Nat.mod_eq_of_lt w.isLt

theorem Track.stateWords_field (k : Track) {i : Nat} (h : i < 12) :
    fieldN (catB k.stateWords) (4 * i) 4 = (vGet k.x i).toNat := by
  have hword : k.stateWords[i]? = some (toLE 4 (vGet k.x i).toNat) := by simp [Track.stateWords, h]
  rw [← Nat.add_zero (4 * i), fieldN_catB k.stateWords_length hword (Nat.le_refl 4), fieldN, List.drop_zero,
    List.take_of_length_le (Nat.le_of_eq (toLE_length 4 _)), leNat_toLE, word32_mod]

theorem Track.covRows_field (k : Track) {i j : Nat} (hi : i < 12) (hj : j < 12) :
    fieldN (catB k.covRows) (48 * i + 4 * j) 4 = (mGet k.p i j).toNat := by
  have hrow : k.covRows[i]? = some (catB (k.covWords i)) := by simp [Track.covRows, hi]
  have hword : (k.covWords i)[j]? = some (toLE 4 (mGet k.p i j).toNat) := by simp [Track.covWords, hj]
  rw [fieldN_catB k.covRows_length hrow (by omega), ← Nat.add_zero (4 * j),
    fieldN_catB (k.covWords_length i) hword (Nat.le_refl 4), fieldN, List.drop_zero,
    List.take_of_length_le (Nat.le_of_eq (toLE_length 4 _)), leNat_toLE, word32_mod]

/-- Where a track record has its fields: 32 bytes of header, then the state vector, the covariance and 16 bytes more. -/
theorem State.trackRecord_layout (s : State) (id : Nat) : ∃ head tail, head.length = 25 ∧ tail.length = 16 ∧
    s.trackRecord id = toLE 2 id ++ (toLE 2 (s.trackSeen id).gen ++ (toLE 1 (s.trackSeen id).model ++
      (toLE 1 (s.trackSeen id).cls ++ (toLE 1 (s.trackSeen id).flags ++ (head ++
        (catB (s.trackSeen id).stateWords ++ (catB (s.trackSeen id).covRows ++ tail))))))) := by
  generalize hk : s.trackSeen id = k
  refine ⟨[0] ++ toLE 2 (k.agent.getD 0xFFFF) ++ toLE 2 k.coast ++ toLE 4 k.updates ++
    (if k.inUse then lktBytes 0 (s.lktFlags 0 3 false k.synth) k.tState else List.replicate 16 0),
    toLE 4 k.epoch ++ List.replicate 12 0, ?_, by simp [toLE_length], ?_⟩
  · split <;> simp [toLE_length, lktBytes]
  · subst hk
    simp only [State.trackRecord, List.append_assoc]
    rfl

section
variable (s : State) (id : Nat)

theorem State.trackRecord_length : (s.trackRecord id).length = 672 := by
  obtain ⟨head, tail, hhead, htail, h⟩ := s.trackRecord_layout id
  simp [h, hhead, htail, toLE_length, Track.stateBytes_length, Track.covBytes_length]

theorem State.trackRecord_id : fieldN (s.trackRecord id) 0 2 = id % 65536 := by
  obtain ⟨head, tail, -, -, h⟩ := s.trackRecord_layout id
  rw [h]
  exact fieldN_toLE [] _ 2 id

theorem State.trackRecord_gen : fieldN (s.trackRecord id) 2 2 = (s.track id).gen % 65536 := by
  obtain ⟨head, tail, -, -, h⟩ := s.trackRecord_layout id
  rw [h, ← s.trackSeen_gen]
  exact fieldN_toLE_behind (toLE_length 2 id) 2 _

theorem State.trackRecord_model : fieldN (s.trackRecord id) 4 1 = (s.trackSeen id).model % 256 := by
  obtain ⟨head, tail, -, -, h⟩ := s.trackRecord_layout id
  rw [h, fieldN_append_right (toLE_length 2 _) 2]
  exact fieldN_toLE_behind (toLE_length 2 _) 1 _

theorem State.trackRecord_flags : fieldN (s.trackRecord id) 6 1 = (s.trackSeen id).flags % 256 := by
  obtain ⟨head, tail, -, -, h⟩ := s.trackRecord_layout id
  rw [h, fieldN_append_right (toLE_length 2 _) 4, fieldN_append_right (toLE_length 2 _) 2,
    fieldN_append_right (toLE_length 1 _) 1]
  exact fieldN_toLE_behind (toLE_length 1 _) 1 _

/-- From its byte 32 on, a track record is the state vector, the covariance and 16 bytes more. -/
theorem State.trackRecord_body : ∃ head tail, head.length = 32 ∧
    s.trackRecord id = head ++ (catB (s.trackSeen id).stateWords ++ (catB (s.trackSeen id).covRows ++ tail)) := by
  obtain ⟨head, tail, hhead, -, h⟩ := s.trackRecord_layout id
  refine ⟨toLE 2 id ++ (toLE 2 (s.trackSeen id).gen ++ (toLE 1 (s.trackSeen id).model ++ (toLE 1 (s.trackSeen id).cls ++
    (toLE 1 (s.trackSeen id).flags ++ head)))), tail, by simp [toLE_length, hhead], ?_⟩
  simp only [h, List.append_assoc]

theorem State.trackRecord_state {i : Nat} (hi : i < 12) :
    fieldN (s.trackRecord id) (32 + 4 * i) 4 = (vGet (s.trackSeen id).x i).toNat := by
  obtain ⟨head, tail, hhead, h⟩ := s.trackRecord_body id
  have hlen := (s.trackSeen id).stateBytes_length
  rw [h, fieldN_append_right hhead, fieldN_append_left (by omega), Track.stateWords_field _ hi]

theorem State.trackRecord_cov {i j : Nat} (hi : i < 12) (hj : j < 12) :
    fieldN (s.trackRecord id) (80 + 48 * i + 4 * j) 4 = (mGet (s.trackSeen id).p i j).toNat := by
  obtain ⟨head, tail, hhead, h⟩ := s.trackRecord_body id
  have hcov := (s.trackSeen id).covBytes_length
  rw [h, show 80 + 48 * i + 4 * j = 32 + (48 + (48 * i + 4 * j)) by omega, fieldN_append_right hhead,
    fieldN_append_right (Track.stateBytes_length _), fieldN_append_left (by omega), Track.covRows_field _ hi hj]

end

/-- T_FLAGS bit 0 says whether the slot is in use. -/
theorem Track.flags_inUse (k : Track) : (k.flags % 256).testBit 0 = k.inUse := by
  cases h : k.inUse <;> simp [Track.flags, flagBits, h, b2n]

/-! ### Tables laid over by a list of entries -/

theorem tget_lay_other {α : Type} {es : List (Nat × α)} {k : Nat} (h : ∀ e ∈ es, e.1 ≠ k) (t : List (Nat × α)) :
    tget (es.foldl (fun t e => tset t e.1 e.2) t) k = tget t k :=
  List.foldlRecOn (motive := fun v => tget v k = tget t k) es _ rfl fun v hv e he => by
    rw [tget_tset_ne _ _ _ _ (h e he).symm, hv]

/-- Entries of different keys laid into a table stand in it. -/
theorem tget_lay_mem {α : Type} {es : List (Nat × α)} (hnd : (es.map Prod.fst).Nodup) {k : Nat} {a : α} (h : (k, a) ∈ es)
    (t : List (Nat × α)) : tget (es.foldl (fun t e => tset t e.1 e.2) t) k = some a := by
  induction es generalizing t with
  | nil => simp at h
  | cons e es ih =>
    obtain ⟨hfirst, hrest⟩ := List.nodup_cons.mp hnd
    rcases List.mem_cons.mp h with rfl | h
    · have hother : ∀ f ∈ es, f.1 ≠ k := fun f hf hk => hfirst (List.mem_map.mpr ⟨f, hf, hk⟩)
      rw [List.foldl_cons, tget_lay_other hother, tget_tset_self]
    · exact ih hrest h _

/-! ### The rows -/

/-- The entries XFORM_WRITE carries. -/
def Cmd.xformEntries (c : Cmd) : List (Nat × Bytes) :=
  (List.range (fieldN c.params 2 2)).map fun k => (fieldN c.params 0 2 + k, sliceB c.params (8 + 48 * k) 48)

theorem Cmd.xformEntries_keys (c : Cmd) :
    c.xformEntries.map Prod.fst = List.range' (fieldN c.params 0 2) (fieldN c.params 2 2) := by
  simp [Cmd.xformEntries, List.range'_eq_map_range, Function.comp_def]

/-- The state with the entries of XFORM_WRITE staged. -/
def State.stageXforms (s : State) (c : Cmd) : State :=
  s.stage fun g => { g with xforms := c.xformEntries.foldl (fun t e => tset t e.1 e.2) g.xforms }

theorem State.stageXforms_given (s : State) (c : Cmd) {k : Nat} (h : k < fieldN c.params 2 2) :
    tget (s.stageXforms c).ep.staged.xforms (fieldN c.params 0 2 + k) = some (sliceB c.params (8 + 48 * k) 48) := by
  have hentry : (fieldN c.params 0 2 + k, sliceB c.params (8 + 48 * k) 48) ∈ c.xformEntries :=
    List.mem_map.mpr ⟨k, List.mem_range.mpr h, rfl⟩
  exact tget_lay_mem (c.xformEntries_keys ▸ List.nodup_range') hentry _

theorem State.stageXforms_other (s : State) (c : Cmd) {j : Nat}
    (h : j < fieldN c.params 0 2 ∨ fieldN c.params 0 2 + fieldN c.params 2 2 ≤ j) :
    tget (s.stageXforms c).ep.staged.xforms j = tget s.ep.staged.xforms j := by
  refine tget_lay_other (fun e he hj => ?_) _
  obtain ⟨k, hk, rfl⟩ := List.mem_map.mp he
  have := List.mem_range.mp hk
  dsimp only at hj
  omega

/-- Host mode, or entries from 2304 on: an attach owns none of those written (12 R298). -/
theorem State.xformsWritable {u : State} {first : Nat} (h : 2304 ≤ first ∨ u.ha 2 = true) : ¬(first < 2304 ∧ !u.ha 2) := by
  rintro ⟨hlow, hdev⟩
  rcases h with hhigh | hhost
  · omega
  · simp [hhost] at hdev

section
variable {s u : State} {x : At} {c : Cmd} (hu : s.enter x = u) (dt : Option Bytes)
include hu

section
variable (hc : Accepted u.host c.qp c.tag 0x0501 c)
include hc

theorem xformWrite_device (hfirst : fieldN c.params 0 2 < 2304) (hmode : u.ha 2 = false) :
    exec (.xformWrite x c.qp c.tag dt) s = .next (u.complete c.qp c.tag stBadState 0 []) := by
  subst hu
  exact State.run_next hc (if_pos ⟨hfirst, by simp [hmode]⟩)

theorem xformWrite_badChain (hopen : 2304 ≤ fieldN c.params 0 2 ∨ u.ha 2 = true)
    (h : ∃ e ∈ u.xformsAhead c.xformEntries,
      chainBad (u.xformsAhead c.xformEntries) (c.xformEntries.map Prod.fst) 8 false e.1 = true) :
    exec (.xformWrite x c.qp c.tag dt) s = .next (u.complete c.qp c.tag stBadParam 0 []) := by
  subst hu
  exact State.run_next hc ((if_neg (State.xformsWritable hopen)).trans (if_pos (List.any_eq_true.mpr h)))

theorem xformWrite_stages (hopen : 2304 ≤ fieldN c.params 0 2 ∨ u.ha 2 = true)
    (h : ∀ e ∈ u.xformsAhead c.xformEntries,
      chainBad (u.xformsAhead c.xformEntries) (c.xformEntries.map Prod.fst) 8 false e.1 = false) :
    exec (.xformWrite x c.qp c.tag dt) s = .next ((u.stageXforms c).complete c.qp c.tag stOK 0 []) := by
  subst hu
  have hgood := List.any_eq_false.mpr fun e he => ne_true_of_eq_false (h e he)
  exact State.run_next hc ((if_neg (State.xformsWritable hopen)).trans (if_neg (ne_true_of_eq_false hgood)))

end

/-- XFORM_READ's answer: 48 bytes an entry, as the epoch in force holds it. -/
def State.xformRecords (s : State) (c : Cmd) : List Bytes :=
  (List.range' (fieldN c.params 0 2) (fieldN c.params 2 2)).map fun i => sliceB (tgetD s.xforms i []) 0 48

theorem xformRead_row (hc : Accepted u.host c.qp c.tag 0x0502 c) : exec (.xformRead x c.qp c.tag dt) s =
    .next (u.complete c.qp c.tag stOK 0 (catB (u.xformRecords c))) := by
  subst hu
  exact State.run_next hc rfl

/-- TRACK_READ's answer: a record an id. -/
def State.trackRecords (s : State) (c : Cmd) : List Bytes :=
  (List.range' (fieldN c.params 0 2) (fieldN c.params 2 2)).map s.trackRecord

theorem trackRead_row (hc : Accepted u.host c.qp c.tag 0x0503 c) : exec (.trackRead x c.qp c.tag dt) s =
    .next (u.complete c.qp c.tag stOK 0 (catB (u.trackRecords c))) := by
  subst hu
  exact State.run_next hc rfl

end

/-! ### What the reads answer -/

theorem sliceB_length (b : Bytes) (off n : Nat) : (sliceB b off n).length = n := by
  simp only [sliceB, List.length_append, List.length_replicate, List.length_take]
  omega

theorem sliceB_of_le {b : Bytes} {off n : Nat} (h : off + n ≤ b.length) : sliceB b off n = (b.drop off).take n := by
  have hlen : ((b.drop off).take n).length = n := by simp; omega
  simp [sliceB, hlen]

theorem State.xformRecords_length (s : State) (c : Cmd) : ∀ a ∈ s.xformRecords c, a.length = 48 :=
  List.forall_mem_map.mpr fun _ _ => sliceB_length _ _ _

theorem State.xformRecords_bytes (s : State) (c : Cmd) : (catB (s.xformRecords c)).length = 48 * fieldN c.params 2 2 := by
  rw [catB_length (s.xformRecords_length c), State.xformRecords, List.length_map, List.length_range']

theorem State.xformRecords_entry (s : State) (c : Cmd) {k : Nat} (h : k < fieldN c.params 2 2) :
    sliceB (catB (s.xformRecords c)) (48 * k) 48 = sliceB (tgetD s.xforms (fieldN c.params 0 2 + k) []) 0 48 := by
  have hrec : (s.xformRecords c)[k]? = some (sliceB (tgetD s.xforms (fieldN c.params 0 2 + k) []) 0 48) := by
    simp [State.xformRecords, List.getElem?_range' h]
  have hlen := s.xformRecords_bytes c
  rw [sliceB_of_le (by omega), catB_slice (s.xformRecords_length c) hrec]

theorem State.trackRecords_length (s : State) (c : Cmd) : ∀ a ∈ s.trackRecords c, a.length = 672 :=
  List.forall_mem_map.mpr fun id _ => s.trackRecord_length id

theorem State.trackRecords_bytes (s : State) (c : Cmd) : (catB (s.trackRecords c)).length = 672 * fieldN c.params 2 2 := by
  rw [catB_length (s.trackRecords_length c), State.trackRecords, List.length_map, List.length_range']

/-- A field of TRACK_READ's answer is that of the slot's record. -/
theorem State.trackRecords_field (s : State) (c : Cmd) {k off len : Nat} (h : k < fieldN c.params 2 2) (hoff : off + len ≤ 672) :
    fieldN (catB (s.trackRecords c)) (672 * k + off) len = fieldN (s.trackRecord (fieldN c.params 0 2 + k)) off len :=
  fieldN_catB (s.trackRecords_length c) (by simp [State.trackRecords, List.getElem?_range' h]) hoff

end Sys2Proof.Machine

open Sys2Proof Sys2Proof.Machine

/-- Settles O41: the entries of XFORM_WRITE have different keys, so each stands in the staged table as given; the reads answer
records of one length, so each is found at its place. -/
theorem transformEntriesAndTrackRecords : Obligations.TransformEntriesAndTrackRecords := by
  unfold Obligations.TransformEntriesAndTrackRecords
  intro s u x qp tag dt c first n hu hfirst hn
  subst hfirst hn
  replace hu := hu.symm
  refine ⟨fun hc es hes => ?_, fun hc => ?_, fun hc => ?_⟩ <;> obtain ⟨rfl, rfl⟩ := find_name hc.1.1
  · obtain rfl : es = c.xformEntries := hes
    refine ⟨fun hlow hdev => ?_, fun hopen hbad => ?_, fun hopen hgood => ?_⟩
    · exact answeredWith_of_completes hc.1 (xformWrite_device hu dt hc hlow hdev)
    · exact answeredWith_of_completes hc.1 (xformWrite_badChain hu dt hc hopen hbad)
    · obtain ⟨t, ht, hans, hhost⟩ := answered_of_completes_after (v := u.stageXforms c) hc.1
        (xformWrite_stages hu dt hc hopen hgood) rfl rfl rfl
      have hep : t.ep = (u.stageXforms c).ep := (congrArg State.ep hhost :)
      refine ⟨t, ht, hans, fun k hk => ?_, fun j hj => ?_, ?_⟩
      · rw [hep, u.stageXforms_given c hk]
      · rw [hep, u.stageXforms_other c hj]
      · rw [hep]
        exact hhost
  · obtain ⟨t, ht, hhost, hans⟩ := answeredWith_of_completes hc.1 (xformRead_row hu dt hc)
    exact ⟨t, _, ht, hhost, hans, u.xformRecords_bytes c, fun k hk => u.xformRecords_entry c hk⟩
  · obtain ⟨t, ht, hhost, hans⟩ := answeredWith_of_completes hc.1 (trackRead_row hu dt hc)
    refine ⟨t, _, ht, hhost, hans, u.trackRecords_bytes c, fun k hk => ?_⟩
    have hfield {off len : Nat} := u.trackRecords_field c (off := off) (len := len) hk
    refine ⟨?_, ?_, fun hsealed => ⟨?_, ?_⟩, fun hheld => ⟨?_, ?_, fun i hi => ?_, fun i j hi hj => ?_⟩⟩
    · rw [← Nat.add_zero (672 * k), hfield (by omega), State.trackRecord_id]
    · rw [hfield (by omega), State.trackRecord_gen]
    · rw [hfield (by omega), State.trackRecord_model, State.trackSeen_sealed hsealed]
      rfl
    · rw [hfield (by omega), State.trackRecord_flags, State.trackSeen_sealed hsealed]
      rfl
    · rw [hfield (by omega), State.trackRecord_model, State.trackSeen_held hheld]
    · rw [hfield (by omega), State.trackRecord_flags, Track.flags_inUse, State.trackSeen_held hheld]
    · rw [Nat.add_assoc, hfield (by omega), State.trackRecord_state _ _ hi, State.trackSeen_held hheld]
    · rw [Nat.add_assoc, Nat.add_assoc, ← Nat.add_assoc 80, hfield (by omega), State.trackRecord_cov _ _ hi hj,
        State.trackSeen_held hheld]
end

section
/-! PROOF. The host's part in the association of observations (12 R319, R320): reading the list leaves the host interface alone,
and what the host writes is kept by slot. -/

namespace Sys2Proof.Machine

open Sys2Proof

/-! ### Reading regions leaves the host interface alone (07 R178, R180) -/

theorem State.cellEvent_host (s : State) (kind g detail : Nat) : (s.cellEvent kind g detail).host = s.host := by
  unfold State.cellEvent
  split
  · rfl
  · exact s.event_host _ _ _ _

theorem State.poisonWord_host (s : State) (g w d : Nat) : (s.poisonWord g w d).host = s.host := by
  unfold State.poisonWord
  dsimp only
  split <;> rfl

theorem State.readWord_host (s : State) (g w : Nat) : (s.readWord g w).2.host = s.host := by
  unfold State.readWord
  dsimp only
  cases s.wordClass g w with
  | clean => rfl
  | correctable => exact State.cellEvent_host _ _ _ _
  | uncorrectable => exact (State.cellEvent_host _ _ _ _).trans (s.poisonWord_host _ _ _)
  | poison => rfl

theorem State.countAccess_host (s : State) (g : Nat) (ue : Bool) (banks : List Nat) :
    (s.countAccess g ue banks).2.host = s.host := by
  unfold State.countAccess
  extract_lets full v src t
  have hv : v.host = s.host :=
    List.foldlRecOn (motive := fun p : Bool × State => p.2.host = s.host) banks _ rfl fun _ hp _ _ => hp
  have ht : t.host = s.host := by
    unfold t
    split <;> exact hv
  split
  · exact hv
  · exact ht

theorem State.counted_host (s : State) (g : Nat) (a : Access) (bank : Nat) : (s.counted g a bank).host = s.host := by
  unfold State.counted
  extract_lets r
  have hcount : r.2.host = s.host := s.countAccess_host g a.ue _
  split
  · split <;> exact hcount
  · exact hcount

theorem State.readWords_host (s : State) (g off n : Nat) : (s.readWords g off n).2.host = s.host :=
  List.foldlRecOn (motive := fun p : Total × State => p.2.host = s.host) _ _ rfl fun p hp w _ =>
    ((State.counted_host _ _ _ _).trans (p.2.readWord_host g w)).trans hp

theorem State.readRegion_host (s : State) (r off n : Nat) : (s.readRegion r off n).2.host = s.host := by
  unfold State.readRegion
  split
  · exact s.readWords_host _ _ _
  · rfl

theorem State.inHead_host (s : State) (r : Nat) : (s.inHead r).2.host = s.host := by
  unfold State.inHead
  split
  · rfl
  · rfl
  · split
    · rfl
    · exact s.readRegion_host _ _ _

theorem State.inPayload_host (s : State) (r : Nat) : (s.inPayload r).2.host = s.host := by
  unfold State.inPayload
  dsimp only
  split
  · exact s.inHead_host r
  · split
    · exact s.inHead_host r
    · exact (State.readRegion_host _ _ _ _).trans (s.inHead_host r)

theorem State.obsInput_host (s : State) (t : TfeDesc) : (s.obsInput t).2.host = s.host := by
  unfold State.obsInput
  dsimp only
  split <;> exact s.inPayload_host t.obsReg

/-! ### The host's items -/

theorem leNat_append_zeros (b : Bytes) (n : Nat) : leNat (b ++ List.replicate n 0) = leNat b := by
  induction b with
  | nil => induction n with
    | zero => rfl
    | succ n ih => exact congrArg (fun m => (0#8).toNat + 256 * m) ih
  | cons a b ih => rw [List.cons_append, leNat, ih, leNat]

/-- A field at the front of a slice is the field of the bytes it was cut from. -/
theorem fieldN_sliceB (b : Bytes) {off len n : Nat} (h : n ≤ len) : fieldN (sliceB b off len) 0 n = fieldN b off n := by
  have hfront := fieldN_take_drop b (at_ := off) (off := 0) (n := n) (m := len) (by omega)
  rw [Nat.add_zero] at hfront
  rw [← hfront, fieldN, fieldN, List.drop_zero, List.drop_zero, sliceB, List.take_append, List.take_replicate,
    leNat_append_zeros]

/-- The items TFE_ASSOC_SUBMIT carries. -/
def Cmd.assocItems (c : Cmd) : List Bytes := (List.range (fieldN c.params 2 2)).map fun k => sliceB c.params (8 + 8 * k) 8

/-- The observations they name. -/
def Cmd.assocObs (c : Cmd) : List Nat := c.assocItems.map fun b => fieldN b 0 2

theorem Cmd.assocObs_eq (c : Cmd) :
    c.assocObs = (List.range (fieldN c.params 2 2)).map fun k => fieldN c.params (8 + 8 * k) 2 := by
  simp [Cmd.assocObs, Cmd.assocItems, Function.comp_def, fieldN_sliceB]

theorem repeats_iff (l : List Nat) : repeats l = true ↔ ¬l.Nodup := by
  induction l with
  | nil => simp [repeats]
  | cons a l ih =>
    rw [repeats, Bool.or_eq_true, ih, List.nodup_cons, List.contains_iff_mem, Decidable.not_and_iff_not_or_not,
      Decidable.not_not]

/-- An item names an observation the list does not have, or two name the same. -/
def Cmd.badAssoc (c : Cmd) (obs : List Bytes) : Bool :=
  (c.assocObs.any fun n => decide (obs.length ≤ n)) || repeats c.assocObs

theorem Cmd.assocObs_nodup_iff (c : Cmd) : c.assocObs.Nodup ↔ ∀ k j, k < j → j < fieldN c.params 2 2 →
    fieldN c.params (8 + 8 * k) 2 ≠ fieldN c.params (8 + 8 * j) 2 := by
  rw [c.assocObs_eq, List.Nodup, List.pairwise_map, List.pairwise_iff_getElem]
  simp only [List.length_range, List.getElem_range]
  exact ⟨fun h k j hkj hj => h k j (Nat.lt_trans hkj hj) hj hkj, fun h k j _ hj hkj => h k j hkj hj⟩

theorem Cmd.assocObs_within_iff (c : Cmd) (n : Nat) :
    (c.assocObs.any fun k => decide (n ≤ k)) = true ↔ ∃ k, k < fieldN c.params 2 2 ∧ n ≤ fieldN c.params (8 + 8 * k) 2 := by
  rw [c.assocObs_eq]
  simp

theorem Cmd.badAssoc_iff (c : Cmd) (obs : List Bytes) : c.badAssoc obs = true ↔
    (∃ k, k < fieldN c.params 2 2 ∧ obs.length ≤ fieldN c.params (8 + 8 * k) 2) ∨
      ∃ k j, k < j ∧ j < fieldN c.params 2 2 ∧ fieldN c.params (8 + 8 * k) 2 = fieldN c.params (8 + 8 * j) 2 := by
  rw [Cmd.badAssoc, Bool.or_eq_true, c.assocObs_within_iff, repeats_iff, c.assocObs_nodup_iff]
  simp only [Classical.not_forall, Classical.not_not, ne_eq, exists_prop]

/-! ### The parts kept for slots -/

/-- Dropping elements that are not looked for leaves what is found. -/
theorem find?_filter_of_imp {α : Type} {p q : α → Bool} (h : ∀ a, q a = true → p a = true) (l : List α) :
    (l.filter p).find? q = l.find? q := by
  rw [List.find?_filter]
  congr 1
  funext a
  cases hq : q a with
  | false => simp
  | true => simp [h a hq]

/-- The part a slot has after items are kept for it: the items laid over those it had. -/
theorem State.keepPart_hostPart_self (s : State) (i seq : Nat) (items : List (Nat × Bytes)) :
    (s.keepPart i seq items).hostPart i seq = some ⟨i, seq, items.foldl (fun t e => tset t e.1 e.2)
      (((s.hostPart i seq).map HostPart.items).getD [])⟩ := by
  unfold State.keepPart State.hostPart
  dsimp only
  have hdropped : (s.stg.hostParts.filter fun p => !(p.stage == i && p.seq == seq)).find?
      (fun p => p.stage == i && p.seq == seq) = none :=
    List.find?_eq_none.mpr fun p hp => ne_true_of_eq_false ((Bool.not_eq_true' _).mp (List.mem_filter.mp hp).2)
  rw [List.find?_append, hdropped, Option.none_or]
  simp

theorem State.keepPart_hostPart_other (s : State) {i seq j q : Nat} (h : j ≠ i ∨ q ≠ seq) (items : List (Nat × Bytes)) :
    (s.keepPart i seq items).hostPart j q = s.hostPart j q := by
  have hkept (p : HostPart) (hp : (p.stage == j && p.seq == q) = true) : (!(p.stage == i && p.seq == seq)) = true := by
    simp at hp ⊢
    omega
  have hnew : (i == j && seq == q) = false := by
    simp
    omega
  unfold State.keepPart State.hostPart
  dsimp only
  rw [List.find?_append, find?_filter_of_imp hkept, List.find?_singleton, hnew]
  simp

theorem State.complete_hostPart (s : State) (q t st d : Nat) (r : Bytes) (i seq : Nat) :
    (s.complete q t st d r).hostPart i seq = s.hostPart i seq := by
  rw [State.hostPart, State.complete_stg, State.hostPart]

/-- The state that keeps the items of TFE_ASSOC_SUBMIT, by observation, for the slot it names. -/
def State.keepAssoc (s : State) (c : Cmd) : State :=
  s.keepPart (fieldN c.params 0 2) (fieldN c.params 4 4) (c.assocItems.map fun b => (fieldN b 0 2, b))

theorem State.keepAssoc_other (s : State) (c : Cmd) {j q : Nat} (h : j ≠ fieldN c.params 0 2 ∨ q ≠ fieldN c.params 4 4) :
    (s.keepAssoc c).hostPart j q = s.hostPart j q := s.keepPart_hostPart_other h _

/-- Items that name different observations are each kept under the one it names. -/
theorem State.keepAssoc_part (s : State) {c : Cmd} (h : c.assocObs.Nodup) :
    ∃ p, (s.keepAssoc c).hostPart (fieldN c.params 0 2) (fieldN c.params 4 4) = some p ∧
      ∀ k, k < fieldN c.params 2 2 → tget p.items (fieldN c.params (8 + 8 * k) 2) = some (sliceB c.params (8 + 8 * k) 8) := by
  refine ⟨_, s.keepPart_hostPart_self _ _ _, fun k hk => tget_lay_mem ?_ ?_ _⟩
  · rw [List.map_map]
    exact h
  · rw [← fieldN_sliceB c.params (by decide : 2 ≤ 8)]
    exact List.mem_map_of_mem (List.mem_map.mpr ⟨k, List.mem_range.mpr hk, rfl⟩)

/-! ### The rows -/

/-- An accepted command's row whose effect the retirements due follow. -/
theorem State.run_next_retired {s : State} {x : At} {qp tag op : Nat} {c : Cmd} {f : State → Cmd → State} {t : State}
    (h : Accepted (s.enter x).host qp tag op c) (hf : f (s.enter x) c = t) :
    (Host.Outcome.next (s.run x qp tag op f).retireDue : Host.Outcome State Fault Refusal) = .next t.retireDue := by
  rw [State.run_accepted h, hf]

/-- A command whose row completes it is answered before the retirements due, and nothing but the host interface changes. -/
theorem answeredThenRetired_of_completes {i : Instr} {s w : State} {qp tag op st d : Nat} {p : Prog} {c : Cmd} {r : Bytes}
    (hc : Held w.host qp tag op p c) (h : exec i s = .next (w.complete c.qp c.tag st d r).retireDue) :
    ∃ v : State, exec i s = .next v.retireDue ∧ HostOnly w v ∧ Answers w v c st d r := by
  obtain ⟨hans, hhost⟩ := State.answered hc st d r
  exact ⟨_, h, hhost, hans⟩

section
variable {s u w : State} {x : At} {c : Cmd} {d : TfeDesc} (hu : s.enter x = u) (dt : Option Bytes)
include hu

section
variable {o : Option Nat} {b : Bytes} {bad : Bool} (hc : Accepted u.host c.qp c.tag 0x0504 c)
include hc

theorem tfeObsRead_noStage (h : u.updateStage (fieldN c.params 0 2) = none) :
    exec (.tfeObsRead x c.qp c.tag dt) s = .next (u.complete c.qp c.tag stBadParam 0 []).retireDue := by
  subst hu
  refine State.run_next_retired hc ?_
  dsimp only
  rw [h]

variable (h : u.updateStage (fieldN c.params 0 2) = some d)
include h

theorem tfeObsRead_absent {k : Nat} (hp : u.inPayload d.obsReg = ((some k, b, bad), w)) :
    exec (.tfeObsRead x c.qp c.tag dt) s =
      .next (w.complete c.qp c.tag (causeStatus 6 k) (tgetD u.stg.seqs (fieldN c.params 0 2) 0) []).retireDue := by
  subst hu
  refine State.run_next_retired hc ?_
  simp only [h, hp]

theorem tfeObsRead_uncorrectable (hp : u.inPayload d.obsReg = ((none, b, true), w)) :
    exec (.tfeObsRead x c.qp c.tag dt) s =
      .next (w.complete c.qp c.tag stUE (tgetD u.stg.seqs (fieldN c.params 0 2) 0) []).retireDue := by
  subst hu
  refine State.run_next_retired hc ?_
  simp only [h, hp, if_true]

theorem tfeObsRead_list (hp : u.inPayload d.obsReg = ((none, b, false), w)) :
    exec (.tfeObsRead x c.qp c.tag dt) s = .next (w.complete c.qp c.tag (if u.recordSynth d.obsReg then stSynth else stOK)
      (tgetD u.stg.seqs (fieldN c.params 0 2) 0) (b.take (16 + 168 * min 8192 (fieldN b 0 4)))).retireDue := by
  subst hu
  refine State.run_next_retired hc ?_
  simp only [h, hp, Bool.false_eq_true, if_false]

end

section
variable {obs : List Bytes} {bad : Bool} (hc : Accepted u.host c.qp c.tag 0x0505 c)
include hc

theorem tfeAssocSubmit_noStage (h : u.updateStage (fieldN c.params 0 2) = none) :
    exec (.tfeAssocSubmit x c.qp c.tag dt) s = .next (u.complete c.qp c.tag stBadParam 0 []).retireDue := by
  subst hu
  refine State.run_next_retired hc ?_
  dsimp only
  rw [h]

variable (h : u.updateStage (fieldN c.params 0 2) = some d)
include h

theorem tfeAssocSubmit_late (hseq : fieldN c.params 4 4 < tgetD u.stg.seqs (fieldN c.params 0 2) 0) :
    exec (.tfeAssocSubmit x c.qp c.tag dt) s = .next (u.complete c.qp c.tag stLate 0 []).retireDue := by
  subst hu
  refine State.run_next_retired hc ?_
  dsimp only
  rw [h]
  exact if_pos hseq

variable (hseq : tgetD u.stg.seqs (fieldN c.params 0 2) 0 ≤ fieldN c.params 4 4) (ho : u.obsInput d = ((obs, bad), w))
include hseq ho

theorem tfeAssocSubmit_refused (hbad : c.badAssoc obs = true) :
    exec (.tfeAssocSubmit x c.qp c.tag dt) s = .next (w.complete c.qp c.tag stBadParam 0 []).retireDue := by
  subst hu
  refine State.run_next_retired hc ?_
  simp only [h, ho]
  exact (if_neg (by omega)).trans (if_pos hbad)

theorem tfeAssocSubmit_keeps (hgood : c.badAssoc obs = false) :
    exec (.tfeAssocSubmit x c.qp c.tag dt) s = .next ((w.keepAssoc c).complete c.qp c.tag stOK 0 []).retireDue := by
  subst hu
  refine State.run_next_retired hc ?_
  simp only [h, ho]
  exact (if_neg (by omega)).trans (if_neg (ne_true_of_eq_false hgood))

end

end

end Sys2Proof.Machine

open Sys2Proof Sys2Proof.Machine

/-- Settles O42: reading the list may write words back and record events, but leaves the host interface alone, so the command is
still there to be answered; the items kept name different observations, so each is found by its own. -/
theorem hostAssociatesObservations : Obligations.HostAssociatesObservations := by
  unfold Obligations.HostAssociatesObservations
  intro s u x qp tag dt c i hu hi
  subst hi
  replace hu := hu.symm
  refine ⟨fun hc => ?_, fun hc n seq hn hseq => ?_⟩ <;> obtain ⟨rfl, rfl⟩ := find_name hc.1.1
  · refine ⟨fun h => answeredThenRetired_of_completes hc.1 (tfeObsRead_noStage hu dt hc h), fun d o b bad w h hp => ?_⟩
    have hhost : w.host = u.host := by rw [← u.inPayload_host d.obsReg, hp]
    have hw : Held w.host c.qp c.tag 0x0504 .fresh c := hhost ▸ hc.1
    match o, bad, hp with
    | some k, bad, hp =>
      obtain ⟨v, hv, honly, hans⟩ := answeredThenRetired_of_completes hw (tfeObsRead_absent hu dt hc h hp)
      exact ⟨v, hv, honly, fun _ hk => Option.some.inj hk ▸ hans, nofun, nofun⟩
    | none, true, hp =>
      obtain ⟨v, hv, honly, hans⟩ := answeredThenRetired_of_completes hw (tfeObsRead_uncorrectable hu dt hc h hp)
      exact ⟨v, hv, honly, nofun, fun _ _ => hans, nofun⟩
    | none, false, hp =>
      obtain ⟨v, hv, honly, hans⟩ := answeredThenRetired_of_completes hw (tfeObsRead_list hu dt hc h hp)
      exact ⟨v, hv, honly, nofun, nofun, fun _ _ => hans⟩
  · subst hn hseq
    refine ⟨fun h => answeredThenRetired_of_completes hc.1 (tfeAssocSubmit_noStage hu dt hc h), fun d h hlate =>
      answeredThenRetired_of_completes hc.1 (tfeAssocSubmit_late hu dt hc h hlate), fun d obs bad w h hseq ho => ?_⟩
    have hhost : w.host = u.host := by rw [← u.obsInput_host d, ho]
    have hw : Held w.host c.qp c.tag 0x0505 .fresh c := hhost ▸ hc.1
    refine ⟨fun hbad => ?_, fun hwithin hdistinct => ?_⟩
    · exact answeredThenRetired_of_completes hw
        (tfeAssocSubmit_refused hu dt hc h hseq ho ((c.badAssoc_iff obs).mpr hbad))
    · have hgood : c.badAssoc obs = false := by
        rw [← Bool.not_eq_true, c.badAssoc_iff]
        rintro (⟨k, hk, hlen⟩ | ⟨k, j, hkj, hj, heq⟩)
        · exact absurd (hwithin k hk) (by omega)
        · exact hdistinct k j hkj hj heq
      obtain ⟨hans, honly⟩ := State.answered_after (v := w.keepAssoc c) hw rfl rfl rfl stOK 0 []
      obtain ⟨p, hp, hitems⟩ := w.keepAssoc_part ((c.assocObs_nodup_iff).mpr hdistinct)
      refine ⟨_, p, tfeAssocSubmit_keeps hu dt hc h hseq ho hgood, hans, ?_, hitems, fun j q hjq => ?_, ?_⟩
      · rw [State.complete_hostPart, hp]
      · rw [State.complete_hostPart, w.keepAssoc_other c hjq]
      · rw [State.complete_stg]
        exact honly
end

section
/-! PROOF. The queue of commands (log entry 2): no operation of the block touches it, so a step leaves the commands behind the
front one as they were. One lemma an operation, in the order of the model's files. -/

namespace Sys2Proof.Machine

open Sys2Proof

/-! ### Branches and folds -/

@[simp] theorem ite_pending (p : Prop) [Decidable p] (a b : State) :
    (if p then a else b).pending = if p then a.pending else b.pending := apply_ite State.pending p a b

/-- A fold of an operation that leaves the queue alone. -/
@[simp] theorem foldl_pending {α : Type} (f : State → α → State) (h : ∀ s a, (f s a).pending = s.pending) (l : List α)
    (s : State) : (l.foldl f s).pending = s.pending := by
  induction l generalizing s with
  | nil => rfl
  | cons a r ih => rw [List.foldl_cons, ih, h]

/-- The same of a fold that gathers a value besides. -/
@[simp] theorem foldl_snd_pending {α β : Type} (f : β × State → α → β × State) (h : ∀ p a, (f p a).2.pending = p.2.pending)
    (l : List α) (p : β × State) : (l.foldl f p).2.pending = p.2.pending := by
  induction l generalizing p with
  | nil => rfl
  | cons a r ih => rw [List.foldl_cons, ih, h]

/-- A fold within a fold. -/
theorem foldl_foldl_pending {α β : Type} (f : State → α → β → State) (h : ∀ s a b, (f s a b).pending = s.pending) (s : State)
    (m : List β) (l : List α) : (l.foldl (fun s a => m.foldl (fun s b => f s a b) s) s).pending = s.pending := by
  induction l generalizing s with
  | nil => rfl
  | cons a r ih => rw [List.foldl_cons, ih, foldl_pending _ (fun s b => h s a b)]

/-! ### Operations of Machine/Ops.lean -/

@[simp] theorem State.panelTouch_pending (s : State) (regions : List Nat) :
    (State.panelTouch s regions).pending = s.pending := by simp [State.panelTouch]

@[simp] theorem State.event_pending (s : State) (kind cause subject detail : Nat) :
    (State.event s kind cause subject detail).pending = s.pending := by simp [State.event]

@[simp] theorem State.flushHeld_pending (s : State) : s.flushHeld.pending = s.pending := by
  unfold State.flushHeld
  refine foldl_pending _ (fun s e => ?_) _ _
  repeat' split
  all_goals simp

@[simp] theorem State.setUnit_pending (s : State) (u : UnitState) :
    (State.setUnit s u).pending = s.pending := by simp [State.setUnit]

@[simp] theorem State.mapChanged_pending (s : State) : (State.mapChanged s).pending = s.pending := by simp [State.mapChanged]

@[simp] theorem State.evalCapacity_pending (s : State) :
    (State.evalCapacity s).pending = s.pending := by simp [State.evalCapacity]

@[simp] theorem State.addCauses_pending (s : State) (c : Nat) :
    (State.addCauses s c).pending = s.pending := by simp [State.addCauses]

@[simp] theorem State.evalReplace_pending (s : State) :
    (State.evalReplace s).pending = s.pending := by simp [State.evalReplace]

@[simp] theorem State.advRaw_pending (s : State) (t : Nat) : (State.advRaw s t).pending = s.pending := by simp [State.advRaw]

@[simp] theorem State.checkAuto_pending (s : State) : (State.checkAuto s).pending = s.pending := by simp [State.checkAuto]

@[simp] theorem State.switchTo_pending (s : State) (d cause : Nat) :
    (State.switchTo s d cause).pending = s.pending := by simp [State.switchTo]

@[simp] theorem State.autoSwitch_pending (s : State) : (State.autoSwitch s).pending = s.pending := by
  unfold State.autoSwitch; split <;> simp

/-! ### Operations of Machine/Capture.lean -/

@[simp] theorem State.setCapIn_pending (s : State) (i : Nat) (v : CapInput) :
    (State.setCapIn s i v).pending = s.pending := by simp [State.setCapIn]

@[simp] theorem State.readCaptures_pending (s : State) (c : Cmd) :
    (State.readCaptures s c).pending = s.pending := by simp [State.readCaptures]

@[simp] theorem State.pushRec_pending (s : State) (q at_ : Nat) (r : Bytes) :
    (State.pushRec s q at_ r).pending = s.pending := by
  unfold State.pushRec; dsimp only; repeat' split
  all_goals simp

@[simp] theorem State.deliverRec_pending (s : State) (i : Nat) (o : Owner) (at_ : Nat) (r : Bytes) :
    (State.deliverRec s i o at_ r).pending = s.pending := by
  unfold State.deliverRec; split <;> simp

/-! ### Operations of Machine/PtpTx.lean -/

@[simp] theorem State.modServo_pending (s : State) (d : Nat) (f : Servo → Servo) :
    (State.modServo s d f).pending = s.pending := by simp [State.modServo]

@[simp] theorem State.ptpCapture_pending (s : State) (p edge k : Nat) (m : Bytes) :
    (State.ptpCapture s p edge k m).2.pending = s.pending := by simp [State.ptpCapture]

@[simp] theorem State.ptpSent_pending (s : State) (p later : Nat) (b : Bytes) :
    (State.ptpSent s p later b).2.pending = s.pending := by
  unfold State.ptpSent; dsimp only; split <;> simp

/-! ### Operations of Machine/Tx.lean -/

@[simp] theorem State.addDue_pending (s : State) (at_ : Nat) (e : DueEv) :
    (State.addDue s at_ e).pending = s.pending := by simp [State.addDue]

@[simp] theorem State.putSent_pending (s : State) (p q at_ : Nat) (b : Bytes) :
    (State.putSent s p q at_ b).pending = s.pending := by
  unfold State.putSent; split <;> simp

@[simp] theorem State.txFrame_pending (s : State) (p q : Nat) (b : Bytes) :
    (State.txFrame s p q b).pending = s.pending := by simp [State.txFrame]

@[simp] theorem State.startWaiting_pending (s : State) (p at_ : Nat) : (State.startWaiting s p at_).pending = s.pending := by
  unfold State.startWaiting; repeat' split
  all_goals simp

@[simp] theorem State.modSport_pending (s : State) (p : Nat) (f : SensorPort → SensorPort) :
    (State.modSport s p f).pending = s.pending := by simp [State.modSport]

@[simp] theorem State.delayRec_pending (s : State) (p type addr seq edge k : Nat) :
    (State.delayRec s p type addr seq edge k).pending = s.pending := by
  unfold State.delayRec; dsimp only; split <;> simp

@[simp] theorem State.linkStart_pending (s : State) (p at_ : Nat) (it : LinkItem) :
    (State.linkStart s p at_ it).pending = s.pending := by
  unfold State.linkStart; dsimp only; repeat' split
  all_goals simp

@[simp] theorem State.linkSend_pending (s : State) (p cls at_ : Nat) (it : LinkItem) :
    (State.linkSend s p cls at_ it).pending = s.pending := by simp [State.linkSend]

@[simp] theorem State.linkTx_pending (s : State) (p cls : Nat) (b : Bytes) :
    (State.linkTx s p cls b).pending = s.pending := by simp [State.linkTx]

@[simp] theorem State.linkNext_pending (s : State) (p at_ : Nat) : (State.linkNext s p at_).pending = s.pending := by
  unfold State.linkNext; split <;> simp

@[simp] theorem State.doDue_pending (s : State) (at_ : Nat) (e : DueEv) : (State.doDue s at_ e).pending = s.pending := by
  unfold State.doDue; split <;> simp

@[simp] theorem State.advanceAuto_pending (s : State) (t : Nat) : (State.advanceAuto s t).pending = s.pending := by
  unfold State.advanceAuto; split <;> simp

@[simp] theorem State.advanceBy_pending (n t : Nat) (s : State) : (State.advanceBy n t s).pending = s.pending := by
  induction n generalizing s with
  | zero => simp [State.advanceBy]
  | succ n ih =>
    unfold State.advanceBy
    dsimp only
    repeat' split
    all_goals simp [ih]

@[simp] theorem State.advanceTo_pending (s : State) (t : Nat) :
    (s.advanceTo t).pending = s.pending := State.advanceBy_pending _ _ _

@[simp] theorem State.enter_pending (s : State) (x : At) : (State.enter s x).pending = s.pending := by simp [State.enter]

/-! ### Operations of Machine/HostIf.lean -/

@[simp] theorem State.writeSize_pending (s : State) (port n value : Nat) :
    (State.writeSize s port n value).pending = s.pending := by simp [State.writeSize]

@[simp] theorem State.writeReg_pending (s : State) (p a w v : Nat) : (s.writeReg p a w v).pending = s.pending := by
  simp only [State.writeReg]
  repeat' split
  all_goals simp only [State.modQp_pending, State.writeSize_pending]

@[simp] theorem State.acceptPacket_pending (s : State) (n : Nat) : (State.acceptPacket s n).pending = s.pending := by
  unfold State.acceptPacket; dsimp only; repeat' split
  all_goals simp

@[simp] theorem State.loseQps_pending (s : State) (f : QueuePair → Bool) :
    (State.loseQps s f).pending = s.pending := by simp [State.loseQps]

@[simp] theorem State.portLost_pending (s : State) (port : Nat) :
    (State.portLost s port).pending = s.pending := by simp [State.portLost]

@[simp] theorem State.netPortLost_pending (s : State) (port : Nat) :
    (State.netPortLost s port).pending = s.pending := by simp [State.netPortLost]

theorem execNetRequest_pending (x : At) (dg : Datagram) (s : State) :
    ∃ t, execNetRequest x dg s = .next t ∧ t.pending = s.pending := by
  refine ⟨_, rfl, ?_⟩
  repeat' split
  all_goals simp

theorem execWaitTimeout_pending (x : At) (qp tag : Nat) (s : State) :
    ∃ t, execWaitTimeout x qp tag s = .next t ∧ t.pending = s.pending := by
  refine ⟨_, rfl, ?_⟩
  repeat' split
  all_goals simp

theorem State.run_pending {f : State → Cmd → State} (hf : ∀ s c, (f s c).pending = s.pending) (s : State) (x : At)
    (q t op : Nat) :
    (s.run x q t op f).pending = s.pending := by
  unfold State.run
  dsimp only
  repeat' split
  all_goals simp [hf]

/-! ### Operations of Machine/Wake.lean -/

@[simp] theorem State.wakePort_pending (s : State) (p : Nat) :
    (State.wakePort s p).pending = s.pending := by simp [State.wakePort]

@[simp] theorem State.wakeUsed_pending (s : State) : (State.wakeUsed s).pending = s.pending := by simp [State.wakeUsed]

/-! ### Operations of Machine/TimeCmd.lean -/

@[simp] theorem State.issueWrite_pending (s : State) (d : Nat) (op : TimeOp) (cmd : Option (Nat × Nat)) :
    (State.issueWrite s d op cmd).pending = s.pending := by simp [State.issueWrite]

@[simp] theorem State.applyWrite_pending (s : State) (w : TimeWrite) : (State.applyWrite s w).pending = s.pending := by
  unfold State.applyWrite; split <;> simp

@[simp] theorem State.ppsLow_pending (s : State) : (State.ppsLow s).pending = s.pending := by simp [State.ppsLow]

/-! ### Operations of Machine/Sched.lean -/

@[simp] theorem State.applyEvent_pending (s : State) (e : PhaseEv) :
    (State.applyEvent s e).pending = s.pending := by simp [State.applyEvent]

@[simp] theorem State.phaseEvent_pending (s : State) (e : PhaseEv) :
    (State.phaseEvent s e).pending = s.pending := by simp [State.phaseEvent]

@[simp] theorem State.moveCount_pending (s : State) (i k : Nat) (d : Int) (z : Bool) :
    (State.moveCount s i k d z).pending = s.pending := by simp [State.moveCount]

@[simp] theorem State.setEnc_pending (s : State) (i : Nat) (v : EncIn) :
    (State.setEnc s i v).pending = s.pending := by simp [State.setEnc]

@[simp] theorem State.stage_pending (s : State) (f : StagedSet → StagedSet) :
    (State.stage s f).pending = s.pending := by simp [State.stage]

@[simp] theorem State.setEntry_pending (s : State) (id : Nat) (e : Entry) :
    (State.setEntry s id e).pending = s.pending := by simp [State.setEntry]

theorem execSchedArm_pending (x : At) (qp tag : Nat) (data : Option Bytes) (s : State) :
    ∃ t, execSchedArm x qp tag data s = .next t ∧ t.pending = s.pending := by
  refine ⟨_, rfl, State.run_pending (fun s c => ?_) ..⟩
  dsimp only
  repeat' split
  all_goals simp

theorem execSchedCancel_pending (x : At) (qp tag : Nat) (data : Option Bytes) (s : State) :
    ∃ t, execSchedCancel x qp tag data s = .next t ∧ t.pending = s.pending := by
  refine ⟨_, rfl, State.run_pending (fun s c => ?_) ..⟩
  dsimp only
  repeat' split
  all_goals simp

theorem execSchedRead_pending (x : At) (qp tag : Nat) (data : Option Bytes) (s : State) :
    ∃ t, execSchedRead x qp tag data s = .next t ∧ t.pending = s.pending := by
  refine ⟨_, rfl, State.run_pending (fun s c => ?_) ..⟩
  dsimp only
  repeat' split
  all_goals simp

@[simp] theorem State.modTso_pending (s : State) (o : Nat) (f : Tso → Tso) :
    (State.modTso s o f).pending = s.pending := by simp [State.modTso]

@[simp] theorem State.edge_pending (s : State) (e : TsoEdge) : (State.edge s e).pending = s.pending := by simp [State.edge]

@[simp] theorem State.drive_pending (s : State) (id o op width at_ : Nat) :
    (State.drive s id o op width at_).pending = s.pending := by simp [State.drive]

@[simp] theorem State.outputLow_pending (s : State) (o : Nat) :
    (State.outputLow s o).pending = s.pending := by simp [State.outputLow]

/-! ### Operations of Machine/Arm.lean -/

@[simp] theorem State.armEntries_pending (s : State) (bs : List (List Entry)) (b : List Nat) :
    (s.armEntries bs b).pending = s.pending := by
  unfold State.armEntries
  refine foldl_pending _ (fun s l => ?_) _ _
  dsimp only
  split
  · rfl
  · refine foldl_pending _ (fun s k => ?_) _ _
    split <;> simp

@[simp] theorem State.disarmImage_pending (s : State) :
    (State.disarmImage s).pending = s.pending := by simp [State.disarmImage]

theorem State.rearmCommit_pending {s t : State} {e : Entry} {i : Nat} (h : s.rearmCommit e = some (i, t)) :
    t.pending = s.pending := by
  unfold State.rearmCommit at h
  repeat' split at h
  all_goals cases h
  simp

/-! ### Operations of Machine/Fabric.lean -/

@[simp] theorem State.fixPaths_pending (s : State) : (State.fixPaths s).pending = s.pending := by simp [State.fixPaths]

/-! ### Operations of Machine/Osh.lean -/

@[simp] theorem State.nextSeq_pending (s : State) (p addr type : Nat) :
    (State.nextSeq s p addr type).2.pending = s.pending := by simp [State.nextSeq]

@[simp] theorem State.setMgmt_pending (s : State) (t : Nat) (q : MgmtQueue) :
    (State.setMgmt s t q).pending = s.pending := by simp [State.setMgmt]

@[simp] theorem State.modAtt_pending (s : State) (t : Nat) (f : Attach → Attach) :
    (State.modAtt s t f).pending = s.pending := by simp [State.modAtt]

@[simp] theorem State.mgmtTx_pending (s : State) (t : Nat) (m : Mgmt) (seq rep : Nat) :
    (State.mgmtTx s t m seq rep).pending = s.pending := by simp [State.mgmtTx]

@[simp] theorem State.siteDone_pending (s : State) (t : Nat) (cmd : Option (Nat × Nat)) (status : Nat) :
    (State.siteDone s t cmd status).pending = s.pending := by
  unfold State.siteDone; split <;> simp

@[simp] theorem State.mgmtNext_pending (s : State) (t : Nat) (l : List Mgmt) : (s.mgmtNext t l).pending = s.pending := by
  induction l generalizing s with
  | nil => simp [State.mgmtNext]
  | cons m r ih =>
    unfold State.mgmtNext
    dsimp only
    repeat' split
    all_goals simp [ih]

theorem State.mgmtIssue_pending {s u : State} {t : Nat} {m : Mgmt} (h : s.mgmtIssue t m = some u) :
    u.pending = s.pending := by
  unfold State.mgmtIssue at h
  dsimp only at h
  split at h
  · cases h; exact State.mgmtNext_pending ..
  · split at h <;> cases h
    simp

/-! ### Operations of Machine/Pairs.lean -/

@[simp] theorem State.pairStarts_pending (s : State) (p : Nat × Nat) :
    (State.pairStarts s p).pending = s.pending := by simp [State.pairStarts]

@[simp] theorem State.updatePairs_pending (s : State) :
    (State.updatePairs s).pending = s.pending := by simp [State.updatePairs]

@[simp] theorem State.issueEngine_pending (s : State) (m : Nat) (xf : List (Nat × Bytes)) (src : List (Nat × SourceDef)) :
    (State.issueEngine s m xf src).pending = s.pending := by simp [State.issueEngine]

@[simp] theorem State.yieldTick_pending (s : State) (t : Nat) :
    (State.yieldTick s t).pending = s.pending := by simp [State.yieldTick]

/-! ### Operations of Machine/Module.lean -/

@[simp] theorem State.reattachDone_pending (s : State) (t status detail : Nat) :
    (State.reattachDone s t status detail).pending = s.pending := by simp [State.reattachDone]

@[simp] theorem State.attachTimeout_pending (s : State) (t : Nat) :
    (State.attachTimeout s t).pending = s.pending := by simp [State.attachTimeout]

@[simp] theorem State.issueRead_pending (s : State) (t o l : Nat) : (s.issueRead t o l).pending = s.pending := by
  unfold State.issueRead
  split
  next h => exact State.mgmtIssue_pending h
  · simp

@[simp] theorem State.startAttach_pending (s : State) (t : Nat) (again : Bool) :
    (State.startAttach s t again).pending = s.pending := by simp [State.startAttach]

@[simp] theorem State.tryAttach_pending (s : State) (m : Nat) : (State.tryAttach s m).pending = s.pending := by
  unfold State.tryAttach; split <;> simp

@[simp] theorem State.afterHub_pending (s : State) (t : Nat) :
    (State.afterHub s t).pending = s.pending := by simp [State.afterHub]

@[simp] theorem State.attachEnds_pending (s : State) (t : Nat) (st : AttachState) (status failType failCount : Nat) :
    (State.attachEnds s t st status failType failCount).pending = s.pending := by simp [State.attachEnds]

@[simp] theorem State.refuseModule_pending (s : State) (t cause level iface lo hi : Nat) :
    (State.refuseModule s t cause level iface lo hi).pending = s.pending := by simp [State.refuseModule]

@[simp] theorem State.walkFills_pending (s : State) (t : Nat) :
    (State.walkFills s t).2.pending = s.pending := by simp [State.walkFills]

@[simp] theorem State.attachWhole_pending (s : State) (t : Nat) :
    (State.attachWhole s t).pending = s.pending := by simp [State.attachWhole]

@[simp] theorem State.attachCheck_pending (s : State) (t : Nat) : (State.attachCheck s t).pending = s.pending := by
  unfold State.attachCheck; dsimp only; split <;> simp

@[simp] theorem State.attachGot_pending (s : State) (t off len : Nat) (data : Bytes) :
    (State.attachGot s t off len data).pending = s.pending := by simp [State.attachGot]

@[simp] theorem State.fwSendEnds_pending (s : State) (t status : Nat) :
    (State.fwSendEnds s t status).pending = s.pending := by
  unfold State.fwSendEnds; split <;> simp

@[simp] theorem State.fwIssue_pending (s : State) (t op off : Nat) (d : Bytes) :
    (s.fwIssue t op off d).pending = s.pending := by
  unfold State.fwIssue
  split
  next h => exact State.mgmtIssue_pending h
  · simp

@[simp] theorem State.fwGot_pending (s : State) (t op result : Nat) : (State.fwGot s t op result).pending = s.pending := by
  unfold State.fwGot; repeat' split
  all_goals simp

@[simp] theorem State.mgmtFail_pending (s : State) (t status : Nat) (m : Mgmt) :
    (State.mgmtFail s t status m).pending = s.pending := by
  unfold State.mgmtFail; split <;> simp

@[simp] theorem State.mgmtFlush_pending (s : State) (t st : Nat) : (s.mgmtFlush t st).pending = s.pending :=
  foldl_pending _ (fun _ _ => State.mgmtFail_pending ..) _ _

@[simp] theorem State.mgmtGot_pending (s : State) (t : Nat) (m : Mgmt) (result : Nat) (data : Bytes) :
    (State.mgmtGot s t m result data).pending = s.pending := by
  unfold State.mgmtGot; dsimp only; repeat' split
  all_goals simp

theorem execMgmtResp_pending (x : At) (f : OshFrame) (s : State) :
    ∃ t, execMgmtResp x f s = .next t ∧ t.pending = s.pending := by
  refine ⟨_, rfl, ?_⟩
  dsimp only
  repeat' split
  all_goals simp

theorem execModuleSiteWrite_pending (x : At) (qp tag : Nat) (data : Option Bytes) (s : State) :
    ∃ t, execModuleSiteWrite x qp tag data s = .next t ∧ t.pending = s.pending := by
  refine ⟨_, rfl, State.run_pending (fun s c => ?_) ..⟩
  dsimp only
  split
  · simp
  · split
    · simp
    · split
      next h => simp [State.mgmtIssue_pending h]
      · simp

@[simp] theorem State.recheckModules_pending (s : State) :
    (State.recheckModules s).pending = s.pending := by simp [State.recheckModules]

@[simp] theorem State.identityToDevice_pending (s : State) :
    (State.identityToDevice s).pending = s.pending := by simp [State.identityToDevice]

@[simp] theorem State.attachCommitted_pending (s : State) (t : Nat) :
    (State.attachCommitted s t).pending = s.pending := by simp [State.attachCommitted]

/-! ### Operations of Machine/Link.lean -/

@[simp] theorem State.deliverData_pending (s : State) (key : Nat) (p : Bytes) :
    (State.deliverData s key p).pending = s.pending := by simp [State.deliverData]

@[simp] theorem State.deliverEvent_pending (s : State) (m : Nat) (r : Bytes) :
    (State.deliverEvent s m r).pending = s.pending := by simp [State.deliverEvent]

@[simp] theorem State.modFrame_pending (s : State) (id no : Nat) (f : Frame → Frame) :
    (State.modFrame s id no f).pending = s.pending := by
  unfold State.modFrame; dsimp only; split <;> simp

@[simp] theorem State.noteStart_pending (s : State) (id no t mode : Nat) :
    (State.noteStart s id no t mode).pending = s.pending := by simp [State.noteStart]

@[simp] theorem State.noteLines_pending (s : State) (id : Nat) (p : Bytes) :
    (State.noteLines s id p).pending = s.pending := by simp [State.noteLines]

theorem execOshData_pending (x : At) (k : Nat) (f : OshFrame) (s : State) :
    ∃ t, execOshData x k f s = .next t ∧ t.pending = s.pending := by
  refine ⟨_, rfl, ?_⟩
  dsimp only
  repeat' split
  all_goals simp

@[simp] theorem State.lineEvent_pending (s : State) (i code count line t mode : Nat) :
    (State.lineEvent s i code count line t mode).pending = s.pending := by
  unfold State.lineEvent; dsimp only; split <;> simp

@[simp] theorem State.mainsEvent_pending (s : State) (i code count t mode : Nat) :
    (State.mainsEvent s i code count t mode).pending = s.pending := by
  unfold State.mainsEvent; split <;> simp

@[simp] theorem State.softEvent_pending (s : State) (m : Nat) :
    (State.softEvent s m).pending = s.pending := by simp [State.softEvent]

@[simp] theorem State.oshRecord_pending (s : State) (m : Nat) (r : Bytes) :
    (State.oshRecord s m r).pending = s.pending := by simp [State.oshRecord]

theorem execOshEvent_pending (x : At) (k : Nat) (f : OshFrame) (s : State) :
    ∃ t, execOshEvent x k f s = .next t ∧ t.pending = s.pending := by
  refine ⟨_, rfl, ?_⟩
  dsimp only
  repeat' split
  all_goals simp

@[simp] theorem State.linkPkt_pending (s : State) (buf : Nat) : (State.linkPkt s buf).pending = s.pending := by
  unfold State.linkPkt; split <;> simp

@[simp] theorem State.moduleDown_pending (s : State) (m status : Nat) :
    (State.moduleDown s m status).pending = s.pending := by simp [State.moduleDown]

@[simp] theorem State.dropWaiting_pending (s : State) (p cls : Nat) :
    (State.dropWaiting s p cls).pending = s.pending := by simp [State.dropWaiting]

@[simp] theorem State.portGone_pending (s : State) (p status : Nat) :
    (State.portGone s p status).pending = s.pending := by simp [State.portGone]

@[simp] theorem State.groupDone_pending (s : State) (p status : Nat) :
    (State.groupDone s p status).pending = s.pending := by simp [State.groupDone]

@[simp] theorem State.sportLost_pending (s : State) (p : Nat) :
    (State.sportLost s p).pending = s.pending := by simp [State.sportLost]

@[simp] theorem State.groupAwake_pending (s : State) (p : Nat) :
    (State.groupAwake s p).pending = s.pending := by simp [State.groupAwake]

@[simp] theorem State.checkAwake_pending (s : State) (p : Nat) :
    (State.checkAwake s p).pending = s.pending := by simp [State.checkAwake]

@[simp] theorem State.setModulePort_pending (s : State) (p n : Nat) (up : Bool) :
    (State.setModulePort s p n up).pending = s.pending := by simp [State.setModulePort]

@[simp] theorem State.propose_pending (s : State) (p : Nat) (cmd : Option (Nat × Nat)) :
    (State.propose s p cmd).pending = s.pending := by simp [State.propose]

@[simp] theorem State.sleepFlush_pending (s : State) (p : Nat) :
    (State.sleepFlush s p).pending = s.pending := by simp [State.sleepFlush]

/-! ### Operations of Machine/Mem.lean -/

@[simp] theorem State.putEng_pending (s : State) (p kind w d c : Nat) :
    (State.putEng s p kind w d c).pending = s.pending := by simp [State.putEng]

@[simp] theorem State.readEng_pending (s : State) (p kind w : Nat) : (State.readEng s p kind w).2.pending = s.pending := by
  unfold State.readEng; split <;> simp

@[simp] theorem State.flipEng_pending (s : State) (p kind w mask : Nat) :
    (State.flipEng s p kind w mask).pending = s.pending := by simp [State.flipEng]

@[simp] theorem State.writeEng_pending (s : State) (p kind off : Nat) (b : Bytes) :
    (State.writeEng s p kind off b).pending = s.pending := by simp [State.writeEng]

@[simp] theorem State.putWord_pending (s : State) (g w d c : Nat) :
    (State.putWord s g w d c).pending = s.pending := by simp [State.putWord]

@[simp] theorem State.poisonWord_pending (s : State) (g w d : Nat) :
    (State.poisonWord s g w d).pending = s.pending := by simp [State.poisonWord]

@[simp] theorem State.cellEvent_pending (s : State) (kind g detail : Nat) :
    (State.cellEvent s kind g detail).pending = s.pending := by simp [State.cellEvent]

@[simp] theorem State.readWord_pending (s : State) (g w : Nat) : (State.readWord s g w).2.pending = s.pending := by
  unfold State.readWord; split <;> simp

@[simp] theorem State.fullWrite_pending (s : State) (g w v : Nat) :
    (State.fullWrite s g w v).pending = s.pending := by simp [State.fullWrite]

@[simp] theorem State.writeWord_pending (s : State) (g w v mask : Nat) :
    (State.writeWord s g w v mask).2.pending = s.pending := by
  unfold State.writeWord; repeat' split
  all_goals simp

@[simp] theorem State.zeroCell_pending (s : State) (g : Nat) :
    (State.zeroCell s g).pending = s.pending := by simp [State.zeroCell]

@[simp] theorem State.countAccess_pending (s : State) (g : Nat) (ue : Bool) (banks : List Nat) :
    (State.countAccess s g ue banks).2.pending = s.pending := by
  unfold State.countAccess; dsimp only; split <;> simp

@[simp] theorem State.putLine1_pending (s : State) (r addr : Nat) (l : Bytes) :
    (State.putLine1 s r addr l).pending = s.pending := by simp [State.putLine1]

@[simp] theorem State.noteExtent_pending (s : State) (r addr : Nat) :
    (State.noteExtent s r addr).pending = s.pending := by simp [State.noteExtent]

@[simp] theorem State.putLine_pending (s : State) (r addr : Nat) (l : Bytes) :
    (State.putLine s r addr l).pending = s.pending := by simp [State.putLine]

@[simp] theorem State.listPoison_pending (s : State) (r a : Nat) : (s.listPoison r a).pending = s.pending := by
  unfold State.listPoison
  exact foldl_pending _ (by intros; rfl) _ _

@[simp] theorem State.readLine_pending (s : State) (r addr : Nat) : (State.readLine s r addr).2.pending = s.pending := by
  unfold State.readLine; dsimp only; split <;> simp

@[simp] theorem State.fullLine_pending (s : State) (r addr : Nat) (d : Bytes) :
    (State.fullLine s r addr d).pending = s.pending := by simp [State.fullLine]

@[simp] theorem State.writeLine_pending (s : State) (r addr : Nat) (d : Bytes) (mask : Nat) :
    (State.writeLine s r addr d mask).2.pending = s.pending := by
  unfold State.writeLine; dsimp only; repeat' split
  all_goals simp

/-! ### Operations of Machine/Residency.lean -/

@[simp] theorem State.counted_pending (s : State) (g : Nat) (a : Access) (bank : Nat) :
    (State.counted s g a bank).pending = s.pending := by
  unfold State.counted; dsimp only; split <;> simp

@[simp] theorem State.readWords_pending (s : State) (g off n : Nat) :
    (State.readWords s g off n).2.pending = s.pending := by simp [State.readWords]

@[simp] theorem State.writeWords_pending (s : State) (g off : Nat) (b : Bytes) :
    (State.writeWords s g off b).2.pending = s.pending := by simp [State.writeWords]

@[simp] theorem State.readCell_pending (s : State) (g off n : Nat) :
    (State.readCell s g off n).2.pending = s.pending := by simp [State.readCell]

@[simp] theorem State.writeCell_pending (s : State) (g off : Nat) (b : Bytes) :
    (State.writeCell s g off b).pending = s.pending := by simp [State.writeCell]

@[simp] theorem State.readNow_pending (s : State) (r a : Nat) : (s.readNow r a).2.pending = s.pending := by
  have h : ∀ (p : Option Bytes × State) (t : Transfer), (match s.pendingLine r a t with
      | some b => (if p.2.free.1 % 2 = 1 then some b else p.1, p.2.free.2)
      | none => p).2.pending = p.2.pending := by
    intro p t; split <;> simp
  unfold State.readNow
  dsimp only
  split
  · exact foldl_snd_pending _ h _ _
  · exact (State.readLine_pending ..).trans (foldl_snd_pending _ h _ _)

@[simp] theorem State.tornWrite_pending (s : State) (t : Transfer) : (s.tornWrite t).pending = s.pending := by
  unfold State.tornWrite
  split
  · rfl
  · split
    · rfl
    · refine foldl_pending _ (fun s i => ?_) _ _
      split <;> simp

@[simp] theorem State.readStore_pending (s : State) (r addr n : Nat) :
    (State.readStore s r addr n).2.pending = s.pending := by simp [State.readStore]

@[simp] theorem State.writeStore_pending (s : State) (r addr : Nat) (b : Bytes) :
    (State.writeStore s r addr b).2.pending = s.pending := by simp [State.writeStore]

/-! ### Operations of Machine/StageOut.lean -/

@[simp] theorem State.readRegion_pending (s : State) (r off n : Nat) :
    (State.readRegion s r off n).2.pending = s.pending := by
  unfold State.readRegion; split <;> simp

@[simp] theorem State.writeRegion_pending (s : State) (r off : Nat) (b : Bytes) :
    (State.writeRegion s r off b).pending = s.pending := by
  unfold State.writeRegion; split <;> simp

@[simp] theorem State.freeBytes_pending (s : State) (n : Nat) :
    (State.freeBytes s n).2.pending = s.pending := by simp [State.freeBytes]

@[simp] theorem State.setRun_pending (s : State) (i : Nat) (r : StageRun) :
    (State.setRun s i r).pending = s.pending := by simp [State.setRun]

@[simp] theorem State.endRun_pending (s : State) (i : Nat) : (State.endRun s i).pending = s.pending := by simp [State.endRun]

theorem State.asOld_pending {f : State → State} {back : State → Nat → State} (hf : ∀ s, (f s).pending = s.pending)
    (hb : ∀ s i, (back s i).pending = s.pending) (s : State) (k : Nat) : (s.asOld k f back).pending = s.pending := by
  unfold State.asOld
  split <;> simp [hf, hb]

theorem State.asFired_pending {f : State → State} {back : State → Nat → State} (hf : ∀ s, (f s).pending = s.pending)
    (hb : ∀ s i, (back s i).pending = s.pending) (s : State) (k : Nat) : (s.asFired k f back).pending = s.pending := by
  unfold State.asFired
  split <;> simp [hf, hb, State.asOld_pending]

@[simp] theorem State.putRecord_pending (s : State) (i : Nat) (r : StageRun) (payload : Bytes) (keep : Nat) :
    (State.putRecord s i r payload keep).pending = s.pending := by simp [State.putRecord]

@[simp] theorem State.inHead_pending (s : State) (r : Nat) : (State.inHead s r).2.pending = s.pending := by
  unfold State.inHead; repeat' split
  all_goals simp

@[simp] theorem State.inPayload_pending (s : State) (r : Nat) : (State.inPayload s r).2.pending = s.pending := by
  unfold State.inPayload; dsimp only; repeat' split
  all_goals simp

@[simp] theorem State.absentInput_pending (s : State) (d : StageDesc) :
    (State.absentInput s d).2.pending = s.pending := by simp [State.absentInput]

/-! ### Operations of Machine/Wafer.lean -/

@[simp] theorem State.chooseDw_pending (s : State) (len : Nat) :
    (State.chooseDw s len).pending = s.pending := by simp [State.chooseDw]

@[simp] theorem State.startPause_pending (s : State) (p : Nat) :
    (State.startPause s p).pending = s.pending := by simp [State.startPause]

@[simp] theorem State.wipeSuper_pending (s : State) (p : Nat) :
    (State.wipeSuper s p).pending = s.pending := by simp [State.wipeSuper]

@[simp] theorem State.disarmCommit_pending (s : State) (status : Nat) (back : Bool) :
    (State.disarmCommit s status back).pending = s.pending := by
  unfold State.disarmCommit; split <;> simp

@[simp] theorem State.dropEntries_pending (s : State) (p : Nat) : (s.dropEntries p).pending = s.pending := by
  unfold State.dropEntries
  refine foldl_pending _ (fun s e => ?_) _ _
  dsimp only
  repeat' split
  next h => simp [State.rearmCommit_pending h]
  all_goals simp

@[simp] theorem State.dropOwnRuns_pending (s : State) (p : Nat) : (s.dropOwnRuns p).pending = s.pending := by
  unfold State.dropOwnRuns
  refine foldl_pending _ (fun s e => ?_) _ _
  repeat' split
  all_goals simp

@[simp] theorem State.dropRuns_pending (s : State) (p : Nat) : (s.dropRuns p).pending = s.pending :=
  (foldl_pending _ (fun _ _ => State.asOld_pending (fun _ => State.dropOwnRuns_pending ..) (fun _ _ => rfl) _ _) _ _).trans
    (State.dropOwnRuns_pending ..)

@[simp] theorem State.dropTracks_pending (s : State) (p : Nat) :
    (State.dropTracks s p).pending = s.pending := by simp [State.dropTracks]

@[simp] theorem State.reportEdge_pending (s : State) (id src n : Nat) :
    (State.reportEdge s id src n).pending = s.pending := by
  unfold State.reportEdge; split <;> simp

@[simp] theorem State.unknownEdge_pending (s : State) (id : Nat) (slot : Option Nat) :
    (State.unknownEdge s id slot).pending = s.pending := by
  unfold State.unknownEdge; split <;> simp

@[simp] theorem State.dropEdges_pending (s : State) (p : Nat) :
    (State.dropEdges s p).pending = s.pending := by simp [State.dropEdges]

@[simp] theorem State.restartJobs_pending (s : State) (gone : Nat → Bool) :
    (State.restartJobs s gone).pending = s.pending := by simp [State.restartJobs]

@[simp] theorem State.dropSweep_pending (s : State) (p : Nat) :
    (State.dropSweep s p).pending = s.pending := by simp [State.dropSweep]

@[simp] theorem State.modHead_pending (s : State) (h : Nat) (f : Head → Head) :
    (State.modHead s h f).pending = s.pending := by simp [State.modHead]

@[simp] theorem State.dropHead_pending (s : State) (h p : Nat) :
    (State.dropHead s h p).pending = s.pending := by simp [State.dropHead]

@[simp] theorem State.endImageCmds_pending (s : State) (status : Nat) :
    (State.endImageCmds s status).pending = s.pending := by simp [State.endImageCmds]

@[simp] theorem State.endQuiesce_pending (s : State) : (State.endQuiesce s).pending = s.pending := by simp [State.endQuiesce]

@[simp] theorem State.moveOver_pending (s : State) : (State.moveOver s).pending = s.pending := by
  unfold State.moveOver; dsimp only; split <;> simp

@[simp] theorem State.unload_pending (s : State) (status : Nat) : (State.unload s status).pending = s.pending := by
  unfold State.unload; dsimp only; split <;> simp

@[simp] theorem State.toReady_pending (s : State) : (State.toReady s).pending = s.pending := by simp [State.toReady]

@[simp] theorem State.noPlacement_pending (s : State) :
    (State.noPlacement s).pending = s.pending := by simp [State.noPlacement]

@[simp] theorem State.sealEvent_pending (s : State) : (State.sealEvent s).pending = s.pending := by
  unfold State.sealEvent; dsimp only; split <;> simp

@[simp] theorem State.giveSpare_pending (s : State) (p l : Nat) : (State.giveSpare s p l).pending = s.pending := by
  unfold State.giveSpare; dsimp only; split <;> simp

@[simp] theorem State.retire_pending (s : State) (g cause : Nat) : (State.retire s g cause).pending = s.pending := by
  unfold State.retire; dsimp only; split <;> simp

@[simp] theorem State.retireDue_pending (s : State) : (State.retireDue s).pending = s.pending := by simp [State.retireDue]

@[simp] theorem State.fillRegion_pending (s : State) (m : HiveImg) (r : Nat) :
    (State.fillRegion s m r).pending = s.pending := by
  unfold State.fillRegion; split <;> simp

@[simp] theorem State.fillRegions_pending (s : State) (rs : List Nat) : (State.fillRegions s rs).pending = s.pending := by
  unfold State.fillRegions; split <;> simp

@[simp] theorem State.serveAlone_pending (s : State) (r : Nat) :
    (State.serveAlone s r).pending = s.pending := by simp [State.serveAlone]

@[simp] theorem State.dropRow_pending (s : State) (r : Nat) :
    (State.dropRow s r).pending = s.pending := by simp [State.dropRow]

@[simp] theorem State.undelivered_pending (s : State) (k : Nat) : (State.undelivered s k).pending = s.pending := by
  unfold State.undelivered; split <;> simp

@[simp] theorem State.rowLeaves_pending (s : State) (r : Nat) (st : RowState) :
    (State.rowLeaves s r st).pending = s.pending := by
  unfold State.rowLeaves; dsimp only; repeat' split
  all_goals simp

@[simp] theorem State.rowDark_pending (s : State) (r : Nat) :
    (State.rowDark s r).pending = s.pending := by simp [State.rowDark]

@[simp] theorem State.bundleDown_pending (s : State) (sup : Nat) :
    (State.bundleDown s sup).pending = s.pending := by simp [State.bundleDown]

@[simp] theorem State.dropTransfers_pending (s : State) (p : Nat) :
    (State.dropTransfers s p).pending = s.pending := by simp [State.dropTransfers]

@[simp] theorem State.dropIo_pending (s : State) (p : Nat) : (State.dropIo s p).pending = s.pending := by simp [State.dropIo]

@[simp] theorem State.dropSuper_pending (s : State) (p : Nat) :
    (State.dropSuper s p).pending = s.pending := by simp [State.dropSuper]

@[simp] theorem State.recordSeal_pending (s : State) (p cause : Nat) :
    (State.recordSeal s p cause).pending = s.pending := by simp [State.recordSeal]

@[simp] theorem State.regionOff_pending (s : State) (p : Nat) :
    (State.regionOff s p).pending = s.pending := by simp [State.regionOff]

@[simp] theorem State.regionOn_pending (s : State) (p : Nat) :
    (State.regionOn s p).pending = s.pending := by simp [State.regionOn]

@[simp] theorem State.powerBefore_pending (s : State) (p : Nat) :
    (State.powerBefore s p).pending = s.pending := by simp [State.powerBefore]

@[simp] theorem State.mark_pending (s : State) (p st : Nat) (prov : Option Nat) :
    (State.mark s p st prov).pending = s.pending := by simp [State.mark]

@[simp] theorem State.firmEnclosures_pending (s : State) :
    (State.firmEnclosures s).pending = s.pending := by simp [State.firmEnclosures]

@[simp] theorem State.enclose_pending (s : State) : (State.enclose s).pending = s.pending := by simp [State.enclose]

@[simp] theorem State.afterNotice_pending (s : State) :
    (State.afterNotice s).pending = s.pending := by simp [State.afterNotice]

@[simp] theorem State.sealSuper_pending (s : State) (p cause : Nat) (prov : Option Nat) :
    (State.sealSuper s p cause prov).pending = s.pending := by simp [State.sealSuper]

@[simp] theorem State.confirmSeal_pending (s : State) (p : Nat) :
    (State.confirmSeal s p).pending = s.pending := by simp [State.confirmSeal]

@[simp] theorem State.undoProvisional_pending (s : State) :
    (State.undoProvisional s).pending = s.pending := by simp [State.undoProvisional]

@[simp] theorem State.removeKeeper_pending (s : State) (core cause : Nat) :
    (State.removeKeeper s core cause).pending = s.pending := by simp [State.removeKeeper]

theorem execKeeperCacheUe_pending (x : At) (core : Nat) (cmds : List (Nat × Nat)) (s : State) :
    ∃ t, execKeeperCacheUe x core cmds s = .next t ∧ t.pending = s.pending := by
  refine ⟨_, rfl, ?_⟩
  split
  · refine (foldl_pending _ (fun s c => ?_) _ _).trans (by simp)
    repeat' split
    all_goals simp
  · simp

/-! ### Operations of Machine/Vision.lean -/

@[simp] theorem State.keepBuf_pending (s : State) (v : VeBuf) :
    (State.keepBuf s v).pending = s.pending := by simp [State.keepBuf]

@[simp] theorem State.rectImage_pending (s : State) (d : StageDesc) (tk : Nat) (j : Option Nat) (r w h : Nat) :
    (s.rectImage d tk j r w h).2.pending = s.pending := State.inPayload_pending s r

@[simp] theorem State.cornerInput_pending (s : State) (r : Nat) :
    (State.cornerInput s r).2.pending = s.pending := by simp [State.cornerInput]

@[simp] theorem State.predInput_pending (s : State) (r : Nat) :
    (State.predInput s r).2.pending = s.pending := by simp [State.predInput]

@[simp] theorem State.predictions_pending (s : State) (i n : Nat) (v : VeDesc) :
    (State.predictions s i n v).2.pending = s.pending := by
  unfold State.predictions; dsimp only; repeat' split
  all_goals simp

@[simp] theorem State.jobImages_pending (s : State) (d : StageDesc) (v : VeDesc) (r : StageRun) :
    (State.jobImages s d v r).2.pending = s.pending := by
  unfold State.jobImages; split <;> simp

@[simp] theorem State.publish_pending (s : State) (i : Nat) (v : VeDesc) (r : StageRun) (stagePass : Nat) :
    (State.publish s i v r stagePass).pending = s.pending := by
  unfold State.publish; split <;> simp

@[simp] theorem State.failJob_pending (s : State) (i : Nat) (v : VeDesc) (r : StageRun) :
    (State.failJob s i v r).pending = s.pending := by simp [State.failJob]

@[simp] theorem State.patternOf_pending (s : State) (v : VeDesc) : (State.patternOf s v).2.pending = s.pending := by
  unfold State.patternOf; split <;> simp

@[simp] theorem State.jobPoints_pending (s : State) (v : VeDesc) (g : Img) :
    (State.jobPoints s v g).2.pending = s.pending := by
  unfold State.jobPoints; split <;> simp

@[simp] theorem State.publishOne_pending (s : State) (i : Nat) (v : VeDesc) (r : StageRun) (later : List VeItem) :
    (State.publishOne s i v r later).pending = s.pending := by simp [State.publishOne]

@[simp] theorem State.passOneBlocks_pending (s : State) (i : Nat) (d : StageDesc) (v : VeDesc) (r : StageRun) (ue : Bool) :
    (State.passOneBlocks s i d v r ue).pending = s.pending := by
  unfold State.passOneBlocks; dsimp only; split <;> simp

@[simp] theorem State.passOneMatch_pending (s : State) (i : Nat) (v : VeDesc) (r : StageRun) (ue : Bool) :
    (State.passOneMatch s i v r ue).pending = s.pending := by
  unfold State.passOneMatch; dsimp only; split <;> simp

@[simp] theorem State.passOneLevels_pending (s : State) (i : Nat) (d : StageDesc) (v : VeDesc) (r : StageRun) (ue : Bool) :
    (State.passOneLevels s i d v r ue).pending = s.pending := by
  unfold State.passOneLevels; split <;> simp

@[simp] theorem State.passTwoBlocks_pending (s : State) (d : StageDesc) (v : VeDesc) (r : StageRun) :
    (State.passTwoBlocks s d v r).2.pending = s.pending := by simp [State.passTwoBlocks]

@[simp] theorem State.dropParts_pending (s : State) (i seq : Nat) :
    (State.dropParts s i seq).pending = s.pending := by simp [State.dropParts]

@[simp] theorem State.hostFinal_pending (s : State) (i : Nat) (v : VeDesc) (r : StageRun) :
    (State.hostFinal s i v r).pending = s.pending := by simp [State.hostFinal]

@[simp] theorem State.setExport_pending (s : State) (i : Nat) (e : MatchExport) :
    (State.setExport s i e).pending = s.pending := by simp [State.setExport]

@[simp] theorem State.noExport_pending (s : State) (i : Nat) (r : StageRun) (status : Nat) :
    (State.noExport s i r status).pending = s.pending := by simp [State.noExport]

@[simp] theorem State.makeExport_pending (s : State) (i : Nat) (d : StageDesc) (v : VeDesc) (r : StageRun) :
    (State.makeExport s i d v r).pending = s.pending := by
  unfold State.makeExport; dsimp only; repeat' split
  all_goals simp

@[simp] theorem State.listAbsent_pending (s : State) (v : VeDesc) : (State.listAbsent s v).2.pending = s.pending := by
  unfold State.listAbsent; split <;> simp

@[simp] theorem State.startVe_pending (s : State) (i : Nat) (d : StageDesc) (r : StageRun) :
    (State.startVe s i d r).pending = s.pending := by
  unfold State.startVe; dsimp only; split <;> simp

@[simp] theorem State.readBufs_pending (s : State) (d : StageDesc) (v : VeDesc) (r : StageRun) (bad : List (Nat × Nat)) (second : Bool) :
    (State.readBufs s d v r bad second).2.pending = s.pending := by
  unfold State.readBufs; grind

theorem State.asPass_pending {f : State → State} {back : State → Nat → State} (hf : ∀ s, (f s).pending = s.pending)
    (hb : ∀ s i, (back s i).pending = s.pending) (s : State) (i : Nat) (b : Bool) :
    (s.asPass i b f back).pending = s.pending := by
  unfold State.asPass
  split <;> simp [hf, hb, State.asOld_pending]

theorem execVeMatchRead_pending (x : At) (qp tag : Nat) (data : Option Bytes) (s : State) :
    ∃ t, execVeMatchRead x qp tag data s = .next t ∧ t.pending = s.pending := by
  refine ⟨_, rfl, (State.retireDue_pending _).trans (State.run_pending (fun s c => ?_) ..)⟩
  dsimp only
  repeat' split
  all_goals simp

@[simp] theorem State.keepPart_pending (s : State) (i seq : Nat) (items : List (Nat × Bytes)) :
    (State.keepPart s i seq items).pending = s.pending := by simp [State.keepPart]

theorem execVeMatchSubmit_pending (x : At) (qp tag : Nat) (data : Option Bytes) (s : State) :
    ∃ t, execVeMatchSubmit x qp tag data s = .next t ∧ t.pending = s.pending := by
  refine ⟨_, rfl, (State.retireDue_pending _).trans (State.run_pending (fun s c => ?_) ..)⟩
  dsimp only
  repeat' split
  all_goals simp

/-! ### Operations of Machine/Fusion.lean -/

@[simp] theorem State.setTrack_pending (s : State) (id : Nat) (k : Track) :
    (State.setTrack s id k).pending = s.pending := by simp [State.setTrack]

@[simp] theorem State.restartAgent_pending (s : State) (a : AgentDesc) :
    (State.restartAgent s a).pending = s.pending := by simp [State.restartAgent]

@[simp] theorem State.rewriteSlot_pending (s : State) (id : Nat) : (State.rewriteSlot s id).pending = s.pending := by
  unfold State.rewriteSlot; repeat' split
  all_goals simp

@[simp] theorem State.noiseTable_pending (s : State) (t : TfeDesc) :
    (State.noiseTable s t).2.pending = s.pending := by simp [State.noiseTable]

@[simp] theorem State.moveSlot_pending (s : State) (r : StageRun) (q : Vec) (id : Nat) :
    (State.moveSlot s r q id).pending = s.pending := by simp [State.moveSlot]

@[simp] theorem State.freeObjects_pending (s : State) (l : List Nat) (p : Track → Bool) :
    (s.freeObjects l p).2.pending = s.pending := by
  unfold State.freeObjects
  refine foldl_snd_pending _ (fun a id => ?_) _ _
  dsimp only
  split <;> simp

@[simp] theorem State.moveRange_pending (s : State) (r : StageRun) (t : TfeDesc) (q : Vec) :
    (State.moveRange s r t q).2.pending = s.pending := by simp [State.moveRange]

@[simp] theorem State.publishPoses_pending (s : State) (l : List Nat) : (s.publishPoses l).pending = s.pending := by
  unfold State.publishPoses
  refine foldl_pending _ (fun s id => ?_) _ _
  dsimp only
  repeat' split
  all_goals rfl

@[simp] theorem State.birth_pending (s : State) (r : StageRun) (t : TfeDesc) (var0 : Vec) (v : Seen) :
    (State.birth s r t var0 v).2.pending = s.pending := by
  unfold State.birth; dsimp only; repeat' split
  all_goals simp

@[simp] theorem State.coastOthers_pending (s : State) (ids updated : List Nat) :
    (State.coastOthers s ids updated).pending = s.pending := by simp [State.coastOthers]

@[simp] theorem State.associate_pending (s : State) (r : StageRun) (t : TfeDesc) (v : Vec) (obs : List Seen) :
    (s.associate r t v obs).2.pending = s.pending := by
  unfold State.associate
  dsimp only
  refine (foldl_snd_pending _ (fun a n => ?_) _ _).trans (by simp)
  repeat' split
  all_goals simp

@[simp] theorem State.hostPair_pending (s : State) (r : StageRun) (t : TfeDesc) (var0 : Vec) (v : Seen) (b : Bytes) :
    (State.hostPair s r t var0 v b).2.pending = s.pending := by
  unfold State.hostPair; dsimp only; repeat' split
  all_goals simp

@[simp] theorem State.hostAssociate_pending (s : State) (r : StageRun) (t : TfeDesc) (v : Vec) (obs : List Seen) (is : List (Nat × Bytes)) :
    (s.hostAssociate r t v obs is).2.pending = s.pending := by
  unfold State.hostAssociate
  dsimp only
  refine (State.coastOthers_pending ..).trans (foldl_snd_pending _ (fun a n => ?_) _ _)
  split <;> simp

@[simp] theorem State.obsInput_pending (s : State) (t : TfeDesc) : (State.obsInput s t).2.pending = s.pending := by
  unfold State.obsInput; dsimp only; split <;> simp

@[simp] theorem State.endTfe_pending (s : State) (i : Nat) (d : StageDesc) (r : StageRun) (slotUe : List Nat) (ue : Bool) :
    (State.endTfe s i d r slotUe ue).pending = s.pending := by
  unfold State.endTfe; dsimp only; repeat' split
  all_goals simp

theorem execTfeObsRead_pending (x : At) (qp tag : Nat) (data : Option Bytes) (s : State) :
    ∃ t, execTfeObsRead x qp tag data s = .next t ∧ t.pending = s.pending := by
  refine ⟨_, rfl, (State.retireDue_pending _).trans (State.run_pending (fun s c => ?_) ..)⟩
  dsimp only
  repeat' split
  all_goals simp

theorem execTfeAssocSubmit_pending (x : At) (qp tag : Nat) (data : Option Bytes) (s : State) :
    ∃ t, execTfeAssocSubmit x qp tag data s = .next t ∧ t.pending = s.pending := by
  refine ⟨_, rfl, (State.retireDue_pending _).trans (State.run_pending (fun s c => ?_) ..)⟩
  dsimp only
  repeat' split
  all_goals simp

/-! ### Operations of Machine/AgentTx.lean -/

@[simp] theorem State.nextAgSeq_pending (s : State) (agent type : Nat) :
    (State.nextAgSeq s agent type).2.pending = s.pending := by simp [State.nextAgSeq]

@[simp] theorem State.agentTx_pending (s : State) (b : Binding) (msg : Bytes) :
    (State.agentTx s b msg).pending = s.pending := by simp [State.agentTx]

@[simp] theorem State.setRoute_pending (s : State) (a : Nat) (v : Route) :
    (State.setRoute s a v).pending = s.pending := by simp [State.setRoute]

@[simp] theorem State.awaitHost_pending (s : State) (a edge : Nat) :
    (State.awaitHost s a edge).pending = s.pending := by simp [State.awaitHost]

@[simp] theorem State.sendSeg_pending (s : State) (a : Nat) (payload : Bytes) :
    (State.sendSeg s a payload).pending = s.pending := by
  unfold State.sendSeg; split <;> simp

@[simp] theorem State.sendRoute_pending (s : State) (a from_ : Nat) : (State.sendRoute s a from_).pending = s.pending := by
  unfold State.sendRoute; split <;> simp

@[simp] theorem State.dropOldSegs_pending (s : State) (a : Nat) : (State.dropOldSegs s a).pending = s.pending := by
  unfold State.dropOldSegs; split <;> simp

@[simp] theorem State.sendHold_pending (s : State) (a : Nat) (blocked : Bool) :
    (State.sendHold s a blocked).pending = s.pending := by simp [State.sendHold]

/-! ### Operations of Machine/Route.lean -/

@[simp] theorem State.occDelta_pending (s : State) (v : Nat) (set : Bool) (src origin : Nat) :
    (State.occDelta s v set src origin).2.pending = s.pending := by
  unfold State.occDelta; split <;> simp

@[simp] theorem State.slotDelta_pending (s : State) (id v : Nat) (set : Bool) (src : Nat) :
    (State.slotDelta s id v set src).pending = s.pending := by
  unfold State.slotDelta; split <;> simp

@[simp] theorem State.slotWordUe_pending (s : State) (id : Nat) : (State.slotWordUe s id).pending = s.pending := by
  unfold State.slotWordUe; split <;> simp

@[simp] theorem State.countSlot_pending (s : State) (id : Nat) (slot : Option Nat) :
    (State.countSlot s id slot).pending = s.pending := by
  unfold State.countSlot; split <;> simp

theorem execRecountComplete_pending (x : At) (edge : Nat) (s : State) :
    ∃ t, execRecountComplete x edge s = .next t ∧ t.pending = s.pending := by
  refine ⟨_, rfl, ?_⟩
  dsimp only
  repeat' split
  all_goals simp

@[simp] theorem State.readEvents_pending (s : State) (c : Cmd) :
    (State.readEvents s c).pending = s.pending := by simp [State.readEvents]

@[simp] theorem State.routeEvent_pending (s : State) (a ev cause : Nat) :
    (State.routeEvent s a ev cause).pending = s.pending := by
  unfold State.routeEvent; dsimp only; repeat' split
  all_goals simp

@[simp] theorem State.dropJobs_pending (s : State) (a : Nat) :
    (State.dropJobs s a).pending = s.pending := by simp [State.dropJobs]

@[simp] theorem State.issueRoute_pending (s : State) (a : Nat) (edges : List Nat) (goal cur : Nat) (host : Bool) (cause : Nat) :
    (State.issueRoute s a edges goal cur host cause).pending = s.pending := by simp [State.issueRoute]

@[simp] theorem State.holdAgent_pending (s : State) (a : Nat) (current ended : Bool) (ev cause : Nat) :
    (State.holdAgent s a current ended ev cause).pending = s.pending := by simp [State.holdAgent]

@[simp] theorem State.endRoute_pending (s : State) (a ev : Nat) :
    (State.endRoute s a ev).pending = s.pending := by simp [State.endRoute]

@[simp] theorem State.addJob_pending (s : State) (a : Nat) (w : RouteWork) (tick : Nat) :
    (State.addJob s a w tick).pending = s.pending := by simp [State.addJob]

@[simp] theorem State.edgeMeets_pending (s : State) (r : BlockedRec) (cls a : Nat) :
    (State.edgeMeets s r cls a).pending = s.pending := by simp [State.edgeMeets]

@[simp] theorem State.putJob_pending (s : State) (j : RouteJob) (n : Option RouteJob) :
    (State.putJob s j n).pending = s.pending := by simp [State.putJob]

@[simp] theorem State.noRoute_pending (s : State) (j : RouteJob) : (State.noRoute s j).pending = s.pending := by
  unfold State.noRoute; split <;> simp

@[simp] theorem State.routeFound_pending (s : State) (j : RouteJob) (edges : List Nat) :
    (State.routeFound s j edges).pending = s.pending := by
  unfold State.routeFound; split <;> simp

@[simp] theorem State.endSearch_pending (s : State) (j : RouteJob) : (State.endSearch s j).pending = s.pending := by
  unfold State.endSearch; repeat' split
  all_goals simp

theorem execRouteCancel_pending (x : At) (qp tag : Nat) (data : Option Bytes) (s : State) :
    ∃ t, execRouteCancel x qp tag data s = .next t ∧ t.pending = s.pending := by
  refine ⟨_, rfl, State.run_pending (fun s c => ?_) ..⟩
  dsimp only
  repeat' split
  all_goals simp

/-! ### Operations of Machine/Agent.lean -/

theorem execHello_pending (x : At) (k : Nat) (f : EthFrame) (s : State) :
    ∃ t, execHello x k f s = .next t ∧ t.pending = s.pending := by
  refine ⟨_, rfl, ?_⟩
  dsimp only
  repeat' split
  all_goals simp

@[simp] theorem State.refreshPoses_pending (s : State) (as : List Nat) :
    (State.refreshPoses s as).pending = s.pending := by simp [State.refreshPoses]

@[simp] theorem State.clearPoses_pending (s : State) : (State.clearPoses s).pending = s.pending := by simp [State.clearPoses]

theorem execOdo_pending (x : At) (k : Nat) (f : EthFrame) (s : State) :
    ∃ t, execOdo x k f s = .next t ∧ t.pending = s.pending := by
  refine ⟨_, rfl, ?_⟩
  dsimp only
  repeat' split
  all_goals simp

theorem execRouteRetryTimer_pending (x : At) (agent : Nat) (s : State) :
    ∃ t, execRouteRetryTimer x agent s = .next t ∧ t.pending = s.pending := by
  refine ⟨_, rfl, ?_⟩
  dsimp only
  repeat' split
  all_goals simp

@[simp] theorem State.commitGate_pending (s : State) (port : Nat) (g : GateList) :
    (State.commitGate s port g).pending = s.pending := by simp [State.commitGate]

@[simp] theorem State.fillAgent_pending (s : State) (b : Bytes) (o : Nat) :
    (State.fillAgent s b o).2.pending = s.pending := by simp [State.fillAgent]

@[simp] theorem State.agentPkt_pending (s : State) (buf : Nat) : (State.agentPkt s buf).pending = s.pending := by
  unfold State.agentPkt; dsimp only; repeat' split
  all_goals simp

/-! ### Operations of Machine/Compose.lean -/

@[simp] theorem State.modLayer_pending (s : State) (h l : Nat) (f : Layer → Layer) :
    (State.modLayer s h l f).pending = s.pending := by simp [State.modLayer]

theorem execLayerUpload_pending (x : At) (qp tag : Nat) (data : Option Bytes) (s : State) :
    ∃ t, execLayerUpload x qp tag data s = .next t ∧ t.pending = s.pending := by
  refine ⟨_, rfl, State.run_pending (fun s c => ?_) ..⟩
  dsimp only
  repeat' split
  all_goals simp

@[simp] theorem State.fixLayer_pending (s : State) (h l : Nat) (switched kept : Bool) :
    (State.fixLayer s h l switched kept).pending = s.pending := by
  unfold State.fixLayer; dsimp only; repeat' split
  all_goals simp

@[simp] theorem State.takeLayer_pending (s : State) (h l seq : Nat) :
    (State.takeLayer s h l seq).pending = s.pending := by simp [State.takeLayer]

@[simp] theorem State.wbWrite_pending (s : State) (rec_ : Bytes) (seq off : Nat) (b : Bytes) :
    (State.wbWrite s rec_ seq off b).2.pending = s.pending := by
  unfold State.wbWrite; dsimp only; repeat' split
  all_goals simp

@[simp] theorem State.fetchRow_pending (s : State) (d : LayerDesc) (shown : Option Nat) (row : Nat) :
    (State.fetchRow s d shown row).2.pending = s.pending := by
  unfold State.fetchRow; dsimp only; repeat' split
  all_goals simp

@[simp] theorem State.drawRow_pending (s : State) (h l y : Nat) (below : List Px) :
    (State.drawRow s h l y below).2.pending = s.pending := by
  unfold State.drawRow; dsimp only; repeat' split
  all_goals simp

@[simp] theorem State.sendRow_pending (s : State) (h : Nat) (rec_ : Bytes) (seq : Nat) (spoiled : Bool) (acc : Sending) (y : Nat) :
    (State.sendRow s h rec_ seq spoiled acc y).2.pending = s.pending := by
  unfold State.sendRow; split <;> simp

@[simp] theorem State.drawRegions_pending (s : State) (rs : List Nat) :
    (State.drawRegions s rs).pending = s.pending := by simp [State.drawRegions]

theorem execPanelUpdateStepComplete_pending (x : At) (s : State) :
    ∃ t, execPanelUpdateStepComplete x s = .next t ∧ t.pending = s.pending := by
  refine ⟨_, rfl, ?_⟩
  dsimp only
  repeat' split
  all_goals simp

theorem execPanelRead_pending (x : At) (qp tag : Nat) (data : Option Bytes) (s : State) :
    ∃ t, execPanelRead x qp tag data s = .next t ∧ t.pending = s.pending :=
  ⟨_, rfl, State.run_pending (fun _ _ => State.complete_pending ..) ..⟩

/-! ### Operations of Machine/Place.lean -/

@[simp] theorem State.encode_pending (s : State) (b q : Bytes) :
    (State.encode s b q).2.pending = s.pending := by simp [State.encode]

@[simp] theorem State.buildTable_pending (s : State) (b q : Bytes) :
    (State.buildTable s b q).2.pending = s.pending := by simp [State.buildTable]

@[simp] theorem State.setShard_pending (s : State) (k : Nat) (v : Shard) :
    (State.setShard s k v).pending = s.pending := by simp [State.setShard]

@[simp] theorem State.codeInfo_pending (s : State) (d : ShardPlan) (row pos : Nat) :
    (State.codeInfo s d row pos).2.pending = s.pending := by simp [State.codeInfo]

@[simp] theorem State.codeDesc_pending (s : State) (d : ShardPlan) (row pos : Nat) :
    (State.codeDesc s d row pos).2.pending = s.pending := by
  unfold State.codeDesc; dsimp only; split <;> simp

@[simp] theorem State.enqueue_pending (s : State) (q : Query) :
    (State.enqueue s q).pending = s.pending := by simp [State.enqueue]

@[simp] theorem State.tablesOf_pending (s : State) (q : Bytes) :
    (State.tablesOf s q).2.pending = s.pending := by simp [State.tablesOf]

@[simp] theorem State.stageQuery_pending (s : State) (i : Nat) (q : Bytes × Bytes × Nat) :
    (State.stageQuery s i q).pending = s.pending := by simp [State.stageQuery]

theorem execPlaceQuery_pending (x : At) (qp tag : Nat) (data : Option Bytes) (s : State) :
    ∃ t, execPlaceQuery x qp tag data s = .next t ∧ t.pending = s.pending := by
  refine ⟨_, rfl, State.run_pending (fun s c => ?_) ..⟩
  dsimp only
  repeat' split
  all_goals simp

@[simp] theorem State.switchShard_pending (s : State) (k g : Nat) :
    (State.switchShard s k g).pending = s.pending := by simp [State.switchShard]

@[simp] theorem State.switchShards_pending (s : State) : (State.switchShards s).pending = s.pending := by
  unfold State.switchShards; split <;> simp

@[simp] theorem State.fullTables_pending (s : State) (q : Query) : (State.fullTables s q).2.pending = s.pending := by
  unfold State.fullTables; split <;> simp

@[simp] theorem State.closeBatch_pending (s : State) : (State.closeBatch s).pending = s.pending := by simp [State.closeBatch]

@[simp] theorem State.noteBadLine_pending (s : State) (k l : Nat) :
    (State.noteBadLine s k l).pending = s.pending := by simp [State.noteBadLine]

@[simp] theorem State.scanLine_pending (s : State) (d : SweepShard) (area : Nat) (buf : List Nat) (l : Nat) :
    (State.scanLine s d area buf l).2.pending = s.pending := by
  unfold State.scanLine; dsimp only; split <;> simp

@[simp] theorem State.scanShard_pending (s : State) (d : SweepShard) (buf : List Nat) :
    (State.scanShard s d buf).2.pending = s.pending := by simp [State.scanShard]

@[simp] theorem State.scanAll_pending (s : State) (w : Sweep) (buf : List Nat) :
    (State.scanAll s w buf).2.pending = s.pending := by simp [State.scanAll]

@[simp] theorem State.filterCodes_pending (s : State) (w : Sweep) (q : Query) (l : List (Nat × Nat × Nat)) :
    (s.filterCodes w q l).2.pending = s.pending := by
  unfold State.filterCodes
  refine foldl_snd_pending _ (fun p e => ?_) _ _
  dsimp only
  repeat' split
  all_goals simp

theorem State.rerunOr_pending {f : State → State} (hf : ∀ s, (f s).pending = s.pending) (s : State) (m : Merged) :
    (s.rerunOr m f).pending = s.pending := by
  unfold State.rerunOr
  split <;> simp [hf]

@[simp] theorem State.mergeQuery_pending (s : State) (w : Sweep) (l : List Scanned) (ue : Bool) (q : Query) :
    (s.mergeQuery w l ue q).pending = s.pending :=
  (State.rerunOr_pending (by intros; rfl) _ _).trans (State.filterCodes_pending ..)

theorem execSweepScanEnd_pending (x : At) (excluded ue : List Nat) (s : State) :
    ∃ t, execSweepScanEnd x excluded ue s = .next t ∧ t.pending = s.pending := by
  refine ⟨_, rfl, ?_⟩
  split
  · simp
  · refine (foldl_pending _ (fun s i => ?_) _ _).trans (by simp)
    split <;> simp

@[simp] theorem State.addCands_pending (s : State) (own : Nat) (es : List (Nat × Nat × Nat)) :
    (State.addCands s own es).pending = s.pending := by simp [State.addCands]

@[simp] theorem State.stageAnswer_pending (s : State) (i own : Nat) (m : Merged) (a : Answer) :
    (State.stageAnswer s i own m a).pending = s.pending := by
  unfold State.stageAnswer; split <;> simp

theorem execQueryComplete_pending (x : At) (s : State) :
    ∃ t, execQueryComplete x s = .next t ∧ t.pending = s.pending := by
  refine ⟨_, rfl, ?_⟩
  split
  · simp
  · refine (State.rerunOr_pending (fun s => ?_) _ _).trans (State.enter_pending s x)
    dsimp only
    split
    · simp
    · exact (State.retireDue_pending _).trans
        (State.asFired_pending (fun _ => State.stageAnswer_pending ..) (fun _ _ => rfl) _ _)

@[simp] theorem State.reencode_pending (s : State) (new : Bytes) (old code : Option Bytes) (d : ShardPlan) (row pos : Nat) :
    (State.reencode s new old code d row pos).2.pending = s.pending := by
  unfold State.reencode; dsimp only; split <;> simp

@[simp] theorem State.shadowShard_pending (s : State) (k : Nat) : (State.shadowShard s k).pending = s.pending := by
  unfold State.shadowShard; split <;> simp

@[simp] theorem State.repairLine_pending (s : State) (k l : Nat) : (s.repairLine k l).pending = s.pending := by
  unfold State.repairLine
  split
  · split
    · rfl
    · dsimp only
      have h : ∀ d row book (p : Option Bytes × State) (i : Nat), (match p.1, (p.2.codeDesc d row i).1 with
          | some b, some v => (some (b ++ ((p.2.codeDesc d row i).2.encode book v).1), ((p.2.codeDesc d row i).2.encode book v).2)
          | _, _ => (none, (p.2.codeDesc d row i).2)).2.pending = p.2.pending := by
        intros; split <;> simp
      split
      · exact foldl_snd_pending _ (h _ _ _) _ _
      · exact (State.writeStore_pending ..).trans (foldl_snd_pending _ (h _ _ _) _ _)
  · rfl

@[simp] theorem State.repairLines_pending (s : State) :
    (State.repairLines s).pending = s.pending := by simp [State.repairLines]

@[simp] theorem State.addEdges_pending (s : State) (es : List Bytes) :
    (State.addEdges s es).pending = s.pending := by simp [State.addEdges]

@[simp] theorem State.storeKeyframe_pending (s : State) (p : ShardPlan) (pos : Nat) (code : Bytes) (shadow : Option Bytes) (k : Keyframe) :
    (State.storeKeyframe s p pos code shadow k).pending = s.pending := by
  unfold State.storeKeyframe; split <;> simp

@[simp] theorem State.addKeyframe_pending (s : State) (k : Keyframe) : (State.addKeyframe s k).2.pending = s.pending := by
  unfold State.addKeyframe; dsimp only; repeat' split
  all_goals simp

@[simp] theorem State.distribute_pending (s : State) (n : Nat) (b : Bytes) : (s.distribute n b).pending = s.pending := by
  unfold State.distribute
  refine foldl_pending _ (fun s i => ?_) _ _
  repeat' split
  all_goals simp

@[simp] theorem State.commitPoses_pending (s : State) (ns : List Bytes) :
    (State.commitPoses s ns).pending = s.pending := by simp [State.commitPoses]

@[simp] theorem State.setVoxel_pending (s : State) (v n : Nat) :
    (State.setVoxel s v n).pending = s.pending := by simp [State.setVoxel]

@[simp] theorem State.observe_pending (s : State) (v : Nat) (hit : Bool) :
    (State.observe s v hit).2.pending = s.pending := by
  unfold State.observe; split <;> simp

/-! ### Operations of Machine/Forage.lean -/

@[simp] theorem State.observeDelta_pending (s : State) (v : Nat) (hit : Bool) (src origin : Nat) :
    (State.observeDelta s v hit src origin).pending = s.pending := by
  unfold State.observeDelta; dsimp only; split <;> simp

@[simp] theorem State.applyLog_pending (s : State) (t origin : Nat) :
    (State.applyLog s t origin).pending = s.pending := by simp [State.applyLog]

@[simp] theorem State.tileStore_pending (s : State) (e : ResEntry) (t row : Nat) :
    (State.tileStore s e t row).pending = s.pending := by simp [State.tileStore]

@[simp] theorem State.tileKept_pending (s : State) (t : Nat) : (State.tileKept s t).pending = s.pending := by
  unfold State.tileKept; split <;> simp

@[simp] theorem State.mapMaintenance_pending (s : State) :
    (State.mapMaintenance s).pending = s.pending := by simp [State.mapMaintenance]

@[simp] theorem State.issueTransfer_pending (s : State) (k : Nat) : (State.issueTransfer s k).pending = s.pending := by
  unfold State.issueTransfer; split <;> simp

@[simp] theorem State.issueStreams_pending (s : State) :
    (State.issueStreams s).pending = s.pending := by simp [State.issueStreams]

@[simp] theorem State.fetchLines_pending (s : State) (e : ResEntry) (r : Nat) :
    (s.fetchLines e r).2.pending = s.pending := by
  unfold State.fetchLines
  refine foldl_snd_pending _ (fun p i => ?_) _ _
  dsimp only
  repeat' split
  all_goals simp

@[simp] theorem State.readEngLine_pending (s : State) (p kind off : Nat) :
    (State.readEngLine s p kind off).2.pending = s.pending := by simp [State.readEngLine]

@[simp] theorem State.sendLines_pending (s : State) (e : ResEntry) (r : Nat) : (s.sendLines e r).pending = s.pending := by
  unfold State.sendLines
  refine foldl_pending _ (fun p i => ?_) _ _
  dsimp only
  repeat' split
  all_goals simp

@[simp] theorem State.tileLines_pending (s : State) (e : ResEntry) (t r : Nat) :
    (s.tileLines e t r).2.pending = s.pending := by
  unfold State.tileLines
  refine foldl_snd_pending _ (fun p i => ?_) _ _
  dsimp only
  split <;> simp

@[simp] theorem State.tileIn_pending (s : State) (e : ResEntry) (t row : Nat) :
    (State.tileIn s e t row).2.pending = s.pending := by
  unfold State.tileIn; dsimp only; repeat' split
  all_goals simp

@[simp] theorem State.tileOut_pending (s : State) (e : ResEntry) (t row : Nat) :
    (State.tileOut s e t row).pending = s.pending := by simp [State.tileOut]

@[simp] theorem State.refetched_pending (s : State) (k : Nat) :
    (State.refetched s k).pending = s.pending := by simp [State.refetched]

@[simp] theorem State.transfer_pending (s : State) (k : Nat) : (State.transfer s k).pending = s.pending := by
  unfold State.transfer; dsimp only; repeat' split
  all_goals simp

@[simp] theorem State.refetchWeight_pending (s : State) (r : Nat) :
    (State.refetchWeight s r).pending = s.pending := by simp [State.refetchWeight]

/-! ### Operations of Machine/StageGo.lean -/

@[simp] theorem State.slotCauses_pending (s : State) (i : Nat) (d : StageDesc) (r : StageRun) :
    (State.slotCauses s i d r).2.pending = s.pending := by
  unfold State.slotCauses; dsimp only; repeat' split
  all_goals simp

@[simp] theorem State.saveFill_pending (s : State) (i : Nat) :
    (State.saveFill s i).pending = s.pending := by simp [State.saveFill]

@[simp] theorem State.startStage_pending (s : State) (i src : Nat) (synth late : Bool) :
    (State.startStage s i src synth late).pending = s.pending := by
  unfold State.startStage; split <;> simp

@[simp] theorem State.stageReads_pending (s : State) (d : StageDesc) (l : List (Nat × Nat)) :
    (s.stageReads d l).2.pending = s.pending := by
  unfold State.stageReads
  refine foldl_snd_pending _ (fun p i => ?_) _ _
  dsimp only
  repeat' split
  all_goals simp

@[simp] theorem State.engineReads_pending (s : State) (d : StageDesc) (v : StageResult) :
    (State.engineReads s d v).2.pending = s.pending := by simp [State.engineReads]

@[simp] theorem State.calibrate_pending (s : State) (d : StageDesc) (b : Bytes) : (s.calibrate d b).pending = s.pending := by
  unfold State.calibrate
  split
  · rfl
  · extract_lets soon
    split
    · rfl
    · split
      · rfl
      · split
        · rfl
        · split
          next h => exact (State.wakeUsed_pending _).trans ((State.mgmtIssue_pending h).trans rfl)
          · rfl

@[simp] theorem State.verified_pending (s : State) (r : StageRun) (v : StageResult) :
    (State.verified s r v).pending = s.pending := by simp [State.verified]

@[simp] theorem State.mapUpdated_pending (s : State) (d : StageDesc) (v : StageResult) :
    (State.mapUpdated s d v).2.pending = s.pending := by
  unfold State.mapUpdated; dsimp only; repeat' split
  all_goals simp

@[simp] theorem State.stageEffect_pending (s : State) (d : StageDesc) (r : StageRun) (v : StageResult) :
    (State.stageEffect s d r v).2.pending = s.pending := by
  unfold State.stageEffect; repeat' split
  all_goals simp

@[simp] theorem State.issueBacks_pending (s : State) (i : Nat) :
    (State.issueBacks s i).pending = s.pending := by simp [State.issueBacks]

@[simp] theorem State.endQueries_pending (s : State) (i : Nat) (r : StageRun) (v : StageResult) :
    (State.endQueries s i r v).pending = s.pending := by simp [State.endQueries]

@[simp] theorem State.endStage_pending (s : State) (stage : Nat) (d : StageDesc) (run : StageRun) (r : StageResult) :
    (State.endStage s stage d run r).pending = s.pending := by
  unfold State.endStage; split <;> simp

theorem execStageInstanceComplete_pending (x : At) (stage : Nat) (r : StageResult) (s : State) :
    ∃ t, execStageInstanceComplete x stage r s = .next t ∧ t.pending = s.pending := by
  refine ⟨_, rfl, (State.retireDue_pending _).trans
    ((State.asFired_pending (fun s => ?_) State.transfer_pending _ _).trans (State.enter_pending s x))⟩
  dsimp only
  repeat' split
  all_goals simp

@[simp] theorem State.veEnded_pending (s : State) (i : Nat) :
    (State.veEnded s i).pending = s.pending := by simp [State.veEnded]

theorem execPass1Complete_pending (x : At) (stage : Nat) (bad : List (Nat × Nat)) (s : State) :
    ∃ t, execPass1Complete x stage bad s = .next t ∧ t.pending = s.pending := by
  refine ⟨_, rfl, ?_⟩
  split
  · simp
  · refine (State.retireDue_pending _).trans
      ((State.asPass_pending (fun s => ?_) State.transfer_pending _ _ _).trans (State.enter_pending s x))
    dsimp only
    repeat' split
    all_goals simp

theorem execPass2Complete_pending (x : At) (stage : Nat) (bad : List (Nat × Nat)) (s : State) :
    ∃ t, execPass2Complete x stage bad s = .next t ∧ t.pending = s.pending := by
  refine ⟨_, rfl, (State.retireDue_pending _).trans
    ((State.asPass_pending (fun s => ?_) State.transfer_pending _ _ _).trans (State.enter_pending s x))⟩
  dsimp only
  repeat' split
  all_goals simp

/-! ### Operations of Machine/Fire.lean -/

@[simp] theorem State.act_pending (s : State) (id : Nat) (e : Entry) (f : Firing) :
    (State.act s id e f).pending = s.pending := by
  unfold State.act; repeat' split
  all_goals simp

@[simp] theorem State.fire_pending (s : State) (id : Nat) (e : Entry) (rev late : Bool) :
    (State.fire s id e rev late).pending = s.pending := by simp [State.fire]

theorem execEntryFires_pending (x : At) (id : Nat) (s : State) :
    ∃ t, execEntryFires x id s = .next t ∧ t.pending = s.pending := by
  refine ⟨_, rfl, ?_⟩
  repeat' split
  all_goals simp

@[simp] theorem State.takeCommit_pending (s : State) (id : Nat) (e : Entry) :
    (State.takeCommit s id e).pending = s.pending := by simp [State.takeCommit]

@[simp] theorem State.takeArming_pending (s : State) (id : Nat) (e0 : Entry) :
    (State.takeArming s id e0).pending = s.pending := by simp [State.takeArming]

/-! ### Operations of Machine/Store.lean -/

@[simp] theorem State.refuseImage_pending (s : State) (k i l : Nat) (u : IfaceReq × Nat × Nat × Nat) (b : Nat) :
    (s.refuseImage k i l u b).pending = s.pending := State.event_pending _ _ _ _ _

@[simp] theorem State.writeArea_pending (s : State) (r base : Nat) (m : HiveImg) :
    (State.writeArea s r base m).pending = s.pending := by simp [State.writeArea]

@[simp] theorem State.checkArea_pending (s : State) (r : Nat) : (State.checkArea s r).pending = s.pending := by
  unfold State.checkArea; split <;> simp

theorem State.mapped_pending {f : State → State} (hf : ∀ s, (f s).pending = s.pending) (s : State) :
    (s.mapped f).pending = s.pending := by
  unfold State.mapped
  dsimp only
  split <;> simp [hf]

@[simp] theorem State.readAgain_pending (s : State) (r : Nat) :
    (State.readAgain s r).pending = s.pending := by simp [State.readAgain]

@[simp] theorem State.holdRow_pending (s : State) (r : Nat) (gone : Bool) :
    (State.holdRow s r gone).pending = s.pending := by simp [State.holdRow]

@[simp] theorem State.holdPartner_pending (s : State) (r : Nat) : (State.holdPartner s r).pending = s.pending := by
  unfold State.holdPartner; split <;> simp

@[simp] theorem State.serveRow_pending (s : State) (r : Nat) :
    (State.serveRow s r).pending = s.pending := by simp [State.serveRow]

theorem execBundleLinkLost_pending (x : At) (sup : Nat) (s : State) :
    ∃ t, execBundleLinkLost x sup s = .next t ∧ t.pending = s.pending := by
  refine ⟨_, rfl, (State.mapped_pending (fun s => ?_) _).trans (State.enter_pending s x)⟩
  split <;> simp

theorem execBundleTrained_pending (x : At) (sup serial port : Nat) (s : State) :
    ∃ t, execBundleTrained x sup serial port s = .next t ∧ t.pending = s.pending := by
  refine ⟨_, rfl, (State.mapped_pending (fun s => ?_) _).trans (State.enter_pending s x)⟩
  dsimp only
  repeat' split
  all_goals simp

@[simp] theorem State.poisonExtents_pending (s : State) (r : Nat) (es : List Nat) :
    (s.poisonExtents r es).pending = s.pending :=
  foldl_foldl_pending (fun s e i =>
    let a := 1048576 * e + 64 * i
    s.putLine1 r a (flipCheck ((s.line r a).take 64 ++ rsCheck ((s.line r a).take 64))))
    (by intros; apply State.putLine1_pending) s _ es

@[simp] theorem State.restoreRow_pending (s : State) (r : Nat) (es : List Nat) :
    (State.restoreRow s r es).pending = s.pending := by simp [State.restoreRow]

theorem execStoreReady_pending (x : At) (row : Nat) (rep : StoreReport) (s : State) :
    ∃ t, execStoreReady x row rep s = .next t ∧ t.pending = s.pending := by
  refine ⟨_, rfl, (State.mapped_pending (fun s => ?_) _).trans (State.enter_pending s x)⟩
  dsimp only
  repeat' split
  all_goals simp

@[simp] theorem State.copyLine_pending (s : State) (r p a : Nat) :
    (State.copyLine s r p a).pending = s.pending := by simp [State.copyLine]

@[simp] theorem State.copyLines_pending (s : State) (r p : Nat) (inside : Nat → Bool) :
    (State.copyLines s r p inside).pending = s.pending := by simp [State.copyLines]

theorem execMirrorCopyComplete_pending (x : At) (row : Nat) (s : State) :
    ∃ t, execMirrorCopyComplete x row s = .next t ∧ t.pending = s.pending := by
  refine ⟨_, rfl, (State.mapped_pending (fun s => ?_) _).trans (State.enter_pending s x)⟩
  dsimp only
  repeat' split
  all_goals simp

@[simp] theorem State.setMirror_pending (s : State) (r : Nat) (up : Bool) :
    (State.setMirror s r up).pending = s.pending := by simp [State.setMirror]

theorem execMirrorLinkLost_pending (x : At) (row : Nat) (s : State) :
    ∃ t, execMirrorLinkLost x row s = .next t ∧ t.pending = s.pending := by
  refine ⟨_, rfl, (State.mapped_pending (fun s => ?_) _).trans (State.enter_pending s x)⟩
  have hold : ∀ (l : List Nat) (s : State), (l.foldl (fun s r =>
      if (s.row r).st = .resync then (s.holdRow r true).rowLeaves r .down else s) s).pending = s.pending :=
    fun l => foldl_pending _ (fun s r => by split <;> simp) l
  dsimp only
  split
  · rfl
  · rw [State.evalCapacity_pending, State.updatePairs_pending, hold]
    split <;> simp

theorem execMirrorLinkUp_pending (x : At) (row : Nat) (s : State) :
    ∃ t, execMirrorLinkUp x row s = .next t ∧ t.pending = s.pending := by
  refine ⟨_, rfl, (State.mapped_pending (fun s => ?_) _).trans (State.enter_pending s x)⟩
  dsimp only
  split
  · rfl
  · refine (foldl_pending _ (fun s r => ?_) _ _).trans (State.setMirror_pending ..)
    split <;> simp

/-! ### Operations of Machine/Img.lean -/

@[simp] theorem State.refuseHive_pending (s : State) (m : HiveImg) (u : (IfaceReq × Nat × Nat × Nat) × Nat) :
    (State.refuseHive s m u).pending = s.pending := by simp [State.refuseHive]

/-! ### Operations of Machine/Install.lean -/

@[simp] theorem State.bumpEpoch_pending (s : State) : (State.bumpEpoch s).pending = s.pending := by
  unfold State.bumpEpoch; dsimp only; split <;> simp

@[simp] theorem State.startRolling_pending (s : State) (from_ : Nat) (parts : List RollPart) :
    (State.startRolling s from_ parts).pending = s.pending := by simp [State.startRolling]

@[simp] theorem State.commitSource_pending (s : State) (i : Nat) (d : SourceDef) :
    (State.commitSource s i d).pending = s.pending := by simp [State.commitSource]

@[simp] theorem State.commitMode_pending (s : State) (f : Nat) (ha : Bool) :
    (State.commitMode s f ha).pending = s.pending := by
  unfold State.commitMode; repeat' split
  all_goals simp

@[simp] theorem State.planShards_pending (s : State) (gen : Nat) :
    (State.planShards s gen).pending = s.pending := by simp [State.planShards]

@[simp] theorem State.commitBook_pending (s : State) (b : Bytes) : (State.commitBook s b).2.pending = s.pending := by
  unfold State.commitBook; dsimp only; split <;> simp

@[simp] theorem State.noteSources_pending (s : State) (is : List Nat) :
    (State.noteSources s is).pending = s.pending := by simp [State.noteSources]

@[simp] theorem State.commitItems_pending (s : State) (t : StagedSet) :
    (State.commitItems s t).pending = s.pending := by simp [State.commitItems]

@[simp] theorem State.configRows_pending (s : State) (cfg : List Nat) :
    (State.configRows s cfg).pending = s.pending := by simp [State.configRows]

@[simp] theorem State.loadTime_pending (s : State) (t : TimeSettings) :
    (State.loadTime s t).pending = s.pending := by simp [State.loadTime]

@[simp] theorem State.takeInputs_pending (s : State) (m : HiveImg) :
    (State.takeInputs s m).pending = s.pending := by simp [State.takeInputs]

@[simp] theorem State.fillBufs_pending (s : State) (m : HiveImg) :
    (State.fillBufs s m).pending = s.pending := by simp [State.fillBufs]

@[simp] theorem State.loadXforms_pending (s : State) (m : HiveImg) :
    (State.loadXforms s m).pending = s.pending := by simp [State.loadXforms]

@[simp] theorem State.loadGates_pending (s : State) (m : HiveImg) (old : Option HiveImg) :
    (State.loadGates s m old).pending = s.pending := by simp [State.loadGates]

@[simp] theorem State.loadLayouts_pending (s : State) (m : HiveImg) :
    (State.loadLayouts s m).pending = s.pending := by simp [State.loadLayouts]

@[simp] theorem State.moveShown_pending (s : State) (move : Nat → Option Nat) (keepNewest : Bool) :
    (State.moveShown s move keepNewest).pending = s.pending := by simp [State.moveShown]

@[simp] theorem State.changeLayouts_pending (s : State) (o m : HiveImg) :
    (State.changeLayouts s o m).pending = s.pending := by simp [State.changeLayouts]

@[simp] theorem State.stopHeads_pending (s : State) : (State.stopHeads s).pending = s.pending := by simp [State.stopHeads]

@[simp] theorem State.loadEdges_pending (s : State) (m : HiveImg) :
    (State.loadEdges s m).pending = s.pending := by simp [State.loadEdges]

@[simp] theorem State.changeEdges_pending (s : State) (m : HiveImg) :
    (State.changeEdges s m).2.pending = s.pending := by simp [State.changeEdges]

@[simp] theorem State.applySlots_pending (s : State) (p : Nat) :
    (State.applySlots s p).pending = s.pending := by simp [State.applySlots]

@[simp] theorem State.changeRoutes_pending (s : State) (o : HiveImg) : (s.changeRoutes o).pending = s.pending := by
  unfold State.changeRoutes
  refine foldl_pending _ (fun s e => ?_) _ _
  dsimp only
  repeat' split
  all_goals simp

@[simp] theorem State.startAgents_pending (s : State) (m : HiveImg) (f : AgentDesc → Bool) :
    (State.startAgents s m f).pending = s.pending := by simp [State.startAgents]

@[simp] theorem State.dropAgents_pending (s : State) (p : Nat → Bool) : (s.dropAgents p).pending = s.pending := by
  unfold State.dropAgents
  refine foldl_pending _ (fun s j => ?_) _ _
  repeat' split
  all_goals simp

@[simp] theorem State.changeTracks_pending (s : State) (o m : HiveImg) (was : Nat → Nat) :
    (State.changeTracks s o m was).pending = s.pending := by simp [State.changeTracks]

@[simp] theorem State.loadNow_pending (s : State) (k : Nat) : (State.loadNow s k).pending = s.pending := by
  unfold State.loadNow; split <;> simp

@[simp] theorem State.applyRegion_pending (s : State) (r : Nat) :
    (State.applyRegion s r).pending = s.pending := by simp [State.applyRegion]

@[simp] theorem State.issueLoads_pending (s : State) : (State.issueLoads s).pending = s.pending := by simp [State.issueLoads]

@[simp] theorem State.putImage_pending (s : State) (m : HiveImg) (p : Nat) (b : List Nat) :
    (State.putImage s m p b).pending = s.pending := by simp [State.putImage]

@[simp] theorem State.adoptAreas_pending (s : State) (m : HiveImg) :
    (State.adoptAreas s m).pending = s.pending := by simp [State.adoptAreas]

@[simp] theorem State.armImage_pending (s : State) (m : HiveImg) (p : Nat) (b : List Nat) :
    (State.armImage s m p b).pending = s.pending := by
  unfold State.armImage; split <;> simp

@[simp] theorem State.replaceImage_pending (s : State) (m : HiveImg) (p : Nat) (b : List Nat) :
    (State.replaceImage s m p b).2.pending = s.pending := by
  unfold State.replaceImage; split <;> simp

@[simp] theorem State.endMove_pending (s : State) : (State.endMove s).pending = s.pending := by
  unfold State.endMove; split <;> simp

/-! ### Operations of Machine/Power.lean -/

@[simp] theorem State.outputsLow_pending (s : State) : (State.outputsLow s).pending = s.pending := by simp [State.outputsLow]

@[simp] theorem State.bundlesDown_pending (s : State) :
    (State.bundlesDown s).pending = s.pending := by simp [State.bundlesDown]

@[simp] theorem State.volatileReset_pending (s : State) : s.volatileReset.pending = s.pending := by
  unfold State.volatileReset
  dsimp only
  refine (foldl_pending _ State.regionOff_pending _ _).trans ?_
  simp

@[simp] theorem State.powerDown_pending (s : State) : (State.powerDown s).pending = s.pending := by simp [State.powerDown]

@[simp] theorem State.beginStep5_pending (s : State) : (State.beginStep5 s).pending = s.pending := by simp [State.beginStep5]

@[simp] theorem State.powerOn_pending (s : State) (flowLow : Bool) :
    (State.powerOn s flowLow).pending = s.pending := by simp [State.powerOn]

@[simp] theorem State.quiesceRoutes_pending (s : State) : s.quiesceRoutes.pending = s.pending := by
  unfold State.quiesceRoutes
  dsimp only
  refine (foldl_pending _ (fun s r => by simp) _ _).trans (foldl_pending _ (fun s j => ?_) _ _)
  split <;> simp

@[simp] theorem State.startQuiesce_pending (s : State) :
    (State.startQuiesce s).pending = s.pending := by simp [State.startQuiesce]

@[simp] theorem State.powerOff_pending (s : State) : (State.powerOff s).pending = s.pending := by
  unfold State.powerOff; split <;> simp

theorem State.tripAt_pending {f : State → State} (hf : ∀ s, (f s).pending = s.pending) (s : State) (p : Nat) :
    (s.tripAt p f).pending = s.pending := by
  unfold State.tripAt
  repeat' split
  all_goals simp [hf]

theorem execOvercurrentTrip_pending (x : At) (sup : Nat) (rail : Rail) (s : State) :
    ∃ t, execOvercurrentTrip x sup rail s = .next t ∧ t.pending = s.pending :=
  ⟨_, rfl, (State.tripAt_pending (fun _ => State.sealSuper_pending ..) _ _).trans (State.enter_pending s x)⟩

theorem execOverTemperatureTrip_pending (x : At) (sup : Nat) (s : State) :
    ∃ t, execOverTemperatureTrip x sup s = .next t ∧ t.pending = s.pending := by
  refine ⟨_, rfl, (State.tripAt_pending (fun s => ?_) _ _).trans (State.enter_pending s x)⟩
  exact State.sealSuper_pending ..

@[simp] theorem State.grantWaiting_pending (s : State) : s.grantWaiting.pending = s.pending := by
  unfold State.grantWaiting
  dsimp only
  refine (foldl_pending _ (fun s i => ?_) _ _).trans ?_
  · repeat' split
    all_goals rfl
  · split <;> simp

@[simp] theorem State.newWafer_pending (s : State) (serial : Nat) :
    (State.newWafer s serial).pending = s.pending := by simp [State.newWafer]

@[simp] theorem State.readSummaries_pending (s : State) (a b : Bool) (serial : Nat) :
    (State.readSummaries s a b serial).pending = s.pending := by simp [State.readSummaries]

@[simp] theorem State.scanRing_pending (s : State) (bad : List Nat) :
    (State.scanRing s bad).pending = s.pending := by simp [State.scanRing]

@[simp] theorem State.readFlash_pending (s : State) (r : StepReport) : (State.readFlash s r).pending = s.pending := by
  unfold State.readFlash; dsimp only; split <;> simp

@[simp] theorem State.failCell_pending (s : State) (g : Nat) :
    (State.failCell s g).pending = s.pending := by simp [State.failCell]

@[simp] theorem State.takeSpare_pending (s : State) (failed : List Nat) (p l n : Nat) :
    (s.takeSpare failed p l n).pending = s.pending := by
  induction n generalizing s with
  | zero => rfl
  | succ n ih =>
    unfold State.takeSpare
    dsimp only
    repeat' split
    all_goals simp [ih]

@[simp] theorem State.assignCells_pending (s : State) (failed : List Nat) (p : Nat) :
    (s.assignCells failed p).pending = s.pending := by
  simp [State.assignCells, State.takeSpare_pending]

@[simp] theorem State.testCells_pending (s : State) (r : StepReport) : (s.testCells r).pending = s.pending := by
  have h : ∀ (l : List Nat) (s : State), (l.foldl (fun s g => s.modSuper (g / 144) fun u =>
      { u with sites := lmod u.sites (g % 144) fun _ => 3 }) s).pending = s.pending :=
    fun l => foldl_pending _ (by intros; rfl) l
  simp [State.testCells, h]

@[simp] theorem State.toHold_pending (s : State) : (State.toHold s).pending = s.pending := by simp [State.toHold]

theorem State.refuseSlot_pending {s u : State} {n : Nat} (h : s.refuseSlot n = some u) : u.pending = s.pending := by
  unfold State.refuseSlot at h
  dsimp only at h
  repeat' split at h
  all_goals cases h
  all_goals simp

@[simp] theorem State.trySlot_pending (s : State) (n : Nat) (b : Bool) : (s.trySlot n b).pending = s.pending := by
  unfold State.trySlot
  split
  · rfl
  next t h =>
    have ht := State.refuseSlot_pending h
    dsimp only
    split
    · exact (State.toHold_pending t).trans ht
    · split
      · exact ht
      next u g => exact (State.toHold_pending u).trans ((State.refuseSlot_pending g).trans ht)

@[simp] theorem State.loadMicro_pending (s : State) (ok : Bool) : (State.loadMicro s ok).pending = s.pending := by
  unfold State.loadMicro; repeat' split
  all_goals simp

@[simp] theorem State.tornSlots_pending (s : State) (bad : List Nat) :
    (State.tornSlots s bad).pending = s.pending := by simp [State.tornSlots]

@[simp] theorem State.endStep5_pending (s : State) (r : StepReport) : (s.endStep5 r).pending = s.pending := by
  unfold State.endStep5
  dsimp only
  have h : ∀ l : List Nat, (l.foldl (fun s p => s.modPort p fun v => { v with up := true })
      (s.unit.toPower.foldl State.regionOn s)).pending =
      s.pending := fun l => (foldl_pending _ (by intros; rfl) _ _).trans (foldl_pending _ State.regionOn_pending _ _)
  split <;> simp [h]

@[simp] theorem State.startReady_pending (s : State) : (State.startReady s).pending = s.pending := by simp [State.startReady]

@[simp] theorem State.startRun_pending (s : State) : (State.startRun s).pending = s.pending := by
  unfold State.startRun; dsimp only; repeat' split
  all_goals simp

@[simp] theorem State.endStep_pending (s : State) (r : StepReport) : (State.endStep s r).pending = s.pending := by
  unfold State.endStep; split <;> simp

/-! ### Operations of Machine/Epoch.lean -/

theorem execImageLoad_pending (x : At) (qp tag : Nat) (data : Option Bytes) (sd : SiteDesc) (s : State) :
    ∃ t, execImageLoad x qp tag data sd s = .next t ∧ t.pending = s.pending := by
  refine ⟨_, rfl, State.run_pending (fun s c => ?_) ..⟩
  have rows : ∀ m : HiveImg, (s.mapped fun s => s.configRows m.site.stores).pending = s.pending := fun m =>
    State.mapped_pending (fun s => State.configRows_pending s m.site.stores) s
  dsimp only
  repeat' split
  all_goals simp [rows]

@[simp] theorem State.loadAreas_pending (s : State) (m : HiveImg) :
    (State.loadAreas s m).pending = s.pending := by simp [State.loadAreas]

@[simp] theorem State.stageImage_pending (s : State) (m : HiveImg) (p : Nat) :
    (State.stageImage s m p).pending = s.pending := by simp [State.stageImage]

@[simp] theorem State.applyCommit_pending (s : State) (a : ArmedCommit) : (s.applyCommit a).pending = s.pending := by
  have hm : ∀ (s : State) (c : List Nat), (s.mapped fun s => s.configRows c).pending = s.pending := fun s c =>
    State.mapped_pending (fun _ => State.configRows_pending ..) s
  unfold State.applyCommit
  dsimp only
  repeat' split
  all_goals simp [hm]

theorem execCommitEffect_pending (x : At) (s : State) :
    ∃ t, execCommitEffect x s = .next t ∧ t.pending = s.pending := by
  refine ⟨_, rfl, ?_⟩
  repeat' split
  all_goals simp

@[simp] theorem State.applyEngine_pending (s : State) (i : Nat) (e : EngineCommit) :
    (State.applyEngine s i e).pending = s.pending := by simp [State.applyEngine]

theorem execEngineCommit_pending (x : At) (s : State) :
    ∃ t, execEngineCommit x s = .next t ∧ t.pending = s.pending := by
  refine ⟨_, rfl, ?_⟩
  repeat' split
  all_goals simp

theorem execRollingPartApplied_pending (x : At) (part : RollPart) (s : State) :
    ∃ t, execRollingPartApplied x part s = .next t ∧ t.pending = s.pending := by
  refine ⟨_, rfl, ?_⟩
  dsimp only
  repeat' split
  all_goals simp

/-! ### Operations of Machine/Firmware.lean -/

@[simp] theorem State.fwClose_pending (s : State) (t : FwTransfer) :
    (State.fwClose s t).pending = s.pending := by simp [State.fwClose]

@[simp] theorem State.putSlot_pending (s : State) (target : Nat) (f : FwImage) :
    (State.putSlot s target f).pending = s.pending := by
  unfold State.putSlot; split <;> simp

@[simp] theorem State.fwEnd_pending (s : State) (c : Cmd) (t : FwTransfer) : (State.fwEnd s c t).pending = s.pending := by
  unfold State.fwEnd; dsimp only; repeat' split
  all_goals simp

theorem execFwStage_pending (x : At) (qp tag : Nat) (data : Option Bytes) (s : State) :
    ∃ t, execFwStage x qp tag data s = .next t ∧ t.pending = s.pending := by
  refine ⟨_, rfl, State.run_pending (fun s c => ?_) ..⟩
  dsimp only
  repeat' split
  all_goals simp

/-! ### Operations of Machine/MemAcc.lean -/

@[simp] theorem State.refetchRead_pending (s : State) (g addr len : Nat) :
    (State.refetchRead s g addr len).pending = s.pending := by simp [State.refetchRead]

theorem execMemRead_pending (x : At) (qp tag : Nat) (data : Option Bytes) (s : State) :
    ∃ t, execMemRead x qp tag data s = .next t ∧ t.pending = s.pending := by
  refine ⟨_, rfl, State.run_pending (fun s c => ?_) ..⟩
  dsimp only
  repeat' split
  all_goals simp

theorem execMemWrite_pending (x : At) (qp tag : Nat) (data : Option Bytes) (s : State) :
    ∃ t, execMemWrite x qp tag data s = .next t ∧ t.pending = s.pending := by
  refine ⟨_, rfl, State.run_pending (fun s c => ?_) ..⟩
  dsimp only
  repeat' split
  all_goals simp

@[simp] theorem State.inject_pending (s : State) (g : Nat) : (State.inject s g).pending = s.pending := by simp [State.inject]

/-! ### Operations of Machine/Ptp.lean -/

@[simp] theorem State.keepPtp_pending (s : State) (port : Nat) (m : Bytes) (seq : Nat) :
    (State.keepPtp s port m seq).pending = s.pending := by simp [State.keepPtp]

@[simp] theorem State.hearPtp_pending (s : State) (k port : Nat) (m : Bytes) :
    (State.hearPtp s k port m).pending = s.pending := by simp [State.hearPtp]

@[simp] theorem State.useOffset_pending (s : State) (d : Nat) (off : Int) :
    (State.useOffset s d off).pending = s.pending := by simp [State.useOffset]

@[simp] theorem State.syncUsed_pending (s : State) (d : Nat) (t1 t2 : Int) :
    (State.syncUsed s d t1 t2).pending = s.pending := by simp [State.syncUsed]

theorem execPtpFollowUp_pending (x : At) (k port : Nat) (msg : List Byte) (s : State) :
    ∃ t, execPtpFollowUp x k port msg s = .next t ∧ t.pending = s.pending := by
  refine ⟨_, rfl, ?_⟩
  split
  · simp
  · refine (foldl_pending _ (fun s d => ?_) _ _).trans (by simp)
    repeat' split
    all_goals simp

@[simp] theorem State.sendPtp_pending (s : State) (d port : Nat) (msg : Bytes) :
    (State.sendPtp s d port msg).pending = s.pending := by simp [State.sendPtp]

@[simp] theorem State.sendReq_pending (s : State) (d type control : Nat) (body : Bytes) :
    (State.sendReq s d type control body).pending = s.pending := by simp [State.sendReq]

theorem execPtpDelayResp_pending (x : At) (k port : Nat) (msg : List Byte) (s : State) :
    ∃ t, execPtpDelayResp x k port msg s = .next t ∧ t.pending = s.pending := by
  refine ⟨_, rfl, ?_⟩
  split
  · simp
  · refine (foldl_pending _ (fun s d => ?_) _ _).trans (by simp)
    split
    · split <;> simp
    · rfl

theorem execPtpPdelayResp_pending (x : At) (k port : Nat) (msg : List Byte) (s : State) :
    ∃ t, execPtpPdelayResp x k port msg s = .next t ∧ t.pending = s.pending := by
  refine ⟨_, rfl, ?_⟩
  split
  · simp
  · refine (foldl_pending _ (fun s d => ?_) _ _).trans (by simp)
    dsimp only
    repeat' split
    all_goals simp

/-! ### Operations of Machine/SysCmd.lean -/

@[simp] theorem State.flushTiles_pending (s : State) : s.flushTiles.pending = s.pending := by
  unfold State.flushTiles
  refine foldl_pending _ (fun s j => ?_) _ _
  repeat' split
  all_goals simp

@[simp] theorem State.unbindPort_pending (s : State) (port : Nat) :
    (State.unbindPort s port).pending = s.pending := by simp [State.unbindPort]

/-! ### The rows -/

/-- Every command ends in a next state and leaves the waiting commands alone. -/
theorem exec_pending (i : Instr) (s : State) : ∃ t, exec i s = .next t ∧ t.pending = s.pending := by
  cases i with
  | standbyRailRises => exact ⟨_, rfl, by simp⟩
  | standbyRailLost => exact ⟨_, rfl, by simp⟩
  | standbyPowerOnTimer => exact ⟨_, rfl, by simp⟩
  | buttonShortPress => exact ⟨_, rfl, by simp⟩
  | buttonLongPress => exact ⟨_, rfl, by simp⟩
  | regionsPoweredDown => exact ⟨_, rfl, by simp⟩
  | startupStepComplete => exact ⟨_, rfl, by simp⟩
  | regionRegulationTimeout => exact ⟨_, rfl, by simp⟩
  | keeperReadyReport => exact ⟨_, rfl, by dsimp only; split <;> simp⟩
  | keeperBootAttemptTimeout => exact ⟨_, rfl, by dsimp only; split <;> simp⟩
  | hifReset => exact ⟨_, rfl, by simp⟩
  | hifFlagsRead => exact ⟨_, rfl, by simp⟩
  | registerWrite => exact ⟨_, rfl, by simp⟩
  | qpEnable => exact ⟨_, rfl, by simp⟩
  | qpDisable => exact ⟨_, rfl, by simp⟩
  | dbSq => exact ⟨_, rfl, by simp⟩
  | dbCq => exact ⟨_, rfl, by simp⟩
  | packetAccept => exact ⟨_, rfl, by simp⟩
  | pciePortLost => exact ⟨_, rfl, by simp⟩
  | netOpen => exact ⟨_, rfl, by simp⟩
  | netRequest x dg => exact execNetRequest_pending x dg s
  | netClose => exact ⟨_, rfl, by simp⟩
  | netIdleTimeout => exact ⟨_, rfl, by split <;> simp⟩
  | arpRequest => exact ⟨_, rfl, by simp⟩
  | icmpEchoRequest => exact ⟨_, rfl, by simp⟩
  | stateRead => exact ⟨_, rfl, State.run_pending (fun s c => by simp) ..⟩
  | waferMapRead => exact ⟨_, rfl, State.run_pending (fun s c => by simp) ..⟩
  | storeRead => exact ⟨_, rfl, State.run_pending (fun s c => by simp) ..⟩
  | unitQuiesce => exact ⟨_, rfl, State.run_pending (fun s c => by simp) ..⟩
  | unitPowerOff => exact ⟨_, rfl, State.run_pending (fun s c => by simp) ..⟩
  | netConfig => exact ⟨_, rfl, State.run_pending (fun s c => by simp) ..⟩
  | timeRead => exact ⟨_, rfl, State.run_pending (fun s c => by simp) ..⟩
  | timeIncrSet => exact ⟨_, rfl, State.run_pending (fun s c => by simp) ..⟩
  | timeStep => exact ⟨_, rfl, State.run_pending (fun s c => by simp) ..⟩
  | domainSelect => exact ⟨_, rfl, State.run_pending (fun s c => by simp) ..⟩
  | captureArm => exact ⟨_, rfl, State.run_pending (fun s c => by simp) ..⟩
  | captureRead => exact ⟨_, rfl, State.run_pending (fun s c => by simp) ..⟩
  | captureSoft => exact ⟨_, rfl, State.run_pending (fun s c => by simp) ..⟩
  | ptpRead => exact ⟨_, rfl, State.run_pending (fun s c => by simp) ..⟩
  | sourceDefine => exact ⟨_, rfl, State.run_pending (fun s c => by simp) ..⟩
  | phaseRead => exact ⟨_, rfl, State.run_pending (fun s c => by simp) ..⟩
  | schedArm x qp tag data => exact execSchedArm_pending x qp tag data s
  | schedCancel x qp tag data => exact execSchedCancel_pending x qp tag data s
  | schedRead x qp tag data => exact execSchedRead_pending x qp tag data s
  | tsoFireNow => exact ⟨_, rfl, State.run_pending (fun s c => by simp) ..⟩
  | linkStateRead => exact ⟨_, rfl, State.run_pending (fun s c => by simp) ..⟩
  | linkSleep => exact ⟨_, rfl, State.run_pending (fun s c => by simp) ..⟩
  | linkWake => exact ⟨_, rfl, State.run_pending (fun s c => by simp) ..⟩
  | linkBufWrite => exact ⟨_, rfl, State.run_pending (fun s c => by simp) ..⟩
  | moduleRead => exact ⟨_, rfl, State.run_pending (fun s c => by simp) ..⟩
  | moduleRecordRead => exact ⟨_, rfl, State.run_pending (fun s c => by dsimp only; split <;> simp) ..⟩
  | moduleSiteWrite x qp tag data => exact execModuleSiteWrite_pending x qp tag data s
  | moduleReattach => exact ⟨_, rfl, State.run_pending (fun s c => by dsimp only; split <;> simp) ..⟩
  | veMatchRead x qp tag data => exact execVeMatchRead_pending x qp tag data s
  | veMatchSubmit x qp tag data => exact execVeMatchSubmit_pending x qp tag data s
  | xformWrite => exact ⟨_, rfl, State.run_pending (fun s c => by simp) ..⟩
  | xformRead => exact ⟨_, rfl, State.run_pending (fun s c => by simp) ..⟩
  | trackRead => exact ⟨_, rfl, State.run_pending (fun s c => by simp) ..⟩
  | tfeObsRead x qp tag data => exact execTfeObsRead_pending x qp tag data s
  | tfeAssocSubmit x qp tag data => exact execTfeAssocSubmit_pending x qp tag data s
  | placeQuery x qp tag data => exact execPlaceQuery_pending x qp tag data s
  | codebookLoad => exact ⟨_, rfl, State.run_pending (fun s c => by split <;> simp) ..⟩
  | loopCandRead => exact ⟨_, rfl, State.run_pending (fun s c => by simp) ..⟩
  | loopCloseSubmit => exact ⟨_, rfl, State.run_pending (fun s c => by simp) ..⟩
  | mapGraphRead => exact ⟨_, rfl, State.run_pending (fun s c => by simp) ..⟩
  | mapPoseWrite => exact ⟨_, rfl, State.run_pending (fun s c => by simp) ..⟩
  | mapDistSet => exact ⟨_, rfl, State.run_pending (fun s c => by simp) ..⟩
  | edgeRead => exact ⟨_, rfl, State.run_pending (fun s c => by simp) ..⟩
  | blockedRead => exact ⟨_, rfl, State.run_pending (fun s c => by simp) ..⟩
  | occInject => exact ⟨_, rfl, State.run_pending (fun s c => by simp) ..⟩
  | routeGoalSet => exact ⟨_, rfl, State.run_pending (fun s c => by dsimp only; split <;> simp) ..⟩
  | routeCancel x qp tag data => exact execRouteCancel_pending x qp tag data s
  | routeRead => exact ⟨_, rfl, State.run_pending (fun s c => by simp) ..⟩
  | routeEventRead => exact ⟨_, rfl, State.run_pending (fun s c => by simp) ..⟩
  | routeSubmit => exact ⟨_, rfl, State.run_pending (fun s c => by dsimp only; split <;> simp) ..⟩
  | layerWrite => exact ⟨_, rfl, State.run_pending (fun s c => by dsimp only; split <;> simp) ..⟩
  | layerCommit => exact ⟨_, rfl, State.run_pending (fun s c => by dsimp only; split <;> simp) ..⟩
  | layerUpload x qp tag data => exact execLayerUpload_pending x qp tag data s
  | displayRead => exact ⟨_, rfl, State.run_pending (fun s c => by simp) ..⟩
  | panelRead x qp tag data => exact execPanelRead_pending x qp tag data s
  | poseRead => exact ⟨_, rfl, State.run_pending (fun s c => by simp) ..⟩
  | poseWrite => exact ⟨_, rfl, State.run_pending (fun s c => by simp) ..⟩
  | agentBufWrite => exact ⟨_, rfl, State.run_pending (fun s c => by simp) ..⟩
  | tsnListWrite => exact ⟨_, rfl, State.run_pending (fun s c => by simp) ..⟩
  | imageLoad x qp tag data sd => exact execImageLoad_pending x qp tag data sd s
  | fnModeSet => exact ⟨_, rfl, State.run_pending (fun s c => by simp) ..⟩
  | epochCommit => exact ⟨_, rfl, State.run_pending (fun s c => by split <;> simp) ..⟩
  | epochDiscard => exact ⟨_, rfl, State.run_pending (fun s c => by simp) ..⟩
  | epochRead => exact ⟨_, rfl, State.run_pending (fun s c => by simp) ..⟩
  | faultRead => exact ⟨_, rfl, State.run_pending (fun s c => by simp) ..⟩
  | fwRead => exact ⟨_, rfl, State.run_pending (fun s c => by simp) ..⟩
  | fwStage x qp tag data => exact execFwStage_pending x qp tag data s
  | fwBootSelect => exact ⟨_, rfl, State.run_pending (fun s c => by simp) ..⟩
  | memRead x qp tag data => exact execMemRead_pending x qp tag data s
  | memWrite x qp tag data => exact execMemWrite_pending x qp tag data s
  | memReadRaw => exact ⟨_, rfl, State.run_pending (fun s c => by dsimp only; split <;> simp) ..⟩
  | memWriteRaw => exact ⟨_, rfl, State.run_pending (fun s c => by dsimp only; split <;> simp) ..⟩
  | waitTimeout x qp tag => exact execWaitTimeout_pending x qp tag s
  | imageAreaWritten => exact ⟨_, rfl, by dsimp only; split <;> simp⟩
  | entryFires x id => exact execEntryFires_pending x id s
  | pulseTrailingEdge => exact ⟨_, rfl, by split <;> simp⟩
  | armingTakesEffect => exact ⟨_, rfl, by split <;> simp⟩
  | heldArmingReleased => exact ⟨_, rfl, by split <;> simp⟩
  | commitEffect x => exact execCommitEffect_pending x s
  | engineCommit x => exact execEngineCommit_pending x s
  | rollingPartApplied x part => exact execRollingPartApplied_pending x part s
  | rollingChangeEnd => exact ⟨_, rfl, by dsimp only; split <;> simp⟩
  | encoderCount => exact ⟨_, rfl, by simp⟩
  | encoderZEdge => exact ⟨_, rfl, by simp⟩
  | sourceStall => exact ⟨_, rfl, by simp⟩
  | tsiEdge => exact ⟨_, rfl, by dsimp only; split <;> simp⟩
  | ppsOutRise => exact ⟨_, rfl, by simp⟩
  | ppsOutFall => exact ⟨_, rfl, by simp⟩
  | timeWriteTakesEffect => exact ⟨_, rfl, by simp⟩
  | holdoverEntry => exact ⟨_, rfl, by simp⟩
  | ptpSync => exact ⟨_, rfl, by simp⟩
  | ptpFollowUp x k port msg => exact execPtpFollowUp_pending x k port msg s
  | ptpAnnounce => exact ⟨_, rfl, by simp⟩
  | ptpDelayResp x k port msg => exact execPtpDelayResp_pending x k port msg s
  | ptpPdelayReq => exact ⟨_, rfl, by simp⟩
  | ptpPdelayResp x k port msg => exact execPtpPdelayResp_pending x k port msg s
  | ptpDelayReqTimer => exact ⟨_, rfl, by simp⟩
  | refLost => exact ⟨_, rfl, by simp⟩
  | refRelock => exact ⟨_, rfl, by simp⟩
  | overcurrentTrip x sup rail => exact execOvercurrentTrip_pending x sup rail s
  | overTemperatureTrip x sup => exact execOverTemperatureTrip_pending x sup s
  | provisionalSealExpiry => exact ⟨_, rfl, by simp⟩
  | coolantLoss => exact ⟨_, rfl, by simp⟩
  | supplyShortfall => exact ⟨_, rfl, by simp⟩
  | shortfallRestartTimer => exact ⟨_, rfl, by simp⟩
  | treePauseEnd => exact ⟨_, rfl, by dsimp only; split <;> simp⟩
  | keeperWatchdogExpiry => exact ⟨_, rfl, by simp⟩
  | keeperCacheUe x core cmds => exact execKeeperCacheUe_pending x core cmds s
  | spareTestComplete => exact ⟨_, rfl, by dsimp only; split <;> simp⟩
  | cellRebuildComplete => exact ⟨_, rfl, by simp⟩
  | stageInstanceComplete x stage r => exact execStageInstanceComplete_pending x stage r s
  | foragerTransferComplete => exact ⟨_, rfl, by dsimp only; split <;> simp⟩
  | bundleLinkLost x sup => exact execBundleLinkLost_pending x sup s
  | bundleRetryTimer => exact ⟨_, rfl, by simp⟩
  | bundleTrained x sup serial linkPort => exact execBundleTrained_pending x sup serial linkPort s
  | storeReady x row rep => exact execStoreReady_pending x row rep s
  | mirrorCopyComplete x row => exact execMirrorCopyComplete_pending x row s
  | mirrorLinkLost x row => exact execMirrorLinkLost_pending x row s
  | mirrorLinkUp x row => exact execMirrorLinkUp_pending x row s
  | batchClose => exact ⟨_, rfl, by simp⟩
  | sweepScanEnd x excluded tableUe => exact execSweepScanEnd_pending x excluded tableUe s
  | queryComplete x => exact execQueryComplete_pending x s
  | mapOptimiseCommit => exact ⟨_, rfl, by simp⟩
  | occDeltaGrant => exact ⟨_, rfl, by dsimp only; split <;> simp⟩
  | blockedRecordDelivered => exact ⟨_, rfl, by dsimp only; split <;> simp⟩
  | recountComplete x edge => exact execRecountComplete_pending x edge s
  | repairStart => exact ⟨_, rfl, by dsimp only; split <;> simp⟩
  | repairComplete => exact ⟨_, rfl, by split <;> simp⟩
  | fullPlanComplete => exact ⟨_, rfl, by split <;> simp⟩
  | hostRouteWaitExpiry => exact ⟨_, rfl, by split <;> simp⟩
  | hello x k f => exact execHello_pending x k f s
  | poseReq => exact ⟨_, rfl, by simp⟩
  | poseAnswer => exact ⟨_, rfl, by dsimp only; split <;> simp⟩
  | odo x k f => exact execOdo_pending x k f s
  | routeAck => exact ⟨_, rfl, by simp⟩
  | routeRetryTimer x agent => exact execRouteRetryTimer_pending x agent s
  | tsnListSwitch => exact ⟨_, rfl, by dsimp only; split <;> simp⟩
  | sensorLinkUp => exact ⟨_, rfl, by simp⟩
  | sensorLinkDown => exact ⟨_, rfl, by simp⟩
  | oshData x k f => exact execOshData_pending x k f s
  | oshEvent x k f => exact execOshEvent_pending x k f s
  | oshDelayReq => exact ⟨_, rfl, by simp⟩
  | mgmtResp x f => exact execMgmtResp_pending x f s
  | mgmtTimeout => exact ⟨_, rfl, by dsimp only; split <;> simp⟩
  | portState => exact ⟨_, rfl, by simp⟩
  | sleepIdleTimer => exact ⟨_, rfl, by simp⟩
  | sleepCommit => exact ⟨_, rfl, by simp⟩
  | sleepAbort => exact ⟨_, rfl, by simp⟩
  | attachRetryTimer => exact ⟨_, rfl, by simp⟩
  | pass1Complete x stage bad => exact execPass1Complete_pending x stage bad s
  | pass2Complete x stage bad => exact execPass2Complete_pending x stage bad s
  | frameStart => exact ⟨_, rfl, by dsimp only; split <;> simp⟩
  | frameEnd => exact ⟨_, rfl, by dsimp only; split <;> simp⟩
  | hotPlugDetect => exact ⟨_, rfl, by simp⟩
  | hotPlugLost => exact ⟨_, rfl, by simp⟩
  | panelUpdateStepComplete x => exact execPanelUpdateStepComplete_pending x s
  | quiesceComplete => exact ⟨_, rfl, by simp⟩
  | pluggableModuleInserted => exact ⟨_, rfl, by simp⟩
  | tsnGateEvent => exact ⟨_, rfl, by simp⟩
  | sleepEntry => exact ⟨_, rfl, by simp⟩
  | sleepOnWindow => exact ⟨_, rfl, by simp⟩
  | sensorUplinkRelock => exact ⟨_, rfl, by simp⟩
  | residencyReadIssue => exact ⟨_, rfl, by dsimp only; split <;> simp⟩
  | ptpPdelayReqTimer => exact ⟨_, rfl, by simp⟩

end Sys2Proof.Machine

open Sys2Proof Sys2Proof.Machine

/-- Settles O1: the two cases of `step`. -/
theorem stepRunsFrontCommand : Obligations.StepRunsFrontCommand := by
  unfold Obligations.StepRunsFrontCommand
  exact ⟨fun c cs s h => by simp only [step, h], fun s h => by simp only [step, h]⟩

/-- Settles O60: time passing on an empty queue and every command leave the queue alone, one lemma an operation. -/
theorem everyStepTakesTheFrontCommand : Obligations.EveryStepTakesTheFrontCommand := by
  unfold Obligations.EveryStepTakesTheFrontCommand
  intro s
  cases h : s.pending with
  | nil => exact ⟨_, stepRunsFrontCommand.2 s h, (State.advanceTo_pending _ _).trans h⟩
  | cons c cs =>
    rw [stepRunsFrontCommand.1 c cs s h]
    exact exec_pending c _
end

section
/-! PROOF. The host interface's rows (17 R428 to R455): rings, doorbells, packets, the network transport. -/

namespace Sys2Proof.Machine

open Sys2Proof

/-! ### Rows of accepted commands -/

/-- The row of an accepted command carries out the command's meaning on the state its tick is reached in. -/
theorem exec_of_run {i : Instr} {s u t : State} {x : At} {op : Nat} {c : Cmd} {f : State → Cmd → State} (hu : s.enter x = u)
    (hc : Accepted u.host c.qp c.tag op c) (hi : exec i s = .next (s.run x c.qp c.tag op f)) (hf : f u c = t) :
    exec i s = .next t := by
  subst hu
  rw [hi, State.run_accepted hc, hf]

/-! ### Queue pairs -/

/-- A state differs from another in its host interface only, whatever is said of that interface. -/
theorem hostOnly_host (s : State) (h : HostSt) : HostOnly s { s with host := h } := rfl

theorem State.disableQp_enabled {s : State} {n : Nat} (h : n < s.host.qps.length) : ((s.disableQp n).qp n).enabled = false := by
  have hbit : (0xFFF6FFFF).testBit 16 = false := by decide
  rw [State.disableQp, State.modQp_qp_self _ _ _ h]
  simp [QueuePair.enabled, bitAt, BitVec.toNat_and, Nat.testBit_and, hbit]

theorem State.disableQp_qp_ne (s : State) {n m : Nat} (h : m ≠ n) : (s.disableQp n).qp m = s.qp m :=
  State.modQp_qp_ne s n m _ h

/-- A disabled queue pair: what 17 R431 and R454 say of it. -/
theorem State.disableQp_disables {s : State} {n : Nat} (h : n < s.host.qps.length) :
    ((s.disableQp n).qp n).enabled = false ∧ ((s.disableQp n).qp n).unread = [] ∧
      (s.disableQp n).host.accepted = s.host.accepted ∧ ∀ m, m ≠ n → (s.disableQp n).qp m = s.qp m := by
  refine ⟨State.disableQp_enabled h, ?_, rfl, fun m hm => s.disableQp_qp_ne hm⟩
  rw [State.disableQp, State.modQp_qp_self _ _ _ h]

/-! ### QP_ENABLE and QP_DISABLE (17 R429 to R431) -/

/-- Sizes and bases are in the rules of 17 R429. -/
def QueuePair.MayEnable (q : QueuePair) (v : Nat) : Prop :=
  1 ≤ bitsOf v 3 0 ∧ bitsOf v 3 0 ≤ 10 ∧ 1 ≤ bitsOf v 11 8 ∧ bitsOf v 11 8 ≤ 12 ∧ q.sqBase.toNat % 4096 = 0 ∧
    q.cqBase.toNat % 4096 = 0

theorem enableOk_iff (q : QueuePair) (v : Nat) : enableOk q (sizeMask v) = true ↔ q.MayEnable v := by
  have hsq : bitsOf (sizeMask v).toNat 3 0 = bitsOf v 3 0 := sizeMask_field v 0 4 (by decide)
  have hcq : bitsOf (sizeMask v).toNat 11 8 = bitsOf v 11 8 := sizeMask_field v 8 4 (by decide)
  simp [enableOk, QueuePair.MayEnable, within, hsq, hcq, and_assoc]

theorem sizeMask_enable (v : Nat) : bitAt (sizeMask v).toNat 16 = bitAt v 16 := by
  have h : (0x3F070F0F).testBit 16 = true := by decide
  simp [bitAt, sizeMask_bit, h]

theorem sizeMask_port (v : Nat) : bitsOf (sizeMask v).toNat 17 17 = bitsOf v 17 17 := sizeMask_field v 17 1 (by decide)

section
variable {s : State} {p n v : Nat}

/-- A write that sets ENABLE changes nothing of an enabled queue pair, nor through the other port. -/
theorem State.writeSize_ignored (hv : bitAt v 16 = true) (h : (s.qp n).enabled = true ∨ bitsOf v 17 17 ≠ p) :
    s.writeSize p n v = s := by
  simp only [State.writeSize, sizeMask_enable, sizeMask_port, hv, Bool.true_or, if_true]
  split
  · rfl
  · rename_i hen
    rw [if_pos (h.resolve_left hen)]

theorem State.writeSize_opens (hv : bitAt v 16 = true) (hq : (s.qp n).enabled = false) (hp : bitsOf v 17 17 = p)
    (hok : (s.qp n).MayEnable v) : s.writeSize p n v =
      ((s.modQp n fun q => q.opened (sizeMask v)).armVector p (bitsOf (sizeMask v).toNat 29 24)).flushHeld := by
  simp [State.writeSize, sizeMask_enable, sizeMask_port, hv, hq, hp, (enableOk_iff _ v).2 hok]

theorem State.writeSize_refused (hv : bitAt v 16 = true) (hq : (s.qp n).enabled = false) (hp : bitsOf v 17 17 = p)
    (hok : ¬(s.qp n).MayEnable v) : s.writeSize p n v = s.modQp n fun q => { q with size := sizeMask v &&& 0x3F060F0F } := by
  simp [State.writeSize, sizeMask_enable, sizeMask_port, hv, hq, hp, mt (enableOk_iff _ v).1 hok]

theorem State.writeSize_disables (hv : bitAt v 16 = false) (hq : (s.qp n).enabled = true)
    (hsame : sizeMask v ||| 0x00010000 = (s.qp n).size &&& 0x3F070F0F) : s.writeSize p n v = s.disableQp n := by
  simp only [State.writeSize, sizeMask_enable, hv, hq, hsame, if_true, Bool.false_or, bne_self_eq_false, Bool.false_eq_true, if_false]

/-- Arming a vector changes the host interface only. -/
theorem State.armVector_hostOnly (s : State) (p v : Nat) : HostOnly s (s.armVector p v) := by
  simp [hostOnly_iff, State.sansHost]

end

/-- A change of a queue pair whose vector is then armed, with no event held. -/
theorem State.rearmed_parts {s : State} {n : Nat} (hn : n < s.host.qps.length) (hheld : s.host.held = [])
    (f : QueuePair → QueuePair) (p k : Nat) : HostOnly s ((s.modQp n f).armVector p k).flushHeld ∧
      ((s.modQp n f).armVector p k).flushHeld.qp n = f (s.qp n) ∧
      ∀ m, m ≠ n → ((s.modQp n f).armVector p k).flushHeld.qp m = s.qp m := by
  have hnone : ((s.modQp n f).armVector p k).host.held = [] := (armVector_held _ _ _).trans hheld
  rw [State.flushHeld_none hnone]
  have hqps : ∀ m, ((s.modQp n f).armVector p k).qp m = (s.modQp n f).qp m := fun m => by
    rw [State.qp, armVector_qps]; rfl
  refine ⟨?_, (hqps n).trans (State.modQp_qp_self s n f hn), fun m hm => (hqps m).trans (State.modQp_qp_ne s n m f hm)⟩
  rw [hostOnly_iff, hostOnly_iff.1 (State.armVector_hostOnly _ _ _)]
  rfl

/-! ### Doorbells (17 R430, R432, R433) -/

/-- A doorbell covers the packets given, one a slot. -/
theorem coverSlots_length (l : List (Option Bytes)) : coverSlots l.length l = l := by
  induction l with
  | nil => rfl
  | cons p r ih => rw [List.length_cons, coverSlots, ih]

theorem State.bellOk_iff (s : State) (p n v size : Nat) : s.bellOk p n v size = true ↔
    (s.port p).up = true ∧ (s.qp n).enabled = true ∧ (s.qp n).network = false ∧ (s.qp n).port = p ∧ v < size ∧ n < 64 := by
  simp [State.bellOk, and_assoc]

end Sys2Proof.Machine

open Sys2Proof Sys2Proof.Machine

/-- Settles O3: each write of QP_SIZE is one case of `State.writeSize`. -/
theorem enableAndDisableQueuePair : Obligations.EnableAndDisableQueuePair := by
  unfold Obligations.EnableAndDisableQueuePair
  intro s x p n v hup hn
  have enable : bitAt v 16 = true → exec (.qpEnable x p n v) s = .next ((s.enter x).writeSize p n v) := fun hv => by
    simp [exec, execQpEnable, hup, hv]
  have disable : bitAt v 16 = false → exec (.qpDisable x p n v) s = .next ((s.enter x).writeSize p n v) := fun hv => by
    simp [exec, execQpDisable, hup, hv]
  generalize s.enter x = u at *
  refine ⟨fun hv hq hp hheld => ⟨fun hok => ?_, fun hbad => ?_⟩, fun hv h => ?_, fun hv hq hsame => ?_⟩
  · obtain ⟨hho, hself, hne⟩ := State.rearmed_parts hn hheld (fun q => q.opened (sizeMask v)) p (bitsOf (sizeMask v).toNat 29 24)
    refine ⟨_, (enable hv).trans (congrArg _ (State.writeSize_opens hv hq hp hok)), hho, ?_⟩
    rw [hself]
    exact ⟨(sizeMask_enable v).trans hv, rfl, rfl, rfl, rfl, rfl, rfl, hne⟩
  · refine ⟨_, (enable hv).trans (congrArg _ (State.writeSize_refused hv hq hp hbad)), rfl, ?_⟩
    have hbit : (0x3F060F0F).testBit 16 = false := by decide
    rw [State.modQp_qp_self _ _ _ hn]
    simp [QueuePair.enabled, bitAt, BitVec.toNat_and, Nat.testBit_and, hbit]
  · rw [enable hv, State.writeSize_ignored hv h]
  · obtain ⟨hen, hunread, hacc, hne⟩ := State.disableQp_disables hn
    exact ⟨_, (disable hv).trans (congrArg _ (State.writeSize_disables hv hq hsame)), rfl, hen, hunread, hacc, hne⟩

/-- Settles O4: a doorbell through the right port with a value inside the ring sets its index; any other does nothing. -/
theorem doorbellsAdvanceRings : Obligations.DoorbellsAdvanceRings := by
  unfold Obligations.DoorbellsAdvanceRings
  intro s x p n v pkts hn hlen hup hen hnet hv
  have hv16 : v % 65536 = v := Nat.mod_eq_of_lt hv
  have sq : exec (.dbSq x p n v pkts) s = execDbSq x p n v pkts s := rfl
  have cq : exec (.dbCq x p n v) s = execDbCq x p n v s := rfl
  rw [sq, cq, execDbSq, execDbCq]
  generalize s.enter x = u at *
  simp only [hv16]
  have ring : ∀ size, (u.qp n).port = p → v < size → u.bellOk p n v size = true := fun size hp hs =>
    (u.bellOk_iff p n v size).2 ⟨hup, hen, hnet, hp, hs, hn⟩
  have deaf : ∀ size, (u.qp n).port ≠ p ∨ size ≤ v → ¬u.bellOk p n v size = true := fun size h hb => by
    obtain ⟨-, -, -, hp, hs, -⟩ := (u.bellOk_iff p n v size).1 hb
    omega
  refine ⟨fun hp hs hl => ?_, fun hp hs hheld => ?_, fun h => ?_, fun h => ?_⟩
  · rw [if_pos (ring _ hp hs)]
    refine ⟨_, rfl, rfl, ?_⟩
    rw [State.modQp_qp_self _ _ _ hlen, ← hl, coverSlots_length]
    exact ⟨rfl, rfl, rfl, fun m hm => State.modQp_qp_ne u n m _ hm⟩
  · rw [if_pos (ring _ hp hs)]
    obtain ⟨hho, hself, hne⟩ := State.rearmed_parts hlen hheld (fun q => { q with cqHead := v }) p (u.qp n).vector
    exact ⟨_, rfl, hho, by rw [hself], by rw [hself], hne⟩
  · rw [if_neg (deaf _ h)]
  · rw [if_neg (deaf _ h)]
end

section
/-! PROOF. Packets at the head of a ring (17 R436, R438 to R440). -/

namespace Sys2Proof.Machine

open Sys2Proof

/-! ### The checks in their order (17 R438) -/

/-- No failing check has the status OK. -/
theorem State.refusal_ne_ok {s : State} {p : Packet} {n : Nat} {net whole : Bool} {st d : Nat}
    (h : s.refusal p n net whole = some (st, d)) : st ≠ 0 := by
  unfold State.refusal at h
  repeat' split at h
  all_goals cases h
  all_goals decide

section
variable (s : State) {p : Packet} (n : Nat) (net whole : Bool)

theorem State.refusal_tooLong (h : 4064 < p.plen) : s.refusal p n net whole = some (0x0103, 0) := by
  unfold State.refusal
  split <;> rw [if_pos h] <;> rfl

theorem State.refusal_unlisted (h : p.plen ≤ 4064) (hop : opSpec p.opcode = none) :
    s.refusal p n net whole = some (0x0101, 0) := by
  simp only [State.refusal, hop]
  rw [if_neg (Nat.not_lt.2 h)]
  rfl

variable {sp : OpSpec} (hop : opSpec p.opcode = some sp) (hlen : p.plen ≤ 4064)
include hop hlen

/-- The checks that follow those of the length and the opcode, of a packet read whole. -/
theorem State.refusal_listed : s.refusal p n net true =
    if p.plen ≠ sp.plen p.params then some (stBadLength, 0)
    else if !packetOk sp p n net then some (stBadParam, 0)
    else if !s.stateOk sp p then some (stBadState, 0)
    else if s.passed (s.bindDeadline p) then some (stDeadline, 0)
    else if !s.epochOk p then some (stEpoch, 0)
    else none := by
  simp only [State.refusal, hop]
  rw [if_neg (Nat.not_lt.2 hlen)]
  rfl

end

theorem State.epochOk_false {s : State} {p : Packet} (hf : bitAt p.flags 0 = true) (h : p.expect ≠ s.ep.epoch)
    (h' : p.expect ≠ s.epochFrom) : s.epochOk p = false := by
  simp [State.epochOk, hf, h, h']

theorem State.epochOk_true {s : State} {p : Packet} (h : bitAt p.flags 0 = false ∨ p.expect = s.ep.epoch) :
    s.epochOk p = true := by
  cases h with
  | inl h => simp [State.epochOk, h]
  | inr h => simp [State.epochOk, h]

/-! ### The round robin (17 R436) -/

/-- A queue pair's place in the round, counted from the one after the last served. -/
theorem served_place (served n i : Nat) (hn : n < 64) (hi : i < 64) : (served + 1 + i) % 64 = n ↔ (n + 127 - served % 64) % 64 = i := by
  omega

theorem State.qpTurn_iff (s : State) (n : Nat) (hn : n < 64) : s.qpTurn n = true ↔ s.takeable n = true ∧
    ∀ m, m < 64 → s.takeable m = true → (n + 127 - s.host.served % 64) % 64 ≤ (m + 127 - s.host.served % 64) % 64 := by
  have hplace : ∀ m, (m + 127 - s.host.served % 64) % 64 < 64 := fun m => Nat.mod_lt _ (by decide)
  have hback : ∀ m, m < 64 → (s.host.served + 1 + (m + 127 - s.host.served % 64) % 64) % 64 = m := fun m hm =>
    (served_place _ m _ hm (hplace m)).2 rfl
  rw [State.qpTurn, beq_iff_eq, List.find?_map, Option.map_eq_some_iff]
  constructor
  · rintro ⟨i, hfind, hi⟩
    obtain ⟨htake, hmem, hfirst⟩ := List.find?_range_eq_some.1 hfind
    have hlt := List.mem_range.1 hmem
    have hplace' := (served_place _ n i hn hlt).1 hi
    refine ⟨by simpa [hi] using htake, fun m hm hmt => ?_⟩
    by_contra hlt'
    have := hfirst ((m + 127 - s.host.served % 64) % 64) (by omega)
    simp [hback m hm, hmt] at this
  · rintro ⟨htake, hfirst⟩
    refine ⟨_, List.find?_range_eq_some.2 ⟨?_, List.mem_range.2 (hplace n), fun j hj => ?_⟩, hback n hn⟩
    · simpa [hback n hn] using htake
    · have hj64 : j < 64 := hj.trans (hplace n)
      have hm : (s.host.served + 1 + j) % 64 < 64 := Nat.mod_lt _ (by decide)
      have hpl := (served_place s.host.served _ j hm hj64).1 rfl
      by_contra hc
      have := hfirst _ hm (by simpa using hc)
      omega

/-! ### PACKET_ACCEPT -/

/-- The state as the packet at a queue pair's head is taken (17 R433, R434). -/
def State.taken (u : State) (n : Nat) : State :=
  ({ u with host := { u.host with served := n } }).modQp n fun q => q.take u.time.tick

section
variable {u : State} {n : Nat} {b : Bytes} {r : List (Option Bytes)} (hn : n < u.host.qps.length)
  (hnet : (u.qp n).network = false) (hr : (u.qp n).unread = some b :: r) (hb : 32 + (parsePacket b).plen ≤ b.length)

include hr hb in
theorem State.acceptPacket_waits (h : u.qpTurn n = false) : u.acceptPacket n = u := by
  simp [State.acceptPacket, State.headPacket, hr, hb, h]

include hnet hr hb in
theorem State.acceptPacket_takes (h : u.qpTurn n = true) (hgood : u.refusal (parsePacket b) n false true = none) :
    u.acceptPacket n = { u.taken n with host := { (u.taken n).host with
      accepted := u.host.accepted ++ [(u.taken n).mkCmd n (parsePacket b) none] } } := by
  have hhead : u.headPacket n = some (parsePacket b, true) := by simp [State.headPacket, hr, hb]
  have hq : ({ u with host := { u.host with served := n } } : State).qp n = u.qp n := rfl
  have hsame : (u.taken n).refusal (parsePacket b) n false true = none := hgood
  simp only [State.acceptPacket, hhead, h, hq, hnet, hr, List.headD_cons, Option.isNone_some, Bool.not_true, Bool.false_eq_true,
    if_false]
  rw [← State.taken, hsame]
  rfl

include hnet hr hb in
theorem State.acceptPacket_refuses (h : u.qpTurn n = true) {st d : Nat}
    (hbad : u.refusal (parsePacket b) n false true = some (st, d)) :
    u.acceptPacket n = (u.taken n).finish ((u.taken n).mkCmd n (parsePacket b) none) st d [] := by
  have hhead : u.headPacket n = some (parsePacket b, true) := by simp [State.headPacket, hr, hb]
  have hq : ({ u with host := { u.host with served := n } } : State).qp n = u.qp n := rfl
  have hsame : (u.taken n).refusal (parsePacket b) n false true = some (st, d) := hbad
  simp only [State.acceptPacket, hhead, h, hq, hnet, hr, List.headD_cons, Option.isNone_some, Bool.not_true, Bool.false_eq_true,
    if_false]
  rw [← State.taken, hsame]

include hn hnet hr in
theorem State.taken_qp : ((u.taken n).qp n).unread = r ∧ ((u.taken n).qp n).sqHead = ((u.qp n).sqHead + 1) % (u.qp n).sqSlots ∧
    ((u.taken n).qp n).reserved = (u.qp n).reserved + 1 := by
  have hself : (u.taken n).qp n = (u.qp n).take u.time.tick :=
    State.modQp_qp_self { u with host := { u.host with served := n } } n _ hn
  simp [hself, QueuePair.take, hnet, hr]

end

/-! ### The completion entry of a local command (17 R441, R447) -/

/-- The entry a command of a ring is completed with. -/
def State.entryOf (s : State) (c : Cmd) (st d : Nat) (r : Bytes) : Completion :=
  let st := if c.synth && st = 0 then 5 else st
  { tag := c.tag, status := if s.passed c.deadline && st = 0 then 1 else st, replyFlags := s.replyFlags ||| (64 * b2n c.synth),
    qp := c.qp,
    cqFlags := b2n (s.qp c.qp).cqPhase + 2 * b2n (!s.host.resultOk && !r.isEmpty) + 4 * b2n (s.passed c.deadline),
    detail := d % 4294967296, epoch := s.ep.epoch, stamp := s.stamp64, sqHead := c.sqHead, resultBuf := c.resultBuf, result := r }

/-- A local command whose entry can be written is completed with its entry. -/
theorem State.finish_entry {s : State} {c : Cmd} (hg : (s.qp c.qp).gen = c.gen) (hn : c.net = none) (hq : s.host.cqOk = true)
    (st d : Nat) (r : Bytes) : s.finish c st d r =
      (s.modQp c.qp fun q => { q with reserved := q.reserved - 1 }).pushEntry c.qp (s.entryOf c st d r) (!c.noIrq) := by
  unfold State.finish
  simp only [hg, hn, ne_eq, not_true_eq_false, if_false]
  rw [if_pos (show (s.modQp c.qp _).host.cqOk = true from hq)]
  simp [State.entryOf]

theorem State.msix_ports (s : State) (p v : Nat) : (s.msix p v).host = { s.host with ports := (s.msix p v).host.ports } := by
  unfold State.msix
  dsimp only
  split <;> rfl

/-- What an entry pushed leaves of the host interface: its rings, its ports and its completions apart, all. -/
theorem State.pushEntry_hostParts (s : State) (m : Nat) (e : Completion) (i : Bool) : (s.pushEntry m e i).host =
    { s.host with
      qps := (s.pushEntry m e i).host.qps
      ports := (s.pushEntry m e i).host.ports
      completions := (s.pushEntry m e i).host.completions } := by
  unfold State.pushEntry
  dsimp only
  split
  · rw [State.msix_ports]
    rfl
  · rfl

/-- What of every queue pair a change leaves that leaves it of one. -/
theorem State.modQp_qp_view {α : Type} (g : QueuePair → α) (s : State) (m : Nat) {f : QueuePair → QueuePair}
    (hf : ∀ q, g (f q) = g q) (n : Nat) : g ((s.modQp m f).qp n) = g (s.qp n) := lmod_getD_view g hf _ _ _ _

/-- What an entry pushed leaves of every queue pair: its completion tail and phase apart, all. -/
theorem State.pushEntry_qp {α : Type} (g : QueuePair → α) (hg : ∀ q t p, g { q with cqTail := t, cqPhase := p } = g q) (s : State)
    (m : Nat) (e : Completion) (i : Bool) (n : Nat) : g ((s.pushEntry m e i).qp n) = g (s.qp n) := by
  unfold State.pushEntry
  dsimp only
  split
  · rw [State.qp, msix_qps]
    exact State.modQp_qp_view g _ m (fun q => hg q _ _) n
  · exact State.modQp_qp_view g _ m (fun q => hg q _ _) n

theorem State.pushEntry_length (s : State) (m : Nat) (e : Completion) (i : Bool) :
    (s.pushEntry m e i).host.qps.length = s.host.qps.length := by
  unfold State.pushEntry
  dsimp only
  split
  · rw [msix_qps]
    exact lmod_length _ _ _
  · exact lmod_length _ _ _

/-- Completing a command changes the host interface only. -/
theorem State.finish_hostOnly (s : State) (c : Cmd) (st d : Nat) (r : Bytes) : HostOnly s (s.finish c st d r) := by
  simp [hostOnly_iff, State.sansHost]

end Sys2Proof.Machine

open Sys2Proof Sys2Proof.Machine

/-- Settles O5: the row by whose turn it is and by what the checks give, then the round robin and the checks in their order. -/
theorem packetIsTakenOrRefused : Obligations.PacketIsTakenOrRefused := by
  unfold Obligations.PacketIsTakenOrRefused
  refine ⟨fun s u x n b r hu hn hnet hr hb => ?_, State.qpTurn_iff, fun s p n net whole => ?_⟩
  · subst hu
    have row : exec (.packetAccept x n) s = .next ((s.enter x).acceptPacket n) := rfl
    rw [row]
    generalize s.enter x = u at *
    obtain ⟨hunread, hhead, hres⟩ := State.taken_qp hn hnet hr
    refine ⟨fun h => by rw [State.acceptPacket_waits hr hb h], fun h => ⟨fun hgood => ?_, fun st d hbad hcq => ?_⟩⟩
    · rw [State.acceptPacket_takes hnet hr hb h hgood]
      exact ⟨_, _, rfl, rfl, rfl, rfl, rfl, rfl, rfl, rfl, rfl, rfl, rfl, hunread, hhead, hres, rfl⟩
    · rw [State.acceptPacket_refuses hnet hr hb h hbad]
      have hf := State.finish_entry (s := u.taken n) (c := (u.taken n).mkCmd n (parsePacket b) none) rfl rfl hcq st d []
      refine ⟨_, (u.taken n).entryOf ((u.taken n).mkCmd n (parsePacket b) none) st d [], rfl, ?_, ?_, ?_, rfl, rfl, ?_, rfl, rfl, ?_, ?_⟩
      · rw [hostOnly_iff, hostOnly_iff.1 (State.finish_hostOnly ..)]
        rfl
      · rw [hf, (pushEntry_host _ _ _ _).2]
        rfl
      · rw [hf, (pushEntry_host _ _ _ _).1]
        rfl
      · simp [State.entryOf, State.mkCmd, State.refusal_ne_ok hbad]
      · rw [hf, State.pushEntry_qp QueuePair.unread fun _ _ _ => rfl]
        exact (State.modQp_qp_view QueuePair.unread _ _ (by intro q; rfl) _).trans hunread
      · rw [hf, State.pushEntry_hostParts]
        rfl
  · refine ⟨s.refusal_tooLong n net whole, s.refusal_unlisted n net whole, fun sp hop hlen => ?_⟩
    rw [s.refusal_listed n net hop hlen]
    refine ⟨fun hpl => by rw [if_pos hpl]; rfl, fun hpl => ⟨fun hlay => ?_, fun hlay => ⟨fun hst => ?_, fun hst =>
      ⟨fun hdl => ?_, fun hdl => ⟨fun hf he he' => ?_, fun he => ?_⟩⟩⟩⟩⟩
    · simp [hpl, hlay, stBadParam]
    · simp [hpl, hlay, hst, stBadState]
    · simp [hpl, hlay, hst, hdl, stDeadline]
    · simp [hpl, hlay, hst, hdl, State.epochOk_false hf he he', stEpoch]
    · simp [hpl, hlay, hst, hdl, State.epochOk_true he]

/-- Settles O9: the fields of `State.entryOf`. -/
theorem completionEntryContents : Obligations.CompletionEntryContents := by
  unfold Obligations.CompletionEntryContents
  intro s qp tag st d c r hfind hnet hgen hcq hres
  obtain ⟨rfl, rfl⟩ := find_name (show s.host.accepted.find? _ = some c from hfind)
  have hbit : ∀ a l : Bool, bitAt (b2n a + 2 * 0 + 4 * b2n l) 0 = a ∧ bitAt (b2n a + 2 * 0 + 4 * b2n l) 2 = l := by decide
  have hflags : (s.entryOf c st d r).cqFlags = b2n (s.qp c.qp).cqPhase + 2 * 0 + 4 * b2n (s.passed c.deadline) := by
    simp [State.entryOf, hres, b2n]
  have hsynth : (64 : Nat).testBit 6 = true := by decide
  obtain ⟨hphase, hlate⟩ := hbit (s.qp c.qp).cqPhase (s.passed c.deadline)
  have hf := State.finish_entry (s := { s with host := { s.host with accepted := dropFirst s.host.accepted c.qp c.tag } })
    hgen hnet hcq st d r
  refine ⟨s.entryOf c st d r, ?_, rfl, rfl, fun hs => ⟨?_, ?_, hflags ▸ hlate⟩, fun hs => ⟨?_, fun hp => ⟨?_, ?_⟩, fun hp => ⟨?_, ?_⟩⟩,
    hflags ▸ hphase, rfl, rfl, rfl, rfl, rfl, State.complete_hostOnly ..⟩
  · rw [State.complete, hfind]
    dsimp only
    rw [hf, (pushEntry_host _ _ _ _).1]
    rfl
  · simp [State.entryOf, hs, b2n, bitAt, hsynth]
  · by_cases h0 : st = 0 <;> simp [State.entryOf, hs, h0]
  · simp [State.entryOf, hs, b2n]
  · rw [hflags, hlate, hp]
  · simp [State.entryOf, hs, hp]
  · rw [hflags, hlate, hp]
  · simp [State.entryOf, hs, hp]
end

section
/-! PROOF. The network transport, its address, and the system records (17 R431, R454, R455, 18 R467, 05 R140, 22 R552). -/

namespace Sys2Proof.Machine

open Sys2Proof

/-! ### Queue pairs on the network -/

section
variable {s : State} {x : At} {dg : Datagram} (hok : (s.enter x).dgOk dg = true)
include hok

theorem netOpen_opens (hk : fieldN dg.payload 0 1 = 0) (hq : ((s.enter x).qp (fieldN dg.payload 1 1)).enabled = false) :
    exec (.netOpen x dg) s = .next ((s.enter x).modQp (fieldN dg.payload 1 1) fun q => { q.opened 0x00090000 with
      net := some { port := dg.port, ip := dg.srcIp, udp := dg.srcPort, tseq := 0, recent := [],
                    lastTick := (s.enter x).time.tick } }) := by
  simp [exec, execNetOpen, hok, hk, hq]

/-- The row of a request of the peer. -/
theorem netRequest_row (hk : fieldN dg.payload 0 1 = 1) (hf : (s.enter x).fromPeer dg = true) {p : NetPeer}
    (hp : ((s.enter x).qp (fieldN dg.payload 1 1)).net = some p) : exec (.netRequest x dg) s =
      .next (if fieldN dg.payload 4 4 = p.tseq then
        if ((s.enter x).qp (fieldN dg.payload 1 1)).unread.length ≥ 64 then
          (s.enter x).netSend p.port p.ip p.udp [queueFullFrame (fieldN dg.payload 1 1) (fieldN dg.payload 4 4)]
        else (s.enter x).modQp (fieldN dg.payload 1 1) fun q => { q with
          unread := q.unread ++ [some (dg.payload.drop 16)], unreadSeq := q.unreadSeq ++ [fieldN dg.payload 4 4],
          net := some { p with tseq := (fieldN dg.payload 4 4 + 1) % 4294967296 } }
      else
        match p.recent.find? (fun r => r.1 == fieldN dg.payload 4 4) with
        | some (_, some e) =>
          (s.enter x).netSend p.port p.ip p.udp (responseFrames (fieldN dg.payload 1 1) (fieldN dg.payload 4 4) e)
        | _ => s.enter x) := by
  have row : exec (.netRequest x dg) s = execNetRequest x dg s := rfl
  rw [row, execNetRequest]
  simp only [hok, hk, hf, hp, beq_self_eq_true, Bool.true_and, if_true]
  rfl

end

/-! ### Address and echo requests (17 R454) -/

theorem arpRequest_ignored {s : State} {x : At} {a : ArpReq} (h : a.targetIp ≠ ((s.enter x).netPort a.port).ip) :
    exec (.arpRequest x a) s = .next (s.enter x) := by
  simp [exec, execArpRequest, h]

theorem icmpEchoRequest_ignored {s : State} {x : At} {e : IcmpEcho} (h : e.dstIp ≠ ((s.enter x).netPort e.port).ip) :
    exec (.icmpEchoRequest x e) s = .next (s.enter x) := by
  simp [exec, execIcmpEchoRequest, h]

/-! ### The queue pairs of a port unbound (17 R431) -/

/-- A queue pair is bound to a network port. -/
def QueuePair.onPort (port : Nat) (q : QueuePair) : Bool :=
  q.enabled && q.network && (match q.net with
    | some p => p.port == port
    | none => false)

/-- One queue pair unbound from a port: nothing changes but that queue pair, which is not on the port then. -/
def State.unbindOne (port : Nat) (s : State) (n : Nat) : State :=
  if (s.qp n).onPort port then (s.disableQp n).modQp n fun q => { q with gen := q.gen + 1 } else s

theorem State.unbindPort_eq (s : State) (port : Nat) : s.unbindPort port = (List.range 64).foldl (State.unbindOne port) s := rfl

theorem State.unbindOne_qps (port : Nat) (s : State) (n : Nat) :
    s.unbindOne port n = { s with host := { s.host with qps := (s.unbindOne port n).host.qps } } := by
  unfold State.unbindOne
  split <;> rfl

theorem State.unbindOne_length (port : Nat) (s : State) (n : Nat) :
    (s.unbindOne port n).host.qps.length = s.host.qps.length := by
  unfold State.unbindOne
  split
  · exact (lmod_length _ _ _).trans (lmod_length _ _ _)
  · rfl

theorem State.unbindOne_qp_ne (port : Nat) (s : State) {n m : Nat} (h : m ≠ n) : (s.unbindOne port n).qp m = s.qp m := by
  unfold State.unbindOne
  split
  · rw [State.modQp_qp_ne _ _ _ _ h, State.disableQp_qp_ne _ h]
  · rfl

theorem State.unbindOne_qp_self (port : Nat) {s : State} {n : Nat} (hn : n < s.host.qps.length) (h : (s.qp n).onPort port = true) :
    ((s.unbindOne port n).qp n).enabled = false := by
  have hlen : n < (s.disableQp n).host.qps.length := (lmod_length _ _ _).symm ▸ hn
  rw [State.unbindOne, if_pos h, State.modQp_qp_self _ _ _ hlen]
  exact State.disableQp_enabled hn

theorem State.unbindPort_qps (s : State) (port : Nat) :
    s.unbindPort port = { s with host := { s.host with qps := (s.unbindPort port).host.qps } } := by
  have h : ∀ (l : List Nat) (s : State), l.foldl (State.unbindOne port) s =
      { s with host := { s.host with qps := (l.foldl (State.unbindOne port) s).host.qps } } := by
    intro l
    induction l with
    | nil => intro s; rfl
    | cons n l ih =>
      intro s
      rw [List.foldl_cons, ih, State.unbindOne_qps]
  exact h _ _

/-- A queue pair bound to the port is disabled by the pass that comes to it, and no other pass touches it. -/
theorem State.unbindOnes_enabled (port : Nat) {l : List Nat} {n : Nat} (hn : n ∈ l) (hd : l.Nodup) {s : State}
    (hlen : n < s.host.qps.length) (h : (s.qp n).onPort port = true) : ((l.foldl (State.unbindOne port) s).qp n).enabled = false := by
  induction l generalizing s with
  | nil => cases hn
  | cons m l ih =>
    obtain ⟨hm, hd⟩ := List.nodup_cons.1 hd
    rw [List.foldl_cons]
    rcases List.mem_cons.1 hn with rfl | hl
    · have hkeep : (l.foldl (State.unbindOne port) (s.unbindOne port n)).qp n = (s.unbindOne port n).qp n :=
        List.foldlRecOn (motive := fun t => t.qp n = (s.unbindOne port n).qp n) l _ rfl fun t ht m hm' =>
          (State.unbindOne_qp_ne port t fun e => hm (by rw [e]; exact hm')).trans ht
      rw [hkeep]
      exact State.unbindOne_qp_self port hlen h
    · have hne : n ≠ m := fun e => hm (e ▸ hl)
      exact ih hl hd (by rwa [State.unbindOne_length]) (by rwa [State.unbindOne_qp_ne port s hne])

/-! ### NET_CONFIG (18 Table 18-2) -/

/-- The settings NET_CONFIG's parameters give. -/
def netSettings (b : Bytes) : NetPort where
  ip := octets (sliceB b 4 4)
  prefixLen := fieldN b 8 1
  gateway := octets (sliceB b 12 4)

/-- The settings of a network port put in place. -/
def State.setNetPort (s : State) (port : Nat) (v : NetPort) : State :=
  { s with host := { s.host with netPorts := lmod s.host.netPorts (port - 8) fun _ => v } }

theorem netConfig_row {s u : State} {x : At} {dt : Option Bytes} {c : Cmd} (hu : s.enter x = u)
    (hc : Accepted u.host c.qp c.tag 0x0106 c) : exec (.netConfig x c.qp c.tag dt) s =
      .next (((u.complete c.qp c.tag stOK 0 []).setNetPort (fieldN c.params 0 1) (netSettings c.params)).unbindPort
        (fieldN c.params 0 1)) := exec_of_run hu hc rfl rfl

/-- What completing a held command leaves of the queue pairs and of the network ports' settings. -/
theorem State.complete_queuePairs {u : State} {qp tag op : Nat} {p : Prog} {c : Cmd} (h : Held u.host qp tag op p c) (st d : Nat)
    (r : Bytes) (n : Nat) : ((u.complete c.qp c.tag st d r).qp n).size = (u.qp n).size ∧
      ((u.complete c.qp c.tag st d r).qp n).net = (u.qp n).net ∧
      (u.complete c.qp c.tag st d r).host.qps.length = u.host.qps.length ∧
      (u.complete c.qp c.tag st d r).host.netPorts = u.host.netPorts := by
  obtain ⟨hfind, -, -, hnet, hgen, hcq, -⟩ := h
  obtain ⟨rfl, rfl⟩ := find_name hfind
  have hf := State.finish_entry (s := { u with host := { u.host with accepted := dropFirst u.host.accepted c.qp c.tag } })
    hgen hnet hcq st d r
  rw [State.complete, show u.findCmd c.qp c.tag = some c from hfind]
  dsimp only
  rw [hf]
  refine ⟨?_, ?_, ?_, ?_⟩
  · rw [State.pushEntry_qp QueuePair.size fun _ _ _ => rfl]
    exact State.modQp_qp_view QueuePair.size _ _ (by intro q; rfl) n
  · rw [State.pushEntry_qp QueuePair.net fun _ _ _ => rfl]
    exact State.modQp_qp_view QueuePair.net _ _ (by intro q; rfl) n
  · rw [State.pushEntry_length]
    exact lmod_length _ _ _
  · rw [State.pushEntry_hostParts]
    rfl

/-! ### The system records (18 R467, 05 R140) -/

theorem State.stateRec_eq (s : State) : s.stateRec =
    toLE 1 s.unit.state.code ++ toLE 1 s.capacity ++ toLE 1 (if s.ep.image.isSome then s.ep.placement else 0xFF) ++
      toLE 1 s.unit.step ++ toLE 2 s.replyFlags ++ toLE 1 s.summary.causes ++ toLE 1 (s.fw.booted.getD 0xFF) ++
      toLE 4 s.ep.epoch ++
      toLE 4 (match s.ep.rolling with
        | some r => r.fromEpoch
        | none => s.ep.epoch) ++
      (match s.ep.image with
        | some m => m.id
        | none => List.replicate 16 0) ++
      toLE 8 s.unit.serial ++ toLE 8 s.wafer.serial ++ catB s.unit.macs ++ List.replicate 20 0 := by
  unfold State.stateRec State.epochFrom
  cases s.ep.image <;> cases s.ep.rolling <;> rfl

end Sys2Proof.Machine

open Sys2Proof Sys2Proof.Machine

/-- Settles O6: each datagram by its kind, then the close and the idle timeout, which disable the queue pair. -/
theorem networkQueuePairs : Obligations.NetworkQueuePairs := by
  unfold Obligations.NetworkQueuePairs
  intro s x dg n k hn hlen hk hok
  subst hn hk
  refine ⟨fun h0 hq => ?_, fun hq => ?_, fun p hp hf => ⟨fun h1 ht hroom => ?_, fun h1 ht hfull => ?_, fun h1 ht hnew => ?_,
    fun e h1 ht he => ?_, fun h3 => ?_, fun hq hidle => ?_⟩⟩
  · refine ⟨_, netOpen_opens hok h0 hq, rfl, ?_⟩
    rw [State.modQp_qp_self _ _ _ hlen]
    exact ⟨(by decide : bitAt (0x00090000 : Word32).toNat 16 = true), (by decide : bitAt (0x00090000 : Word32).toNat 19 = true),
      rfl, rfl, rfl, fun m hm => State.modQp_qp_ne _ _ m _ hm⟩
  · simp [exec, execNetOpen, hq]
  · rw [netRequest_row hok h1 hf hp, if_pos ht, if_neg (Nat.not_le.2 hroom)]
    refine ⟨_, rfl, rfl, ?_⟩
    rw [State.modQp_qp_self _ _ _ hlen]
    exact ⟨rfl, rfl, fun m hm => State.modQp_qp_ne _ _ m _ hm⟩
  · rw [netRequest_row hok h1 hf hp, if_pos ht, if_pos hfull]
    rfl
  · have hnone : p.recent.find? (fun r => r.1 == fieldN dg.payload 4 4) = none :=
      List.find?_eq_none.2 fun r hr he => hnew r.2 (by rw [← beq_iff_eq.1 he]; exact hr)
    rw [netRequest_row hok h1 hf hp, if_neg ht, hnone]
  · rw [netRequest_row hok h1 hf hp, if_neg ht, he]
  · have row : exec (.netClose x dg) s = .next ((s.enter x).disableQp (fieldN dg.payload 1 1)) := by
      simp [exec, execNetClose, hok, h3, hf]
    obtain ⟨hen, -, hacc, hne⟩ := State.disableQp_disables hlen
    exact ⟨_, row, rfl, hen, hacc, hne⟩
  · have row : exec (.netIdleTimeout x (fieldN dg.payload 1 1)) s = .next ((s.enter x).disableQp (fieldN dg.payload 1 1)) := by
      simp [exec, execNetIdleTimeout, hp, hq, hidle]
    obtain ⟨hen, -, hacc, hne⟩ := State.disableQp_disables hlen
    exact ⟨_, row, rfl, hen, hacc, hne⟩

/-- Settles O7: a request for the port's own address is answered, one for another is not. -/
theorem addressAndEchoReplies : Obligations.AddressAndEchoReplies := by
  unfold Obligations.AddressAndEchoReplies
  intro s x a e
  refine ⟨fun hup hip => ?_, arpRequest_ignored, fun hup hip => ?_, icmpEchoRequest_ignored⟩
  · have row : exec (.arpRequest x a) s = execArpRequest x a s := rfl
    rw [row, execArpRequest]
    simp only [hup, hip, beq_self_eq_true, Bool.true_and, if_true]
    exact ⟨_, rfl⟩
  · have row : exec (.icmpEchoRequest x e) s = execIcmpEchoRequest x e s := rfl
    rw [row, execIcmpEchoRequest]
    simp only [hup, hip, beq_self_eq_true, Bool.true_and, if_true, ← List.append_assoc]
    exact ⟨_, rfl⟩

/-- Settles O10: both rows complete their command with the record, whose fields stand in the table's order. -/
theorem systemRecordsAreReported : Obligations.SystemRecordsAreReported := by
  unfold Obligations.SystemRecordsAreReported
  intro s x qp tag d c
  refine ⟨fun hc => ?_, fun n p net hop => ?_, fun hc => ?_⟩
  · obtain ⟨rfl, rfl⟩ := find_name hc.1.1
    exact answeredWith_of_completes hc.1 (exec_of_run rfl hc rfl rfl)
  · have hlatch : ((s.enter x).mkCmd n p net).latch = (s.enter x).stateRec := by simp [State.mkCmd, hop]
    exact congrArg (fun l => { (s.enter x).mkCmd n p net with latch := l }) (hlatch.trans (State.stateRec_eq _))
  · obtain ⟨rfl, rfl⟩ := find_name hc.1.1
    exact answeredWith_of_completes hc.1 (exec_of_run rfl hc rfl rfl)

/-- Settles O11: the command is completed, the port's settings are put in place and its queue pairs are unbound; a cage's power is
enabled within its limit. -/
theorem networkAddressAndCages : Obligations.NetworkAddressAndCages := by
  unfold Obligations.NetworkAddressAndCages
  refine ⟨fun s x qp tag port d c hc hport hsite hports hqps => ?_, fun s x cage mw hcage => ?_⟩
  · obtain ⟨rfl, rfl⟩ := find_name hc.1.1
    refine ⟨_, netConfig_row rfl hc, ?_⟩
    generalize s.enter x = u at *
    subst hport
    obtain ⟨⟨hacc, e, hcompl, he⟩, hho⟩ := State.answered hc.1 stOK 0 []
    have hq := fun n => State.complete_queuePairs hc.1 stOK 0 [] n
    obtain ⟨-, -, hlen, hnet⟩ := hq 0
    generalize u.complete c.qp c.tag stOK 0 [] = v at *
    rw [State.unbindPort_qps]
    refine ⟨?_, ⟨hacc, e, hcompl, he⟩, ?_, fun n p hn hen hnw hp hpp => ?_⟩
    · rw [hostOnly_iff] at hho ⊢
      rw [← hho]
      rfl
    · exact lmod_getD_self _ _ _ _ (by rw [hnet, hports]; omega)
    · obtain ⟨hsz, hnt, -⟩ := hq n
      have hon : (v.qp n).onPort (fieldN c.params 0 1) = true := by
        simp only [QueuePair.enabled, QueuePair.network] at hen hnw
        simp [QueuePair.onPort, QueuePair.enabled, QueuePair.network, hsz, hnt, hen, hnw, hp, hpp]
      exact State.unbindOnes_enabled (fieldN c.params 0 1) (s := v.setNetPort (fieldN c.params 0 1) (netSettings c.params))
        (List.mem_range.2 hn) List.nodup_range (show n < v.host.qps.length by omega) hon
  · have row : exec (.pluggableModuleInserted x cage mw) s = execPluggableModuleInserted x cage mw s := rfl
    rw [row, execPluggableModuleInserted]
    simp only [hcage, if_true, cageLimit, within, Bool.and_eq_true, decide_eq_true_eq]
end

section
/-! PROOF. Gate lists, waiting frames and transmit buffers (16 R402, R404, R421, 19 R474). -/

namespace Sys2Proof.Machine

open Sys2Proof

/-! ### Tables with a key erased -/

@[simp] theorem tget_terase_self {α : Type} (t : List (Nat × α)) (k : Nat) : tget (terase t k) k = none := by
  by_contra h
  simpa using tget_filter_key (fun j => j != k) t k h

theorem tget_terase_ne {α : Type} (t : List (Nat × α)) {k j : Nat} (h : j ≠ k) : tget (terase t k) j = tget t j := by
  induction t with
  | nil => rfl
  | cons e t ih =>
    obtain ⟨i, a⟩ := e
    by_cases hi : i = k
    · subst hi
      rw [terase, List.filter_cons_of_neg (by simp), ← terase, ih, tget, if_neg (Ne.symm h)]
    · rw [terase, List.filter_cons_of_pos (by simpa using hi), ← terase, tget, tget, ih]

/-! ### The list and the buffer a command brings -/

/-- The gate list TSN_LIST_WRITE brings (18 Table 18-11). -/
def gateListOf (p : Bytes) : GateList :=
  { baseDom := fieldN p 2 1
    base := lktVal (sliceB p 8 16)
    items := (List.range (fieldN p 1 1)).map fun i => (fieldN p (24 + 8 * i) 1, fieldN p (28 + 8 * i) 4) }

theorem gateListOf_item (p : Bytes) {i : Nat} (h : i < fieldN p 1 1) :
    (gateListOf p).items[i]? = some (fieldN p (24 + 8 * i) 1, fieldN p (28 + 8 * i) 4) := by
  simp [gateListOf, h]

section
variable {s u : State} {x : At} {c : Cmd} (hu : s.enter x = u) (dt : Option Bytes)
include hu

theorem tsnListWrite_stages (hc : Accepted u.host c.qp c.tag 0x0904 c) :
    exec (.tsnListWrite x c.qp c.tag dt) s = .next ((u.stage fun t =>
      { t with gates := tset t.gates (fieldN c.params 0 1) (gateListOf c.params) }).complete c.qp c.tag stOK 0 []) :=
  exec_of_run hu hc rfl rfl

theorem agentBufWrite_refused (hc : Accepted u.host c.qp c.tag 0x0903 c) {b : AgentBuf}
    (hb : tget u.agent.bufs (fieldN c.params 0 2) = some b) (hi : b.image = true) :
    exec (.agentBufWrite x c.qp c.tag dt) s = .next (u.complete c.qp c.tag stBadState 0 []) := by
  refine exec_of_run hu hc rfl ?_
  simp [hb, hi]

theorem agentBufWrite_fills (hc : Accepted u.host c.qp c.tag 0x0903 c)
    (hb : ∀ b, tget u.agent.bufs (fieldN c.params 0 2) = some b → b.image = false) :
    exec (.agentBufWrite x c.qp c.tag dt) s = .next (({ u with agent := { u.agent with
      bufs := tset u.agent.bufs (fieldN c.params 0 2) ⟨fieldN c.params 2 1, fieldN c.params 3 1,
        sliceB c.params 8 (fieldN c.params 4 2), false⟩ } } : State).complete c.qp c.tag stOK 0 []) := by
  refine exec_of_run hu hc rfl ?_
  dsimp only
  cases h : tget u.agent.bufs (fieldN c.params 0 2) with
  | none => rfl
  | some b => exact if_neg (by simp [hb b h])

theorem tsnListSwitch_puts {p : Nat} {g : GateList} (hg : tget u.agent.nextGates p = some g) (hcyc : u.cycleStarts p = true) :
    exec (.tsnListSwitch x p) s = .next (({ u with agent := { u.agent with
      gates := tset u.agent.gates p g, nextGates := terase u.agent.nextGates p } } : State).startWaiting p u.time.localC) := by
  subst hu
  have row : exec (.tsnListSwitch x p) s = execTsnListSwitch x p s := rfl
  rw [row, execTsnListSwitch]
  simp [hg, hcyc]

theorem tsnListSwitch_idle {p : Nat} (h : tget u.agent.nextGates p = none ∨ u.cycleStarts p = false) :
    exec (.tsnListSwitch x p) s = .next u := by
  subst hu
  have row : exec (.tsnListSwitch x p) s = execTsnListSwitch x p s := rfl
  rw [row, execTsnListSwitch]
  rcases h with h | h
  · simp [h]
  · cases tget (s.enter x).agent.nextGates p <;> simp [h]

end

/-! ### Frames that wait for their gate -/

section
variable {u : State} {p n q : Nat} {b : Bytes}

theorem State.startWaiting_idle (h : u.agent.waiting.getD p [] = [] ∨ u.siteBusy p n = true ∨ u.agentPortUp p = false) :
    u.startWaiting p n = u := by
  rw [State.startWaiting]
  rcases h with h | h | h
  · split
    · rfl
    · simp only [State.nextTx, h]
      rfl
  · simp [h]
  · simp [h]

section
variable (hone : u.agent.waiting.getD p [] = [(q, b)]) (hq : q < 8)
include hone hq

/-- The turn of the only frame that waits is its own, where its gate lets it through. -/
theorem State.nextTx_one : u.nextTx p n = if u.gateFits p q n b = true then some (q, b) else none := by
  rw [State.nextTx, hone]
  have hown : q = 0 ∨ q = 1 ∨ q = 2 ∨ q = 3 ∨ q = 4 ∨ q = 5 ∨ q = 6 ∨ q = 7 := by omega
  cases hfit : u.gateFits p q n b <;> rcases hown with rfl | rfl | rfl | rfl | rfl | rfl | rfl | rfl <;>
    simp [List.findSome?, hfit]

variable (hbusy : u.siteBusy p n = false) (hup : u.agentPortUp p = true)
include hbusy hup

theorem State.startWaiting_shut (hfit : u.gateFits p q n b = false) : u.startWaiting p n = u := by
  rw [State.startWaiting, State.nextTx_one hone hq]
  simp [hbusy, hup, hfit]

/-- The only frame that waits starts: nothing waits behind it. -/
theorem State.startWaiting_sends (h6 : q ≠ 6) (hfit : u.gateFits p q n b = true) : u.startWaiting p n =
    { u with agent := { u.agent with
      sent := u.agent.sent ++ [(p, q, b)]
      waiting := lmod u.agent.waiting p fun l => l.eraseP fun e => e == (q, b)
      busy := lmod u.agent.busy p fun _ => n + wireTime b + gapTime } } := by
  have hlen : p < u.agent.waiting.length := by
    by_contra hlen
    rw [List.getD_eq_default _ _ (Nat.le_of_not_lt hlen)] at hone
    simp at hone
  have hrest : (lmod u.agent.waiting p fun l => l.eraseP fun e => e == (q, b)).getD p [] = [] := by
    rw [lmod_getD_self _ _ _ _ hlen, hone]
    simp
  rw [State.startWaiting, State.nextTx_one hone hq]
  simp only [hbusy, hup, hfit, Bool.not_true, Bool.or_false, Bool.false_eq_true, if_false, if_true, State.putSent, h6, hrest,
    List.isEmpty_nil]

end

end

theorem tsnGateEvent_row {s u : State} {x : At} (hu : s.enter x = u) (p : Nat) :
    exec (.tsnGateEvent x p) s = .next (u.startWaiting p u.time.localC) := by
  subst hu
  rfl

end Sys2Proof.Machine

open Sys2Proof Sys2Proof.Machine

/-- Settles O54: one lemma a row and outcome; the frame that waits alone is `State.startWaiting_sends`. -/
theorem gateListsAndTransmitBuffers : Obligations.GateListsAndTransmitBuffers := by
  unfold Obligations.GateListsAndTransmitBuffers
  refine ⟨fun s u x qp tag dt c hu => ⟨fun hc p hp => ?_, fun hc n hn => ⟨fun b hb hi => ?_, fun hb => ?_⟩⟩,
    fun s u x p hu => ?_⟩
  · subst hp
    obtain ⟨rfl, rfl⟩ := find_name hc.1.1
    obtain ⟨t, hrow, hans, ht⟩ := answered_of_completes_after hc.1 (tsnListWrite_stages hu.symm dt hc) rfl rfl rfl
    have hg : t.ep.staged.gates = tset u.ep.staged.gates (fieldN c.params 0 1) (gateListOf c.params) :=
      congrArg (·.ep.staged.gates) ht
    refine ⟨t, gateListOf c.params, hrow, hans, ?_, rfl, rfl, ?_, fun i hi => gateListOf_item _ hi, fun q hq => ?_, ?_⟩
    · rw [hg, tget_tset_self]
    · simp [gateListOf]
    · rw [hg, tget_tset_ne _ _ _ _ hq]
    · rw [hg]
      exact ht
  · subst hn
    obtain ⟨rfl, rfl⟩ := find_name hc.1.1
    exact answeredWith_of_completes hc.1 (agentBufWrite_refused hu.symm dt hc hb hi)
  · subst hn
    obtain ⟨rfl, rfl⟩ := find_name hc.1.1
    obtain ⟨t, hrow, hans, ht⟩ := answered_of_completes_after hc.1 (agentBufWrite_fills hu.symm dt hc hb) rfl rfl rfl
    have hbufs := (congrArg (·.agent.bufs) ht :)
    refine ⟨t, hrow, hans, ?_, fun j hj => ?_, ?_⟩
    · rw [hbufs]
      exact tget_tset_self _ _ _
    · rw [hbufs]
      exact tget_tset_ne _ _ _ _ hj
    · rw [hbufs]
      exact ht
  · replace hu := hu.symm
    refine ⟨fun h => tsnListSwitch_idle hu (.inl h), fun h => tsnListSwitch_idle hu (.inr h), fun g hg hcyc =>
      ⟨_, tsnListSwitch_puts hu hg hcyc, tget_tset_self _ _ _, tget_terase_self _ _, fun q hq =>
        ⟨tget_tset_ne _ _ _ _ hq, tget_terase_ne _ hq⟩, rfl⟩, fun h => ?_, fun q b hone hbusy hup hq h6 => ⟨fun hfit => ?_, fun hfit => ?_⟩⟩
    · rw [tsnGateEvent_row hu, State.startWaiting_idle h]
    · rw [tsnGateEvent_row hu, State.startWaiting_shut hone hq hbusy hup hfit]
    · rw [tsnGateEvent_row hu, State.startWaiting_sends hone hq hbusy hup h6 hfit]
      have hlen : p < u.agent.waiting.length := by
        by_contra hlen
        rw [List.getD_eq_default _ _ (Nat.le_of_not_lt hlen)] at hone
        simp at hone
      refine ⟨_, rfl, ?_, rfl, fun r hr => lmod_getD_ne _ _ _ _ _ hr, fun hb => lmod_getD_self _ _ _ _ hb, rfl⟩
      rw [lmod_getD_self _ _ _ _ hlen, hone]
      simp
end

section
/-! PROOF. Queries that end (13 R328 to R333, R345, 18 R463), and what accesses to cell words leave alone (07 R178, R180). -/

namespace Sys2Proof.Machine

open Sys2Proof

/-! ### Accesses to cell words -/

/-- A state less what an access to a cell word changes: memory, the cells' registers, the ring of events and the panel. -/
def State.sansWords (s : State) : State :=
  { s with mem := [], cells := CellSt.reset, flash := FlashSt.reset, panel := PanelSt.reset }

theorem State.event_sansWords (s : State) (k c u d : Nat) : (s.event k c u d).sansWords = s.sansWords := by
  unfold State.event State.panelTouch
  dsimp only
  repeat' split
  all_goals rfl

@[simp] theorem State.putWord_sansWords (s : State) (g w d c : Nat) : (s.putWord g w d c).sansWords = s.sansWords := rfl

theorem State.cellEvent_sansWords (s : State) (k g d : Nat) : (s.cellEvent k g d).sansWords = s.sansWords := by
  unfold State.cellEvent
  split
  · rfl
  · exact s.event_sansWords _ _ _ _

theorem State.poisonWord_sansWords (s : State) (g w d : Nat) : (s.poisonWord g w d).sansWords = s.sansWords := by
  unfold State.poisonWord
  dsimp only
  split <;> rfl

theorem State.readWord_sansWords (s : State) (g w : Nat) : (s.readWord g w).2.sansWords = s.sansWords := by
  unfold State.readWord
  dsimp only
  cases s.wordClass g w with
  | clean => rfl
  | correctable => exact State.cellEvent_sansWords _ _ _ _
  | uncorrectable => exact (State.cellEvent_sansWords _ _ _ _).trans (s.poisonWord_sansWords _ _ _)
  | poison => rfl

theorem State.fullWrite_sansWords (s : State) (g w v : Nat) : (s.fullWrite g w v).sansWords = s.sansWords := by
  unfold State.fullWrite
  dsimp only
  split
  · exact State.cellEvent_sansWords _ _ _ _
  · rfl

theorem State.writeWord_sansWords (s : State) (g w v mask : Nat) : (s.writeWord g w v mask).2.sansWords = s.sansWords := by
  unfold State.writeWord
  dsimp only
  split
  · rfl
  split
  · exact s.fullWrite_sansWords _ _ _
  cases s.wordClass g w with
  | clean => exact s.putWord_sansWords _ _ _ _
  | correctable => exact (State.cellEvent_sansWords _ _ _ _).trans (s.putWord_sansWords _ _ _ _)
  | uncorrectable => exact (State.cellEvent_sansWords _ _ _ _).trans (s.poisonWord_sansWords _ _ _)
  | poison => exact s.putWord_sansWords _ _ _ _

theorem State.countAccess_sansWords (s : State) (g : Nat) (ue : Bool) (banks : List Nat) :
    (s.countAccess g ue banks).2.sansWords = s.sansWords := by
  unfold State.countAccess
  extract_lets full v src t
  have hv : v.sansWords = s.sansWords :=
    List.foldlRecOn (motive := fun p : Bool × State => p.2.sansWords = s.sansWords) banks _ rfl fun _ hp _ _ => hp
  have ht : t.sansWords = s.sansWords := by
    unfold t
    split <;> exact hv
  split
  · exact hv
  · exact ht

theorem State.counted_sansWords (s : State) (g : Nat) (a : Access) (bank : Nat) : (s.counted g a bank).sansWords = s.sansWords := by
  unfold State.counted
  extract_lets r
  have hcount : r.2.sansWords = s.sansWords := s.countAccess_sansWords g a.ue _
  split
  · split <;> exact hcount
  · exact hcount

theorem State.writeWords_sansWords (s : State) (g off : Nat) (b : Bytes) : (s.writeWords g off b).2.sansWords = s.sansWords :=
  List.foldlRecOn (motive := fun p : Total × State => p.2.sansWords = s.sansWords) _ _ rfl fun p hp _ _ =>
    ((State.counted_sansWords _ _ _ _).trans (p.2.writeWord_sansWords _ _ _ _)).trans hp

@[simp] theorem State.writeRegion_sansWords (s : State) (r off : Nat) (b : Bytes) :
    (s.writeRegion r off b).sansWords = s.sansWords := by
  unfold State.writeRegion
  split
  · exact s.writeWords_sansWords _ _ _
  · rfl

/-! ### Numbers in bytes -/

theorem leNat_lt (b : Bytes) : leNat b < 256 ^ b.length := by
  induction b with
  | nil => exact Nat.one_pos
  | cons a b ih =>
    have ha : a.toNat < 256 := a.isLt
    rw [leNat, List.length_cons, Nat.pow_succ]
    omega

theorem fieldN_lt (b : Bytes) (off n : Nat) : fieldN b off n < 256 ^ n :=
  (leNat_lt _).trans_le (Nat.pow_le_pow_right (by decide) (List.length_take_le _ _))

/-! ### Members of ordered lists -/

theorem mem_sins_self (l : List Nat) (k : Nat) : k ∈ sins l k := by
  induction l with
  | nil => exact List.mem_cons_self
  | cons j l ih =>
    rw [sins]
    split
    · exact List.mem_cons_self
    · split
      · next h => exact h ▸ List.mem_cons_self
      · exact List.mem_cons_of_mem _ ih

/-! ### What a query comes to -/

/-- The ranked codes of a query that pass its filters, of the shards complete for it. -/
def Merged.kept (m : Merged) : List (Nat × Nat × Nat) := m.found.considered.filter fun e => m.found.passed.contains e.2.1

/-- The entries a query returns: the first K of them. -/
def Merged.entries (m : Merged) : List (Nat × Nat × Nat) := m.kept.take (queryK m.query.record)

theorem Merged.mem_entries {m : Merged} {e : Nat × Nat × Nat} (h : e ∈ m.entries) :
    e ∈ m.found.ranked ∧ e.2.1 ∈ m.found.passed ∧ codeShard e.2.1 ∉ m.found.missing := by
  have hkept := List.mem_of_mem_take h
  simp only [Merged.kept, Ranked.considered, List.mem_filter, List.contains_iff_mem, Bool.not_eq_true',
    ← Bool.not_eq_true] at hkept
  obtain ⟨⟨hranked, hmissing⟩, hpassed⟩ := hkept
  exact ⟨hranked, hpassed, hmissing⟩

theorem Merged.entries_length_le (m : Merged) : m.entries.length ≤ queryK m.query.record := List.length_take_le _ _

/-- The status of a query that returns entries. -/
def Merged.status (m : Merged) : Nat :=
  if m.entries.length < queryK m.query.record then stFewer
  else if m.entries.any (fun a => m.entries.any fun b => a.2.2 != b.2.2) then stMixed else stOK

theorem Merged.status_cases (m : Merged) : (m.status = 0x0002 ↔ m.entries.length < queryK m.query.record) ∧
    (m.status = 0 ∨ m.status = 0x0002 ∨ m.status = 0x0003) := by
  unfold Merged.status
  split
  · next h => exact ⟨iff_of_true rfl h, .inr (.inl rfl)⟩
  · next h =>
    split
    · exact ⟨iff_of_false (by decide) h, .inr (.inr rfl)⟩
    · exact ⟨iff_of_false (by decide) h, .inl rfl⟩

section
variable {m : Merged}

/-- A table word lost: no entries (13 R333). -/
theorem Merged.answer_lost (hue : m.found.ue = true) : m.answer = ⟨stUE, [], 0, false⟩ := by
  simp [Merged.answer, hue]

/-- Shards missed, and the query does not take that: no entries (13 R330). -/
theorem Merged.answer_refused (hue : m.found.ue = false) (hmiss : m.found.missing ≠ [])
    (hpart : (fieldN m.query.record 1 1).testBit 0 = false) : m.answer = ⟨stShard, [], 0, false⟩ := by
  simp [Merged.answer, hue, hmiss, bitAt, hpart]

theorem Merged.answer_found (hue : m.found.ue = false)
    (hfull : m.found.missing = [] ∨ (fieldN m.query.record 1 1).testBit 0 = true) :
    m.answer.status = m.status ∧ m.answer.entries = m.entries ∧ m.answer.filtered = m.found.considered.length - m.kept.length := by
  have hnot : (!m.found.missing.isEmpty && !bitAt (fieldN m.query.record 1 1) 0) = false := by
    rcases hfull with h | h <;> simp [h, bitAt]
  simp only [Merged.answer, hue, hnot, Bool.false_eq_true, if_false]
  exact ⟨rfl, rfl, rfl⟩

end

/-! ### A query result (13 Table 13-5) -/

/-- An entry of a query result. -/
def queryEntry (e : Nat × Nat × Nat) : Bytes := toLE 8 e.2.1 ++ toLE 4 e.1 ++ toLE 1 e.2.2 ++ [0, 0, 0]

theorem queryEntry_length (e : Nat × Nat × Nat) : (queryEntry e).length = 16 := by simp [queryEntry, toLE_length]

theorem queryEntry_fields (e : Nat × Nat × Nat) : fieldN (queryEntry e) 0 8 = e.2.1 % 2 ^ 64 ∧
    fieldN (queryEntry e) 8 4 = e.1 % 2 ^ 32 ∧ fieldN (queryEntry e) 12 1 = e.2.2 % 256 := by
  simp only [queryEntry, List.append_assoc]
  refine ⟨fieldN_toLE [] _ 8 _, fieldN_toLE_behind (toLE_length _ _) 4 _, ?_⟩
  rw [← List.append_assoc]
  exact fieldN_toLE_behind (by simp [toLE_length]) 1 _

theorem resultBytes_head (m : Merged) (a : Answer) : fieldN (resultBytes m a) 0 4 = fieldN m.query.record 12 4 ∧
    fieldN (resultBytes m a) 4 1 = a.entries.length % 256 := by
  simp only [resultBytes, List.append_assoc]
  have hid : fieldN m.query.record 12 4 % 256 ^ 4 = fieldN m.query.record 12 4 := Nat.mod_eq_of_lt (fieldN_lt _ _ _)
  exact ⟨(fieldN_toLE [] _ 4 _).trans hid, fieldN_toLE_behind (toLE_length _ _) 1 _⟩

/-- The entries stand behind the head of 64 bytes. -/
theorem resultBytes_entries (m : Merged) (a : Answer) (h : m.found.start.length = 16) : ∃ head, head.length = 64 ∧
    resultBytes m a = head ++ catB (a.entries.map queryEntry) := by
  unfold resultBytes
  extract_lets f shut
  rw [List.flatMap_def]
  exact ⟨_, by simp [f, h, toLE_length], rfl⟩

theorem resultBytes_entry (m : Merged) (a : Answer) (h : m.found.start.length = 16) {k : Nat} {e : Nat × Nat × Nat}
    (he : a.entries[k]? = some e) : fieldN (resultBytes m a) (64 + 16 * k) 8 = e.2.1 % 2 ^ 64 ∧
      fieldN (resultBytes m a) (64 + 16 * k + 8) 4 = e.1 % 2 ^ 32 ∧ fieldN (resultBytes m a) (64 + 16 * k + 12) 1 = e.2.2 % 256 := by
  obtain ⟨head, hhead, hbytes⟩ := resultBytes_entries m a h
  have hlen : ∀ b ∈ a.entries.map queryEntry, b.length = 16 := List.forall_mem_map.2 fun e _ => queryEntry_length e
  have hk : (a.entries.map queryEntry)[k]? = some (queryEntry e) := by simp [he]
  obtain ⟨hcode, hdist, hgen⟩ := queryEntry_fields e
  have hfield : ∀ off n, off + n ≤ 16 → fieldN (resultBytes m a) (64 + (16 * k + off)) n = fieldN (queryEntry e) off n :=
    fun off n hoff => by rw [hbytes, fieldN_append_right hhead, fieldN_catB hlen hk hoff]
  exact ⟨(hfield 0 8 (by decide)).trans hcode, (hfield 8 4 (by decide)).trans hdist, (hfield 12 1 (by decide)).trans hgen⟩

/-! ### The row -/

theorem Merged.reruns_iff (m : Merged) : m.reruns = true ↔ m.found.missing ≠ [] ∧ m.found.ue = false ∧
    (fieldN m.query.record 1 1).testBit 1 = true ∧ m.query.prior = none := by
  simp [Merged.reruns, bitAt, and_assoc]

section
variable {s u : State} {x : At} {m : Merged} {rest : List Merged} (hu : s.enter x = u) (hm : u.place.merged = m :: rest)
include hu hm

theorem queryComplete_again (hr : m.reruns = true) : exec (.queryComplete x) s =
    .next { u with place := { u.place with merged := rest, queue := putQuery u.place.queue m.again } } := by
  subst hu
  have row : exec (.queryComplete x) s = execQueryComplete x s := rfl
  rw [row, execQueryComplete]
  simp only [hm, State.rerunOr, hr, if_true]
  rfl

/-- A host's query ends with its status, its counts and its result. -/
theorem queryComplete_host (hr : m.reruns = false) {qp tag : Nat} (hsrc : m.query.src = .host qp tag) :
    exec (.queryComplete x) s = .next (({ u with place := { u.place with merged := rest } } : State).complete qp tag
      m.answer.status (m.answer.entries.length + 256 * m.answer.filtered)
      (if m.answer.status = stUE then [] else resultBytes m m.answer)) := by
  subst hu
  have row : exec (.queryComplete x) s = execQueryComplete x s := rfl
  rw [row, execQueryComplete]
  simp only [hm, State.rerunOr, hr, Bool.false_eq_true, if_false, hsrc]

/-- A query of a stage of the image in use ends in its instance. -/
theorem queryComplete_stage (hr : m.reruns = false) {i own : Nat} (hsrc : m.query.src = .stage i own) (hold : u.oldOf i = none) :
    exec (.queryComplete x) s = .next (({ u with place := { u.place with merged := rest } } : State).stageAnswer i own m
      m.answer).retireDue := by
  subst hu
  have row : exec (.queryComplete x) s = execQueryComplete x s := rfl
  have hold' : ({ s.enter x with place := { (s.enter x).place with merged := rest } } : State).oldOf i = none := hold
  rw [row, execQueryComplete]
  simp only [hm, State.rerunOr, hr, Bool.false_eq_true, if_false, hsrc, State.asFired, hold']

end

/-! ### A stage's query -/

/-- The instance a stage's query ends in: its result is in, or the cause met, and one query fewer is open. -/
def StageRun.answered (r : StageRun) (m : Merged) (a : Answer) : StageRun :=
  let r := if a.status = stUE then r.meets 1 0 else { r with results := r.results ++ resultBytes m a }
  { r with open_ := r.open_ - 1 }

theorem StageRun.meets_open (r : StageRun) (c o : Nat) : (r.meets c o).open_ = r.open_ := by
  unfold StageRun.meets
  split
  · rfl
  · split <;> rfl

theorem StageRun.answered_open (r : StageRun) (m : Merged) (a : Answer) : (r.answered m a).open_ = r.open_ - 1 := by
  unfold StageRun.answered
  dsimp only
  split
  · rw [r.meets_open]
  · rfl

/-- A record written leaves the tables of instances and the map alone. -/
theorem State.putRecord_parts (s : State) (i : Nat) (r : StageRun) (b : Bytes) (keep : Nat) :
    (s.putRecord i r b keep).stg = { s.stg with written := sins s.stg.written i } ∧
      (s.putRecord i r b keep).place = s.place := by
  unfold State.putRecord
  extract_lets src t o com w f
  have hparts : w.stg = { s.stg with written := sins s.stg.written i } ∧ w.place = s.place := by
    unfold w
    split <;> exact ⟨rfl, rfl⟩
  have keeps : ∀ t : State, t.sansWords = w.sansWords ∨ t.sansWords = (w.freeBytes (b.length - keep)).2.sansWords →
      t.stg = { s.stg with written := sins s.stg.written i } ∧ t.place = s.place := fun t h => by
    rw [← hparts.1, ← hparts.2]
    rcases h with h | h <;> exact ⟨(congrArg State.stg h :), (congrArg State.place h :)⟩
  split
  · exact keeps _ (.inr (by simp [f]))
  · split
    · exact keeps _ (.inl (by simp))
    · exact keeps _ (.inl (by simp))

/-- The state a stage's query ends in: a loop stage's candidates are queued. -/
def State.looped (s : State) (d : StageDesc) (own : Nat) (a : Answer) : State :=
  if d.loop then s.addCands own a.entries else s

theorem State.looped_parts (s : State) (d : StageDesc) (own : Nat) (a : Answer) :
    (s.looped d own a).stg = s.stg ∧ (s.looped d own a).place.merged = s.place.merged := by
  unfold State.looped
  split <;> exact ⟨rfl, rfl⟩

theorem State.stageAnswer_eq {s : State} {i own : Nat} {m : Merged} {a : Answer} {r : StageRun} {d : StageDesc}
    (hd : s.stageDesc i = some d) (hr : tget s.stg.runs i = some r) : s.stageAnswer i own m a =
      if (r.answered m a).open_ = 0 then
        ((s.looped d own a).putRecord i (r.answered m a) (r.answered m a).results 0).endRun i
      else (s.looped d own a).setRun i (r.answered m a) := by
  rw [State.stageAnswer, hd, hr]
  rfl

theorem State.stageAnswer_parts {s : State} {i own : Nat} {m : Merged} {a : Answer} {r : StageRun} {d : StageDesc}
    (hd : s.stageDesc i = some d) (hr : tget s.stg.runs i = some r) :
    (s.stageAnswer i own m a).place.merged = s.place.merged ∧
    (r.open_ = 1 → tget (s.stageAnswer i own m a).stg.runs i = none ∧ i ∈ (s.stageAnswer i own m a).stg.written) ∧
    (2 ≤ r.open_ → ∃ q, tget (s.stageAnswer i own m a).stg.runs i = some q ∧ q.open_ = r.open_ - 1) := by
  have hopen := r.answered_open m a
  obtain ⟨-, hmerged⟩ := s.looped_parts d own a
  obtain ⟨hstg, hplace⟩ := (s.looped d own a).putRecord_parts i (r.answered m a) (r.answered m a).results 0
  have hwritten : i ∈ ((s.looped d own a).putRecord i (r.answered m a) (r.answered m a).results 0).stg.written := by
    rw [hstg]
    exact mem_sins_self _ _
  rw [State.stageAnswer_eq hd hr]
  split
  · exact ⟨(congrArg PlaceSt.merged hplace).trans hmerged, fun _ => ⟨tget_terase_self _ _, hwritten⟩, fun h => by omega⟩
  · exact ⟨hmerged, fun h => by omega, fun _ => ⟨_, tget_tset_self _ _ _, hopen⟩⟩

end Sys2Proof.Machine

open Sys2Proof Sys2Proof.Machine

/-- Settles O44: a query goes round again, or ends where it came from; the result is `resultBytes` of `Merged.answer`. -/
theorem queriesEnd : Obligations.QueriesEnd := by
  unfold Obligations.QueriesEnd
  intro s u x hu
  replace hu := hu.symm
  refine ⟨fun h => ?_, fun m rest hm => ⟨fun h1 h2 h3 h4 => queryComplete_again hu hm (m.reruns_iff.2 ⟨h1, h2, h3, h4⟩), fun hends =>
    ?_⟩⟩
  · subst hu
    have row : exec (.queryComplete x) s = execQueryComplete x s := rfl
    rw [row, execQueryComplete]
    simp only [h]
  have hr : m.reruns = false := by
    rw [← Bool.not_eq_true, m.reruns_iff]
    rintro ⟨h1, h2, h3, h4⟩
    rcases hends with h | h | h | h <;> simp_all
  refine ⟨fun qp tag c hsrc hc => ?_, fun i own r d hsrc hold hrun hd => ?_⟩
  · obtain ⟨rfl, rfl⟩ := find_name hc.1
    obtain ⟨t, hrow, hans, ht⟩ := answered_of_completes_after (u := u) hc (queryComplete_host hu hm hr hsrc) rfl rfl rfl
    obtain ⟨hid, hcount⟩ := resultBytes_head m m.answer
    refine ⟨t, hrow, ht, fun hue => ?_, fun hue hmiss hpart => ?_, fun hue hfull => ?_⟩
    · rw [m.answer_lost hue] at hans
      exact hans
    · rw [m.answer_refused hue hmiss hpart] at hans hid hcount
      exact ⟨_, hans, hid, hcount⟩
    · obtain ⟨hst, hes, hfil⟩ := m.answer_found hue hfull
      obtain ⟨hfew, hst3⟩ := m.status_cases
      have hne : m.answer.status ≠ stUE := by
        rw [hst]
        rcases hst3 with h | h | h <;> rw [h] <;> decide
      rw [if_neg hne, hst, hfil] at hans
      rw [hes] at hans hcount
      exact ⟨_, m.entries, _, m.status, hans, m.entries_length_le, fun e he => m.mem_entries he, hfew, hst3, hid, hcount,
        fun k e hstart he => resultBytes_entry m m.answer hstart (hes ▸ he)⟩
  · exact ⟨_, queryComplete_stage hu hm hr hsrc hold, State.stageAnswer_parts (s := { u with place := { u.place with merged := rest } }) hd hrun⟩
end

section
/-! PROOF. What map maintenance and map distribution leave alone (13 R333, R344, 17 R456). -/

namespace Sys2Proof.Machine

open Sys2Proof

/-! ### Reads of store lines -/

/-- A state less what reads and writes of store lines change, and the counter of free choices. -/
def State.sansScan (s : State) : State := { s.sansLines with freeCtr := 0 }

theorem State.sansScan_of_sansLines {s t : State} (h : t.sansLines = s.sansLines) : t.sansScan = s.sansScan :=
  congrArg (fun v : State => ({ v with freeCtr := 0 } : State)) h

theorem State.readLine_sansLines (s : State) (r a : Nat) : (s.readLine r a).2.sansLines = s.sansLines := by
  unfold State.readLine
  dsimp only
  cases classifyLine (s.line r a) with
  | clean => rfl
  | correctable => exact State.event_sansLines _ _ _ _ _
  | uncorrectable => rw [State.event_sansLines, State.listPoison_sansLines, State.putLine_sansLines]
  | poison => rfl

theorem State.readNow_sansScan (s : State) (r a : Nat) : (s.readNow r a).2.sansScan = s.sansScan := by
  unfold State.readNow
  extract_lets p
  have hp : p.2.sansScan = s.sansScan := by
    refine List.foldlRecOn (motive := fun q : Option Bytes × State => q.2.sansScan = s.sansScan) _ _ rfl fun q hq t _ => ?_
    split <;> exact hq
  split
  · exact hp
  · exact (State.sansScan_of_sansLines (p.2.readLine_sansLines r a)).trans hp

theorem State.readStore_sansScan (s : State) (r a n : Nat) : (s.readStore r a n).2.sansScan = s.sansScan :=
  List.foldlRecOn (motive := fun q : Total × State => q.2.sansScan = s.sansScan) _ _ rfl fun q hq _ _ =>
    (q.2.readNow_sansScan _ _).trans hq

theorem State.codeInfo_sansScan (s : State) (d : ShardPlan) (row pos : Nat) : (s.codeInfo d row pos).2.sansScan = s.sansScan :=
  s.readStore_sansScan _ _ _

theorem State.codeDesc_sansScan (s : State) (d : ShardPlan) (row pos : Nat) : (s.codeDesc d row pos).2.sansScan = s.sansScan := by
  unfold State.codeDesc
  dsimp only
  split
  · exact (State.readStore_sansScan _ _ _ _).trans (s.codeInfo_sansScan _ _ _)
  · exact s.codeInfo_sansScan _ _ _

/-! ### Map maintenance -/

/-- A state less what map maintenance changes: store lines, free choices, the occupancy grid and its words, and the list of code
lines to repair. -/
def State.sansUpkeep (s : State) : State :=
  { s.sansScan with
    place := { s.place with voxels := [], coldLog := [], stored := [], badLines := [] }
    route := { s.route with occupied := [], deltas := [] } }

theorem State.sansUpkeep_of_sansScan {s t : State} (h : t.sansScan = s.sansScan) : t.sansUpkeep = s.sansUpkeep :=
  (congrArg (fun v : State => ({ v with
    place := { v.place with voxels := [], coldLog := [], stored := [], badLines := [] }
    route := { v.route with occupied := [], deltas := [] } } : State)) h :)

theorem State.repairLine_sansUpkeep (s : State) (k l : Nat) : (s.repairLine k l).sansUpkeep = s.sansUpkeep := by
  unfold State.repairLine
  split
  · next d book _ _ =>
    split
    · rfl
    · next row _ =>
      extract_lets r
      have hr : r.2.sansScan = s.sansScan := by
        refine List.foldlRecOn (motive := fun p : Option Bytes × State => p.2.sansScan = s.sansScan) _ _ rfl fun p hp i _ => ?_
        have hdesc : (p.2.codeDesc d row i).2.sansScan = s.sansScan := (p.2.codeDesc_sansScan d row i).trans hp
        extract_lets q
        split <;> exact hdesc
      split
      · exact State.sansUpkeep_of_sansScan hr
      · refine (State.sansUpkeep_of_sansScan (State.sansScan_of_sansLines (State.writeStore_sansLines _ _ _ _))).trans ?_
        exact State.sansUpkeep_of_sansScan hr
  · rfl

theorem State.repairLines_sansUpkeep (s : State) : s.repairLines.sansUpkeep = s.sansUpkeep := by
  unfold State.repairLines
  split
  · rfl
  · refine foldl_keeps State.sansUpkeep _ (fun t e => ?_) _ _
    dsimp only
    split
    · exact State.repairLine_sansUpkeep _ _ _
    · rfl

theorem State.observe_sansUpkeep (s : State) (v : Nat) (hit : Bool) : (s.observe v hit).2.sansUpkeep = s.sansUpkeep := by
  unfold State.observe
  split <;> rfl

theorem State.occDelta_sansUpkeep (s : State) (v : Nat) (set : Bool) (src origin : Nat) :
    (s.occDelta v set src origin).2.sansUpkeep = s.sansUpkeep := by
  unfold State.occDelta
  split <;> rfl

theorem State.observeDelta_sansUpkeep (s : State) (v : Nat) (hit : Bool) (src origin : Nat) :
    (s.observeDelta v hit src origin).sansUpkeep = s.sansUpkeep := by
  unfold State.observeDelta
  dsimp only
  split
  · exact (State.occDelta_sansUpkeep _ _ _ _ _).trans (s.observe_sansUpkeep v hit)
  · exact s.observe_sansUpkeep v hit

theorem State.writeStore_sansUpkeep (s : State) (r a : Nat) (b : Bytes) : (s.writeStore r a b).2.sansUpkeep = s.sansUpkeep :=
  State.sansUpkeep_of_sansScan (State.sansScan_of_sansLines (s.writeStore_sansLines r a b))

theorem State.tileKept_sansUpkeep (s : State) (t : Nat) : (s.tileKept t).sansUpkeep = s.sansUpkeep := by
  unfold State.tileKept State.tileStore
  split
  · split
    · exact (congrArg State.sansUpkeep rfl).trans (s.writeStore_sansUpkeep _ _ _)
    · rfl
  · rfl

theorem State.free_sansUpkeep (s : State) : s.free.2.sansUpkeep = s.sansUpkeep := rfl

theorem State.coldLog_sansUpkeep (s : State) (l : List (Nat × Bool)) :
    ({ s with place := { s.place with coldLog := l } } : State).sansUpkeep = s.sansUpkeep := rfl

/-- Observations applied, and the tiles kept that they fall in. -/
theorem State.applied_sansUpkeep (s : State) (now l : List (Nat × Bool)) (origin : Nat) (tiles : List Nat) :
    (tiles.foldl State.tileKept (now.foldl (fun s e => s.observeDelta e.1 e.2 14 origin)
      { s with place := { s.place with coldLog := l } })).sansUpkeep = s.sansUpkeep := by
  rw [foldl_keeps State.sansUpkeep _ State.tileKept_sansUpkeep,
    foldl_keeps State.sansUpkeep _ (fun _ _ => State.observeDelta_sansUpkeep _ _ _ _ _), State.coldLog_sansUpkeep]

theorem State.mapMaintenance_sansUpkeep (s : State) : s.mapMaintenance.sansUpkeep = s.sansUpkeep := by
  unfold State.mapMaintenance
  extract_lets f g
  have hg : g.2.sansUpkeep = s.sansUpkeep := by
    rw [State.free_sansUpkeep, State.free_sansUpkeep, s.repairLines_sansUpkeep]
  clear_value g f
  exact (State.applied_sansUpkeep g.2 _ _ _ _).trans hg

/-! ### Map distribution -/

/-- A state less what map distribution changes: the frames sent and the sequences of the destinations. -/
def State.sansDist (s : State) : State := { s with host := { s.host with netOut := [], dists := [] } }

theorem State.distribute_sansDist (s : State) (stream : Nat) (item : Bytes) : (s.distribute stream item).sansDist = s.sansDist := by
  unfold State.distribute
  refine foldl_keeps State.sansDist _ (fun t i => ?_) _ _
  split
  · rfl
  · split <;> rfl

/-- A command that is completed after an effect which sends map items and nothing else through the host interface. -/
theorem answered_of_completes_sent {i : Instr} {s u v w : State} {qp tag op st d : Nat} {p : Prog} {c : Cmd} {r : Bytes}
    (hc : Held u.host qp tag op p c) (h : exec i s = .next (w.complete c.qp c.tag st d r)) (hw : w.sansDist = v.sansDist)
    (hv : v.host = u.host) (he : v.ep.epoch = u.ep.epoch) (ht : v.time = u.time) :
    ∃ t, exec i s = .next t ∧ Answers u t c st d r ∧ HostOnly v t := by
  have hhost := (congrArg State.host hw :)
  have haccepted : w.host.accepted = v.host.accepted := (congrArg HostSt.accepted hhost :)
  have hcompletions : w.host.completions = v.host.completions := (congrArg HostSt.completions hhost :)
  rw [← hv] at hc
  have hheld : Held w.host qp tag op p c := by
    obtain ⟨h1, h2, h3, h4, h5, h6, h7, h8⟩ := hc
    exact ⟨haccepted ▸ h1, h2, h3, h4, ((congrArg HostSt.qps hhost :) ▸ h5),
      (congrArg HostSt.cqOk hhost :).trans h6, (congrArg HostSt.resultOk hhost :).trans h7, h8⟩
  obtain ⟨⟨hacc, e, hcomp, htag, hqp, hst, hd, hr, hepoch, hstamp, hhead⟩, hho⟩ := State.answered hheld st d r
  have htime : w.time = u.time := (congrArg State.time hw :).trans ht
  have hstamp64 : w.stamp64 = u.stamp64 := by simp only [State.stamp64, State.counter, State.dom, htime]
  refine ⟨_, h, ⟨?_, e, ?_, htag, hqp, hst, hd, hr, ?_, hstamp.trans hstamp64, hhead⟩, ?_⟩
  · rw [hacc, haccepted, hv]
  · rw [hcomp, hcompletions, hv]
  · exact hepoch.trans ((congrArg (·.ep.epoch) hw :).trans he)
  · rw [hostOnly_iff, hostOnly_iff.1 hho]
    exact (congrArg State.sansHost hw :)

end Sys2Proof.Machine
end

section
/-! PROOF. Codebooks, loop candidates, closures, poses and the graph (13 R335, R341, R342, R346, R347). -/

namespace Sys2Proof.Machine

open Sys2Proof

/-! ### Slices -/

theorem sliceB_getElem? (b : Bytes) (off : Nat) {n i : Nat} (h : i < n) : (sliceB b off n)[i]? = some (b.getD (off + i) 0) := by
  rw [sliceB]
  by_cases hi : i < ((b.drop off).take n).length
  · have hb : off + i < b.length := by simp at hi; omega
    rw [List.getElem?_append_left hi, List.getElem?_take_of_lt h, List.getElem?_drop, List.getD_eq_getElem _ _ hb,
      List.getElem?_eq_getElem hb]
  · have hb : b.length ≤ off + i := by simp at hi; omega
    rw [List.getElem?_append_right (Nat.le_of_not_lt hi), List.getD_eq_default _ _ hb, List.getElem?_replicate_of_lt]
    omega

/-- A slice of a slice. -/
theorem sliceB_sliceB (b : Bytes) {at_ len off n : Nat} (h : off + n ≤ len) :
    sliceB (sliceB b at_ len) off n = sliceB b (at_ + off) n := by
  refine List.ext_getElem? fun i => ?_
  by_cases hi : i < n
  · rw [sliceB_getElem? _ _ hi, sliceB_getElem? _ _ hi, List.getD_eq_getElem?_getD, sliceB_getElem? _ _ (by omega : off + i < len),
      Nat.add_assoc]
    rfl
  · rw [List.getElem?_eq_none (by rw [sliceB_length]; omega), List.getElem?_eq_none (by rw [sliceB_length]; omega)]

section
variable {s u : State} {x : At} {c : Cmd} (hu : s.enter x = u) {dt : Option Bytes}
include hu

/-! ### CODEBOOK_LOAD -/

theorem codebookLoad_noData (hc : Accepted u.host c.qp c.tag 0x0602 c) :
    exec (.codebookLoad x c.qp c.tag none) s = .next (u.complete c.qp c.tag stBadParam 0xFFFFFFFF []) :=
  exec_of_run hu hc rfl rfl

theorem codebookLoad_row (hc : Accepted u.host c.qp c.tag 0x0602 c) (d : Bytes) :
    exec (.codebookLoad x c.qp c.tag (some d)) s = .next (
      if u.migrating then u.complete c.qp c.tag stBadState 0 []
      else if !bookOk (sliceB d 0 131088) || u.liveGens.contains (bookGen (sliceB d 0 131088)) then
        u.complete c.qp c.tag stBadParam 0 []
      else ({ u with ep := { u.ep with staged := { u.ep.staged with codebook := some (sliceB d 0 131088) } } } : State).complete
        c.qp c.tag stOK 0 []) :=
  exec_of_run hu hc rfl rfl

end

/-! ### Loop candidates and closures -/

/-- A candidate as LOOP_CAND_READ answers it (18 Table 18-8). -/
def LoopCand.bytes (k : LoopCand) : Bytes := toLE 8 k.node ++ toLE 8 k.code ++ toLE 4 k.dist ++ toLE 1 k.gen ++ toLE 3 0

theorem LoopCand.bytes_length (k : LoopCand) : k.bytes.length = 24 := by simp [LoopCand.bytes, toLE_length]

theorem LoopCand.bytes_fields (k : LoopCand) : fieldN k.bytes 0 8 = k.node % 2 ^ 64 ∧ fieldN k.bytes 8 8 = k.code % 2 ^ 64 ∧
    fieldN k.bytes 16 4 = k.dist % 2 ^ 32 ∧ fieldN k.bytes 20 1 = k.gen % 256 := by
  refine ⟨?_, ?_, ?_, ?_⟩
  · simp only [LoopCand.bytes, List.append_assoc]
    exact fieldN_toLE [] _ 8 _
  · simp only [LoopCand.bytes, List.append_assoc]
    exact fieldN_toLE_behind (toLE_length _ _) 8 _
  · rw [LoopCand.bytes, List.append_assoc, List.append_assoc]
    exact fieldN_toLE_behind (by simp [toLE_length]) 4 _
  · rw [LoopCand.bytes, List.append_assoc]
    exact fieldN_toLE_behind (by simp [toLE_length]) 1 _

/-- The candidates LOOP_CAND_READ answers. -/
def State.candBytes (s : State) (n : Nat) : Bytes := catB ((s.place.cands.take n).map LoopCand.bytes)

theorem State.candBytes_length (s : State) (n : Nat) : (s.candBytes n).length = 24 * min n s.place.cands.length := by
  rw [State.candBytes, catB_length (List.forall_mem_map.2 fun k _ => k.bytes_length), List.length_map, List.length_take]

theorem State.candBytes_cand (s : State) {n i : Nat} {k : LoopCand} (hi : i < n) (hk : s.place.cands[i]? = some k) :
    fieldN (s.candBytes n) (24 * i) 8 = k.node % 2 ^ 64 ∧ fieldN (s.candBytes n) (24 * i + 8) 8 = k.code % 2 ^ 64 ∧
      fieldN (s.candBytes n) (24 * i + 16) 4 = k.dist % 2 ^ 32 ∧ fieldN (s.candBytes n) (24 * i + 20) 1 = k.gen % 256 := by
  have hlen : ∀ b ∈ (s.place.cands.take n).map LoopCand.bytes, b.length = 24 := List.forall_mem_map.2 fun k _ => k.bytes_length
  have hmem : ((s.place.cands.take n).map LoopCand.bytes)[i]? = some k.bytes := by
    rw [List.getElem?_map, List.getElem?_take_of_lt hi, hk]
    rfl
  have hfield : ∀ off m, off + m ≤ 24 → fieldN (s.candBytes n) (24 * i + off) m = fieldN k.bytes off m := fun off m h =>
    fieldN_catB hlen hmem h
  obtain ⟨hnode, hcode, hdist, hgen⟩ := k.bytes_fields
  exact ⟨(hfield 0 8 (by decide)).trans hnode, (hfield 8 8 (by decide)).trans hcode, (hfield 16 4 (by decide)).trans hdist,
    (hfield 20 1 (by decide)).trans hgen⟩

section
variable {s u : State} {x : At} {c : Cmd} (hu : s.enter x = u) {dt : Option Bytes}
include hu

theorem loopCandRead_row (hc : Accepted u.host c.qp c.tag 0x0603 c) : exec (.loopCandRead x c.qp c.tag dt) s =
    .next (({ u with place := { u.place with cands := u.place.cands.drop (fieldN c.params 0 2) } } : State).complete c.qp c.tag
      stOK 0 (u.candBytes (fieldN c.params 0 2))) := by
  refine exec_of_run hu hc rfl ?_
  dsimp only
  rw [List.flatMap_def]
  rfl

/-- The edges a closure brings. -/
def Cmd.closures (c : Cmd) : List Bytes := (List.range (fieldN c.params 0 2)).map fun i => sliceB c.params (8 + 136 * i) 136

/-- Both nodes of an edge exist. -/
def State.edgeKnown (s : State) (b : Bytes) : Bool :=
  (tget s.place.nodes (fieldN b 0 8)).isSome && (tget s.place.nodes (fieldN b 8 8)).isSome

theorem loopCloseSubmit_row (hc : Accepted u.host c.qp c.tag 0x0604 c) : exec (.loopCloseSubmit x c.qp c.tag dt) s =
    .next (if c.closures.all u.edgeKnown then (u.addEdges c.closures).complete c.qp c.tag stOK 0 []
      else u.complete c.qp c.tag stBadParam 0 []) :=
  exec_of_run hu hc rfl rfl

/-! ### The graph read -/

/-- The records MAP_GRAPH_READ is asked for (18 Table 18-8). -/
def State.graphWanted (s : State) (c : Cmd) : List Bytes :=
  (if fieldN c.params 0 1 = 0 then (s.place.nodes.filter fun e => decide (fieldN c.params 8 8 ≤ e.1)).map Prod.snd
    else s.place.edges.drop (fieldN c.params 8 8)).take (fieldN c.params 4 4)

/-- Those before the first that cannot be read. -/
def State.graphGot (s : State) (c : Cmd) : List Bytes := (s.graphWanted c).takeWhile fun b => !s.graphAway (fieldN b 0 8)

theorem mapGraphRead_row (hc : Accepted u.host c.qp c.tag 0x0605 c) : exec (.mapGraphRead x c.qp c.tag dt) s =
    .next (u.complete c.qp c.tag (if (u.graphGot c).length < (u.graphWanted c).length then stShard else stOK)
      (u.graphGot c).length (u.graphGot c).flatten) :=
  exec_of_run hu hc rfl rfl

end

theorem takeWhile_eq_take {α : Type} {p : α → Bool} {l : List α} {k : Nat} {a : α} (ha : l[k]? = some a) (hp : p a = false)
    (hbefore : ∀ b ∈ l.take k, p b = true) : l.takeWhile p = l.take k := by
  have hsplit := List.take_append_drop k l
  have hdrop : l.drop k = a :: l.drop (k + 1) := by
    obtain ⟨hk, rfl⟩ := List.getElem?_eq_some_iff.1 ha
    exact List.drop_eq_getElem_cons hk
  calc l.takeWhile p = (l.take k ++ l.drop k).takeWhile p := by rw [hsplit]
    _ = l.take k := by rw [List.takeWhile_append_of_pos hbefore, hdrop, List.takeWhile_cons_of_neg (by simp [hp]), List.append_nil]

/-! ### Poses -/

/-- The poses to write as graph nodes of one commit. -/
def poseNodes (seq : Nat) (ns : List Bytes) : List (Nat × Bytes) :=
  ns.map fun b => (fieldN b 0 8, nodeBytes (fieldN b 0 8) (sliceB b 8 28) seq)

theorem nodeBytes_id (b p : Bytes) (seq : Nat) : fieldN (nodeBytes (fieldN b 0 8) p seq) 0 8 = fieldN b 0 8 := by
  simp only [nodeBytes, List.append_assoc]
  exact (fieldN_toLE [] _ 8 _).trans (Nat.mod_eq_of_lt (fieldN_lt _ _ _))

/-- The sequence number of the next commit. -/
def State.nextOpt (s : State) : Nat := (s.place.optSeq + 1) % 4294967296

/-- The poses given of nodes that exist. -/
def State.knownPoses (s : State) (ns : List Bytes) : List Bytes := ns.filter fun b => (tget s.place.nodes (fieldN b 0 8)).isSome

/-- The map with the poses written. -/
def State.posed (s : State) (ns : List Bytes) : State :=
  { s with place := { s.place with
    nodes := (poseNodes s.nextOpt (s.knownPoses ns)).foldl (fun t e => tset t e.1 e.2) s.place.nodes
    optSeq := s.nextOpt } }

theorem State.commitPoses_sansDist (s : State) (ns : List Bytes) : (s.commitPoses ns).sansDist = (s.posed ns).sansDist := by
  have hnodes : ∀ (l : List Bytes) (t : List (Nat × Bytes)),
      (l.map fun b => nodeBytes (fieldN b 0 8) (sliceB b 8 28) s.nextOpt).foldl (fun t b => tset t (fieldN b 0 8) b) t =
        (poseNodes s.nextOpt l).foldl (fun t e => tset t e.1 e.2) t := fun l t => by
    simp only [poseNodes, List.foldl_map, nodeBytes_id]
  refine (State.distribute_sansDist _ _ _).trans ?_
  rw [State.posed, State.knownPoses, ← hnodes]
  rfl

theorem State.posed_other (s : State) {ns : List Bytes} {k : Nat} (h : ∀ b ∈ s.knownPoses ns, fieldN b 0 8 ≠ k) :
    tget (s.posed ns).place.nodes k = tget s.place.nodes k :=
  tget_lay_other (List.forall_mem_map.2 h) _

theorem State.posed_node (s : State) {ns : List Bytes} (hnd : (ns.map fun b => fieldN b 0 8).Nodup) {b : Bytes} (hb : b ∈ ns)
    (hn : tget s.place.nodes (fieldN b 0 8) ≠ none) : tget (s.posed ns).place.nodes (fieldN b 0 8) =
      some (nodeBytes (fieldN b 0 8) (sliceB b 8 28) s.nextOpt) := by
  have hknown : b ∈ s.knownPoses ns := List.mem_filter.2 ⟨hb, Option.isSome_iff_ne_none.2 hn⟩
  have hkeys : ((poseNodes s.nextOpt (s.knownPoses ns)).map Prod.fst).Nodup := by
    rw [poseNodes, List.map_map]
    exact hnd.sublist (List.filter_sublist.map _)
  exact tget_lay_mem hkeys (List.mem_map.2 ⟨b, hknown, rfl⟩) _

/-- A node that does not exist is not written. -/
theorem State.posed_unknown (s : State) (ns : List Bytes) {k : Nat} (h : tget s.place.nodes k = none) :
    tget (s.posed ns).place.nodes k = none := by
  refine (s.posed_other fun b hb hk => ?_).trans h
  have hsome := (List.mem_filter.1 hb).2
  rw [hk, h] at hsome
  exact absurd hsome (by decide)

/-- The poses MAP_POSE_WRITE brings. -/
def Cmd.poses (c : Cmd) : List Bytes := (List.range (fieldN c.params 0 1)).map fun i => sliceB c.params (8 + 48 * i) 48

theorem Cmd.poses_id (c : Cmd) (i : Nat) : fieldN (sliceB c.params (8 + 48 * i) 48) 0 8 = fieldN c.params (8 + 48 * i) 8 :=
  fieldN_sliceB _ (by decide)

theorem Cmd.poses_pose (c : Cmd) (i : Nat) : sliceB (sliceB c.params (8 + 48 * i) 48) 8 28 = sliceB c.params (16 + 48 * i) 28 := by
  rw [sliceB_sliceB _ (by decide)]
  congr 1
  omega

theorem Cmd.forall_poses (c : Cmd) {p : Bytes → Prop} :
    (∀ b ∈ c.poses, p b) ↔ ∀ i, i < fieldN c.params 0 1 → p (sliceB c.params (8 + 48 * i) 48) := by
  simp [Cmd.poses]

/-- The nodes of all the poses given exist. -/
def State.posesKnown (s : State) (c : Cmd) : Bool := c.poses.all fun b => (tget s.place.nodes (fieldN b 0 8)).isSome

theorem State.posesKnown_iff (s : State) (c : Cmd) : s.posesKnown c = true ↔
    ∀ i, i < fieldN c.params 0 1 → tget s.place.nodes (fieldN c.params (8 + 48 * i) 8) ≠ none := by
  rw [State.posesKnown, List.all_eq_true, c.forall_poses]
  simp only [c.poses_id, Option.isSome_iff_ne_none]

theorem Cmd.poses_nodup (c : Cmd)
    (h : ∀ i j, i < j → j < fieldN c.params 0 1 → fieldN c.params (8 + 48 * i) 8 ≠ fieldN c.params (8 + 48 * j) 8) :
    (c.poses.map fun b => fieldN b 0 8).Nodup := by
  rw [Cmd.poses, List.map_map, List.nodup_iff_getElem?_ne_getElem?]
  intro i j hij hj
  simp only [List.length_map, List.length_range] at hj
  simp only [List.getElem?_map, List.getElem?_range hj, List.getElem?_range (hij.trans hj), Option.map_some, Function.comp_apply,
    c.poses_id, ne_eq, Option.some.injEq]
  exact h i j hij hj

section
variable {s u : State} {x : At} {c : Cmd} (hu : s.enter x = u) {dt : Option Bytes}
include hu

theorem mapPoseWrite_row (hc : Accepted u.host c.qp c.tag 0x0606 c) : exec (.mapPoseWrite x c.qp c.tag dt) s =
    .next (if u.posesKnown c then (u.commitPoses c.poses).complete c.qp c.tag stOK 0 []
      else u.complete c.qp c.tag stBadParam 0 []) :=
  exec_of_run hu hc rfl rfl

/-! ### Destinations -/

/-- A destination MAP_DIST_SET brings. -/
def Cmd.dist (c : Cmd) (i : Nat) : MapDist :=
  { ip := leNat (sliceB (sliceB c.params (8 + 12 * i) 12) 0 4).reverse, udp := fieldN (sliceB c.params (8 + 12 * i) 12) 4 2,
    streams := fieldN (sliceB c.params (8 + 12 * i) 12) 6 1, via := fieldN (sliceB c.params (8 + 12 * i) 12) 7 1, dseq := 0 }

/-- The destinations MAP_DIST_SET brings. -/
def Cmd.dists (c : Cmd) : List MapDist := (List.range (fieldN c.params 0 1)).map c.dist

theorem mapDistSet_row (hc : Accepted u.host c.qp c.tag 0x0607 c) : exec (.mapDistSet x c.qp c.tag dt) s =
    .next (({ u with host := { u.host with dists := c.dists } } : State).complete c.qp c.tag stOK 0 []) :=
  exec_of_run hu hc rfl rfl

end

/-- An entry pushed for a completed command leaves the destinations alone. -/
theorem State.complete_dists {s : State} {qp tag op : Nat} {p : Prog} {c : Cmd} (h : Held s.host qp tag op p c) (st d : Nat)
    (r : Bytes) : (s.complete qp tag st d r).host.dists = s.host.dists := by
  obtain ⟨hfind, -, -, hnet, hgen, hcq, -⟩ := h
  obtain ⟨rfl, rfl⟩ := find_name hfind
  rw [State.complete, show s.findCmd c.qp c.tag = some c from hfind]
  dsimp only
  rw [State.finish_entry (s := { s with host := { s.host with accepted := dropFirst s.host.accepted c.qp c.tag } }) hgen hnet hcq,
    State.pushEntry_hostParts]
  rfl

end Sys2Proof.Machine

open Sys2Proof Sys2Proof.Machine

/-- Settles O45: one lemma a row; the poses of a commit are `State.posed`, and what is sent of them `State.sansDist`. -/
theorem codebooksLoopsAndTheGraph : Obligations.CodebooksLoopsAndTheGraph := by
  unfold Obligations.CodebooksLoopsAndTheGraph
  refine ⟨fun s u x qp tag dt c hu => ?_, fun s u m x ns hu hm => ?_⟩ <;> replace hu := hu.symm
  · refine ⟨fun hc => ?_, fun hc => ?_, fun hc es hes => ?_, fun hc want hwant => ?_, fun hc n hn => ?_, fun hc => ?_⟩ <;>
      obtain ⟨rfl, rfl⟩ := find_name hc.1.1
    · refine ⟨fun h => ?_, fun d h => ?_⟩ <;> subst h
      · exact answeredWith_of_completes hc.1 (codebookLoad_noData hu hc)
      · have row := codebookLoad_row hu hc d
        refine ⟨fun hmig => ?_, fun hmig hbad => ?_, fun hmig hok hgen => ?_⟩
        · rw [hmig, if_pos rfl] at row
          exact answeredWith_of_completes hc.1 row
        · have hcond : (!bookOk (sliceB d 0 131088) || u.liveGens.contains (bookGen (sliceB d 0 131088))) = true := by
            rcases hbad with h | h
            · simp [h]
            · simp [bookGen, h]
          rw [hmig, hcond, if_neg (by decide), if_pos rfl] at row
          exact answeredWith_of_completes hc.1 row
        · have hcond : (!bookOk (sliceB d 0 131088) || u.liveGens.contains (bookGen (sliceB d 0 131088))) = false := by
            simp [hok, bookGen, hgen]
          rw [hmig, hcond, if_neg (by decide), if_neg (by decide)] at row
          exact answered_of_completes_after hc.1 row rfl rfl rfl
    · obtain ⟨t, hrow, hans, ht⟩ := answered_of_completes_after (u := u) hc.1 (loopCandRead_row hu hc) rfl rfl rfl
      exact ⟨t, _, hrow, hans, u.candBytes_length _, fun i k hi hk => u.candBytes_cand hi hk, ht⟩
    · have row := loopCloseSubmit_row (dt := dt) hu hc
      rw [Cmd.closures, ← hes] at row
      refine ⟨fun ⟨b, hb, hnone⟩ => ?_, fun hall => ?_⟩
      · have hnot : es.all u.edgeKnown = false := by
          refine List.all_eq_false.2 ⟨b, hb, ?_⟩
          rcases hnone with h | h <;> simp [State.edgeKnown, h]
        rw [hnot] at row
        exact answeredWith_of_completes hc.1 row
      · have hyes : es.all u.edgeKnown = true := List.all_eq_true.2 fun b hb => by
          simp [State.edgeKnown, Option.isSome_iff_ne_none, hall b hb]
        rw [hyes] at row
        exact answered_of_completes_after hc.1 row rfl rfl rfl
    · have row := mapGraphRead_row (dt := dt) hu hc
      obtain rfl : want = u.graphWanted c := hwant
      refine ⟨fun hall => ?_, fun k b hk haway hbefore => ?_⟩
      · have hgot : u.graphGot c = u.graphWanted c := List.takeWhile_eq_self_iff.2 fun b hb => by simp [hall b hb]
        rw [hgot, if_neg (Nat.lt_irrefl _)] at row
        exact answeredWith_of_completes hc.1 row
      · have hgot : u.graphGot c = (u.graphWanted c).take k := takeWhile_eq_take hk (by simp [haway]) fun a ha => by simp [hbefore a ha]
        have hlt : k < (u.graphWanted c).length := (List.getElem?_eq_some_iff.1 hk).1
        have hlen : ((u.graphWanted c).take k).length = k := List.length_take_of_le hlt.le
        rw [hgot, hlen, if_pos hlt] at row
        exact answeredWith_of_completes hc.1 row
    · subst hn
      have row := mapPoseWrite_row (dt := dt) hu hc
      refine ⟨fun ⟨i, hi, hnone⟩ => ?_, fun hall hdiff => ?_⟩
      · have hnot : ¬u.posesKnown c = true := fun h => (u.posesKnown_iff c).1 h i hi hnone
        rw [if_neg hnot] at row
        exact answeredWith_of_completes hc.1 row
      · rw [if_pos ((u.posesKnown_iff c).2 hall)] at row
        obtain ⟨t, hrow, hans, ht⟩ := answered_of_completes_sent (u := u) (v := u.posed c.poses) hc.1 row
          (u.commitPoses_sansDist _) rfl rfl rfl
        have hnodes : t.place.nodes = (u.posed c.poses).place.nodes := (congrArg (·.place.nodes) ht :)
        have hseq : t.place.optSeq = u.nextOpt := (congrArg (·.place.optSeq) ht :)
        refine ⟨t, hrow, hans, hseq, fun i hi => ?_, fun k hk => ?_, ?_⟩
        · have hmem : sliceB c.params (8 + 48 * i) 48 ∈ c.poses := List.mem_map.2 ⟨i, List.mem_range.2 hi, rfl⟩
          have hnode := u.posed_node (c.poses_nodup hdiff) hmem (by rw [c.poses_id]; exact hall i hi)
          rw [c.poses_id, c.poses_pose] at hnode
          rw [hnodes, hnode, hseq]
        · rw [hnodes]
          have hother : ∀ b ∈ c.poses, fieldN b 0 8 ≠ k := c.forall_poses.2 fun i hi => by
            rw [c.poses_id]
            exact (hk i hi).symm
          exact u.posed_other fun b hb => hother b (List.mem_filter.1 hb).1
        · rw [hnodes, hseq]
          exact ht
    · have hheld : Held { u.host with dists := c.dists } c.qp c.tag 0x0607 .fresh c := hc.1
      obtain ⟨hans, hho⟩ := State.answered (u := { u with host := { u.host with dists := c.dists } }) hheld stOK 0 []
      have hdists := State.complete_dists (s := { u with host := { u.host with dists := c.dists } }) hheld stOK 0 []
      refine ⟨_, mapDistSet_row hu hc, hho, hans, ?_⟩
      rw [hdists]
      refine ⟨by simp [Cmd.dists], fun i hi => ⟨c.dist i, ?_, rfl, rfl, rfl, rfl⟩⟩
      exact (List.getElem?_map ..).trans (congrArg _ (List.getElem?_range hi))
  · have row : exec (.mapOptimiseCommit x ns) s = .next (if u.unit.state = .run then
        (if u.ha 6 || ns.isEmpty then m else m.commitPoses ns) else u) := by
      subst hu hm
      rfl
    have hplace := (congrArg State.place (hm ▸ u.mapMaintenance_sansUpkeep) :)
    have hn : m.place.nodes = u.place.nodes := (congrArg PlaceSt.nodes hplace :)
    have hs : m.place.optSeq = u.place.optSeq := (congrArg PlaceSt.optSeq hplace :)
    refine ⟨fun h => by rw [row, if_neg h], fun h hnone => ?_, fun h hha hne => ?_⟩
    · rw [row, if_pos h, if_pos]
      rcases hnone with hnone | hnone <;> simp [hnone]
    · rw [if_pos h, if_neg (by simp [hha, hne])] at row
      have hdist := m.commitPoses_sansDist ns
      have hnodes : (m.commitPoses ns).place.nodes = (m.posed ns).place.nodes := (congrArg (·.place.nodes) hdist :)
      have hseq : (m.commitPoses ns).place.optSeq = m.nextOpt := (congrArg (·.place.optSeq) hdist :)
      have hopt : m.nextOpt = (u.place.optSeq + 1) % 4294967296 := by rw [State.nextOpt, hs]
      refine ⟨_, row, hseq.trans hopt, fun k hk => ?_, fun k hk => ?_, fun b hb hknown => ?_, ?_⟩
      · rw [hnodes]
        exact m.posed_unknown ns (hn ▸ hk)
      · rw [hnodes, ← hn]
        exact m.posed_other fun b hb => hk b (List.mem_filter.1 hb).1
      · subst hb
        rw [hnodes, hseq]
        exact m.posed_node (by simp) List.mem_cons_self (hn ▸ hknown)
      · rw [hnodes, hseq]
        have hho : HostOnly (m.posed ns) (m.commitPoses ns) := hostOnly_iff.2 (congrArg State.sansHost hdist :)
        exact hho
end

section
/-! PROOF. Poses asked, answered, read and written (16 R408, R410, R412, R414, R422, R423). -/

namespace Sys2Proof.Machine

open Sys2Proof

/-! ### The payload of a reply (16 Table 16-7) -/

theorem lktBytes_length (dom flags v : Nat) : (lktBytes dom flags v).length = 16 := by simp [lktBytes, toLE_length]

theorem catB_words_length {α : Type} (f : α → F32) (l : List α) : (catB (l.map fun a => toLE 4 (f a).toNat)).length = 4 * l.length := by
  rw [catB_length (List.forall_mem_map.2 fun a _ => toLE_length 4 _), List.length_map]

theorem poseDims_length (model : Nat) : (poseDims model).length = 6 := by
  unfold poseDims
  split <;> rfl

theorem poseBody_length (k : Track) (x : Vec) (p : Option Sample) : (poseBody k x p).length = 40 := by
  unfold poseBody
  extract_lets w pos vel rate
  have hpos : pos.length = 24 := by
    rw [show pos = catB ((poseDims k.model).map fun i => toLE 4 (poseVal x i).toNat) from rfl, catB_words_length, poseDims_length]
  have hvel : vel.length = 3 := by
    unfold vel
    split <;> rfl
  have hvels : (catB (vel.map w)).length = 12 := by
    rw [show catB (vel.map w) = catB (vel.map fun v => toLE 4 v.toNat) from rfl, catB_words_length (fun v => v), hvel]
  rw [List.length_append, List.length_append, hpos, hvels, toLE_length]

/-- The upper triangle of a 6 by 6 matrix. -/
theorem poseCov_length (k : Track) (q : Vec) (dt : F32) : (poseCov k q dt).length = 84 := by
  have hrow : ∀ (f : Nat → Bytes) (i : Nat), (∀ j, (f j).length = 4) → (catB ((List.range' i (6 - i)).map f)).length = 4 * (6 - i) :=
    fun f i hf => by rw [catB_length (List.forall_mem_map.2 fun j _ => hf j), List.length_map, List.length_range']
  unfold poseCov
  extract_lets d a
  rw [catB, List.length_flatten, List.map_map]
  refine (congrArg List.sum (List.map_congr_left (g := fun i => 4 * (6 - i)) fun i _ => hrow _ i fun j => ?_)).trans rfl
  split <;> exact toLE_length 4 _

/-- The flags of a pose payload. -/
def State.poseFlags (s : State) (a : Nat) : Nat :=
  b2n (s.invalidWhy a == 0) + 2 * b2n (s.invalidWhy a == 0 && s.ha 10) +
    4 * b2n (s.invalidWhy a == 0 && ((s.poseOf a).getD Track.free).model == 1)

/-- A pose payload opens with its flags and the reason it is invalid. -/
theorem State.posePayload_layout (s : State) (a ahead mode : Nat) (tl : Int) (tv : Nat) : ∃ rest, rest.length = 178 ∧
    s.posePayload a ahead mode tl tv = toLE 1 (s.poseFlags a) ++ (toLE 1 (s.invalidWhy a) ++ rest) := by
  unfold State.posePayload
  extract_lets why k flags head t0 p dt
  have hhead : ∃ h, h.length = 38 ∧ head = toLE 1 (s.poseFlags a) ++ (toLE 1 (s.invalidWhy a) ++ h) :=
    ⟨toLE 2 k.coast ++ (toLE 4 ahead ++ (s.activeLkt mode tv ++ s.activeLkt 3 (tv + ahead * nsU))),
      by simp [State.activeLkt, toLE_length, lktBytes_length],
      by simp only [head, List.append_assoc]; rfl⟩
  obtain ⟨h, hlen, hbytes⟩ := hhead
  split
  · exact ⟨h ++ List.replicate 140 0, by simp [hlen], by simp only [hbytes, List.append_assoc]⟩
  · refine ⟨h ++ (s.activeLkt 3 (s.poseStamp a k) ++ (poseBody k (poseMove k p dt) p ++
      poseCov k (s.agentClass (s.agentClassOf a)).noise dt)), ?_, by simp only [hbytes, List.append_assoc]⟩
    simp [hlen, State.activeLkt, lktBytes_length, poseBody_length, poseCov_length]

theorem State.invalidWhy_eq (s : State) (a : Nat) : s.invalidWhy a = (if s.unit.state ≠ .run then 1
    else if s.agentDesc a = none then 3 else if s.poseOf a ≠ none then 0 else if s.ha 10 = true then 4 else 2) := by
  simp [State.invalidWhy, Option.isSome_iff_ne_none]

theorem State.invalidWhy_lt (s : State) (a : Nat) : s.invalidWhy a < 5 := by
  rw [State.invalidWhy_eq]
  repeat' split
  all_goals decide

/-- Bit 0 of the flags says that the pose is valid. -/
theorem State.poseFlags_valid (s : State) (a : Nat) : (s.poseFlags a % 256).testBit 0 = true ↔ s.invalidWhy a = 0 := by
  have hbits : ∀ p q r : Bool, ((b2n p + 2 * b2n q + 4 * b2n r) % 256).testBit 0 = p := by decide
  rw [State.poseFlags, hbits, beq_iff_eq]

section
variable (s : State) (a ahead mode : Nat) (tl : Int) (tv : Nat)

theorem State.posePayload_length : (s.posePayload a ahead mode tl tv).length = 180 := by
  obtain ⟨rest, hlen, h⟩ := s.posePayload_layout a ahead mode tl tv
  simp [h, hlen, toLE_length]

theorem State.posePayload_flags : fieldN (s.posePayload a ahead mode tl tv) 0 1 = s.poseFlags a % 256 := by
  obtain ⟨rest, -, h⟩ := s.posePayload_layout a ahead mode tl tv
  rw [h]
  exact fieldN_toLE [] _ 1 _

theorem State.posePayload_why : fieldN (s.posePayload a ahead mode tl tv) 1 1 = s.invalidWhy a := by
  obtain ⟨rest, -, h⟩ := s.posePayload_layout a ahead mode tl tv
  rw [h, fieldN_toLE_behind (toLE_length _ _)]
  exact Nat.mod_eq_of_lt ((s.invalidWhy_lt a).trans (by decide))

end

/-! ### The head of an agent frame (16 Table 16-4) -/

theorem State.agentHead_layout (s : State) (type a seq len : Nat) : ∃ rest, rest.length = 18 ∧
    s.agentHead type a seq len = toLE 1 type ++ ([1] ++ (toLE 2 a ++ (toLE 2 seq ++ rest))) := by
  refine ⟨toLE 2 len ++ (toLE 2 s.replyFlags ++ ([1, 0] ++ (toLE 4 s.ep.epoch ++ (toLE 4 s.epochFrom ++ toLE 4 0)))), ?_, ?_⟩
  · simp [toLE_length]
  · simp only [State.agentHead, List.append_assoc]

section
variable (s : State) (type a seq len : Nat)

theorem State.agentHead_length : (s.agentHead type a seq len).length = 24 := by
  obtain ⟨rest, hlen, h⟩ := s.agentHead_layout type a seq len
  simp [h, hlen, toLE_length]

theorem State.agentHead_type : fieldN (s.agentHead type a seq len) 0 1 = type % 256 := by
  obtain ⟨rest, -, h⟩ := s.agentHead_layout type a seq len
  rw [h]
  exact fieldN_toLE [] _ 1 _

theorem State.agentHead_agent : fieldN (s.agentHead type a seq len) 2 2 = a % 65536 := by
  obtain ⟨rest, -, h⟩ := s.agentHead_layout type a seq len
  rw [h, ← List.append_assoc]
  exact fieldN_toLE_behind (by simp [toLE_length]) 2 _

theorem State.agentHead_seq : fieldN (s.agentHead type a seq len) 4 2 = seq % 65536 := by
  obtain ⟨rest, -, h⟩ := s.agentHead_layout type a seq len
  rw [h, ← List.append_assoc, ← List.append_assoc]
  exact fieldN_toLE_behind (by simp [toLE_length]) 2 _

end

/-! ### A request and its reply -/

theorem State.poseReply_fields (s : State) (a ahead k : Nat) (b : Bytes) :
    (s.poseReply a (fieldN b 4 2) ahead k).length = 204 ∧ fieldN (s.poseReply a (fieldN b 4 2) ahead k) 0 1 = 3 ∧
      fieldN (s.poseReply a (fieldN b 4 2) ahead k) 4 2 = fieldN b 4 2 ∧
      fieldN (s.poseReply a (fieldN b 4 2) ahead k) 24 1 = s.poseFlags a % 256 ∧
      fieldN (s.poseReply a (fieldN b 4 2) ahead k) 25 1 = s.invalidWhy a := by
  have hhead := s.agentHead_length 3 a (fieldN b 4 2) 180
  rw [State.poseReply]
  refine ⟨?_, ?_, ?_, ?_, ?_⟩
  · rw [List.length_append, hhead, State.posePayload_length]
  · rw [fieldN_append_left (by rw [hhead]; decide), State.agentHead_type]
  · rw [fieldN_append_left (by rw [hhead]; decide), State.agentHead_seq]
    exact Nat.mod_eq_of_lt (fieldN_lt _ _ _)
  · rw [fieldN_append_right hhead 0, State.posePayload_flags]
  · rw [fieldN_append_right hhead 1, State.posePayload_why]

theorem UnitState.poses_iff (v : UnitState) : v.poses = true ↔ v = .ready ∨ v = .run ∨ v = .quiesce := by
  cases v <;> simp [UnitState.poses]

/-- A request as it waits. -/
def State.poseReqOf (u : State) (k : Nat) (f : EthFrame) : PoseReq :=
  { agent := agAgent f, seq := fieldN f.body 4 2, ahead := fieldN (agPayload f) 0 4, mac := f.src, vlan := f.vlan,
    tick := u.time.tick, step := k % 64,
    frame := u.poseReply (agAgent f) (fieldN f.body 4 2) (fieldN (agPayload f) 0 4) (k % 64) }

theorem poseReq_row {s u : State} {x : At} (hu : s.enter x = u) (k : Nat) (f : EthFrame) : exec (.poseReq x k f) s =
    .next (if !u.agentTakes f 2 || !u.unit.state.poses || decide (65 ≤ (u.agent.poseQs.getD f.port []).length) then u
      else { u with agent := { u.agent with poseQs := lmod u.agent.poseQs f.port fun q => q ++ [u.poseReqOf k f] } }) := by
  subst hu
  rfl

/-! ### A frame queued (16 R402, R403) -/

section
variable (u : State) (p q : Nat) (b : Bytes)

/-- Queuing a frame that is no PTP message changes the transmitters, and what is due of them, alone. -/
theorem State.txFrame_eq {q : Nat} (hq : q ≠ 6) : u.txFrame p q b = { u with
    agent := { u.agent with
      sent := (u.txFrame p q b).agent.sent
      waiting := (u.txFrame p q b).agent.waiting
      busy := (u.txFrame p q b).agent.busy }
    due := (u.txFrame p q b).due } := by
  unfold State.txFrame State.putSent State.addDue
  simp only [hq, if_false]
  split
  · rfl
  · split
    · split
      · rfl
      · split <;> rfl
    · split
      · split <;> rfl
      · rfl

theorem State.txFrame_down (hup : u.agentPortUp p = false) : u.txFrame p q b = u := by
  simp [State.txFrame, hup]

/-- A frame starts where its port is free, its gate open long enough and nothing of its queue before it. -/
theorem State.txFrame_starts {q : Nat} (hq : q ≠ 6) (hup : u.agentPortUp p = true) (hbusy : u.siteBusy p u.time.localC = false)
    (hnone : ∀ e ∈ u.agent.waiting.getD p [], e.1 ≠ q) (hfit : u.gateFits p q u.time.localC b = true) :
    (u.txFrame p q b).agent.sent = u.agent.sent ++ [(p, q, b)] ∧ (u.txFrame p q b).agent.waiting = u.agent.waiting := by
  have hany : ((u.agent.waiting.getD p []).any fun e => e.1 == q) = false := List.any_eq_false.2 fun e he => by simp [hnone e he]
  unfold State.txFrame State.putSent State.addDue
  simp only [hup, hbusy, hany, hfit, hq, Bool.not_true, Bool.not_false, Bool.and_self, Bool.false_eq_true, if_false, if_true]
  split
  · exact ⟨rfl, rfl⟩
  · split <;> exact ⟨rfl, rfl⟩

/-- Any other frame of a working port waits. -/
theorem State.txFrame_waits {p q : Nat} (hlen : p < u.agent.waiting.length) (hup : u.agentPortUp p = true)
    (h : u.siteBusy p u.time.localC = true ∨ (∃ e ∈ u.agent.waiting.getD p [], e.1 = q) ∨ u.gateFits p q u.time.localC b = false) :
    (u.txFrame p q b).agent.sent = u.agent.sent ∧
      (u.txFrame p q b).agent.waiting.getD p [] = u.agent.waiting.getD p [] ++ [(q, b)] := by
  have hnot : (!u.siteBusy p u.time.localC && !((u.agent.waiting.getD p []).any fun e => e.1 == q) &&
      u.gateFits p q u.time.localC b) = false := by
    rcases h with h | ⟨e, he, hq⟩ | h
    · simp [h]
    · have hany : ((u.agent.waiting.getD p []).any fun e => e.1 == q) = true := List.any_eq_true.2 ⟨e, he, by simp [hq]⟩
      simp only [hany, Bool.not_true, Bool.and_false, Bool.false_and]
    · simp [h]
  have hself := lmod_getD_self u.agent.waiting p (fun l => l ++ [(q, b)]) [] hlen
  unfold State.txFrame State.addDue
  simp only [hup, hnot, Bool.not_true, Bool.false_eq_true, if_false]
  split
  · split <;> exact ⟨rfl, hself⟩
  · exact ⟨rfl, hself⟩

end

/-! ### The host's pose -/

section
variable {s u : State} {x : At} {c : Cmd} (hu : s.enter x = u) {dt : Option Bytes}
include hu

theorem poseRead_row (hc : Accepted u.host c.qp c.tag 0x0901 c) : ∃ tl tv, exec (.poseRead x c.qp c.tag dt) s =
    .next (u.complete c.qp c.tag stOK 0 (u.posePayload (fieldN c.params 0 2) 0 3 tl tv)) :=
  ⟨_, _, exec_of_run hu hc rfl rfl⟩

/-- The pose the host writes (18 Table 18-11). -/
def Cmd.pose (c : Cmd) : Track := { Track.free with
  model := fieldN c.params 2 1
  coast := fieldN c.params 4 2
  x := (List.range 12).map fun i => fField c.params (24 + 4 * i)
  p := mkMat 12 12 fun i j => fField c.params (72 + 4 * (12 * i + j)) }

omit hu in
theorem Cmd.pose_x (c : Cmd) {i : Nat} (h : i < 12) : vGet c.pose.x i = fField c.params (24 + 4 * i) := by
  simp [Cmd.pose, vGet, h]

omit hu in
theorem Cmd.pose_p (c : Cmd) {i j : Nat} (hi : i < 12) (hj : j < 12) : mGet c.pose.p i j = fField c.params (72 + 48 * i + 4 * j) := by
  have hoff : 72 + 4 * (12 * i + j) = 72 + 48 * i + 4 * j := by omega
  simp [Cmd.pose, mGet, vGet, mkMat, hi, hj, hoff]

/-- The entry of the pose cache with the host's pose. -/
def State.hostPosed (s : State) (c : Cmd) : PoseEntry :=
  { s.cacheOf (fieldN c.params 0 2) with pose := some c.pose, host := true, stamp := some (sliceB c.params 8 16) }

theorem poseWrite_row (hc : Accepted u.host c.qp c.tag 0x0902 c) : exec (.poseWrite x c.qp c.tag dt) s =
    .next (if (u.agentDesc (fieldN c.params 0 2)).isNone then u.complete c.qp c.tag stBadParam 0 []
      else (({ u with agent := { u.agent with
        cache := tset u.agent.cache (fieldN c.params 0 2) (u.hostPosed c) } } : State).refreshPoses [fieldN c.params 0 2]).complete
          c.qp c.tag stOK 0 []) :=
  exec_of_run hu hc rfl rfl

end

theorem tgetD_tset_self {α : Type} (t : List (Nat × α)) (k : Nat) (a d : α) : tgetD (tset t k a) k d = a := by
  rw [tgetD, tget_tset_self, Option.getD_some]

theorem tgetD_tset_ne {α : Type} (t : List (Nat × α)) {k j : Nat} (a d : α) (h : j ≠ k) : tgetD (tset t k a) j d = tgetD t j d := by
  rw [tgetD, tget_tset_ne _ _ _ _ h, tgetD]

end Sys2Proof.Machine

open Sys2Proof Sys2Proof.Machine

/-- Settles O53: the fields of `State.poseReply`, the three fates of a frame queued, and the entry `State.hostPosed`. -/
theorem posesAreAskedAndAnswered : Obligations.PosesAreAskedAndAnswered := by
  unfold Obligations.PosesAreAskedAndAnswered
  refine ⟨fun s u x k f hu => ⟨fun h => ?_, fun htakes hst hlen hport => ?_⟩, fun s u x p hu => ⟨fun h => ?_, fun r rest h hlen =>
    ?_⟩, fun s u x qp tag dt c a hu ha => ⟨fun hc => ?_, fun hc => ?_⟩⟩ <;> replace hu := hu.symm
  · rw [poseReq_row hu, if_pos]
    have hposes := UnitState.poses_iff u.unit.state
    rcases h with h | ⟨h1, h2, h3⟩ | h
    · simp [h]
    · have hno : u.unit.state.poses = false := by
        rw [← Bool.not_eq_true, hposes]
        simp [h1, h2, h3]
      simp [hno]
    · simp only [h, decide_true, Bool.or_true]
  · have hnot : ¬(!u.agentTakes f 2 || !u.unit.state.poses || decide (65 ≤ (u.agent.poseQs.getD f.port []).length)) = true := by
      have hposes := (UnitState.poses_iff u.unit.state).2 hst
      simp only [htakes, hposes, Bool.not_true, Bool.or_self, Bool.false_or, decide_eq_true_eq]
      omega
    obtain ⟨hflen, htype, hseq, hflags, hwhy⟩ := u.poseReply_fields (agAgent f) (fieldN (agPayload f) 0 4) (k % 64) f.body
    refine ⟨_, u.poseReqOf k f, (poseReq_row hu k f).trans (congrArg _ (if_neg hnot)), lmod_getD_self _ _ _ _ hport,
      fun p hp => lmod_getD_ne _ _ _ _ _ hp, rfl, rfl, rfl, rfl, rfl, hflen, htype, hseq, hwhy.trans (u.invalidWhy_eq _), ?_, rfl⟩
    rw [State.poseReqOf, hflags, hwhy]
    exact u.poseFlags_valid _
  · subst hu
    have row : exec (.poseAnswer x p) s = execPoseAnswer x p s := rfl
    rw [row, execPoseAnswer]
    simp only [h]
  · have row : exec (.poseAnswer x p) s = .next (({ u with agent := { u.agent with
        poseQs := lmod u.agent.poseQs p fun _ => rest } } : State).txFrame p 7
          (ethFrame r.mac (u.unit.macs.getD p []) (r.vlan.map fun v => (7, v)) 0x88B5 r.frame)) := by
      subst hu
      have row : exec (.poseAnswer x p) s = execPoseAnswer x p s := rfl
      rw [row, execPoseAnswer]
      simp only [h]
    have hp : p < u.agent.poseQs.length := by
      by_contra hp
      rw [List.getD_eq_default _ _ (Nat.le_of_not_lt hp)] at h
      simp at h
    generalize hm : ethFrame r.mac (u.unit.macs.getD p []) (r.vlan.map fun v => (7, v)) 0x88B5 r.frame = m at row
    generalize hv : ({ u with agent := { u.agent with poseQs := lmod u.agent.poseQs p fun _ => rest } } : State) = v at row
    have heq := v.txFrame_eq p m (q := 7) (by decide)
    have hqs : (v.txFrame p 7 m).agent.poseQs = lmod u.agent.poseQs p fun _ => rest := by
      rw [heq, ← hv]
    refine ⟨_, m, row, ?_, rfl, fun hup => ?_, fun hup hbusy hnone hfit => ?_, fun hup hwait => ?_, ?_⟩
    · rw [hqs, lmod_getD_self _ _ _ _ hp]
    · rw [v.txFrame_down p 7 m (by rw [← hv]; exact hup), ← hv]
      exact ⟨rfl, rfl⟩
    · have := v.txFrame_starts p m (q := 7) (by decide) (by rw [← hv]; exact hup) (by rw [← hv]; exact hbusy)
        (by rw [← hv]; exact hnone) (by rw [← hv]; exact hfit)
      subst hv
      exact this
    · subst hv
      exact State.txFrame_waits _ m hlen hup hwait
    · rw [hqs]
      subst hv
      exact heq
  · subst ha
    obtain ⟨rfl, rfl⟩ := find_name hc.1.1
    obtain ⟨tl, tv, row⟩ := poseRead_row (dt := dt) hu hc
    obtain ⟨t, hrow, hho, hans⟩ := answeredWith_of_completes hc.1 row
    refine ⟨t, _, hrow, hho, hans, State.posePayload_length .., State.posePayload_why .., ?_⟩
    rw [State.posePayload_flags]
    exact u.poseFlags_valid _
  · subst ha
    obtain ⟨rfl, rfl⟩ := find_name hc.1.1
    have row := poseWrite_row (dt := dt) hu hc
    refine ⟨fun hnone => ?_, fun hsome => ?_⟩
    · rw [hnone] at row
      exact answeredWith_of_completes hc.1 row
    · rw [if_neg (by simp [hsome])] at row
      obtain ⟨t, hrow, hans, ht⟩ := answered_of_completes_after (u := u) hc.1 row rfl rfl rfl
      have hcache : t.agent.cache = tset u.agent.cache (fieldN c.params 0 2) (u.hostPosed c) := (congrArg (·.agent.cache) ht :)
      have hqs := (congrArg (·.agent.poseQs) ht :)
      have hself : t.cacheOf (fieldN c.params 0 2) = u.hostPosed c := by
        rw [State.cacheOf, hcache]
        exact tgetD_tset_self _ _ _ _
      refine ⟨t, c.pose, hrow, hans, by rw [hself]; rfl, by rw [hself]; rfl, by rw [hself]; rfl, by rw [hself]; rfl, rfl,
        fun i hi => c.pose_x hi, fun i j hi hj => c.pose_p hi hj, fun b hb => ?_, ?_⟩
      · rw [State.cacheOf, hcache]
        exact tgetD_tset_ne _ _ _ hb
      · rw [hcache, hqs]
        exact ht
end

section
/-! PROOF. Cell words written by full writes (07 R175, R187). -/

namespace Sys2Proof.Machine

open Sys2Proof

/-! ### Check bytes -/

theorem flagBits_lt (l : List Bool) : flagBits l < 2 ^ l.length := by
  induction l with
  | nil => decide
  | cons b l ih =>
    have hb : b2n b ≤ 1 := by cases b <;> decide
    rw [List.length_cons, Nat.pow_succ]
    simp only [flagBits] at ih ⊢
    omega

theorem checkByte_lt (d : Nat) : checkByte d < 256 := by
  have hbits : hammingBits d < 128 := by
    refine (flagBits_lt _).trans_eq ?_
    rw [List.length_map, List.length_range]
    rfl
  have hparity : ∀ b, b2n b ≤ 1 := by decide
  have := hparity (xor (parityN 64 d) (parityN 7 (hammingBits d)))
  unfold checkByte
  dsimp only
  omega

/-! ### Words in memory -/

/-- A word as it stands in memory: its data and its check byte. -/
def wordBytes (v : Nat) : Bytes := toLE 8 v ++ toLE 1 (checkByte v)

theorem wordBytes_length (v : Nat) : (wordBytes v).length = 9 := by simp [wordBytes, toLE_length]

/-- Memory with `n` words of a cell written from a word on. -/
def memWords (m : List Host.Cell) (g w : Nat) (f : Nat → Nat) (n : Nat) : List Host.Cell :=
  (List.range n).foldl (fun m i => memWrite m (wordAt g (w + i)) (wordBytes (f i))) m

theorem memWords_succ (m : List Host.Cell) (g w : Nat) (f : Nat → Nat) (n : Nat) :
    memWords m g w f (n + 1) = memWrite (memWords m g w f n) (wordAt g (w + n)) (wordBytes (f n)) := by
  simp [memWords, List.range_succ]

theorem wordAt_add (g w k : Nat) : wordAt g (w + k) = wordAt g w + 9 * k := by
  unfold wordAt
  omega

/-- Words outside a run of words of a cell stand before it or behind it. -/
theorem wordAt_outside {g w n h y : Nat} (hy : y < 524288) (hn : w + n ≤ 524288) (hout : h ≠ g ∨ y < w ∨ w + n ≤ y) :
    wordAt h y + 9 ≤ wordAt g w ∨ wordAt g (w + n) ≤ wordAt h y := by
  unfold wordAt
  rcases Nat.lt_trichotomy h g with hlt | rfl | hgt
  · exact .inl (by omega)
  · rcases hout with h | h | h
    · exact absurd rfl h
    · exact .inl (by omega)
    · exact .inr (by omega)
  · exact .inr (by omega)

section
variable {m : List Host.Cell} (hm : Memory.wf m = true) (g w : Nat) (f : Nat → Nat)

include hm in
theorem memWords_wf (n : Nat) : Memory.wf (memWords m g w f n) = true := by
  induction n with
  | zero => exact hm
  | succ n ih =>
    rw [memWords_succ]
    exact memWrite_wf _ _ _ ih

theorem memGet_memWords_out {n j : Nat} (h : j < wordAt g w ∨ wordAt g (w + n) ≤ j) :
    memGet (memWords m g w f n) j = memGet m j := by
  induction n with
  | zero => rfl
  | succ n ih =>
    have hn := wordAt_add g w n
    have hn1 := wordAt_add g w (n + 1)
    rw [memWords_succ, memGet_memWrite_out _ _ _ _ (by rw [wordBytes_length]; omega), ih (by omega)]

include hm in
theorem memGet_memWords_in {n k i : Nat} (hk : k < n) (hi : i < (wordBytes (f k)).length) :
    memGet (memWords m g w f n) (wordAt g (w + k) + i) = (wordBytes (f k))[i] := by
  induction n with
  | zero => omega
  | succ n ih =>
    rw [memWords_succ]
    rcases Nat.lt_succ_iff_lt_or_eq.1 hk with hlt | rfl
    · have hn := wordAt_add g w n
      have hk' := wordAt_add g w k
      rw [wordBytes_length] at hi
      rw [memGet_memWrite_out _ _ _ _ (by omega), ih hlt]
    · exact memGet_memWrite_in _ _ _ _ (memWords_wf hm g w f k) hi

end

/-- What a word reads as, by the bytes that stand in its place. -/
theorem State.word_of_mem {s : State} {g w : Nat} {v : Nat}
    (h : ∀ (i : Nat) (hi : i < (wordBytes v).length), memGet s.mem (wordAt g w + i) = (wordBytes v)[i]) :
    s.wordD g w = v % 2 ^ 64 ∧ s.wordC g w = checkByte v := by
  constructor
  · have hbytes : memRead s.mem (wordAt g w) 8 = toLE 8 v := by
      refine List.ext_getElem (by simp [memRead, toLE_length]) fun i h1 h2 => ?_
      rw [toLE_length] at h2
      have := h i (by rw [wordBytes_length]; omega)
      simp only [wordBytes, List.getElem_append_left (by rw [toLE_length]; exact h2 : i < (toLE 8 v).length)] at this
      simpa [memRead] using this
    exact (congrArg leNat hbytes).trans (leNat_toLE 8 v)
  · have := h 8 (by rw [wordBytes_length]; decide)
    rw [State.wordC, this]
    simp only [wordBytes]
    rw [List.getElem_append_right (by rw [toLE_length])]
    simp [toLE, Nat.mod_eq_of_lt (checkByte_lt v)]

theorem State.word_congr {s t : State} {g w : Nat} (h : ∀ i, i < 9 → memGet t.mem (wordAt g w + i) = memGet s.mem (wordAt g w + i)) :
    t.wordD g w = s.wordD g w ∧ t.wordC g w = s.wordC g w := by
  constructor
  · have hbytes : memRead t.mem (wordAt g w) 8 = memRead s.mem (wordAt g w) 8 :=
      List.map_congr_left fun i hi => h i (by simp at hi; omega)
    rw [State.wordD, State.wordD, hbytes]
  · rw [State.wordC, State.wordC, h 8 (by decide)]

/-! ### Full writes of words -/

theorem State.cellEvent_mem (s : State) (k g d : Nat) : (s.cellEvent k g d).mem = s.mem := by
  unfold State.cellEvent
  split
  · rfl
  · exact s.event_mem _ _ _ _

theorem State.fullWrite_mem (s : State) (g w v : Nat) : (s.fullWrite g w v).mem = memWrite s.mem (wordAt g w) (wordBytes v) := by
  unfold State.fullWrite
  dsimp only
  split
  · rw [State.cellEvent_mem]
    rfl
  · rfl

theorem State.countAccess_mem (s : State) (g : Nat) (ue : Bool) (banks : List Nat) : (s.countAccess g ue banks).2.mem = s.mem := by
  unfold State.countAccess
  extract_lets full v src t
  have hv : v.mem = s.mem :=
    List.foldlRecOn (motive := fun p : Bool × State => p.2.mem = s.mem) banks _ rfl fun _ hp _ _ => hp
  have ht : t.mem = s.mem := by
    unfold t
    split <;> exact hv
  split
  · exact hv
  · exact ht

theorem State.counted_mem (s : State) (g : Nat) (a : Access) (bank : Nat) : (s.counted g a bank).mem = s.mem := by
  unfold State.counted
  extract_lets r
  have hcount : r.2.mem = s.mem := s.countAccess_mem g a.ue _
  split
  · split <;> exact hcount
  · exact hcount

/-- The number in the `i`-th word of bytes. -/
def wordOf (b : Bytes) (i : Nat) : Nat := fieldN b (8 * i) 8

/-- One word of `State.writeWords`: the `i`-th of bytes that begin with `pre` bytes left alone. -/
def writeStep (g off pre : Nat) (d : Bytes) (p : Total × State) (i : Nat) : Total × State :=
  let a := p.2.writeWord g (off / 8 + i) (wordOf d i) (2 ^ ((d.drop (8 * i)).take 8).length - (if i = 0 then 2 ^ pre else 1))
  (p.1.add [] a.1.status (off / 8 * 8 + 8 * i), a.2.counted g a.1 ((off / 8 + i) % 16))

theorem State.writeWords_eq (s : State) (g off : Nat) (b : Bytes) : s.writeWords g off b =
    (List.range (((List.replicate (off % 8) 0 ++ b).length + 7) / 8)).foldl
      (writeStep g off (off % 8) (List.replicate (off % 8) 0 ++ b)) (Total.start (off / 8 * 8), s) := rfl

/-- A whole word is a full write: nothing is read, and its status is OK (07 R187). -/
theorem writeStep_full {g off i a : Nat} {b : Bytes} (hi : i < b.length / 8) {p : Total × State} (hp : p.1 = Total.start a) :
    (writeStep g off 0 b p i).1 = Total.start a ∧
      (writeStep g off 0 b p i).2.mem = memWrite p.2.mem (wordAt g (off / 8 + i)) (wordBytes (wordOf b i)) := by
  have hpart : ((b.drop (8 * i)).take 8).length = 8 := by
    simp
    omega
  have hmask : 2 ^ ((b.drop (8 * i)).take 8).length - (if i = 0 then 2 ^ 0 else 1) = 255 := by
    rw [hpart]
    split <;> rfl
  have hfull : ∀ v, p.2.writeWord g (off / 8 + i) v 255 = ({ status := stOK, data := 0, ue := false, ce := false },
      p.2.fullWrite g (off / 8 + i) v) := fun v => rfl
  rw [writeStep, hmask, hfull]
  refine ⟨?_, ?_⟩
  · rw [hp]
    rfl
  · rw [State.counted_mem, State.fullWrite_mem]

/-- Whole words are written by full writes (07 R187). -/
theorem State.writeWords_full (s : State) {g off : Nat} {b : Bytes} (hoff : off % 8 = 0) (hb : b.length % 8 = 0) :
    (s.writeWords g off b).1 = Total.start off ∧
      (s.writeWords g off b).2.mem = memWords s.mem g (off / 8) (wordOf b) (b.length / 8) := by
  have hrow : s.writeWords g off b =
      (List.range (b.length / 8)).foldl (writeStep g off 0 b) (Total.start off, s) := by
    rw [State.writeWords_eq, hoff, List.replicate_zero, List.nil_append, show (b.length + 7) / 8 = b.length / 8 by omega,
      show off / 8 * 8 = off by omega]
  rw [hrow]
  have key : ∀ n, n ≤ b.length / 8 → ((List.range n).foldl (writeStep g off 0 b) (Total.start off, s)).1 = Total.start off ∧
      ((List.range n).foldl (writeStep g off 0 b) (Total.start off, s)).2.mem = memWords s.mem g (off / 8) (wordOf b) n := by
    intro n hn
    induction n with
    | zero => exact ⟨rfl, rfl⟩
    | succ n ih =>
      obtain ⟨htotal, hmem⟩ := ih (by omega)
      rw [List.range_succ, List.foldl_append, List.foldl_cons, List.foldl_nil, memWords_succ, ← hmem]
      exact writeStep_full (by omega) htotal
  exact key _ (Nat.le_refl _)

/-- The words written by whole words read as the numbers given, and the others as before. -/
theorem State.writeWords_words {s : State} (hm : Memory.wf s.mem = true) {g off : Nat} {b : Bytes} (hoff : off % 8 = 0)
    (hb : b.length % 8 = 0) (hfit : off + b.length ≤ 4194304) :
    (∀ k, k < b.length / 8 → (s.writeWords g off b).2.wordD g (off / 8 + k) = fieldN b (8 * k) 8 ∧
      (s.writeWords g off b).2.wordC g (off / 8 + k) = checkByte (fieldN b (8 * k) 8)) ∧
    ∀ h y, y < 524288 → h ≠ g ∨ y < off / 8 ∨ (off + b.length) / 8 ≤ y →
      (s.writeWords g off b).2.wordD h y = s.wordD h y ∧ (s.writeWords g off b).2.wordC h y = s.wordC h y := by
  obtain ⟨-, hmem⟩ := s.writeWords_full (g := g) hoff hb
  refine ⟨fun k hk => ?_, fun h y hy hout => State.word_congr fun i hi => ?_⟩
  · have hword := State.word_of_mem (s := (s.writeWords g off b).2) (g := g) (w := off / 8 + k) (v := wordOf b k) fun i hi => by
      rw [hmem]
      exact memGet_memWords_in hm g (off / 8) (wordOf b) hk hi
    have hlt : wordOf b k < 2 ^ 64 := fieldN_lt b (8 * k) 8
    rwa [Nat.mod_eq_of_lt hlt] at hword
  · have hout := wordAt_outside (g := g) (w := off / 8) (n := b.length / 8) hy (by omega) (by omega : h ≠ g ∨ y < off / 8 ∨ _)
    rw [hmem, memGet_memWords_out]
    omega

end Sys2Proof.Machine
end

section
/-! PROOF. Layers written, committed and uploaded (15 R377, R380, R382, R383, R400). -/

namespace Sys2Proof.Machine

open Sys2Proof

/-! ### A layer of a head -/

theorem State.modLayer_self (s : State) {h l : Nat} (f : Layer → Layer) (hh : h < s.comp.heads.length)
    (hl : l < (s.head h).layers.length) : (s.modLayer h l f).layer h l = f (s.layer h l) := by
  have hhead : (s.modLayer h l f).head h = { s.head h with layers := lmod (s.head h).layers l f } :=
    lmod_getD_self _ _ _ _ hh
  rw [State.layer, hhead]
  exact lmod_getD_self _ _ _ _ hl

theorem State.modLayer_ne (s : State) {h l g k : Nat} (f : Layer → Layer) (hne : g ≠ h ∨ k ≠ l) :
    (s.modLayer h l f).layer g k = s.layer g k := by
  by_cases hg : g = h
  · subst hg
    have hk : k ≠ l := hne.resolve_left (fun h => h rfl)
    by_cases hh : g < s.comp.heads.length
    · have hhead : (s.modLayer g l f).head g = { s.head g with layers := lmod (s.head g).layers l f } :=
        lmod_getD_self _ _ _ _ hh
      rw [State.layer, hhead]
      exact lmod_getD_ne _ _ _ _ _ hk
    · have hhead : (s.modLayer g l f).head g = s.head g := by
        rw [State.head, State.head, List.getD_eq_default _ _ (by simpa [State.modLayer, State.modHead, lmod_length] using hh),
          List.getD_eq_default _ _ (Nat.le_of_not_lt hh)]
      rw [State.layer, hhead, State.layer]
  · have hhead : (s.modLayer h l f).head g = s.head g := lmod_getD_ne _ _ _ _ _ hg
    rw [State.layer, hhead, State.layer]

section
variable {u : State} {h l : Nat}

theorem State.layerRefusal_noImage (hc : u.composes = false) : u.layerRefusal h l = some stNoResource := by
  simp [State.layerRefusal, hc]

theorem State.layerRefusal_dark (hc : u.composes = true) (hd : u.headDark h = true) : u.layerRefusal h l = some stSealed := by
  simp [State.layerRefusal, hc, hd]

theorem State.layerRefusal_waits (hc : u.composes = true) (hd : u.headDark h = false) (hw : (u.layer h l).committed = true) :
    u.layerRefusal h l = some stBadState := by
  simp [State.layerRefusal, hc, hd, hw]

theorem State.layerRefusal_none (hc : u.composes = true) (hd : u.headDark h = false) (hw : (u.layer h l).committed = false) :
    u.layerRefusal h l = none := by
  simp [State.layerRefusal, hc, hd, hw]

end

/-! ### The rows -/

section
variable {s u : State} {x : At} {c : Cmd} (hu : s.enter x = u) {dt : Option Bytes}
include hu

/-- Both layer commands are refused alike. -/
theorem layer_refused {i : Instr} {op st : Nat} (hr : u.layerRefusal (fieldN c.params 0 1) (fieldN c.params 1 1) = some st)
    (hi : (i = .layerWrite x c.qp c.tag dt ∧ op = 0x0801) ∨ (i = .layerCommit x c.qp c.tag dt ∧ op = 0x0802))
    (hc : Accepted u.host c.qp c.tag op c) : exec i s = .next (u.complete c.qp c.tag st 0 []) := by
  rcases hi with ⟨rfl, rfl⟩ | ⟨rfl, rfl⟩
  · refine exec_of_run hu hc rfl ?_
    dsimp only
    rw [hr]
  · refine exec_of_run hu hc rfl ?_
    dsimp only
    rw [hr]

theorem layerWrite_row (hr : u.layerRefusal (fieldN c.params 0 1) (fieldN c.params 1 1) = none)
    (hc : Accepted u.host c.qp c.tag 0x0801 c) : exec (.layerWrite x c.qp c.tag dt) s =
      .next (if !u.layerRefOk (parseLayer (sliceB c.params 8 64)) then u.complete c.qp c.tag stBadParam 0 []
        else (u.modLayer (fieldN c.params 0 1) (fieldN c.params 1 1) fun v => { v with pend := sliceB c.params 8 64 }).complete
          c.qp c.tag stOK 0 []) := by
  refine exec_of_run hu hc rfl ?_
  dsimp only
  rw [hr]

theorem layerCommit_row (hr : u.layerRefusal (fieldN c.params 0 1) (fieldN c.params 1 1) = none)
    (hc : Accepted u.host c.qp c.tag 0x0802 c) : exec (.layerCommit x c.qp c.tag dt) s =
      .next (if !u.fetchOk (fieldN c.params 0 1) (fieldN c.params 1 1) then u.complete c.qp c.tag stBadParam 0 []
        else (u.modLayer (fieldN c.params 0 1) (fieldN c.params 1 1) fun v =>
          { v with committed := true, cmd := some (c.qp, c.tag) }).setProg c.qp c.tag (.waiting 0 0)) := by
  refine exec_of_run hu hc rfl ?_
  dsimp only
  rw [hr]

section
variable (hc : Accepted u.host c.qp c.tag 0x0803 c)
include hc

theorem layerUpload_noRegion (h : u.region (fieldN c.params 0 4) = none) :
    exec (.layerUpload x c.qp c.tag dt) s = .next (u.complete c.qp c.tag stBadParam 0 []) := by
  refine exec_of_run hu hc rfl ?_
  dsimp only
  rw [h]

theorem layerUpload_notBuffer {e : Region} (h : u.region (fieldN c.params 0 4) = some e)
    (hbad : e.kind ≠ 5 ∨ e.placement ≠ u.ep.placement ∨ e.len < fieldN c.params 4 4 + fieldN c.params 8 4) :
    exec (.layerUpload x c.qp c.tag dt) s = .next (u.complete c.qp c.tag stBadParam 0 []) := by
  refine exec_of_run hu hc rfl ?_
  dsimp only
  rw [h]
  exact if_pos hbad

section
variable {e : Region} (h : u.region (fieldN c.params 0 4) = some e)
  (hok : ¬(e.kind ≠ 5 ∨ e.placement ≠ u.ep.placement ∨ e.len < fieldN c.params 4 4 + fieldN c.params 8 4))
include h hok

theorem layerUpload_noData (hd : dataOf c.params 16 24 (fieldN c.params 8 4) dt = none) :
    exec (.layerUpload x c.qp c.tag dt) s = .next (u.complete c.qp c.tag stBadParam 0xFFFFFFFF []) := by
  refine exec_of_run hu hc rfl ?_
  dsimp only
  rw [h, hd]
  exact if_neg hok

theorem layerUpload_nowhere {b : Bytes} (hd : dataOf c.params 16 24 (fieldN c.params 8 4) dt = some b)
    (hr : u.regionAt (fieldN c.params 0 4) = none) :
    exec (.layerUpload x c.qp c.tag dt) s = .next (u.complete c.qp c.tag stBadState 0 []) := by
  refine exec_of_run hu hc rfl ?_
  dsimp only
  rw [h, hd, hr]
  exact if_neg hok

theorem layerUpload_writes {b : Bytes} {g o : Nat} (hd : dataOf c.params 16 24 (fieldN c.params 8 4) dt = some b)
    (hr : u.regionAt (fieldN c.params 0 4) = some (g, o)) : exec (.layerUpload x c.qp c.tag dt) s =
      .next ((u.writeWords g (o + fieldN c.params 4 4) b).2.complete c.qp c.tag (u.writeWords g (o + fieldN c.params 4 4) b).1.status
        (u.writeWords g (o + fieldN c.params 4 4) b).1.addr []).retireDue := by
  refine exec_of_run hu hc rfl ?_
  dsimp only
  rw [h, hd, hr]
  exact if_neg hok

end

end

end

end Sys2Proof.Machine

open Sys2Proof Sys2Proof.Machine

/-- Settles O49: the refusals of both layer commands in their order, then one lemma a row and outcome; an upload of whole words
is `State.writeWords_words`. -/
theorem layersAreWrittenAndCommitted : Obligations.LayersAreWrittenAndCommitted := by
  unfold Obligations.LayersAreWrittenAndCommitted
  refine ⟨fun s u x qp tag dt c h l op i hu hh hl hi hc => ?_, fun s u x qp tag dt c h l hu hh hl hcomp hdark hfree hlh hll =>
    ⟨fun hc => ?_, fun hc => ?_⟩, fun s u x qp tag dt c r off n hu hr ho hn hc => ?_⟩ <;> replace hu := hu.symm <;>
    obtain ⟨rfl, rfl⟩ := find_name hc.1.1
  · subst hh hl
    refine ⟨fun hcomp => ?_, fun hcomp hdark => ?_, fun hcomp hdark hwait => ?_⟩
    · exact answeredWith_of_completes hc.1 (layer_refused hu (State.layerRefusal_noImage hcomp) hi hc)
    · exact answeredWith_of_completes hc.1 (layer_refused hu (State.layerRefusal_dark hcomp hdark) hi hc)
    · exact answeredWith_of_completes hc.1 (layer_refused hu (State.layerRefusal_waits hcomp hdark hwait) hi hc)
  · subst hh hl
    have row := layerWrite_row (dt := dt) hu (State.layerRefusal_none hcomp hdark hfree) hc
    refine ⟨fun hbad => ?_, fun hok => ?_⟩
    · rw [hbad] at row
      exact answeredWith_of_completes hc.1 row
    · rw [hok] at row
      obtain ⟨t, hrow, hans, ht⟩ := answered_of_completes_after (u := u) hc.1 row rfl rfl rfl
      have hlayer : ∀ g k, t.layer g k = (u.modLayer (fieldN c.params 0 1) (fieldN c.params 1 1) fun v =>
          { v with pend := sliceB c.params 8 64 }).layer g k := fun g k => (congrArg (State.layer · g k) ht :)
      have hheads := (congrArg (·.comp.heads) ht :)
      refine ⟨t, hrow, hans, ?_, fun g k hne => ?_, ?_⟩
      · rw [hlayer, u.modLayer_self _ hlh hll]
      · rw [hlayer, u.modLayer_ne _ hne]
      · rw [hheads]
        exact ht
  · subst hh hl
    have row := layerCommit_row (dt := dt) hu (State.layerRefusal_none hcomp hdark hfree) hc
    refine ⟨fun hbad => ?_, fun hok => ?_⟩
    · rw [hbad] at row
      exact answeredWith_of_completes hc.1 row
    · rw [hok] at row
      exact ⟨_, row, u.modLayer_self _ hlh hll, fun g k hne => u.modLayer_ne _ hne, rfl⟩
  · subst hr ho hn
    refine ⟨fun hnone => answeredWith_of_completes hc.1 (layerUpload_noRegion hu hc hnone), fun e he => ⟨fun hbad =>
      answeredWith_of_completes hc.1 (layerUpload_notBuffer hu hc he hbad), fun hkind hplace hlen => ?_⟩⟩
    have hok : ¬(e.kind ≠ 5 ∨ e.placement ≠ u.ep.placement ∨ e.len < fieldN c.params 4 4 + fieldN c.params 8 4) := by
      simp only [hkind, hplace, ne_eq, not_true_eq_false, false_or]
      omega
    refine ⟨fun hd => answeredWith_of_completes hc.1 (layerUpload_noData hu hc he hok hd), fun b hd => ⟨fun hnone =>
      answeredWith_of_completes hc.1 (layerUpload_nowhere hu hc he hok hd hnone), fun g o hat halign hwhole hb hfit hg hwf => ?_⟩⟩
    have row := layerUpload_writes hu hc he hok hd hat
    have hwhole' : b.length % 8 = 0 := by rw [hb]; exact hwhole
    obtain ⟨htotal, -⟩ := u.writeWords_full (g := g) (b := b) halign hwhole'
    obtain ⟨hin, hout⟩ := State.writeWords_words hwf (g := g) halign hwhole' (by rw [hb]; exact hfit)
    have hmask := u.writeWords_sansWords g (o + fieldN c.params 4 4) b
    generalize u.writeWords g (o + fieldN c.params 4 4) b = w at row htotal hin hout hmask
    rw [htotal] at row
    obtain ⟨hans, hho⟩ := State.answered_after (u := u) (v := w.2) hc.1 (congrArg State.host hmask :)
      (congrArg (·.ep.epoch) hmask :) (congrArg State.time hmask :) stOK (o + fieldN c.params 4 4) []
    have hword : ∀ g y, (w.2.complete c.qp c.tag stOK (o + fieldN c.params 4 4) []).wordD g y = w.2.wordD g y ∧
        (w.2.complete c.qp c.tag stOK (o + fieldN c.params 4 4) []).wordC g y = w.2.wordC g y := fun g y =>
      ⟨(congrArg (State.wordD · g y) hho :), (congrArg (State.wordC · g y) hho :)⟩
    refine ⟨_, row, hans, fun k hk => ?_, fun j y _ hy hne => ?_⟩
    · exact ⟨((hword _ _).1).trans (hin k (by omega)).1, ((hword _ _).2).trans (hin k (by omega)).2⟩
    · have hkeep := hout j y hy (by rw [hb]; exact hne)
      exact ⟨((hword _ _).1).trans hkeep.1, ((hword _ _).2).trans hkeep.2⟩
end

section
/-! PROOF. Heads that train, and the front panel (15 R391, R392, R394 to R396, R399). -/

namespace Sys2Proof.Machine

open Sys2Proof

/-! ### Heads -/

theorem State.modHead_self (s : State) {h : Nat} (f : Head → Head) (hh : h < s.comp.heads.length) :
    (s.modHead h f).head h = f (s.head h) := lmod_getD_self _ _ _ _ hh

theorem State.modHead_ne (s : State) {h g : Nat} (f : Head → Head) (hne : g ≠ h) : (s.modHead h f).head g = s.head g :=
  lmod_getD_ne _ _ _ _ _ hne

/-- The link a head trains to: the first configuration that works and carries its mode (15 R391, R392). -/
def State.trained (s : State) (h : Nat) (works : List (Nat × Nat)) : Option (Nat × Nat) :=
  linkSequence.find? fun c => works.contains c && s.linkCarries h c

theorem State.trained_works {s : State} {h : Nat} {works : List (Nat × Nat)} {c : Nat × Nat} (hc : s.trained h works = some c) :
    c ∈ works ∧ s.linkCarries h c = true ∧ c ∈ linkSequence := by
  have hp := List.find?_some hc
  rw [Bool.and_eq_true, List.contains_iff_mem] at hp
  exact ⟨hp.1, hp.2, List.mem_of_find?_eq_some hc⟩

theorem State.trained_first (s : State) {h k : Nat} {works : List (Nat × Nat)} {c : Nat × Nat} (hk : linkSequence[k]? = some c)
    (hworks : c ∈ works) (hcarries : s.linkCarries h c = true) :
    ∃ (j : Nat) (d : Nat × Nat), j ≤ k ∧ linkSequence[j]? = some d ∧ s.trained h works = some d := by
  have hmem : c ∈ linkSequence := List.mem_of_getElem? hk
  cases hd : s.trained h works with
  | none =>
    have := List.find?_eq_none.1 hd c hmem
    simp [hworks, hcarries] at this
  | some d =>
    obtain ⟨-, j, hj, hjd, hbefore⟩ := List.find?_eq_some_iff_getElem.1 hd
    refine ⟨j, d, ?_, by rw [List.getElem?_eq_getElem hj, hjd], rfl⟩
    by_contra hlt
    obtain ⟨hk', hkc⟩ := List.getElem?_eq_some_iff.1 hk
    have := hbefore k (by omega)
    simp [hkc, hworks, hcarries] at this

section
variable {s u : State} {x : At} (hu : s.enter x = u)
include hu

theorem hotPlugDetect_row (h : Nat) (works : List (Nat × Nat)) : exec (.hotPlugDetect x h works) s =
    .next (if !(u.time.running && u.unsealed (u.driver h) && decide (h < 2)) then u
      else u.modHead h fun v => { v with sink := true, link := u.trained h works }) := by
  subst hu
  rfl

theorem hotPlugLost_row (h : Nat) : exec (.hotPlugLost x h) s =
    .next (u.modHead h fun v => { v with sink := false, link := none }) := by
  subst hu
  rfl

end

/-! ### A head's record (15 R399) -/

/-- The state a head is read in. -/
def State.headCode (s : State) (h : Nat) : Nat :=
  let enabled : Bool := match s.headRec h with
    | some b => bitAt (fieldN b 0 1) 0
    | none => false
  if s.headDark h || !s.composes || !enabled then 0 else if !(s.head h).sink then 1 else if (s.head h).link.isNone then 2 else 3

theorem State.headCode_lt (s : State) (h : Nat) : s.headCode h < 256 := by
  unfold State.headCode
  dsimp only
  repeat' split
  all_goals decide

theorem State.headCode_dark {s : State} {h : Nat} (hd : s.headDark h = true) : s.headCode h = 0 := by
  simp [State.headCode, hd]

theorem State.headCode_enabled {s : State} {h : Nat} {b : Bytes} (hd : s.headDark h = false) (hc : s.composes = true)
    (hr : s.headRec h = some b) (he : (fieldN b 0 1).testBit 0 = true) :
    s.headCode h = (if (s.head h).sink = false then 1 else if (s.head h).link = none then 2 else 3) := by
  unfold State.headCode
  rw [hd, hc, hr]
  simp [bitAt, he]

theorem State.headState_layout (s : State) (h : Nat) : s.headState h = toLE 1 (s.headCode h) ++ (toLE 1 (b2n (s.head h).instB) ++
    (toLE 1 ((s.head h).link.getD (0, 0)).1 ++ (toLE 1 ((s.head h).link.getD (0, 0)).2 ++ (toLE 4 (s.head h).frameSeq ++ toLE 8 0)))) := by
  simp only [← List.append_assoc]
  rfl

theorem State.headState_length (s : State) (h : Nat) : (s.headState h).length = 16 := by
  simp [State.headState_layout, toLE_length]

section
variable (s : State) (h : Nat)

theorem State.headState_code : fieldN (s.headState h) 0 1 = s.headCode h := by
  rw [s.headState_layout]
  exact (fieldN_toLE [] _ 1 _).trans (Nat.mod_eq_of_lt (s.headCode_lt h))

theorem State.headState_inst : fieldN (s.headState h) 1 1 = b2n (s.head h).instB := by
  rw [s.headState_layout, fieldN_toLE_behind (toLE_length _ _)]
  cases (s.head h).instB <;> rfl

theorem State.headState_link {k : Nat × Nat} (hk : (s.head h).link = some k) :
    fieldN (s.headState h) 2 1 = k.1 % 256 ∧ fieldN (s.headState h) 3 1 = k.2 % 256 := by
  rw [s.headState_layout, hk]
  constructor
  · rw [← List.append_assoc]
    exact fieldN_toLE_behind (by simp [toLE_length]) 1 _
  · rw [← List.append_assoc, ← List.append_assoc]
    exact fieldN_toLE_behind (by simp [toLE_length]) 1 _

theorem State.headState_seq : fieldN (s.headState h) 4 4 = (s.head h).frameSeq % 2 ^ 32 := by
  rw [s.headState_layout, ← List.append_assoc, ← List.append_assoc, ← List.append_assoc]
  exact fieldN_toLE_behind (by simp [toLE_length]) 4 _

end

/-- The records of both heads, in a row. -/
def State.headStates (s : State) : Bytes := catB ((List.range 2).map s.headState)

theorem State.headStates_length (s : State) : s.headStates.length = 32 := by
  rw [State.headStates, catB_length (List.forall_mem_map.2 fun h _ => s.headState_length h), List.length_map, List.length_range]

theorem State.headStates_field (s : State) {h off n : Nat} (hh : h < 2) (hoff : off + n ≤ 16) :
    fieldN s.headStates (16 * h + off) n = fieldN (s.headState h) off n :=
  fieldN_catB (List.forall_mem_map.2 fun h _ => s.headState_length h)
    ((List.getElem?_map ..).trans (congrArg _ (List.getElem?_range hh))) hoff

/-! ### The panel (15 R394 to R396, R399) -/

/-- Drawing regions changes what is drawn, each of them to its source as it stands. -/
theorem State.drawRegions_parts (s : State) (rs : List Nat) :
    s.drawRegions rs = { s with panel := { s.panel with drawn := (s.drawRegions rs).panel.drawn } } ∧
      ∀ r, tget (s.drawRegions rs).panel.drawn r = if r ∈ rs then some (s.panelContent r) else tget s.panel.drawn r := by
  induction rs generalizing s with
  | nil => exact ⟨rfl, fun r => by simp [State.drawRegions]⟩
  | cons q rs ih =>
    have hcons : s.drawRegions (q :: rs) =
        ({ s with panel := { s.panel with drawn := tset s.panel.drawn q (s.panelContent q) } } : State).drawRegions rs := rfl
    obtain ⟨heq, hdrawn⟩ := ih { s with panel := { s.panel with drawn := tset s.panel.drawn q (s.panelContent q) } }
    rw [hcons]
    refine ⟨heq, fun r => (hdrawn r).trans ?_⟩
    by_cases hr : r ∈ rs
    · rw [if_pos hr, if_pos (List.mem_cons_of_mem _ hr)]
      rfl
    · rw [if_neg hr]
      by_cases hq : r = q
      · subst hq
        rw [if_pos List.mem_cons_self, tget_tset_self]
      · rw [if_neg (by simp [hq, hr]), tget_tset_ne _ _ _ _ hq]

section
variable {s u : State} {x : At} (hu : s.enter x = u)
include hu

theorem panelStep_idle (h : u.unit.state = .off ∨ u.panel.update = none) : exec (.panelUpdateStepComplete x) s = .next u := by
  subst hu
  have row : exec (.panelUpdateStepComplete x) s = execPanelUpdateStepComplete x s := rfl
  rw [row, execPanelUpdateStepComplete]
  rcases h with h | h
  · simp only [h, if_true]
  · split
    · rfl
    · simp only [h]

section
variable (hon : u.unit.state ≠ .off) {rs : List Nat}
include hon

theorem panelStep_draws (h : u.panel.update = some (1, rs)) : exec (.panelUpdateStepComplete x) s =
    .next { u.drawRegions rs with panel := { (u.drawRegions rs).panel with update := some (2, rs) } } := by
  subst hu
  have row : exec (.panelUpdateStepComplete x) s = execPanelUpdateStepComplete x s := rfl
  rw [row, execPanelUpdateStepComplete]
  simp only [hon, if_false, h]

theorem panelStep_whitens (h : u.panel.update = some (2, rs)) : exec (.panelUpdateStepComplete x) s =
    .next { u with panel := { u.panel with update := some (3, rs), bandBlack := false } } := by
  subst hu
  have row : exec (.panelUpdateStepComplete x) s = execPanelUpdateStepComplete x s := rfl
  rw [row, execPanelUpdateStepComplete]
  simp only [hon, if_false, h]

theorem panelStep_next {n : Nat} (h : u.panel.update = some (n + 3, rs)) : exec (.panelUpdateStepComplete x) s =
    .next (if u.panel.replFirst then
        { u with panel := { u.panel with
          update := some (1, [3]), replFirst := false, pendingSet := u.panel.pendingSet.erase 3, bandBlack := true } }
      else if u.panel.pendingSet.isEmpty then { u with panel := { u.panel with update := none } }
      else { u with panel := { u.panel with update := some (1, u.panel.pendingSet), pendingSet := [], bandBlack := true } }) := by
  subst hu
  have row : exec (.panelUpdateStepComplete x) s = execPanelUpdateStepComplete x s := rfl
  rw [row, execPanelUpdateStepComplete]
  simp only [hon, if_false, h]

end

section
variable {c : Cmd} {dt : Option Bytes}

theorem displayRead_row (hc : Accepted u.host c.qp c.tag 0x0804 c) : exec (.displayRead x c.qp c.tag dt) s =
    .next (u.complete c.qp c.tag stOK 0 u.headStates) := by
  refine exec_of_run hu hc rfl ?_
  have htwo : u.headStates = u.headState 0 ++ u.headState 1 := by
    rw [State.headStates, catB, show List.range 2 = [0, 1] from rfl]
    simp
  rw [htwo]

end

end

theorem State.panelRegion_length (s : State) (r rows : Nat) : (s.panelRegion r rows).length = 100 * rows := by
  unfold State.panelRegion
  split
  · exact List.length_replicate
  · split
    · exact List.length_replicate
    · simp

/-- The band at the top of the panel. -/
def State.panelBand (s : State) : Bytes := List.replicate 1200 (if s.panel.bandBlack then 0xFF else 0)

/-- The regions below it. -/
def State.panelRegions (s : State) : Bytes :=
  s.panelRegion 1 48 ++ (s.panelRegion 2 60 ++ (s.panelRegion 3 100 ++ s.panelRegion 4 80))

theorem State.panelRegions_length (s : State) : s.panelRegions.length = 28800 := by
  simp [State.panelRegions, State.panelRegion_length]

theorem State.panelBand_length (s : State) : s.panelBand.length = 1200 := List.length_replicate

/-- What PANEL_READ answers: the image, and whether an update runs. -/
def State.panelBytes (s : State) : Bytes := s.panelBand ++ (s.panelRegions ++ toLE 4 (b2n s.panel.update.isSome))

theorem State.panelBytes_length (s : State) : s.panelBytes.length = 30004 := by
  rw [State.panelBytes, List.length_append, List.length_append, s.panelBand_length, s.panelRegions_length, toLE_length]

theorem State.panelBytes_band (s : State) {k : Nat} (h : k < 1200) :
    s.panelBytes[k]? = some (if s.panel.bandBlack then 0xFF else 0) := by
  rw [State.panelBytes, List.getElem?_append_left (by rw [s.panelBand_length]; exact h), State.panelBand,
    List.getElem?_replicate_of_lt h]

theorem State.panelBytes_update (s : State) : fieldN s.panelBytes 30000 4 = b2n s.panel.update.isSome := by
  have hbytes : s.panelBytes = (s.panelBand ++ s.panelRegions) ++ (toLE 4 (b2n s.panel.update.isSome) ++ []) := by
    rw [List.append_nil, List.append_assoc, State.panelBytes]
  rw [hbytes, fieldN_toLE_behind (by rw [List.length_append, s.panelBand_length, s.panelRegions_length])]
  cases s.panel.update <;> rfl

theorem panelRead_row {s u : State} {x : At} (hu : s.enter x = u) {c : Cmd} {dt : Option Bytes}
    (hc : Accepted u.host c.qp c.tag 0x0805 c) : exec (.panelRead x c.qp c.tag dt) s =
      .next (u.complete c.qp c.tag stOK 0 u.panelBytes) := by
  refine exec_of_run hu hc rfl ?_
  simp only [State.panelBytes, State.panelBand, State.panelRegions, List.append_assoc]

end Sys2Proof.Machine

open Sys2Proof Sys2Proof.Machine

/-- Settles O51: the first configuration is `State.trained`, the panel's three steps one lemma each, the reads their layouts. -/
theorem headsTrainAndThePanelIsDrawn : Obligations.HeadsTrainAndThePanelIsDrawn := by
  unfold Obligations.HeadsTrainAndThePanelIsDrawn
  refine ⟨fun s u x h works hu => ⟨fun hno => ?_, fun hrun hseal hh hlen => ?_, fun hlen => ?_⟩, fun s u x hu =>
    ⟨panelStep_idle hu.symm, fun hon => ⟨fun rs h => ?_, fun rs h => panelStep_whitens hu.symm hon h, fun n rs h => ?_⟩⟩,
    fun s u x qp tag dt c hu => ⟨fun hc => ?_, fun hc => ?_⟩⟩ <;> replace hu := hu.symm
  · rw [hotPlugDetect_row hu, if_pos]
    rcases hno with h | h | h
    · simp [h]
    · simp [h]
    · simp [Nat.not_lt.2 h]
  · refine ⟨_, (hotPlugDetect_row hu h works).trans (congrArg _ (if_neg (by simp [hrun, hseal, hh]))), ?_, ?_, ?_, ?_,
      fun g hg => State.modHead_ne _ _ hg, rfl⟩ <;> rw [State.modHead_self _ _ hlen]
    · exact fun c hc => State.trained_works hc
    · exact fun k c hk hworks hcarries => u.trained_first hk hworks hcarries
  · exact ⟨_, hotPlugLost_row hu h, State.modHead_self _ _ hlen, fun g hg => State.modHead_ne _ _ hg, rfl⟩
  · obtain ⟨heq, hdrawn⟩ := u.drawRegions_parts rs
    refine ⟨_, panelStep_draws hu hon h, rfl, fun r hr => (hdrawn r).trans (if_pos hr), fun r hr => (hdrawn r).trans (if_neg hr), ?_⟩
    generalize (u.drawRegions rs).panel.drawn = d at heq
    rw [heq]
  · have row := panelStep_next hu hon h
    cases hrepl : u.panel.replFirst with
    | true =>
      rw [hrepl] at row
      exact ⟨_, row, rfl, rfl, fun _ => ⟨rfl, rfl, rfl⟩, fun h => absurd h (by decide), fun h => absurd h (by decide)⟩
    | false =>
      rw [hrepl, if_neg (by decide)] at row
      by_cases hset : u.panel.pendingSet = []
      · rw [hset] at row
        exact ⟨_, row, rfl, rfl, fun h => absurd h (by decide), fun _ _ => rfl, fun _ hne => absurd hset hne⟩
      · rw [if_neg (by simpa using hset)] at row
        exact ⟨_, row, rfl, rfl, fun h => absurd h (by decide), fun _ hnil => absurd hnil hset, fun _ _ => ⟨rfl, rfl, rfl⟩⟩
  · obtain ⟨rfl, rfl⟩ := find_name hc.1.1
    obtain ⟨t, hrow, hho, hans⟩ := answeredWith_of_completes hc.1 (displayRead_row (dt := dt) hu hc)
    refine ⟨t, _, hrow, hho, hans, u.headStates_length, fun h hh => ⟨fun hdark => ?_, fun b hlit hcomp hrec hen => ?_, ?_, fun k hk =>
      ⟨?_, ?_⟩, ?_⟩⟩
    · exact ((u.headStates_field hh (off := 0) (by decide)).trans (u.headState_code h)).trans (State.headCode_dark hdark)
    · exact ((u.headStates_field hh (off := 0) (by decide)).trans (u.headState_code h)).trans
        (State.headCode_enabled hlit hcomp hrec hen)
    · exact (u.headStates_field hh (by decide)).trans (u.headState_inst h)
    · exact (u.headStates_field hh (by decide)).trans (u.headState_link h hk).1
    · exact (u.headStates_field hh (by decide)).trans (u.headState_link h hk).2
    · exact (u.headStates_field hh (by decide)).trans (u.headState_seq h)
  · obtain ⟨rfl, rfl⟩ := find_name hc.1.1
    obtain ⟨t, hrow, hho, hans⟩ := answeredWith_of_completes hc.1 (panelRead_row (dt := dt) hu hc)
    exact ⟨t, _, hrow, hho, hans, u.panelBytes_length, fun k hk => u.panelBytes_band hk, u.panelBytes_update⟩
end

section
/-! PROOF. Frames started and sent (15 R382, R386, R389, Table 15-4). -/

namespace Sys2Proof.Machine

open Sys2Proof

/-! ### Completions of other commands -/

/-- A command that ends, whatever it is, adds entries at most, and leaves what other commands wait for. -/
theorem State.finish_keeps {s : State} (hcq : s.host.cqOk = true) (c : Cmd) (st d : Nat) (r : Bytes) :
    (∀ n, (s.finish c st d r).host.ready n = s.host.ready n) ∧ (s.finish c st d r).host.accepted = s.host.accepted ∧
      s.host.completions ⊆ (s.finish c st d r).host.completions := by
  have same : (∀ n, s.host.ready n = s.host.ready n) ∧ s.host.accepted = s.host.accepted ∧
      s.host.completions ⊆ s.host.completions := ⟨fun _ => rfl, rfl, fun _ h => h⟩
  unfold State.finish
  extract_lets q late lost st' e q' _
  split
  · exact same
  · split
    · split
      · exact same
      · exact ⟨fun n => State.modQp_ready s c.qp (by intro q; rfl) n, rfl, fun _ h => h⟩
    · rw [if_pos (show (s.modQp c.qp _).host.cqOk = true from hcq)]
      refine ⟨fun n => (State.pushEntry_ready ..).trans (State.modQp_ready s c.qp (by intro q; rfl) n),
        (pushEntry_host _ _ _ _).2, fun a h => ?_⟩
      rw [(pushEntry_host _ _ _ _).1]
      exact List.mem_append_left _ h

/-- A command held stays held as another one named is completed. -/
theorem State.held_completeOther {s : State} {qp tag op q t : Nat} {p : Prog} {c : Cmd} (h : Held s.host qp tag op p c)
    (hne : ¬(qp = q ∧ tag = t)) (st d : Nat) (r : Bytes) : Held (s.complete q t st d r).host qp tag op p c := by
  unfold State.complete
  split
  · exact h
  · next k _ =>
    obtain ⟨hfind, hop, hprog, hnet, hgen, hcq, hres, hdead, hsyn⟩ := h
    obtain ⟨hready, hacc, -⟩ := State.finish_keeps
      (s := { s with host := { s.host with accepted := dropFirst s.host.accepted q t } }) hcq k st d r
    obtain ⟨hg, hc, hr⟩ := Prod.mk.injEq .. ▸ (Prod.mk.injEq .. ▸ hready qp)
    refine ⟨?_, hop, hprog, hnet, hg.trans hgen, hc.trans hcq, hr.trans hres, hdead, hsyn⟩
    rw [hacc]
    exact (find_dropFirst hne).trans hfind

/-- Completing a command named adds entries at most. -/
theorem State.complete_grows {s : State} (hcq : s.host.cqOk = true) (q t st d : Nat) (r : Bytes) :
    (s.complete q t st d r).host.cqOk = true ∧ s.host.completions ⊆ (s.complete q t st d r).host.completions := by
  unfold State.complete
  split
  · exact ⟨hcq, fun _ h => h⟩
  · next k _ =>
    obtain ⟨hready, -, hsub⟩ := State.finish_keeps
      (s := { s with host := { s.host with accepted := dropFirst s.host.accepted q t } }) hcq k st d r
    exact ⟨(congrArg (fun v : Nat × Bool × Bool => v.2.1) (hready 0)).trans hcq, hsub⟩

/-! ### What drawing leaves alone -/

/-- A state less what reads and writes of memory and stores change, and what is written back to the host. -/
def State.sansStored (s : State) : State :=
  { s.sansWords with
    store := { s.store with rows := s.store.rows.map StoreRow.sansLists }
    comp := { s.comp with hostWrites := [] }
    freeCtr := 0 }

theorem State.sansStored_of_sansWords {s t : State} (h : t.sansWords = s.sansWords) : t.sansStored = s.sansStored :=
  (congrArg (fun v : State => ({ v with
    store := { v.store with rows := v.store.rows.map StoreRow.sansLists }
    comp := { v.comp with hostWrites := [] }
    freeCtr := 0 } : State)) h :)

theorem State.sansStored_of_sansScan {s t : State} (h : t.sansScan = s.sansScan) : t.sansStored = s.sansStored :=
  (congrArg (fun v : State => ({ v with
    cells := CellSt.reset
    flash := FlashSt.reset
    comp := { v.comp with hostWrites := [] } } : State)) h :)

theorem State.readWords_sansWords (s : State) (g off n : Nat) : (s.readWords g off n).2.sansWords = s.sansWords :=
  List.foldlRecOn (motive := fun p : Total × State => p.2.sansWords = s.sansWords) _ _ rfl fun p hp w _ =>
    ((State.counted_sansWords _ _ _ _).trans (p.2.readWord_sansWords g w)).trans hp

theorem State.readRegion_sansWords (s : State) (r off n : Nat) : (s.readRegion r off n).2.sansWords = s.sansWords := by
  unfold State.readRegion
  split
  · exact s.readWords_sansWords _ _ _
  · rfl

theorem State.inHead_sansWords (s : State) (r : Nat) : (s.inHead r).2.sansWords = s.sansWords := by
  unfold State.inHead
  split
  · rfl
  · rfl
  · split
    · rfl
    · exact s.readRegion_sansWords _ _ _

theorem State.wbWrite_sansStored (s : State) (b : Bytes) (seq off : Nat) (v : Bytes) :
    (s.wbWrite b seq off v).2.sansStored = s.sansStored := by
  unfold State.wbWrite
  extract_lets ref at_
  split
  · exact State.sansStored_of_sansWords (s.writeRegion_sansWords _ _ _)
  · split
    · exact State.sansStored_of_sansScan (State.sansScan_of_sansLines (s.writeStore_sansLines _ _ _))
    · rfl
  · split <;> rfl
  · rfl

theorem State.fetchRow_sansStored (s : State) (d : LayerDesc) (shown : Option Nat) (row : Nat) :
    (s.fetchRow d shown row).2.sansStored = s.sansStored := by
  have region : ∀ r o n, (if (s.regionAt r).isNone = true then ((none : Option Bytes), s) else
      (if (s.readRegion r o n).1.2 = true then none else some (s.readRegion r o n).1.1, (s.readRegion r o n).2)).2.sansStored =
        s.sansStored := fun r o n => by
    split
    · rfl
    · exact State.sansStored_of_sansWords (s.readRegion_sansWords r o n)
  unfold State.fetchRow
  extract_lets off n fromRegion
  split
  · split
    · exact region _ _ _
    · rfl
  · exact region _ _ _
  · split
    · exact State.sansStored_of_sansScan (s.readStore_sansScan _ _ _)
    · rfl
  · rfl

/-! ### Layers of a head -/

/-- A layer less what it shows. -/
def Layer.sansShown (y : Layer) : Layer := { y with shown := { region := none, seq := 0, state := 0 } }

theorem Layer.fields_of_sansShown {y z : Layer} (h : y.sansShown = z.sansShown) : y.committed = z.committed ∧ y.pend = z.pend ∧
    y.active = z.active ∧ y.lseq = z.lseq ∧ y.epoch = z.epoch ∧ y.cmd = z.cmd :=
  ⟨(congrArg committed h :), (congrArg pend h :), (congrArg active h :), (congrArg lseq h :), (congrArg epoch h :),
    (congrArg cmd h :)⟩

/-- A head less what its layers show. -/
def Head.sansShown (v : Head) : Head := { v with layers := v.layers.map Layer.sansShown }

/-- A state less what drawing changes, and what the layers of a head show. -/
def State.sansShown (s : State) (h : Nat) : State :=
  { s.sansStored with comp := { s.comp with heads := lmod s.comp.heads h Head.sansShown, hostWrites := [] } }

theorem State.sansShown_of_sansStored {s t : State} (hst : t.sansStored = s.sansStored) (h : Nat) : t.sansShown h = s.sansShown h :=
  (congrArg (fun v : State => ({ v with comp := { v.comp with heads := lmod v.comp.heads h Head.sansShown } } : State)) hst :)

theorem lmod_lmod {α : Type} (l : List α) (i : Nat) (f g : α → α) : lmod (lmod l i f) i g = lmod l i (g ∘ f) := by
  induction l generalizing i with
  | nil => rfl
  | cons a l ih =>
    cases i with
    | zero => rfl
    | succ i => exact congrArg (a :: ·) (ih i)

theorem State.modLayer_sansShown (s : State) (h l : Nat) {f : Layer → Layer} (hf : ∀ y, (f y).sansShown = y.sansShown) :
    (s.modLayer h l f).sansShown h = s.sansShown h := by
  have hhead : (Head.sansShown ∘ fun v : Head => { v with layers := lmod v.layers l f }) = Head.sansShown := by
    funext v
    simp only [Function.comp_apply, Head.sansShown, map_lmod_view Layer.sansShown hf]
  have hheads : lmod (s.modLayer h l f).comp.heads h Head.sansShown = lmod s.comp.heads h Head.sansShown :=
    (lmod_lmod s.comp.heads h _ _).trans (by rw [hhead])
  exact congrArg (fun hs : List Head => ({ s.sansStored with comp := { s.comp with heads := hs, hostWrites := [] } } : State)) hheads

/-- Fixing what a layer shows. -/
theorem State.fixLayer_sansShown (s : State) (h l : Nat) (switched kept : Bool) :
    (s.fixLayer h l switched kept).sansShown h = s.sansShown h := by
  have put : ∀ (t : State) (v : Layer → Shown), (t.modLayer h l fun y => { y with shown := v y }).sansShown h = t.sansShown h :=
    fun t v => t.modLayer_sansShown h l fun _ => rfl
  have head : ∀ r, (s.inHead r).2.sansShown h = s.sansShown h := fun r =>
    State.sansShown_of_sansStored (State.sansStored_of_sansWords (s.inHead_sansWords r)) h
  unfold State.fixLayer
  extract_lets y d base putBy late
  split
  · exact put _ _
  · split
    · exact put _ _
    · split
      · exact put _ _
      · split
        · exact put _ _
        · next r _ =>
          extract_lets k
          split
          · exact (put _ _).trans (head r)
          · split
            · exact (put _ _).trans (head r)
            · exact (put _ _).trans (head r)

section
variable {s t : State} {h : Nat} (hmask : t.sansShown h = s.sansShown h)
include hmask

theorem State.sansShown_heads : lmod t.comp.heads h Head.sansShown = lmod s.comp.heads h Head.sansShown :=
  congrArg (·.comp.heads) hmask

theorem State.sansShown_length : t.comp.heads.length = s.comp.heads.length := by
  have := congrArg List.length (State.sansShown_heads hmask)
  rwa [lmod_length, lmod_length] at this

theorem State.sansShown_other {g : Nat} (hg : g ≠ h) : t.head g = s.head g := by
  have := congrArg (·.getD g Head.blank) (State.sansShown_heads hmask)
  rwa [lmod_getD_ne _ _ _ _ _ hg, lmod_getD_ne _ _ _ _ _ hg] at this

theorem State.sansShown_head (hh : h < s.comp.heads.length) : (t.head h).sansShown = (s.head h).sansShown := by
  have hlen := State.sansShown_length hmask
  have := congrArg (·.getD h Head.blank) (State.sansShown_heads hmask)
  rwa [lmod_getD_self _ _ _ _ (by omega), lmod_getD_self _ _ _ _ hh] at this

theorem State.sansShown_layer (hh : h < s.comp.heads.length) (l : Nat) : (t.layer h l).sansShown = (s.layer h l).sansShown := by
  have hlayers : (t.head h).layers.map Layer.sansShown = (s.head h).layers.map Layer.sansShown :=
    congrArg Head.layers (State.sansShown_head hmask hh)
  have := congrArg (·.getD l Layer.blank.sansShown) hlayers
  rw [List.getD_map, List.getD_map] at this
  exact this

end

/-! ### Commits taken at a frame start (15 R382) -/

/-- A layer as its commit is taken. -/
def State.takenLayer (s : State) (y : Layer) : Layer :=
  { y with
    active := y.pend
    committed := false
    cmd := none
    lseq := y.lseq + 1
    epoch := s.ep.epoch
    host := s.ha 8
    shown := if y.active = y.pend then y.shown else { region := none, seq := 0, state := 0 } }

theorem State.takeLayer_eq (s : State) (h l seq : Nat) :
    s.takeLayer h l seq = (s.modLayer h l s.takenLayer).completeOpt (s.layer h l).cmd stOK seq [] := rfl

theorem State.completeOpt_hostOnly (s : State) (o : Option (Nat × Nat)) (st d : Nat) (r : Bytes) :
    HostOnly s (s.completeOpt o st d r) := by
  unfold State.completeOpt
  split
  · exact s.complete_hostOnly _ _ _ _ _
  · rfl

/-- Taking a commit changes its layer and the host interface. -/
theorem State.takeLayer_hostOnly (s : State) (h l seq : Nat) : HostOnly (s.modLayer h l s.takenLayer) (s.takeLayer h l seq) :=
  State.completeOpt_hostOnly _ _ _ _ _

section
variable {h : Nat} (seq : Nat)

/-- The layers taken of a head, one by one. -/
theorem State.takeLayers_parts (L : List Nat) (hnd : L.Nodup) (s : State) (hh : h < s.comp.heads.length)
    (hL : ∀ l ∈ L, l < (s.head h).layers.length) : ∀ t, t = L.foldl (fun s l => s.takeLayer h l seq) s →
      t = { s with comp := { s.comp with heads := t.comp.heads }, host := t.host } ∧ t.comp.heads.length = s.comp.heads.length ∧
      (∀ g, g ≠ h → t.head g = s.head g) ∧ t.head h = { s.head h with layers := (t.head h).layers } ∧
      (t.head h).layers.length = (s.head h).layers.length ∧
      ∀ l, t.layer h l = if l ∈ L then s.takenLayer (s.layer h l) else s.layer h l := by
  induction L generalizing s with
  | nil =>
    rintro t rfl
    exact ⟨rfl, rfl, fun _ _ => rfl, rfl, rfl, fun l => (if_neg List.not_mem_nil).symm⟩
  | cons l L ih =>
    intro t ht
    obtain ⟨hl, hrest⟩ := List.nodup_cons.1 hnd
    have hstep := s.takeLayer_hostOnly h l seq
    have hheads : (s.takeLayer h l seq).comp = (s.modLayer h l s.takenLayer).comp := (congrArg State.comp hstep :)
    have hep : (s.takeLayer h l seq).ep = s.ep := (congrArg State.ep hstep :)
    have hself : (s.takeLayer h l seq).head h = { s.head h with layers := lmod (s.head h).layers l s.takenLayer } := by
      rw [State.head, hheads]
      exact s.modHead_self _ hh
    have hother : ∀ g, g ≠ h → (s.takeLayer h l seq).head g = s.head g := fun g hg => by
      rw [State.head, hheads]
      exact s.modHead_ne _ hg
    have hlayer : ∀ k, (s.takeLayer h l seq).layer h k = (s.modLayer h l s.takenLayer).layer h k := fun k => by
      rw [State.layer, State.head, hheads]
      rfl
    have hlen : (s.takeLayer h l seq).comp.heads.length = s.comp.heads.length := by
      rw [hheads]
      exact lmod_length _ _ _
    have hsame : (s.takeLayer h l seq).takenLayer = s.takenLayer := by
      funext y
      simp only [State.takenLayer, State.ha, hep]
    obtain ⟨heq, hlen', hother', hself', hlayers, hpick⟩ := ih hrest (s.takeLayer h l seq) (hlen ▸ hh)
      (fun k hk => by rw [hself]; simpa [lmod_length] using hL k (List.mem_cons_of_mem _ hk)) t ht
    refine ⟨?_, hlen'.trans hlen, fun g hg => (hother' g hg).trans (hother g hg), ?_, ?_, fun k => ?_⟩
    · rw [hstep] at heq
      exact heq
    · rw [hself] at hself'
      exact hself'
    · rw [hlayers, hself]
      exact lmod_length _ _ _
    · rw [hpick, hsame, hlayer]
      by_cases hk : k ∈ L
      · have hkl : k ≠ l := fun e => hl (e ▸ hk)
        rw [if_pos hk, if_pos (List.mem_cons_of_mem _ hk), s.modLayer_ne _ (.inr hkl)]
      · rw [if_neg hk]
        by_cases hkl : k = l
        · subst hkl
          rw [if_pos List.mem_cons_self, s.modLayer_self _ hh (hL k List.mem_cons_self)]
        · rw [if_neg (by simp [hkl, hk]), s.modLayer_ne _ (.inr hkl)]

/-- A command has been completed OK with a frame's number. -/
def State.Framed (s : State) (c : Cmd) (seq : Nat) : Prop :=
  ∃ e ∈ s.host.completions, e.tag = c.tag ∧ e.qp = c.qp ∧ e.status = 0 ∧ e.detail = seq % 2 ^ 32

/-- A command waits, or has been completed with a frame's number, and completion entries can be written. -/
def State.FramedOrHeld (s : State) (c : Cmd) (seq : Nat) : Prop :=
  s.host.cqOk = true ∧ (Held s.host c.qp c.tag 0x0802 (.waiting 0 0) c ∨ s.Framed c seq)

theorem State.Framed.completeOpt {s : State} {c : Cmd} (hcq : s.host.cqOk = true) (hf : s.Framed c seq) (o : Option (Nat × Nat)) :
    (s.completeOpt o stOK seq []).Framed c seq := by
  obtain ⟨e, he, hrest⟩ := hf
  unfold State.completeOpt
  split
  · exact ⟨e, (State.complete_grows hcq _ _ _ _ _).2 he, hrest⟩
  · exact ⟨e, he, hrest⟩

theorem State.FramedOrHeld.completeOpt {s : State} {c : Cmd} (hs : s.FramedOrHeld c seq) (o : Option (Nat × Nat)) :
    (s.completeOpt o stOK seq []).FramedOrHeld c seq ∧
      (o = some (c.qp, c.tag) → (s.completeOpt o stOK seq []).Framed c seq) := by
  obtain ⟨hcq, hheld | hframed⟩ := hs
  · cases o with
    | none => exact ⟨⟨hcq, .inl hheld⟩, fun h => by simp at h⟩
    | some k =>
      obtain ⟨q, t⟩ := k
      by_cases hname : c.qp = q ∧ c.tag = t
      · obtain ⟨rfl, rfl⟩ := hname
        obtain ⟨-, e, hcomp, htag, hqp, hst, hd, -⟩ := State.complete_answers hheld stOK seq []
        have hframed : (s.complete c.qp c.tag stOK seq []).Framed c seq := ⟨e, by rw [hcomp]; simp, htag, hqp, hst, hd⟩
        exact ⟨⟨(State.complete_grows hcq _ _ _ _ _).1, .inr hframed⟩, fun _ => hframed⟩
      · refine ⟨⟨(State.complete_grows hcq _ _ _ _ _).1, .inl (State.held_completeOther hheld hname _ _ _)⟩, fun h => ?_⟩
        simp only [Option.some.injEq, Prod.mk.injEq] at h
        exact absurd ⟨h.1.symm, h.2.symm⟩ hname
  · have hdone := State.Framed.completeOpt seq hcq hframed o
    refine ⟨⟨?_, .inr hdone⟩, fun _ => hdone⟩
    unfold State.completeOpt
    split
    · exact (State.complete_grows hcq _ _ _ _ _).1
    · exact hcq

/-- A command that a layer taken names is completed with the frame's number. -/
theorem State.takeLayers_framed (L : List Nat) (s : State) (c : Cmd) (hs : s.FramedOrHeld c seq)
    (hL : s.Framed c seq ∨ ∃ l ∈ L, (s.layer h l).cmd = some (c.qp, c.tag)) :
    (L.foldl (fun s l => s.takeLayer h l seq) s).Framed c seq := by
  induction L generalizing s with
  | nil => exact hL.resolve_right (by simp)
  | cons l L ih =>
    have hmod : (s.modLayer h l s.takenLayer).FramedOrHeld c seq := hs
    obtain ⟨hnext, hdone⟩ := hmod.completeOpt seq (s.layer h l).cmd
    refine ih (s.takeLayer h l seq) hnext ?_
    rcases hL with hf | ⟨k, hk, hcmd⟩
    · exact .inl (State.Framed.completeOpt seq hs.1 (s := s.modLayer h l s.takenLayer) hf _)
    · by_cases hkl : k = l
      · subst hkl
        exact .inl (hdone hcmd)
      · refine .inr ⟨k, (List.mem_cons.1 hk).resolve_left hkl, ?_⟩
        have hcomp : (s.takeLayer h l seq).comp = (s.modLayer h l s.takenLayer).comp :=
          (congrArg State.comp (s.takeLayer_hostOnly h l seq) :)
        have hlayer : (s.takeLayer h l seq).layer h k = (s.modLayer h l s.takenLayer).layer h k := by
          rw [State.layer, State.head, hcomp]
          rfl
        rw [hlayer, s.modLayer_ne _ (.inr hkl), hcmd]

end

/-! ### The frame's header (15 Table 15-4) -/

theorem State.frameHeader_fields (s : State) (h : Nat) (b : Bytes) :
    fieldN (s.frameHeader h b) 0 4 = (s.head h).frameSeq % 2 ^ 32 ∧ fieldN (s.frameHeader h b) 4 1 = h % 256 ∧
      (fieldN (s.frameHeader h b) 5 1).testBit 0 = false := by
  have hflags : ∀ p q r : Bool, ((4 * b2n p + 8 * b2n q + 16 * b2n r) % 256).testBit 0 = false := by decide
  simp only [State.frameHeader, List.append_assoc]
  refine ⟨fieldN_toLE [] _ 4 _, fieldN_toLE_behind (toLE_length _ _) 1 _, ?_⟩
  rw [← List.append_assoc, fieldN_toLE_behind (by simp [toLE_length])]
  exact hflags _ _ _

/-! ### FRAME_START -/

/-- The layers of a head with a commit to take. -/
def State.committedLayers (s : State) (h : Nat) : List Nat := (List.range 16).filter fun l => (s.layer h l).committed

theorem State.mem_committedLayers {s : State} {h l : Nat} (hl : l < 16) :
    l ∈ s.committedLayers h ↔ (s.layer h l).committed = true := by
  simp [State.committedLayers, hl]

/-- The state with every committed layer of a head taken. -/
def State.tookLayers (s : State) (h : Nat) : State :=
  (s.committedLayers h).foldl (fun t l => t.takeLayer h l (s.head h).frameSeq) s

/-- The state with what the layers show fixed for the frame. -/
def State.fixedLayers (s : State) (h : Nat) : State :=
  (List.range 16).foldl (fun t l => t.fixLayer h l ((s.committedLayers h).contains l)
    ((s.tookLayers h).ha 8 && (s.committedLayers h).isEmpty)) (s.tookLayers h)

/-- The state with the frame's header written back. -/
def State.headed (s : State) (h : Nat) (b : Bytes) : State :=
  ((s.fixedLayers h).wbWrite b (s.head h).frameSeq 0 ((s.fixedLayers h).frameHeader h b)).2

/-- The frame that runs from a frame start. -/
def State.frameOf (s : State) (h : Nat) (b : Bytes) : FrameRun :=
  { seq := (s.head h).frameSeq, header := (s.fixedLayers h).frameHeader h b, placement := (s.headed h b).ep.placement }

/-- The state with the frame running. -/
def State.framed (s : State) (h : Nat) (b : Bytes) : State :=
  (s.headed h b).modHead h fun v => { v with frame := some (s.frameOf h b), switched := false }

section
variable {s u : State} {x : At} (hu : s.enter x = u) {h : Nat}
include hu

theorem frameStart_idle (hno : u.headRec h = none ∨ u.headRuns h = false ∨ (u.head h).frame ≠ none) :
    exec (.frameStart x h) s = .next u := by
  subst hu
  have row : exec (.frameStart x h) s = execFrameStart x h s := rfl
  rw [row, execFrameStart]
  dsimp only
  split
  · rfl
  · next b hb =>
    rw [if_pos]
    rcases hno with hno | hno | hno
    · rw [hno] at hb
      simp at hb
    · simp [hno]
    · simp [Option.isSome_iff_ne_none.2 hno]

theorem frameStart_runs {b : Bytes} (hb : u.headRec h = some b) (hr : u.headRuns h = true) (hf : (u.head h).frame = none) :
    exec (.frameStart x h) s = .next (u.framed h b).retireDue := by
  subst hu
  have row : exec (.frameStart x h) s = execFrameStart x h s := rfl
  rw [row, execFrameStart]
  dsimp only
  rw [hb]
  exact congrArg Host.Outcome.next (if_neg (by simp [hr, hf]))

end

theorem State.fixedLayers_sansShown (s : State) (h : Nat) : (s.fixedLayers h).sansShown h = (s.tookLayers h).sansShown h :=
  foldl_keeps (State.sansShown · h) _ (fun _ _ => State.fixLayer_sansShown _ _ _ _ _) _ _

theorem State.headed_sansShown (s : State) (h : Nat) (b : Bytes) : (s.headed h b).sansShown h = (s.tookLayers h).sansShown h :=
  (State.sansShown_of_sansStored (State.wbWrite_sansStored _ _ _ _ _) h).trans (s.fixedLayers_sansShown h)

/-! ### A row of a frame (15 R386 to R388) -/

theorem State.drawRow_parts (s : State) (h l y : Nat) (below : List Px) : (s.drawRow h l y below).2.sansStored = s.sansStored ∧
    (s.drawRow h l y below).1.1.length = below.length := by
  unfold State.drawRow
  extract_lets v d oy p y0 a b
  split
  · exact ⟨rfl, rfl⟩
  · have ha : a.2.sansStored = s.sansStored := s.fetchRow_sansStored _ _ _
    have hb : b.2.sansStored = s.sansStored := by
      unfold b
      split
      · exact (State.fetchRow_sansStored _ _ _ _).trans ha
      · exact ha
    split
    · exact ⟨hb, by simp⟩
    · exact ⟨hb, rfl⟩

/-- The layers of a head that are seen. -/
def State.seenLayers (s : State) (h : Nat) : List Nat :=
  (List.range 16).filter fun l => (parseLayer (s.layer h l).active).visible

/-- A row of the background. -/
def backRow (b : Bytes) : List Px := List.replicate (fieldN b 2 2) (pxOf (fieldN b 24 4 % 16777216))

/-- A pixel as it is sent. -/
def pxBytes (p : Px) : Bytes := toLE 4 (65536 * p.r + 256 * p.g + p.b)

theorem pxBytes_pxOf {v : Nat} (hv : v < 16777216) : fieldN (pxBytes (pxOf v)) 0 4 = v := by
  have hsum : 65536 * (pxOf v).r + 256 * (pxOf v).g + (pxOf v).b = v := by
    simp only [pxOf, bitsOf]
    omega
  have hfield := fieldN_toLE [] [] 4 v
  rw [List.append_nil] at hfield
  rw [pxBytes, hsum]
  exact hfield.trans (Nat.mod_eq_of_lt (hv.trans (by decide)))

section
variable (s : State) (h : Nat) (b : Bytes) (seq : Nat) (spoiled : Bool) (acc : Sending) (y : Nat)

/-- A row sent: as many pixels as the mode has columns, behind those sent before; the background where no layer is seen. -/
theorem State.sendRow_parts : (s.sendRow h b seq spoiled acc y).2.sansStored = s.sansStored ∧
    ∃ row : List Px, (s.sendRow h b seq spoiled acc y).1.pixels = acc.pixels ++ catB (row.map pxBytes) ∧
      row.length = fieldN b 2 2 ∧ (s.seenLayers h = [] → row = backRow b) := by
  unfold State.sendRow
  extract_lets w back seen r bytes k
  have hr : r.2.sansStored = s.sansStored ∧ r.1.1.length = fieldN b 2 2 ∧ (s.seenLayers h = [] → r.1.1 = backRow b) := by
    unfold r
    split
    · exact ⟨rfl, List.length_replicate, fun _ => rfl⟩
    · refine ⟨?_, ?_, fun hnone => ?_⟩
      · refine List.foldlRecOn (motive := fun p : (List Px × List Nat) × State => p.2.sansStored = s.sansStored) _ _ rfl
          fun p hp l _ => ?_
        exact (p.2.drawRow_parts h l y p.1.1).1.trans hp
      · refine List.foldlRecOn (motive := fun p : (List Px × List Nat) × State => p.1.1.length = fieldN b 2 2) _ _
          List.length_replicate fun p hp l _ => ?_
        exact (p.2.drawRow_parts h l y p.1.1).2.trans hp
      · have hseen : seen = [] := hnone
        rw [hseen]
        rfl
  obtain ⟨hst, hlen, hback⟩ := hr
  exact ⟨(State.wbWrite_sansStored _ _ _ _ _).trans hst, r.1.1, rfl, hlen, hback⟩

end

/-! ### FRAME_END -/

/-- The rows of a frame sent, one by one. -/
def State.sentRows (s : State) (h : Nat) (b : Bytes) (f : FrameRun) (faults : FrameFaults) (n : Nat) : Sending × State :=
  (List.range n).foldl (fun (p : Sending × State) y => p.2.sendRow h b f.seq (faults.rows.contains y) p.1 y)
    ({ pixels := [], missing := [], whole := true }, s)

theorem State.sentRows_parts (s : State) (h : Nat) (b : Bytes) (f : FrameRun) (faults : FrameFaults) (n : Nat) :
    (s.sentRows h b f faults n).2.sansStored = s.sansStored ∧
    ∃ px : List Px, (s.sentRows h b f faults n).1.pixels = catB (px.map pxBytes) ∧ px.length = fieldN b 2 2 * n ∧
      (s.seenLayers h = [] → px = List.replicate (fieldN b 2 2 * n) (pxOf (fieldN b 24 4 % 16777216))) := by
  induction n with
  | zero => exact ⟨rfl, [], rfl, rfl, fun _ => rfl⟩
  | succ n ih =>
    obtain ⟨hst, px, hpx, hlen, hback⟩ := ih
    have hstep : s.sentRows h b f faults (n + 1) = (s.sentRows h b f faults n).2.sendRow h b f.seq (faults.rows.contains n)
        (s.sentRows h b f faults n).1 n := by
      simp only [State.sentRows, List.range_succ, List.foldl_append, List.foldl_cons, List.foldl_nil]
    obtain ⟨hst', row, hrow, hlen', hback'⟩ := (s.sentRows h b f faults n).2.sendRow_parts h b f.seq (faults.rows.contains n)
      (s.sentRows h b f faults n).1 n
    have hseen : (s.sentRows h b f faults n).2.seenLayers h = s.seenLayers h := (congrArg (State.seenLayers · h) hst :)
    rw [hstep]
    refine ⟨hst'.trans hst, px ++ row, ?_, by rw [List.length_append, hlen, hlen', Nat.mul_succ], fun hnone => ?_⟩
    · rw [hrow, hpx, List.map_append, catB, catB, catB, List.flatten_append]
    · rw [hback hnone, hback' (hseen.trans hnone), backRow, Nat.mul_succ, List.replicate_append_replicate]

/-- The state with the last row sent and the header marked valid. -/
def State.sentFrame (s : State) (h : Nat) (b : Bytes) (f : FrameRun) (faults : FrameFaults) : State :=
  let k := s.sentRows h b f faults (fieldN b 4 2)
  (k.2.wbWrite b f.seq 0 (finalHeader f.header k.1)).2.modHead h fun v => { v with
    frame := none
    frameSeq := (f.seq + 1) % 4294967296
    sent := if v.link.isSome then k.1.pixels else v.sent }

section
variable {s u : State} {x : At} (hu : s.enter x = u) {h : Nat} (faults : FrameFaults)
include hu

theorem frameEnd_idle (hno : (u.head h).frame = none ∨ u.headRec h = none ∨ u.headRuns h = false) :
    exec (.frameEnd x h faults) s = .next u := by
  subst hu
  have row : exec (.frameEnd x h faults) s = execFrameEnd x h faults s := rfl
  rw [row, execFrameEnd]
  dsimp only
  split
  · next f b hf hb =>
    rw [if_pos]
    rcases hno with hno | hno | hno
    · rw [hno] at hf
      simp at hf
    · rw [hno] at hb
      simp at hb
    · simp [hno]
  · rfl

theorem frameEnd_sends {b : Bytes} {f : FrameRun} (hb : u.headRec h = some b) (hr : u.headRuns h = true)
    (hf : (u.head h).frame = some f) : exec (.frameEnd x h faults) s = .next (u.sentFrame h b f faults).retireDue := by
  subst hu
  have row : exec (.frameEnd x h faults) s = execFrameEnd x h faults s := rfl
  rw [row, execFrameEnd]
  dsimp only
  rw [hb, hf]
  exact congrArg Host.Outcome.next (if_neg (by simp [hr]))

end

end Sys2Proof.Machine

open Sys2Proof Sys2Proof.Machine

/-- Settles O50: a frame start is `State.takeLayers_parts` and what fixing leaves alone, a frame end `State.sentRows_parts`. -/
theorem framesTakeCommitsAndAreSent : Obligations.FramesTakeCommitsAndAreSent := by
  unfold Obligations.FramesTakeCommitsAndAreSent
  refine ⟨fun s u x h hu => ⟨frameStart_idle hu.symm, fun b hb hr hf hh hlayers => ?_⟩, fun s u x h faults hu =>
    ⟨frameEnd_idle hu.symm faults, fun b f hb hr hf hh => ?_⟩⟩
  · obtain ⟨heq, hlen, hother, hself, -, hpick⟩ := State.takeLayers_parts (u.head h).frameSeq (u.committedLayers h)
      ((List.nodup_range).filter _) u hh (fun l hl => by
        have := List.mem_range.1 (List.mem_filter.1 hl).1
        omega) _ rfl
    rw [← State.tookLayers] at heq hlen hother hself hpick
    have hfix := u.fixedLayers_sansShown h
    have hhead := u.headed_sansShown h b
    have hlenh : (u.headed h b).comp.heads.length = u.comp.heads.length := (State.sansShown_length hhead).trans hlen
    have hep : (u.headed h b).ep = u.ep := (congrArg State.ep hhead :).trans (congrArg State.ep heq :)
    have hfseq : ((u.fixedLayers h).head h).frameSeq = (u.head h).frameSeq :=
      (congrArg Head.frameSeq (State.sansShown_head hfix (hlen ▸ hh)) :).trans (congrArg Head.frameSeq hself :)
    have hhseq : ((u.headed h b).head h).frameSeq = (u.head h).frameSeq :=
      (congrArg Head.frameSeq (State.sansShown_head hhead (hlen ▸ hh)) :).trans (congrArg Head.frameSeq hself :)
    have hv : (u.framed h b).head h = { (u.headed h b).head h with frame := some (u.frameOf h b), switched := false } :=
      State.modHead_self _ _ (hlenh ▸ hh)
    obtain ⟨hseq, hid, hvalid⟩ := (u.fixedLayers h).frameHeader_fields h b
    have hlayer : ∀ l, ((u.framed h b).layer h l).sansShown = ((u.tookLayers h).layer h l).sansShown := fun l => by
      have hsame : (u.framed h b).layer h l = (u.headed h b).layer h l := by
        rw [State.layer, hv]
        rfl
      rw [hsame]
      exact State.sansShown_layer hhead (hlen ▸ hh) l
    refine ⟨u.framed h b, u.frameOf h b, frameStart_runs hu.symm hb hr hf, by rw [hv], rfl, by rw [hv]; exact hhseq,
      congrArg EpochSt.placement hep, hseq.trans (by rw [hfseq]; rfl), hid, hvalid, fun l hl => ?_, fun l c hl hcom hcmd hheld => ?_,
      fun g hg => ?_⟩
    · have hl' := hlayer l
      rw [hpick] at hl'
      have hmem := State.mem_committedLayers (s := u) (h := h) hl
      by_cases hcom : (u.layer h l).committed = true
      · rw [if_pos (hmem.2 hcom)] at hl'
        obtain ⟨hc, hp, ha, hs, he, hcmd⟩ := Layer.fields_of_sansShown hl'
        exact ⟨hc, hp, fun _ => ⟨ha, hs, he, hcmd⟩, fun hn => by simp [hcom] at hn⟩
      · rw [if_neg (mt hmem.1 hcom)] at hl'
        obtain ⟨hc, hp, ha, hs, he, -⟩ := Layer.fields_of_sansShown hl'
        exact ⟨hc.trans (Bool.eq_false_iff.2 hcom), hp, fun hn => absurd hn hcom, fun _ => ⟨ha, hs, he⟩⟩
    · have hframed := State.takeLayers_framed (u.head h).frameSeq (h := h) (u.committedLayers h) u c ⟨hheld.2.2.2.2.2.1, .inl hheld⟩
        (.inr ⟨l, (State.mem_committedLayers hl).2 hcom, hcmd⟩)
      have hhost : (u.framed h b).host = (u.tookLayers h).host := (congrArg State.host hhead :)
      rw [hhost]
      exact hframed
    · exact (State.modHead_ne _ _ hg).trans ((State.sansShown_other hhead hg).trans (hother g hg))
  · obtain ⟨hst, px, hpx, hlen, hback⟩ := u.sentRows_parts h b f faults (fieldN b 4 2)
    have hkept := (State.wbWrite_sansStored (u.sentRows h b f faults (fieldN b 4 2)).2 b f.seq 0
      (finalHeader f.header (u.sentRows h b f faults (fieldN b 4 2)).1)).trans hst
    have hheads : ((u.sentRows h b f faults (fieldN b 4 2)).2.wbWrite b f.seq 0
        (finalHeader f.header (u.sentRows h b f faults (fieldN b 4 2)).1)).2.comp.heads = u.comp.heads :=
      (congrArg (·.comp.heads) hkept :)
    have hv : (u.sentFrame h b f faults).head h = { u.head h with
        frame := none
        frameSeq := (f.seq + 1) % 4294967296
        sent := if (u.head h).link.isSome then (u.sentRows h b f faults (fieldN b 4 2)).1.pixels else (u.head h).sent } := by
      refine (State.modHead_self _ _ ?_).trans ?_
      · exact (congrArg List.length hheads).symm ▸ hh
      · rw [State.head, hheads]
        rfl
    refine ⟨_, frameEnd_sends hu.symm faults hb hr hf, by rw [hv], by rw [hv], by rw [hv], fun g hg => ?_, fun hlink => ?_,
      fun hlink => ?_⟩
    · refine (State.modHead_ne _ _ hg).trans ?_
      rw [State.head, hheads]
      rfl
    · rw [hv]
      simp [hlink]
    · have hsent : ((u.sentFrame h b f faults).head h).sent = catB (px.map pxBytes) := by
        rw [hv, ← hpx]
        exact if_pos (Option.isSome_iff_ne_none.2 hlink)
      have hfour : ∀ a ∈ px.map pxBytes, a.length = 4 := List.forall_mem_map.2 fun p _ => toLE_length 4 _
      rw [hsent]
      refine ⟨by rw [catB_length hfour, List.length_map, hlen], fun hdark k hk => ?_⟩
      have hnone : u.seenLayers h = [] := List.filter_eq_nil_iff.2 fun l hl => by simp [hdark l (List.mem_range.1 hl)]
      have hpix : (px.map pxBytes)[k]? = some (pxBytes (pxOf (fieldN b 24 4 % 16777216))) := by
        rw [hback hnone, List.map_replicate, List.getElem?_replicate_of_lt hk]
      exact (fieldN_catB hfour hpix (off := 0) (len := 4) (by decide)).trans (pxBytes_pxOf (Nat.mod_lt _ (by decide)))
end

section
/-! PROOF. The route service's operations (14 R356, R358, R373; 16 R417, R418): what each leaves alone, and the route it makes. -/

namespace Sys2Proof.Machine

open Sys2Proof

/-! ### What is left alone -/

/-- A state less its routes, their events, agent frames and answers. -/
def State.sansEvents (s : State) : State :=
  { s with route := { s.route with routes := [], events := [], eventsLost := 0 }, agent := AgentSt.reset, due := [], host := HostSt.reset }

theorem State.sansEvents_of_sansFrames {s t : State} (h : t.sansFrames = s.sansFrames) : t.sansEvents = s.sansEvents :=
  (congrArg State.sansEvents h :)

@[simp] theorem State.setRoute_sansEvents (s : State) (a : Nat) (v : Route) : (s.setRoute a v).sansEvents = s.sansEvents := rfl

@[simp] theorem State.complete_sansEvents (s : State) (q t st d : Nat) (r : Bytes) :
    (s.complete q t st d r).sansEvents = s.sansEvents := by
  simp [State.sansEvents]

theorem State.sendHold_sansFrames (s : State) (a : Nat) (b : Bool) :
    (s.sendHold a b).sansFrames = (s.setRoute a { s.routeOf a with holdDue := some b }).sansFrames :=
  State.sendSeg_sansFrames _ _ _

@[simp] theorem State.sendHold_sansEvents (s : State) (a : Nat) (b : Bool) : (s.sendHold a b).sansEvents = s.sansEvents :=
  (State.sansEvents_of_sansFrames (s.sendHold_sansFrames a b)).trans (s.setRoute_sansEvents a _)

@[simp] theorem State.readEvents_sansEvents (s : State) (c : Cmd) : (s.readEvents c).sansEvents = s.sansEvents :=
  State.complete_sansEvents _ _ _ _ _ _

@[simp] theorem State.routeEvent_sansEvents (s : State) (a v c : Nat) : (s.routeEvent a v c).sansEvents = s.sansEvents := by
  unfold State.routeEvent
  dsimp only
  split
  · rfl
  · split
    · rw [State.readEvents_sansEvents]
      rfl
    · rfl

@[simp] theorem State.holdAgent_sansEvents (s : State) (a : Nat) (b e : Bool) (v c : Nat) :
    (s.holdAgent a b e v c).sansEvents = s.sansEvents :=
  (State.routeEvent_sansEvents _ _ _ _).trans (s.sendHold_sansEvents a b)

@[simp] theorem State.sendRoute_sansFrames (s : State) (a k : Nat) : (s.sendRoute a k).sansFrames = s.sansFrames := by
  unfold State.sendRoute
  split
  · rfl
  · exact foldl_keeps State.sansFrames _ (fun t p => t.sendSeg_sansFrames a p) _ _

@[simp] theorem State.dropOldSegs_sansFrames (s : State) (a : Nat) : (s.dropOldSegs a).sansFrames = s.sansFrames := by
  unfold State.dropOldSegs
  split <;> rfl

/-! ### The routes -/

theorem State.routeOf_congr {s t : State} (h : t.route.routes = s.route.routes) (a : Nat) : t.routeOf a = s.routeOf a :=
  congrArg (tgetD · a Route.none) h

@[simp] theorem State.routeOf_setRoute_self (s : State) (a : Nat) (v : Route) : (s.setRoute a v).routeOf a = v :=
  tgetD_tset_self _ _ _ _

theorem State.routeOf_setRoute_ne (s : State) {a b : Nat} (v : Route) (h : b ≠ a) : (s.setRoute a v).routeOf b = s.routeOf b :=
  tgetD_tset_ne _ _ _ h

theorem State.routeOf_of_sansFrames {s t : State} (h : t.sansFrames = s.sansFrames) (a : Nat) : t.routeOf a = s.routeOf a :=
  State.routeOf_congr (congrArg (·.route.routes) h :) a

@[simp] theorem State.readEvents_routes (s : State) (c : Cmd) : (s.readEvents c).route.routes = s.route.routes := by
  unfold State.readEvents
  dsimp only
  rw [State.complete_route]

@[simp] theorem State.routeEvent_routes (s : State) (a v c : Nat) : (s.routeEvent a v c).route.routes = s.route.routes := by
  unfold State.routeEvent
  dsimp only
  split
  · rfl
  · split
    · rw [State.readEvents_routes]
    · rfl

section
variable (s : State) (a : Nat) (current ended : Bool) (ev cause : Nat)

/-- An agent held is in HOLD, with a hold segment due. -/
theorem State.holdAgent_self : (s.holdAgent a current ended ev cause).routeOf a = { s.routeOf a with
    st := .hold, heldCurrent := current, holdDue := some current, hostWait := none, waitOver := ended } := by
  have hsent : (s.sendHold a current).routeOf a = { s.routeOf a with holdDue := some current } :=
    (State.routeOf_of_sansFrames (s.sendHold_sansFrames a current) a).trans (State.routeOf_setRoute_self _ _ _)
  rw [State.holdAgent, State.routeOf_congr (State.routeEvent_routes _ _ _ _), State.routeOf_setRoute_self, hsent]

theorem State.holdAgent_ne {b : Nat} (h : b ≠ a) : (s.holdAgent a current ended ev cause).routeOf b = s.routeOf b := by
  rw [State.holdAgent, State.routeOf_congr (State.routeEvent_routes _ _ _ _), State.routeOf_setRoute_ne _ _ h,
    State.routeOf_of_sansFrames (s.sendHold_sansFrames a current), State.routeOf_setRoute_ne _ _ h]

end

section
variable (s : State) (a : Nat) (edges : List Nat) (goal cur : Nat) (host : Bool) (cause : Nat)

/-- The route issued: the next version, 0 left out (14 R358). -/
def State.nextRoute : Route :=
  { s.routeOf a with
    st := .active
    version := if ((s.routeOf a).version + 1) % 4294967296 = 0 then 1 else ((s.routeOf a).version + 1) % 4294967296
    goal := goal
    current := min cur (edges.length - 1)
    edges := edges
    issued := s.lkt s.time.active
    fromHost := host
    heldCurrent := false
    segsOk := 0
    holdDue := none
    hostWait := none
    waitOver := false }

/-- The state with the route set and its segments sent, before the event. -/
theorem State.issueRoute_eq : s.issueRoute a edges goal cur host cause =
    (((s.setRoute a (s.nextRoute a edges goal cur host)).dropOldSegs a).sendRoute a 0).routeEvent a 0 cause := rfl

theorem State.issued_sansFrames (v : Route) : (((s.setRoute a v).dropOldSegs a).sendRoute a 0).sansFrames = (s.setRoute a v).sansFrames :=
  (State.sendRoute_sansFrames _ _ _).trans (State.dropOldSegs_sansFrames _ _)

@[simp] theorem State.issueRoute_sansEvents : (s.issueRoute a edges goal cur host cause).sansEvents = s.sansEvents := by
  rw [State.issueRoute_eq, State.routeEvent_sansEvents, State.sansEvents_of_sansFrames (State.issued_sansFrames _ _ _),
    State.setRoute_sansEvents]

theorem State.issueRoute_self : (s.issueRoute a edges goal cur host cause).routeOf a = s.nextRoute a edges goal cur host := by
  rw [State.issueRoute_eq, State.routeOf_congr (State.routeEvent_routes _ _ _ _),
    State.routeOf_of_sansFrames (State.issued_sansFrames _ _ _), State.routeOf_setRoute_self]

theorem State.issueRoute_ne {b : Nat} (h : b ≠ a) : (s.issueRoute a edges goal cur host cause).routeOf b = s.routeOf b := by
  rw [State.issueRoute_eq, State.routeOf_congr (State.routeEvent_routes _ _ _ _),
    State.routeOf_of_sansFrames (State.issued_sansFrames _ _ _), State.routeOf_setRoute_ne _ _ h]

theorem State.issueRoute_host (h : s.NoEventRead) : (s.issueRoute a edges goal cur host cause).host = s.host := by
  have hsent : (((s.setRoute a (s.nextRoute a edges goal cur host)).dropOldSegs a).sendRoute a 0).host = s.host :=
    (congrArg State.host (State.issued_sansFrames s a (s.nextRoute a edges goal cur host)) :)
  rw [State.issueRoute_eq, State.routeEvent_host (fun k hk => h k (hsent ▸ hk)), hsent]

end

/-! ### The end of a route -/

/-- Work dropped for an agent: the goals asked for stay. -/
def keepsJob (a : Nat) (j : RouteJob) : Bool :=
  j.agent != a || (match j.what with
    | .goal _ _ _ _ => true
    | _ => false)

theorem State.dropJobs_eq (s : State) (a : Nat) :
    s.dropJobs a = { s with route := { s.route with jobs := s.route.jobs.filter (keepsJob a) } } := rfl

theorem keepsJob_goal {a : Nat} {j : RouteJob} (h : keepsJob a j = true) (ha : j.agent = a) : ∃ g f q k, j.what = .goal g f q k := by
  unfold keepsJob at h
  cases hw : j.what <;> simp_all

/-- The route that has ended. -/
def endedRoute (v : Route) : Route :=
  { v with st := .idle, heldCurrent := false, holdDue := none, hostWait := none, waitOver := false }

theorem State.endRoute_eq (s : State) (a ev : Nat) :
    s.endRoute a ev = ((s.dropJobs a).setRoute a (endedRoute (s.routeOf a))).routeEvent a ev noId := rfl

section
variable (s : State) (a ev : Nat)

theorem State.endRoute_self : (s.endRoute a ev).routeOf a = endedRoute (s.routeOf a) := by
  rw [State.endRoute_eq, State.routeOf_congr (State.routeEvent_routes _ _ _ _), State.routeOf_setRoute_self]

theorem State.endRoute_ne {b : Nat} (h : b ≠ a) : (s.endRoute a ev).routeOf b = s.routeOf b := by
  rw [State.endRoute_eq, State.routeOf_congr (State.routeEvent_routes _ _ _ _), State.routeOf_setRoute_ne _ _ h]
  rfl

theorem State.endRoute_sansEvents : (s.endRoute a ev).sansEvents = (s.dropJobs a).sansEvents :=
  State.routeEvent_sansEvents _ _ _ _

theorem State.endRoute_jobs : (s.endRoute a ev).route.jobs = s.route.jobs.filter (keepsJob a) :=
  (congrArg (·.route.jobs) (s.endRoute_sansEvents a ev) :)

theorem State.endRoute_host (h : s.NoEventRead) : (s.endRoute a ev).host = s.host :=
  State.routeEvent_host (s := (s.dropJobs a).setRoute a (endedRoute (s.routeOf a))) h a ev noId

end

/-! ### Route events (14 Table 14-9) -/

/-- With no read waiting and room in the buffer, the event is its last record. -/
theorem State.routeEvent_events {s : State} (h : s.NoEventRead) (hroom : s.route.events.length < 4096) (a ev cause : Nat) :
    ∃ b, (s.routeEvent a ev cause).route.events = s.route.events ++ [b] ∧ fieldN b 0 2 = a % 65536 ∧ fieldN b 2 1 = ev % 256 ∧
      fieldN b 8 4 = cause % 4294967296 := by
  refine ⟨toLE 2 a ++ toLE 1 ev ++ [0] ++ toLE 4 (s.routeOf a).version ++ toLE 4 cause ++ toLE 4 0 ++ s.lkt s.time.active, ?_, ?_, ?_, ?_⟩
  · unfold State.routeEvent
    dsimp only
    rw [if_neg (by omega)]
    split
    · next k hk =>
      obtain ⟨q, -, hq⟩ := Option.bind_eq_some_iff.mp hk
      exact absurd (hq.symm.trans (State.waitingRead_none h (by rfl) q)) (by simp)
    · rfl
  · simp only [List.append_assoc]
    exact fieldN_toLE [] _ 2 a
  · simp only [List.append_assoc]
    exact fieldN_toLE_behind (toLE_length 2 a) 1 ev
  · rw [List.append_assoc, List.append_assoc]
    exact fieldN_toLE_behind (by simp [toLE_length]) 4 cause

end Sys2Proof.Machine
end

section
/-! PROOF. Blocked-edge records meet the routes; records, events and routes are read, a route cancelled (14 R356, R360, R373,
R376). -/

namespace Sys2Proof.Machine

open Sys2Proof

/-! ### The first in an order of two keys -/

/-- The element of the least first key, of those the one of the least second key. -/
def least {α : Type} (k₁ k₂ : α → Nat) (l : List α) : Option α :=
  l.foldl (fun b r => match b with
    | none => some r
    | some q => if k₁ r < k₁ q ∨ (k₁ r = k₁ q ∧ k₂ r < k₂ q) then some r else some q) none

/-- In the order of the two keys, `r` comes no later than `q`. -/
def NoLater {α : Type} (k₁ k₂ : α → Nat) (r q : α) : Prop := k₁ r < k₁ q ∨ (k₁ r = k₁ q ∧ k₂ r ≤ k₂ q)

theorem least_spec {α : Type} {k₁ k₂ : α → Nat} {l : List α} {r : α} (h : least k₁ k₂ l = some r) :
    r ∈ l ∧ ∀ q ∈ l, NoLater k₁ k₂ r q := by
  have hfold : ∀ (l : List α) (q : α), ∃ m, l.foldl (fun b r => match b with
      | none => some r
      | some q => if k₁ r < k₁ q ∨ (k₁ r = k₁ q ∧ k₂ r < k₂ q) then some r else some q) (some q) = some m ∧ m ∈ q :: l ∧
      ∀ p ∈ q :: l, NoLater k₁ k₂ m p := by
    intro l
    induction l with
    | nil => exact fun q => ⟨q, rfl, List.mem_singleton_self q, fun p hp => by rw [List.mem_singleton.1 hp]; exact .inr ⟨rfl, le_rfl⟩⟩
    | cons p l ih =>
      intro q
      by_cases hpq : k₁ p < k₁ q ∨ (k₁ p = k₁ q ∧ k₂ p < k₂ q)
      · obtain ⟨m, hm, hmem, hle⟩ := ih p
        refine ⟨m, by rw [List.foldl_cons]; simpa only [if_pos hpq] using hm, List.mem_cons_of_mem q hmem, fun e he => ?_⟩
        rcases List.mem_cons.1 he with rfl | he
        · have := hle p List.mem_cons_self
          unfold NoLater at this ⊢
          omega
        · exact hle e he
      · obtain ⟨m, hm, hmem, hle⟩ := ih q
        have hq := hle q List.mem_cons_self
        refine ⟨m, by rw [List.foldl_cons]; simpa only [if_neg hpq] using hm, ?_, fun e he => ?_⟩
        · rcases List.mem_cons.1 hmem with rfl | hmem
          · exact List.mem_cons_self
          · exact List.mem_cons_of_mem _ (List.mem_cons_of_mem _ hmem)
        · rcases List.mem_cons.1 he with rfl | he
          · exact hq
          · rcases List.mem_cons.1 he with rfl | he
            · unfold NoLater at hq ⊢
              omega
            · exact hle e (List.mem_cons_of_mem _ he)
  cases l with
  | nil => simp [least] at h
  | cons q l =>
    obtain ⟨m, hm, hmem, hle⟩ := hfold l q
    have hrm : r = m := Option.some.inj (h.symm.trans hm)
    exact hrm ▸ ⟨hmem, hle⟩

theorem nextRec_eq (l : List BlockedRec) : nextRec l = least BlockedRec.tick BlockedRec.edge l := by
  unfold nextRec least
  congr
  funext b r
  cases b
  · rfl
  · rfl

/-! ### A record meets an agent's route -/

/-- A state less its routes, their events and work, agent frames and answers. -/
def State.sansWork (s : State) : State := { s.sansEvents with route := { s.sansEvents.route with jobs := [] } }

theorem State.sansWork_of_sansEvents {s t : State} (h : t.sansEvents = s.sansEvents) : t.sansWork = s.sansWork :=
  (congrArg State.sansWork h :)

/-- What meeting an edge may do: it changes the agent's own route, and adds work. -/
structure Meets (s t : State) (a : Nat) : Prop where
  rest : t.sansWork = s.sansWork
  jobs : s.route.jobs <+: t.route.jobs
  others : ∀ b, b ≠ a → t.routeOf b = s.routeOf b

theorem State.jobs_of_sansEvents {s t : State} (h : t.sansEvents = s.sansEvents) : t.route.jobs = s.route.jobs :=
  (congrArg (·.route.jobs) h :)

theorem Meets.of_sansEvents {s t : State} {a : Nat} (h : t.sansEvents = s.sansEvents) (ho : ∀ b, b ≠ a → t.routeOf b = s.routeOf b) :
    Meets s t a :=
  ⟨State.sansWork_of_sansEvents h, by rw [State.jobs_of_sansEvents h], ho⟩

theorem State.awaitHost_sansEvents (s : State) (a e : Nat) : (s.awaitHost a e).sansEvents = s.sansEvents := rfl

theorem State.edgeMeets_meets (s : State) (r : BlockedRec) (cls a : Nat) : Meets s (s.edgeMeets r cls a) a := by
  have self : Meets s s a := .of_sansEvents rfl fun _ _ => rfl
  have added : ∀ w n, Meets s (s.addJob a w n) a := fun _ _ => ⟨rfl, List.prefix_append _ _, fun _ _ => rfl⟩
  unfold State.edgeMeets
  dsimp only
  split
  · split
    · exact .of_sansEvents (s.holdAgent_sansEvents _ _ _ _ _) fun b hb => s.holdAgent_ne _ _ _ _ _ hb
    · split
      · exact self
      · split
        · split
          · exact self
          · exact .of_sansEvents (s.awaitHost_sansEvents _ _) fun b hb => s.routeOf_setRoute_ne _ hb
        · exact added _ _
  · split
    · split
      · split
        · exact .of_sansEvents (s.issueRoute_sansEvents _ _ _ _ _ _) fun b hb => s.issueRoute_ne _ _ _ _ _ _ hb
        · exact self
      · split
        · exact added _ _
        · exact self
    · exact self

section
variable {s : State} {r : BlockedRec} {cls a : Nat}

/-- A route not active meets no blocked edge. -/
theorem State.edgeMeets_inactive (hr : r.state = 1) (hs : (s.routeOf a).st ≠ .active) : s.edgeMeets r cls a = s := by
  unfold State.edgeMeets
  dsimp only
  rw [if_neg (by simp [hs]), if_neg (by simp [hr])]

variable (hr : r.state = 1) (hs : (s.routeOf a).st = .active)
include hr hs

theorem State.edgeMeets_current (he : (s.routeOf a).edges[(s.routeOf a).current]? = some r.edge) :
    s.edgeMeets r cls a = s.holdAgent a true false 1 r.edge := by
  unfold State.edgeMeets
  dsimp only
  rw [if_pos ⟨hr, hs⟩, if_pos he]

theorem State.edgeMeets_passed (he : r.edge ∉ (s.routeOf a).edges.drop (s.routeOf a).current) : s.edgeMeets r cls a = s := by
  have hcur : (s.routeOf a).edges[(s.routeOf a).current]? ≠ some r.edge := fun h => he (List.mem_of_getElem? (i := 0) (by
    rw [List.getElem?_drop, Nat.add_zero, h]))
  unfold State.edgeMeets
  dsimp only
  rw [if_pos ⟨hr, hs⟩, if_neg hcur, if_pos (by simpa using he)]

variable (hcur : (s.routeOf a).edges[(s.routeOf a).current]? ≠ some r.edge)
  (he : r.edge ∈ (s.routeOf a).edges.drop (s.routeOf a).current)
include hcur he

theorem State.edgeMeets_ahead (hha : s.ha 7 = false) : s.edgeMeets r cls a = s.addJob a (.repair r.edge) r.tick := by
  unfold State.edgeMeets
  dsimp only
  rw [if_pos ⟨hr, hs⟩, if_neg hcur, if_neg (by simpa using he), if_neg (by simp [hha])]

theorem State.edgeMeets_host (hha : s.ha 7 = true) :
    s.edgeMeets r cls a = if (s.routeOf a).hostWait.isSome then s else s.awaitHost a r.edge := by
  unfold State.edgeMeets
  dsimp only
  rw [if_pos ⟨hr, hs⟩, if_neg hcur, if_neg (by simpa using he), if_pos hha]

end

/-! ### A record meets every route -/

/-- The record meets each route in turn. -/
def State.meetAll (s : State) (r : BlockedRec) (cls : Nat) : State :=
  (s.route.routes.map Prod.fst).foldl (fun s a => s.edgeMeets r cls a) s

theorem State.meetAll_parts (s : State) (r : BlockedRec) (cls : Nat) :
    (s.meetAll r cls).sansWork = s.sansWork := foldl_keeps State.sansWork _ (fun t a => (t.edgeMeets_meets r cls a).rest) _ _

/-- What holds of a state till `a` is met, and then ever after. -/
theorem foldl_meets {r : BlockedRec} {cls a : Nat} {P Q : State → Prop} (hbefore : ∀ s t b, b ≠ a → Meets s t b → P s → P t)
    (hat : ∀ s, P s → Q (s.edgeMeets r cls a)) (hafter : ∀ s t b, b ≠ a → Meets s t b → Q s → Q t)
    (hagain : ∀ s, Q s → Q (s.edgeMeets r cls a)) {l : List Nat} {s : State} (hP : P s) :
    (a ∈ l → Q (l.foldl (fun s b => s.edgeMeets r cls b) s)) := by
  have hQ : ∀ (l : List Nat) (s : State), Q s → Q (l.foldl (fun s b => s.edgeMeets r cls b) s) := fun l s hs =>
    List.foldlRecOn (motive := Q) l _ hs fun t ht b _ => by
      by_cases hb : b = a
      · exact hb ▸ hagain t ht
      · exact hafter t _ b hb (t.edgeMeets_meets r cls b) ht
  induction l generalizing s with
  | nil => exact fun h => absurd h List.not_mem_nil
  | cons b l ih =>
    intro hmem
    by_cases hb : b = a
    · exact hQ l _ (hb ▸ hat s hP)
    · exact ih (hbefore s _ b hb (s.edgeMeets_meets r cls b) hP) ((List.mem_cons.1 hmem).resolve_left (Ne.symm hb))

theorem mem_of_tget {α : Type} {t : List (Nat × α)} {k : Nat} {a : α} (h : tget t k = some a) : (k, a) ∈ t := by
  induction t with
  | nil => simp [tget] at h
  | cons e t ih =>
    obtain ⟨j, b⟩ := e
    rw [tget] at h
    split at h
    · next hj => simp_all
    · exact List.mem_cons_of_mem _ (ih h)

/-- An agent whose route is no idle one is in the table. -/
theorem State.mem_routes {s : State} {a : Nat} (h : (s.routeOf a).st ≠ .idle) : a ∈ s.route.routes.map Prod.fst := by
  cases hget : tget s.route.routes a with
  | none => exact absurd (show (s.routeOf a).st = .idle by rw [State.routeOf, tgetD, hget]; rfl) h
  | some v =>
    exact List.mem_map.2 ⟨(a, v), mem_of_tget hget, rfl⟩

section
variable {s : State} {r : BlockedRec} {cls a : Nat} {v : Route} (hv : s.routeOf a = v) (hact : v.st = .active)
include hv hact

theorem State.mem_routes_active : a ∈ s.route.routes.map Prod.fst := State.mem_routes (by simp [hv, hact])

variable (hr : r.state = 1)
include hr

/-- An agent on the blocked edge is held. -/
theorem State.meetAll_current (hcur : v.edges[v.current]? = some r.edge) : ((s.meetAll r cls).routeOf a).st = .hold ∧
    ((s.meetAll r cls).routeOf a).heldCurrent = true ∧ ((s.meetAll r cls).routeOf a).version = v.version := by
  refine foldl_meets (P := fun t => t.routeOf a = v)
    (Q := fun t => (t.routeOf a).st = .hold ∧ (t.routeOf a).heldCurrent = true ∧ (t.routeOf a).version = v.version)
    (fun s t b hb hm h => (hm.others a (Ne.symm hb)).trans h) (fun t h => ?_)
    (fun s t b hb hm h => by rwa [hm.others a (Ne.symm hb)]) (fun t h => ?_) hv (State.mem_routes_active hv hact)
  · rw [State.edgeMeets_current hr (h ▸ hact) (h ▸ hcur), State.holdAgent_self, h]
    exact ⟨rfl, rfl, rfl⟩
  · rwa [State.edgeMeets_inactive hr (by simp [h.1])]

/-- An agent past the blocked edge, or never on it, goes on. -/
theorem State.meetAll_passed (he : r.edge ∉ v.edges.drop v.current) : (s.meetAll r cls).routeOf a = v := by
  have step : ∀ t : State, t.routeOf a = v → (t.edgeMeets r cls a).routeOf a = v := fun t h => by
    rw [State.edgeMeets_passed hr (h ▸ hact) (h ▸ he), h]
  exact foldl_meets (P := fun t => t.routeOf a = v) (Q := fun t => t.routeOf a = v)
    (fun s t b hb hm h => (hm.others a (Ne.symm hb)).trans h) step (fun s t b hb hm h => (hm.others a (Ne.symm hb)).trans h) step hv
    (State.mem_routes_active hv hact)

variable (hcur : v.edges[v.current]? ≠ some r.edge) (he : r.edge ∈ v.edges.drop v.current)
include hcur he

/-- An agent with the blocked edge ahead has its repair queued. -/
theorem State.meetAll_ahead (hha : s.ha 7 = false) : (s.meetAll r cls).routeOf a = v ∧
    ∃ j ∈ (s.meetAll r cls).route.jobs, j.agent = a ∧ j.what = .repair r.edge ∧ j.tick = r.tick := by
  have keep : ∀ {t w : State}, t.sansWork = w.sansWork → w.ha 7 = false → t.ha 7 = false := fun h hw =>
    ((congrArg (·.ha 7) h :)).trans hw
  refine (foldl_meets (P := fun t => t.routeOf a = v ∧ t.ha 7 = false)
    (Q := fun t => (t.routeOf a = v ∧ ∃ j ∈ t.route.jobs, j.agent = a ∧ j.what = .repair r.edge ∧ j.tick = r.tick) ∧ t.ha 7 = false)
    (fun s t b hb hm h => ⟨(hm.others a (Ne.symm hb)).trans h.1, keep hm.rest h.2⟩) (fun t h => ?_) (fun s t b hb hm h => ?_)
    (fun t h => ?_) ⟨hv, hha⟩ (State.mem_routes_active hv hact)).1
  · obtain ⟨hroute, hmode⟩ := h
    rw [State.edgeMeets_ahead hr (hroute ▸ hact) (hroute ▸ hcur) (hroute ▸ he) hmode]
    exact ⟨⟨hroute, _, List.mem_append_right _ (List.mem_singleton_self _), rfl, rfl, rfl⟩, hmode⟩
  · obtain ⟨⟨hroute, j, hj, hjob⟩, hmode⟩ := h
    exact ⟨⟨(hm.others a (Ne.symm hb)).trans hroute, j, hm.jobs.subset hj, hjob⟩, keep hm.rest hmode⟩
  · obtain ⟨⟨hroute, j, hj, hjob⟩, hmode⟩ := h
    rw [State.edgeMeets_ahead hr (hroute ▸ hact) (hroute ▸ hcur) (hroute ▸ he) hmode]
    exact ⟨⟨hroute, j, List.mem_append_left _ hj, hjob⟩, hmode⟩

/-- How long the service waits for the host's route. -/
def State.hostWaitTicks (s : State) (a : Nat) : Nat :=
  125 * (s.ep.image.bind fun m => m.site.route.hostWait).getD (s.agentClass (s.agentClassOf a)).cycle

/-- An agent with the blocked edge ahead waits for the host's route. -/
theorem State.meetAll_host (hha : s.ha 7 = true) (hno : v.hostWait = none) :
    (s.meetAll r cls).routeOf a = { v with hostWait := some (r.edge, s.time.tick + s.hostWaitTicks a) } := by
  have keep : ∀ {t w : State}, t.sansWork = w.sansWork → w.sansWork = s.sansWork → t.sansWork = s.sansWork := fun h hw => h.trans hw
  have mode : ∀ {t : State}, t.sansWork = s.sansWork → t.ha 7 = true := fun h => ((congrArg (·.ha 7) h :)).trans hha
  refine (foldl_meets (P := fun t => t.routeOf a = v ∧ t.sansWork = s.sansWork)
    (Q := fun t => t.routeOf a = { v with hostWait := some (r.edge, s.time.tick + s.hostWaitTicks a) } ∧ t.sansWork = s.sansWork)
    (fun s t b hb hm h => ⟨(hm.others a (Ne.symm hb)).trans h.1, keep hm.rest h.2⟩) (fun t h => ?_)
    (fun s t b hb hm h => ⟨(hm.others a (Ne.symm hb)).trans h.1, keep hm.rest h.2⟩)
    (fun t h => ?_) ⟨hv, rfl⟩ (State.mem_routes_active hv hact)).1
  · obtain ⟨hroute, hrest⟩ := h
    have hticks : t.time.tick + t.hostWaitTicks a = s.time.tick + s.hostWaitTicks a :=
      (congrArg (fun w : State => w.time.tick + w.hostWaitTicks a) hrest :)
    rw [State.edgeMeets_host hr (hroute ▸ hact) (hroute ▸ hcur) (hroute ▸ he) (mode hrest), if_neg (by simp [hroute, hno])]
    refine ⟨(t.routeOf_setRoute_self a _).trans ?_, hrest⟩
    rw [hroute, ← hticks]
    rfl
  · obtain ⟨hroute, hrest⟩ := h
    rw [State.edgeMeets_host hr (hroute ▸ hact) (hroute ▸ hcur) (hroute ▸ he) (mode hrest), if_pos (by simp [hroute])]
    exact ⟨hroute, hrest⟩

end

end Sys2Proof.Machine
end

section
/-! PROOF. The rows of blocked records, host waits and the route's commands (14 R356, R373, R376, 18 R464). -/

namespace Sys2Proof.Machine

open Sys2Proof

/-! ### The rows -/

/-- A record has left those to come, and is in the buffer or counted as lost. -/
def State.tookRecord (s : State) (r : BlockedRec) : State :=
  { s with route := { s.route with
    recs := s.route.recs.erase r
    blocked := if decide (4096 ≤ s.route.blocked.length) then s.route.blocked else s.route.blocked ++ [r.rec_]
    blockedLost := s.route.blockedLost + b2n (decide (4096 ≤ s.route.blocked.length)) } }

/-- The class of the record's edge. -/
def State.recClass (s : State) (r : BlockedRec) : Nat :=
  match tget s.route.slots r.edge with
  | some e => e.edge.cls
  | none => 16

section
variable {s u : State} {x : At} (hu : s.enter x = u)
include hu

theorem blockedRecord_none (h : nextRec u.route.recs = none) : exec (.blockedRecordDelivered x) s = .next u := by
  subst hu
  have row : exec (.blockedRecordDelivered x) s = execBlockedRecordDelivered x s := rfl
  rw [row, execBlockedRecordDelivered]
  dsimp only
  rw [h]

section
variable {r : BlockedRec} (h : nextRec u.route.recs = some r)
include h

theorem blockedRecord_early (ht : u.time.tick < r.tick) : exec (.blockedRecordDelivered x) s = .next u := by
  subst hu
  have row : exec (.blockedRecordDelivered x) s = execBlockedRecordDelivered x s := rfl
  rw [row, execBlockedRecordDelivered]
  dsimp only
  rw [h]
  exact congrArg Host.Outcome.next (if_pos ht)

theorem blockedRecord_reaches (ht : r.tick ≤ u.time.tick) : exec (.blockedRecordDelivered x) s =
    .next (if u.unit.state = .run then (u.tookRecord r).meetAll r (u.recClass r) else u.tookRecord r) := by
  subst hu
  have row : exec (.blockedRecordDelivered x) s = execBlockedRecordDelivered x s := rfl
  rw [row, execBlockedRecordDelivered]
  dsimp only
  rw [h]
  exact congrArg Host.Outcome.next (if_neg (by omega))

end

section
variable {a : Nat}

theorem hostWait_none (h : (u.routeOf a).hostWait = none) : exec (.hostRouteWaitExpiry x a) s = .next u := by
  subst hu
  have row : exec (.hostRouteWaitExpiry x a) s = execHostRouteWaitExpiry x a s := rfl
  rw [row, execHostRouteWaitExpiry, h]

theorem hostWait_row {e due : Nat} (h : (u.routeOf a).hostWait = some (e, due)) : exec (.hostRouteWaitExpiry x a) s =
    .next (if u.time.tick ≤ due then u else if (u.routeOf a).st = .active then u.holdAgent a false true 1 e
      else u.setRoute a { u.routeOf a with hostWait := none }) := by
  subst hu
  have row : exec (.hostRouteWaitExpiry x a) s = execHostRouteWaitExpiry x a s := rfl
  rw [row, execHostRouteWaitExpiry]
  dsimp only
  rw [h]

end

section
variable {c : Cmd} {dt : Option Bytes}

theorem blockedRead_row (hc : Accepted u.host c.qp c.tag 0x0702 c) : exec (.blockedRead x c.qp c.tag dt) s =
    .next (if u.routeQp ≠ some c.qp then u.complete c.qp c.tag stBadState 0 []
      else ({ u with route := { u.route with blocked := u.route.blocked.drop (fieldN c.params 0 2), blockedLost := 0 } }).complete c.qp c.tag
        stOK (sat32 u.route.blockedLost) (catB (u.route.blocked.take (fieldN c.params 0 2)))) := exec_of_run hu hc rfl rfl

theorem routeEventRead_row (hc : Accepted u.host c.qp c.tag 0x0707 c) : exec (.routeEventRead x c.qp c.tag dt) s =
    .next (if u.routeQp ≠ some c.qp then u.complete c.qp c.tag stBadState 0 []
      else if fieldN c.params 2 1 = 0 ∨ !u.route.events.isEmpty then u.readEvents c
      else if (u.waitingRead c.qp 0x0707).isSome then u.complete c.qp c.tag stBadState 0 []
      else u.setProg c.qp c.tag (.waiting c.timeout.1 c.timeout.2)) := exec_of_run hu hc rfl rfl

/-- The state before ROUTE_CANCEL is answered: the route is idle, its agent told where it was active. -/
def State.cancelled (s : State) (a : Nat) : State :=
  match (s.routeOf a).st with
  | .idle => s
  | .active => (s.sendHold a false).endRoute a 4
  | .hold => s.endRoute a 4

theorem routeCancel_row (hc : Accepted u.host c.qp c.tag 0x0705 c) : exec (.routeCancel x c.qp c.tag dt) s =
    .next (if (u.agentDesc (fieldN c.params 0 2)).isNone then u.complete c.qp c.tag stBadParam 0 []
      else (u.cancelled (fieldN c.params 0 2)).complete c.qp c.tag stOK 0 []) := exec_of_run hu hc rfl rfl

/-- The flags of a route header. -/
def State.routeFlags (s : State) (a : Nat) : Nat :=
  b2n (s.repairPending a) + 2 * b2n (s.routeOf a).fromHost + 4 * b2n (s.routeOf a).heldCurrent

/-- The route header and the edge ids (14 Table 14-8). -/
def routeBytes (a flags : Nat) (v : Route) : Bytes :=
  toLE 2 a ++ (toLE 1 v.st.code ++ (toLE 1 flags ++ (toLE 4 v.version ++ (toLE 4 v.goal ++ (toLE 2 v.current ++
    (toLE 2 v.edges.length ++ (v.issued ++ catB (v.edges.map (toLE 4)))))))))

theorem routeRead_row (hc : Accepted u.host c.qp c.tag 0x0706 c) : exec (.routeRead x c.qp c.tag dt) s =
    .next (u.complete c.qp c.tag stOK 0
      (routeBytes (fieldN c.params 0 2) (u.routeFlags (fieldN c.params 0 2)) (u.routeOf (fieldN c.params 0 2)))) := by
  refine exec_of_run hu hc rfl ?_
  simp only [List.append_assoc]
  rfl

end

end

/-! ### The bytes of a route (14 Table 14-8) -/

theorem routeBytes_fields (a flags : Nat) (v : Route) : fieldN (routeBytes a flags v) 0 2 = a % 256 ^ 2 ∧
    fieldN (routeBytes a flags v) 2 1 = v.st.code % 256 ^ 1 ∧ fieldN (routeBytes a flags v) 4 4 = v.version % 256 ^ 4 ∧
    fieldN (routeBytes a flags v) 8 4 = v.goal % 256 ^ 4 ∧ fieldN (routeBytes a flags v) 12 2 = v.current % 256 ^ 2 ∧
    fieldN (routeBytes a flags v) 14 2 = v.edges.length % 256 ^ 2 := by
  have skip : ∀ {n w m : Nat} (b : Bytes) (off : Nat), fieldN (toLE n w ++ b) (n + off) m = fieldN b off m := fun b off =>
    fieldN_append_right (toLE_length _ _) off _
  have here : ∀ (n w : Nat) (b : Bytes), fieldN (toLE n w ++ b) 0 n = w % 256 ^ n := fun n w b => fieldN_toLE [] b n w
  refine ⟨here 2 a _, ?_, ?_, ?_, ?_, ?_⟩
  · exact (skip (n := 2) _ 0).trans (here 1 _ _)
  · exact (skip (n := 2) _ 2).trans ((skip (n := 1) _ 1).trans ((skip (n := 1) _ 0).trans (here 4 _ _)))
  · exact (skip (n := 2) _ 6).trans ((skip (n := 1) _ 5).trans ((skip (n := 1) _ 4).trans ((skip (n := 4) _ 0).trans (here 4 _ _))))
  · exact (skip (n := 2) _ 10).trans ((skip (n := 1) _ 9).trans ((skip (n := 1) _ 8).trans ((skip (n := 4) _ 4).trans
      ((skip (n := 4) _ 0).trans (here 2 _ _)))))
  · exact (skip (n := 2) _ 12).trans ((skip (n := 1) _ 11).trans ((skip (n := 1) _ 10).trans ((skip (n := 4) _ 6).trans
      ((skip (n := 4) _ 2).trans ((skip (n := 2) _ 0).trans (here 2 _ _))))))

/-- The header before the time of issue, 16 bytes. -/
theorem routeBytes_split (a flags : Nat) (v : Route) : ∃ head : Bytes, head.length = 16 ∧
    routeBytes a flags v = head ++ (v.issued ++ catB (v.edges.map (toLE 4))) :=
  ⟨toLE 2 a ++ (toLE 1 v.st.code ++ (toLE 1 flags ++ (toLE 4 v.version ++ (toLE 4 v.goal ++ (toLE 2 v.current ++
    toLE 2 v.edges.length))))), by simp [toLE_length], by simp only [routeBytes, List.append_assoc]⟩

theorem routeBytes_edges {v : Route} (hi : v.issued.length = 16) (a flags : Nat) : sliceB (routeBytes a flags v) 16 16 = v.issued ∧
    ∀ k e, v.edges[k]? = some e → fieldN (routeBytes a flags v) (32 + 4 * k) 4 = e % 2 ^ 32 := by
  obtain ⟨head, hlen, hbytes⟩ := routeBytes_split a flags v
  rw [hbytes]
  refine ⟨?_, fun k e hk => ?_⟩
  · rw [sliceB_of_le (by simp [hlen, hi]; omega), ← hlen, List.drop_left, hlen]
    exact List.take_left' hi
  · rw [show 32 + 4 * k = 16 + (16 + 4 * k) by omega, fieldN_append_right hlen, fieldN_append_right hi]
    have hget : (v.edges.map (toLE 4))[k]? = some (toLE 4 e) := by rw [List.getElem?_map, hk]; rfl
    refine (fieldN_catB (off := 0) (len := 4) (List.forall_mem_map.2 fun e _ => toLE_length 4 e) hget (by decide)).trans ?_
    have := fieldN_toLE [] [] 4 e
    rwa [List.append_nil] at this

/-! ### ROUTE_CANCEL -/

/-- A route cancelled is idle with its version; the work for its agent is gone, the goals asked for apart. -/
theorem State.cancelled_parts {s : State} {a : Nat} (h : (s.routeOf a).st ≠ .idle) (hread : s.NoEventRead) :
    ((s.cancelled a).routeOf a).st = .idle ∧ ((s.cancelled a).routeOf a).version = (s.routeOf a).version ∧
    (∀ b, b ≠ a → (s.cancelled a).routeOf b = s.routeOf b) ∧ (s.cancelled a).route.jobs = s.route.jobs.filter (keepsJob a) ∧
    (s.cancelled a).host = s.host ∧ (s.cancelled a).ep = s.ep ∧ (s.cancelled a).time = s.time := by
  have parts : ∀ t : State, t.sansEvents = s.sansEvents → t.host = s.host → (t.routeOf a).version = (s.routeOf a).version →
      (∀ b, b ≠ a → t.routeOf b = s.routeOf b) → ((t.endRoute a 4).routeOf a).st = .idle ∧
      ((t.endRoute a 4).routeOf a).version = (s.routeOf a).version ∧ (∀ b, b ≠ a → (t.endRoute a 4).routeOf b = s.routeOf b) ∧
      (t.endRoute a 4).route.jobs = s.route.jobs.filter (keepsJob a) ∧ (t.endRoute a 4).host = s.host ∧
      (t.endRoute a 4).ep = s.ep ∧ (t.endRoute a 4).time = s.time := fun t hrest hhost hver hother => by
    refine ⟨by rw [t.endRoute_self]; rfl, by rw [t.endRoute_self]; exact hver, fun b hb => (t.endRoute_ne a 4 hb).trans (hother b hb),
      by rw [t.endRoute_jobs, State.jobs_of_sansEvents hrest], (t.endRoute_host a 4 fun k hk => hread k (hhost ▸ hk)).trans hhost, ?_, ?_⟩
    · exact ((congrArg State.ep (t.endRoute_sansEvents a 4) :)).trans (congrArg State.ep hrest :)
    · exact ((congrArg State.time (t.endRoute_sansEvents a 4) :)).trans (congrArg State.time hrest :)
  unfold State.cancelled
  split
  · next hidle => exact absurd hidle h
  · refine parts _ (s.sendHold_sansEvents a false) (s.sendHold_host a false) ?_ fun b hb => ?_
    · rw [State.routeOf_of_sansFrames (s.sendHold_sansFrames a false), State.routeOf_setRoute_self]
    · rw [State.routeOf_of_sansFrames (s.sendHold_sansFrames a false), State.routeOf_setRoute_ne _ _ hb]
  · exact parts s rfl rfl rfl fun _ _ => rfl

end Sys2Proof.Machine

open Sys2Proof Sys2Proof.Machine

/-- Settles O47: an agent a record meets is one lemma a case over all the routes met (`State.meetAll_current` and its like), the rest
one lemma a row. -/
theorem blockedEdgesMeetRoutes : Obligations.BlockedEdgesMeetRoutes := by
  unfold Obligations.BlockedEdgesMeetRoutes
  refine ⟨fun s u x hu => ⟨fun hno => blockedRecord_none hu.symm (by rw [hno]; rfl), fun r hr => ⟨(least_spec (nextRec_eq _ ▸ hr)).2,
    fun ht => blockedRecord_early hu.symm hr ht, fun ht => ?_⟩⟩, fun s u x a hu => ⟨fun hno => hostWait_none hu.symm hno, fun e due hw =>
    ⟨fun ht => ?_, fun ht hst => ?_, fun ht hst => ?_⟩⟩, fun s u x qp tag dt c n hu hn => ⟨fun hc => ?_, fun hc => ?_, fun hc => ?_,
    fun hc => ?_⟩⟩
  · have row := blockedRecord_reaches hu.symm hr ht
    have hroute : ∀ a, (u.tookRecord r).routeOf a = u.routeOf a := fun _ => rfl
    have htook : (∀ t : State, t.sansWork = (u.tookRecord r).sansWork → t.route.recs = u.route.recs.erase r ∧
        (u.route.blocked.length < 4096 → t.route.blocked = u.route.blocked ++ [r.rec_] ∧ t.route.blockedLost = u.route.blockedLost) ∧
        (4096 ≤ u.route.blocked.length → t.route.blocked = u.route.blocked ∧ t.route.blockedLost = u.route.blockedLost + 1)) :=
      fun t hm => by
        have hrecs : t.route.recs = (u.tookRecord r).route.recs := (congrArg (·.route.recs) hm :)
        have hblocked : t.route.blocked = (u.tookRecord r).route.blocked := (congrArg (·.route.blocked) hm :)
        have hlost : t.route.blockedLost = (u.tookRecord r).route.blockedLost := (congrArg (·.route.blockedLost) hm :)
        refine ⟨hrecs, fun hroom => ?_, fun hfull => ?_⟩
        · rw [hblocked, hlost, State.tookRecord, decide_eq_false (Nat.not_le.2 hroom)]
          exact ⟨rfl, rfl⟩
        · rw [hblocked, hlost, State.tookRecord, decide_eq_true hfull]
          exact ⟨rfl, rfl⟩
    by_cases hrun : u.unit.state = .run
    · rw [if_pos hrun] at row
      obtain ⟨hrecs, hroom, hfull⟩ := htook _ ((u.tookRecord r).meetAll_parts r (u.recClass r))
      refine ⟨_, row, hrecs, hroom, hfull, fun hn => absurd hrun hn, fun a v hv _ hone hact => ⟨fun hcur => ?_, fun hcur he =>
        ⟨fun hha => ?_, fun hha hno => ?_⟩, fun he => ?_⟩⟩
      · exact State.meetAll_current ((hroute a).trans hv.symm) hact hone hcur
      · exact State.meetAll_ahead ((hroute a).trans hv.symm) hact hone hcur he hha
      · exact State.meetAll_host ((hroute a).trans hv.symm) hact hone hcur he hha hno
      · exact State.meetAll_passed ((hroute a).trans hv.symm) hact hone he
    · rw [if_neg hrun] at row
      obtain ⟨hrecs, hroom, hfull⟩ := htook _ rfl
      exact ⟨_, row, hrecs, hroom, hfull, fun _ => ⟨rfl, rfl⟩, fun a v _ hr => absurd hr hrun⟩
  · rw [hostWait_row hu.symm hw, if_pos ht]
  · have row := hostWait_row hu.symm hw
    rw [if_neg (by omega), if_neg hst] at row
    exact ⟨_, row, u.routeOf_setRoute_self _ _, rfl⟩
  · have row := hostWait_row hu.symm hw
    rw [if_neg (by omega), if_pos hst] at row
    have hself := u.holdAgent_self a false true 1 e
    refine ⟨_, row, by rw [hself], by rw [hself], by rw [hself], by rw [hself], fun b hb => u.holdAgent_ne a _ _ _ _ hb,
      fun hroom hread => ?_⟩
    have hsent := u.sendHold_sansFrames a false
    have hevents : (u.sendHold a false).route.events = u.route.events := (congrArg (·.route.events) hsent :)
    obtain ⟨ev, hev, h0, h2, h8⟩ := State.routeEvent_events (s := (u.sendHold a false).setRoute a
      { (u.sendHold a false).routeOf a with st := .hold, heldCurrent := false, hostWait := none, waitOver := true })
      (fun k hk => hread k ((u.sendHold_host a false) ▸ hk)) (by rw [State.setRoute, hevents]; exact hroom) a 1 e
    exact ⟨ev, hev.trans (congrArg (· ++ [ev]) hevents), h0, h2, h8⟩
  all_goals
    obtain ⟨rfl, rfl⟩ := find_name hc.1.1
    subst hn
  · have row := blockedRead_row (dt := dt) hu.symm hc
    refine ⟨fun hqp => ?_, fun hqp => ?_⟩
    · rw [if_pos hqp] at row
      exact answeredWith_of_completes hc.1 row
    · rw [if_neg (not_not.2 hqp)] at row
      exact answered_of_completes_after hc.1 row rfl rfl rfl
  · have row := routeEventRead_row (dt := dt) hu.symm hc
    refine ⟨fun hqp => ?_, fun hqp hany => ?_, fun hqp hwait hempty => ⟨fun hread => ?_, fun hread => ?_⟩⟩
    · rw [if_pos hqp] at row
      exact answeredWith_of_completes hc.1 row
    · rw [if_neg (not_not.2 hqp), if_pos (by simpa [List.isEmpty_iff] using hany)] at row
      obtain ⟨t, hrow, hans, ht⟩ := answered_of_completes_after (u := u) hc.1 row rfl rfl rfl
      refine ⟨t, _, hrow, hans, ?_, ?_, ht⟩
      · split
        · exact .inl rfl
        · exact .inr rfl
      · have hany : (u.route.events.take (fieldN c.params 0 2)).any (fun r => fieldN r 2 1 == 2) = true ↔
            ∃ ev ∈ u.route.events.take (fieldN c.params 0 2), fieldN ev 2 1 = 2 := by simp [List.any_eq_true]
        rw [← hany]
        split
        · next h => exact ⟨fun _ => h, fun _ => rfl⟩
        · next h => exact ⟨fun hbad => absurd hbad (by decide), fun hbad => absurd hbad h⟩
    · rw [if_neg (not_not.2 hqp), if_neg (by simp [hwait, hempty]), if_pos (Option.isSome_iff_ne_none.2 hread)] at row
      exact answeredWith_of_completes hc.1 row
    · rwa [if_neg (not_not.2 hqp), if_neg (by simp [hwait, hempty]), if_neg (by simp [hread])] at row
  · obtain ⟨t, hrow, hho, hans⟩ := answeredWith_of_completes hc.1 (routeRead_row (dt := dt) hu.symm hc)
    obtain ⟨h0, h2, h4, h8, h12, h14⟩ := routeBytes_fields (fieldN c.params 0 2) (u.routeFlags (fieldN c.params 0 2))
      (u.routeOf (fieldN c.params 0 2))
    refine ⟨t, _, hrow, hho, hans, h0.trans (Nat.mod_eq_of_lt (fieldN_lt _ _ _)), h2.trans ?_, h4, h8, h12, h14,
      fun hi => routeBytes_edges hi _ _⟩
    cases (u.routeOf (fieldN c.params 0 2)).st <;> rfl
  · have row := routeCancel_row (dt := dt) hu.symm hc
    refine ⟨fun hdesc => ?_, fun hdesc hidle => ?_, fun hdesc hst hread => ?_⟩
    · rw [if_pos (by simp [hdesc])] at row
      exact answeredWith_of_completes hc.1 row
    · rw [if_neg (by simp [hdesc]), State.cancelled, hidle] at row
      exact answeredWith_of_completes hc.1 row
    · rw [if_neg (by simp [hdesc])] at row
      obtain ⟨hend, hver, hother, hjobs, hhost, hep, htime⟩ := State.cancelled_parts hst hread
      obtain ⟨t, hrow, hans, ht⟩ := answered_of_completes_after (u := u) hc.1 row hhost (congrArg EpochSt.epoch hep) htime
      have hroute : ∀ b, t.routeOf b = (u.cancelled (fieldN c.params 0 2)).routeOf b := fun b => (congrArg (State.routeOf · b) ht :)
      have hwork : t.route.jobs = u.route.jobs.filter (keepsJob (fieldN c.params 0 2)) := ((congrArg (·.route.jobs) ht :)).trans hjobs
      refine ⟨t, hrow, hans, by rw [hroute, hend], by rw [hroute, hver], fun b hb => (hroute b).trans (hother b hb), fun j hj => ?_⟩
      rw [hwork, List.mem_filter] at hj
      exact ⟨hj.1, fun ha => keepsJob_goal hj.2 ha⟩
end

section
/-! PROOF. Occupancy words, grants and recounts (14 R351 to R355, R371, R374). -/

namespace Sys2Proof.Machine

open Sys2Proof

/-! ### Sets kept as sorted lists -/

theorem mem_sins {l : List Nat} {k v : Nat} : v ∈ sins l k ↔ v = k ∨ v ∈ l := by
  induction l with
  | nil => simp [sins]
  | cons j l ih =>
    rw [sins]
    split
    · simp
    · split
      · next h => simp [h]
      · simp [ih, or_left_comm]

theorem sins_perm {l : List Nat} {k : Nat} (h : k ∉ l) : (sins l k).Perm (k :: l) := by
  induction l with
  | nil => rfl
  | cons j l ih =>
    obtain ⟨hne, hl⟩ := not_or.1 (mt List.mem_cons.2 h)
    rw [sins, if_neg hne]
    split
    · rfl
    · exact ((ih hl).cons j).trans (List.Perm.swap k j l)

theorem mem_sinsAll {ks l : List Nat} {v : Nat} : v ∈ sinsAll l ks ↔ v ∈ l ∨ v ∈ ks := by
  induction ks generalizing l with
  | nil => simp [sinsAll]
  | cons k ks ih =>
    rw [sinsAll, List.foldl_cons, ← sinsAll, ih, mem_sins, List.mem_cons]
    tauto

/-- A voxel set or clear in a map. -/
def putVoxel (l : List Nat) (v : Nat) (set : Bool) : List Nat := if set then sins l v else l.erase v

theorem mem_putVoxel {l : List Nat} (hnd : l.Nodup) (v w : Nat) (set : Bool) :
    w ∈ putVoxel l v set ↔ if w = v then set = true else w ∈ l := by
  unfold putVoxel
  cases set with
  | true =>
    rw [if_pos rfl, mem_sins]
    split <;> simp_all
  | false =>
    rw [if_neg (by decide), hnd.mem_erase_iff]
    split <;> simp_all

/-! ### The occupied-bit filter (14 R351) -/

section
variable (s : State) (v : Nat) (set : Bool) (src origin : Nat)

/-- The state once the filter has passed the word, its voxel changed. -/
def State.passWord : State :=
  { s with route := { s.route with
    occupied := putVoxel s.route.occupied v set
    deltas := s.route.deltas ++ [deltaWord v set src origin] } }

theorem State.occDelta_same (h : v ∈ s.route.occupied ↔ set = true) : s.occDelta v set src origin = (false, s) := by
  rw [State.occDelta, if_pos]
  cases set <;> simp_all

theorem State.occDelta_changes (h : ¬(v ∈ s.route.occupied ↔ set = true)) :
    s.occDelta v set src origin = (true, s.passWord v set src origin) := by
  rw [State.occDelta, if_neg]
  · rfl
  · cases set <;> simp_all

end

/-- What the filter leaves of a map without duplicates: of the voxel what the word says, the rest as it was. -/
structure Filtered (s t : State) (v : Nat) (set : Bool) : Prop where
  nodup : t.route.occupied.Nodup
  mem : ∀ w, w ∈ t.route.occupied ↔ if w = v then set = true else w ∈ s.route.occupied

theorem State.occDelta_filtered (s : State) (v : Nat) (set : Bool) (src origin : Nat) (hnd : s.route.occupied.Nodup) :
    Filtered s (s.occDelta v set src origin).2 v set := by
  by_cases h : v ∈ s.route.occupied ↔ set = true
  · rw [State.occDelta_same _ _ _ _ _ h]
    refine ⟨hnd, fun w => ?_⟩
    split
    · next hw => rw [hw, h]
    · rfl
  · rw [State.occDelta_changes _ _ _ _ _ h]
    refine ⟨?_, fun w => mem_putVoxel hnd v w set⟩
    cases set with
    | true => exact (sins_perm (by simpa using h)).nodup_iff.2 (List.nodup_cons.2 ⟨by simpa using h, hnd⟩)
    | false => exact hnd.erase v

/-! ### OCC_INJECT -/

/-- Words pass the filter in order: how many passed, and the state. -/
def State.passWords (s : State) (p : Nat) (w : Nat → Nat) : Nat → Nat × State
  | 0 => (0, s)
  | n + 1 =>
    let q := s.passWords p w n
    let d := q.2.occDelta (bitsOf (w n) 47 0) (bitAt (w n) 48) 15 p
    (q.1 + b2n d.1, d.2)

theorem State.passWords_eq (s : State) (p : Nat) (w : Nat → Nat) (n : Nat) :
    ((List.range n).map w).foldl (fun (q : Nat × State) w =>
      let d := q.2.occDelta (bitsOf w 47 0) (bitAt w 48) 15 p
      (q.1 + b2n d.1, d.2)) (0, s) = s.passWords p w n := by
  induction n with
  | zero => rfl
  | succ n ih => rw [List.range_succ, List.map_append, List.foldl_append, ih]; rfl

/-- The voxel of a word. -/
theorem bitsOf_voxel (w : Nat) : bitsOf w 47 0 = w % 2 ^ 48 := by
  rw [bitsOf, Nat.pow_zero, Nat.div_one]

/-- The word of a delta that passed. -/
theorem deltaWord_host (w p : Nat) : deltaWord (bitsOf w 47 0) (bitAt w 48) 15 p =
    w % 2 ^ 48 + 2 ^ 48 * b2n (w.testBit 48) + 2 ^ 49 * 15 + 2 ^ 70 * (p % 64) + 2 ^ 76 * 4 := by
  rw [deltaWord, bitsOf_voxel, bitAt]

section
variable (s : State) (p : Nat) (w : Nat → Nat) (n : Nat)

theorem State.passWords_parts : ∃ l, (s.passWords p w n).1 = l.length ∧ (s.passWords p w n).2.route.deltas = s.route.deltas ++ l ∧
    (∀ d ∈ l, ∃ i, i < n ∧ d = deltaWord (bitsOf (w i) 47 0) (bitAt (w i) 48) 15 p) ∧
    (s.passWords p w n).2 = { s with route := { s.route with
      occupied := (s.passWords p w n).2.route.occupied, deltas := (s.passWords p w n).2.route.deltas } } := by
  induction n with
  | zero => exact ⟨[], rfl, (List.append_nil _).symm, fun d hd => absurd hd List.not_mem_nil, rfl⟩
  | succ n ih =>
    obtain ⟨l, hcount, hdeltas, hwords, heq⟩ := ih
    have hstep : s.passWords p w (n + 1) = ((s.passWords p w n).1 +
      b2n ((s.passWords p w n).2.occDelta (bitsOf (w n) 47 0) (bitAt (w n) 48) 15 p).1,
      ((s.passWords p w n).2.occDelta (bitsOf (w n) 47 0) (bitAt (w n) 48) 15 p).2) := rfl
    rw [hstep]
    generalize s.passWords p w n = q at *
    have hold : ∀ d ∈ l, ∃ i, i < n + 1 ∧ d = deltaWord (bitsOf (w i) 47 0) (bitAt (w i) 48) 15 p := fun d hd =>
      (hwords d hd).imp fun i hi => ⟨hi.1.trans (Nat.lt_succ_self n), hi.2⟩
    by_cases h : bitsOf (w n) 47 0 ∈ q.2.route.occupied ↔ bitAt (w n) 48 = true
    · rw [State.occDelta_same _ _ _ _ _ h]
      exact ⟨l, hcount, hdeltas, hold, heq⟩
    · rw [State.occDelta_changes _ _ _ _ _ h]
      refine ⟨l ++ [deltaWord (bitsOf (w n) 47 0) (bitAt (w n) 48) 15 p], ?_, ?_, fun d hd => ?_, ?_⟩
      · rw [List.length_append, ← hcount]
        rfl
      · rw [← List.append_assoc, ← hdeltas]
        rfl
      · rcases List.mem_append.1 hd with hd | hd
        · exact hold d hd
        · exact ⟨n, Nat.lt_succ_self n, List.mem_singleton.1 hd⟩
      · exact (congrArg (fun t : State => t.passWord (bitsOf (w n) 47 0) (bitAt (w n) 48) 15 p) heq :)

/-- The map holds of each voxel what the last word for it says. -/
theorem State.passWords_map (hnd : s.route.occupied.Nodup) : (s.passWords p w n).2.route.occupied.Nodup ∧
    (∀ i, i < n → (∀ j, i < j → j < n → w j % 2 ^ 48 ≠ w i % 2 ^ 48) →
      (w i % 2 ^ 48 ∈ (s.passWords p w n).2.route.occupied ↔ (w i).testBit 48 = true)) ∧
    ∀ v, (∀ i, i < n → w i % 2 ^ 48 ≠ v) → (v ∈ (s.passWords p w n).2.route.occupied ↔ v ∈ s.route.occupied) := by
  induction n with
  | zero => exact ⟨hnd, fun i hi => absurd hi (Nat.not_lt_zero i), fun v _ => Iff.rfl⟩
  | succ n ih =>
    obtain ⟨hnd', hlast, hother⟩ := ih
    obtain ⟨hnodup, hmem⟩ := (s.passWords p w n).2.occDelta_filtered (bitsOf (w n) 47 0) (bitAt (w n) 48) 15 p hnd'
    have hstep : (s.passWords p w (n + 1)).2 = ((s.passWords p w n).2.occDelta (bitsOf (w n) 47 0) (bitAt (w n) 48) 15 p).2 := rfl
    rw [bitsOf_voxel] at hmem hnodup hstep
    rw [hstep]
    refine ⟨hnodup, fun i hi hlater => ?_, fun v hv => ?_⟩
    · rcases Nat.lt_succ_iff_lt_or_eq.1 hi with hi | rfl
      · rw [hmem, if_neg (Ne.symm (hlater n hi (Nat.lt_succ_self n)))]
        exact hlast i hi fun j hij hj => hlater j hij (hj.trans (Nat.lt_succ_self n))
      · rw [hmem, if_pos rfl, bitAt]
    · rw [hmem, if_neg (Ne.symm (hv n (Nat.lt_succ_self n)))]
      exact hother v fun i hi => hv i (hi.trans (Nat.lt_succ_self n))

theorem State.passWords_one : (s.passWords p w 1).1 = 1 ↔ ¬(w 0 % 2 ^ 48 ∈ s.route.occupied ↔ (w 0).testBit 48 = true) := by
  have hstep : (s.passWords p w 1).1 = 0 + b2n (s.occDelta (bitsOf (w 0) 47 0) (bitAt (w 0) 48) 15 p).1 := rfl
  rw [hstep, Nat.zero_add, bitsOf_voxel]
  by_cases h : w 0 % 2 ^ 48 ∈ s.route.occupied ↔ bitAt (w 0) 48 = true
  · rw [State.occDelta_same _ _ _ _ _ h]
    exact ⟨fun hbad => absurd hbad (Nat.zero_ne_one), fun hn => absurd h hn⟩
  · rw [State.occDelta_changes _ _ _ _ _ h]
    exact ⟨fun _ => h, fun _ => rfl⟩

end

/-- A word's voxel lies in the site. -/
def inSite (ext : Nat × Nat × Nat) (w : Nat) : Bool :=
  decide (bitsOf w 15 0 < ext.1) && decide (bitsOf w 31 16 < ext.2.1) && decide (bitsOf w 47 32 < ext.2.2)

theorem inSite_iff {ext : Nat × Nat × Nat} {w : Nat} :
    inSite ext w = true ↔ w % 65536 < ext.1 ∧ w / 65536 % 65536 < ext.2.1 ∧ w / 4294967296 % 65536 < ext.2.2 := by
  simp only [inSite, bitsOf, Bool.and_eq_true, and_assoc]
  norm_num

/-- The words of an OCC_INJECT. -/
def injected (c : Cmd) (i : Nat) : Nat := fieldN c.params (8 + 8 * i) 8

theorem occInject_row {s u : State} {x : At} (hu : s.enter x = u) {c : Cmd} {dt : Option Bytes} {m : HiveImg}
    (hm : u.ep.image = some m) (hc : Accepted u.host c.qp c.tag 0x0703 c) : exec (.occInject x c.qp c.tag dt) s =
      .next (if !((List.range (fieldN c.params 0 2)).map (injected c)).all (inSite m.site.route.extent) then
          u.complete c.qp c.tag stBadParam 0 []
        else if 16384 < u.tapped (u.cmdSuper c) + fieldN c.params 0 2 then u
        else (u.passWords (u.cmdSuper c) (injected c) (fieldN c.params 0 2)).2.complete c.qp c.tag stOK
          (u.passWords (u.cmdSuper c) (injected c) (fieldN c.params 0 2)).1 []) := by
  refine exec_of_run hu hc rfl ?_
  dsimp only
  have hlen : ((List.range (fieldN c.params 0 2)).map fun i => fieldN c.params (8 + 8 * i) 8).length = fieldN c.params 0 2 := by simp
  rw [hm, hlen, ← State.passWords_eq]
  rfl

end Sys2Proof.Machine
end

section
/-! PROOF. Grants, recounts and edge records (14 R352 to R355, R371), and OccupancyReachesTheCheckers. -/

namespace Sys2Proof.Machine

open Sys2Proof

/-! ### Records and slots -/

/-- A record is made of an edge in the table, with its state, decided `n` ticks on. -/
theorem State.reportEdge_parts {s : State} {id : Nat} {e : EdgeSlot} (h : tget s.route.slots id = some e) (src n : Nat) :
    ∃ (b : Bytes) (q : Nat), s.reportEdge id src n = { s with route := { s.route with
      recs := s.route.recs ++ [{ tick := s.time.tick + n, edge := id, state := e.state, rec_ := b }], bseq := q } } := by
  unfold State.reportEdge
  rw [h]
  exact ⟨_, _, rfl⟩

theorem EdgeSlot.state_known {e : EdgeSlot} (h : e.unknown = false) : e.state = b2n (decide (e.edge.threshold ≤ e.count)) := by
  rw [EdgeSlot.state, h]
  rfl

/-- What a word does to the checkers: records are added and slots change; the rest of the route service stays. -/
structure Checks (s t : State) : Prop where
  recs : s.route.recs <+: t.route.recs
  deltas : t.route.deltas = s.route.deltas
  granted : t.route.granted = s.route.granted
  rest : t = { s with route := t.route }

theorem Checks.refl (s : State) : Checks s s := ⟨List.prefix_rfl, rfl, rfl, rfl⟩

theorem Checks.trans {s t u : State} (h : Checks s t) (h' : Checks t u) : Checks s u :=
  ⟨h.recs.trans h'.recs, h'.deltas.trans h.deltas, h'.granted.trans h.granted, by
    have := h'.rest
    rw [h.rest] at this
    exact this⟩

theorem State.reportEdge_checks (s : State) (id src n : Nat) : Checks s (s.reportEdge id src n) := by
  cases h : tget s.route.slots id with
  | none =>
    rw [State.reportEdge, h]
    exact .refl s
  | some e =>
    obtain ⟨b, q, ht⟩ := State.reportEdge_parts h src n
    rw [ht]
    exact ⟨List.prefix_append _ _, rfl, rfl, rfl⟩

theorem State.reportEdge_slots (s : State) (id src n : Nat) : (s.reportEdge id src n).route.slots = s.route.slots := by
  unfold State.reportEdge
  split <;> rfl

/-- Another content of a slot. -/
def State.putEdgeSlot (s : State) (id : Nat) (e : EdgeSlot) : State :=
  { s with route := { s.route with slots := tset s.route.slots id e } }

theorem State.putEdgeSlot_checks (s : State) (id : Nat) (e : EdgeSlot) : Checks s (s.putEdgeSlot id e) :=
  ⟨List.prefix_rfl, rfl, rfl, rfl⟩

/-! ### A slot whose word reads uncorrectable (14 R355) -/

theorem State.slotWordUe_none {s : State} {id : Nat} (h : tget s.route.slots id = none) : s.slotWordUe id = s := by
  rw [State.slotWordUe, h]

theorem State.slotWordUe_some {s : State} {id : Nat} {e : EdgeSlot} (h : tget s.route.slots id = some e) :
    s.slotWordUe id = (if e.unknown then s.putEdgeSlot id { e with unknown := true } else
      (s.putEdgeSlot id { e with unknown := true }).reportEdge id 0xFF 0).putEdgeSlot id { e with unknown := true, bad := true } := by
  have hunknown : s.unknownEdge id e.slot = if e.unknown then s.putEdgeSlot id { e with unknown := true } else
      (s.putEdgeSlot id { e with unknown := true }).reportEdge id 0xFF 0 := by
    rw [State.unknownEdge, h]
    rfl
  have hslot : tget (s.unknownEdge id e.slot).route.slots id = some { e with unknown := true } := by
    rw [hunknown]
    split
    · exact tget_tset_self _ _ _
    · rw [State.reportEdge_slots]
      exact tget_tset_self _ _ _
  rw [State.slotWordUe, h, ← hunknown]
  dsimp only
  rw [tmod, tgetD, hslot]
  rfl

theorem State.slotWordUe_checks (s : State) (id : Nat) : Checks s (s.slotWordUe id) := by
  cases h : tget s.route.slots id with
  | none =>
    rw [State.slotWordUe_none h]
    exact .refl s
  | some e =>
    rw [State.slotWordUe_some h]
    refine Checks.trans ?_ (State.putEdgeSlot_checks _ _ _)
    split
    · exact s.putEdgeSlot_checks _ _
    · exact (s.putEdgeSlot_checks _ _).trans (State.reportEdge_checks _ _ _ _)

theorem State.slotWordUe_ne (s : State) {id j : Nat} (hj : j ≠ id) : tget (s.slotWordUe id).route.slots j = tget s.route.slots j := by
  cases h : tget s.route.slots id with
  | none => rw [State.slotWordUe_none h]
  | some e =>
    have hput : ∀ t : State, tget t.route.slots j = tget s.route.slots j → ∀ e,
        tget (t.putEdgeSlot id e).route.slots j = tget s.route.slots j := fun t ht e => (tget_tset_ne _ _ _ _ hj).trans ht
    rw [State.slotWordUe_some h]
    refine hput _ ?_ _
    split
    · exact hput s rfl _
    · rw [State.reportEdge_slots]
      exact hput s rfl _

theorem State.slotWordUe_self {s : State} {id : Nat} {e : EdgeSlot} (h : tget s.route.slots id = some e) :
    tget (s.slotWordUe id).route.slots id = some { e with unknown := true, bad := true } := by
  rw [State.slotWordUe_some h]
  exact tget_tset_self _ _ _

/-! ### A slot tests a delta (14 R352, R353) -/

section
variable {s : State} {id v src : Nat} {set : Bool}

/-- A bound slot counts the voxel. -/
def EdgeSlot.counts (e : EdgeSlot) (set : Bool) : EdgeSlot := { e with count := if set then e.count + 1 else e.count - 1 }

theorem State.slotDelta_none (h : tget s.route.slots id = none) : s.slotDelta id v set src = s := by
  rw [State.slotDelta, h]

section
variable {e : EdgeSlot} (h : tget s.route.slots id = some e)
include h

theorem State.slotDelta_untouched (hv : e.edge.holds v = false ∨ e.slot = none) : s.slotDelta id v set src = s := by
  rw [State.slotDelta, h]
  exact if_pos (by rcases hv with hv | hv <;> simp [hv])

theorem State.slotDelta_counts (hv : e.edge.holds v = true) (hs : e.slot ≠ none) : s.slotDelta id v set src =
    if e.unknown || decide (e.edge.threshold ≤ e.count) == decide (e.edge.threshold ≤ (e.counts set).count) then
      s.putEdgeSlot id (e.counts set)
    else (s.putEdgeSlot id (e.counts set)).reportEdge id src s.decideTicks := by
  rw [State.slotDelta, h]
  exact if_neg (by simp [hv, Option.isNone_iff_eq_none, hs])

end

theorem State.slotDelta_checks (s : State) (id v : Nat) (set : Bool) (src : Nat) : Checks s (s.slotDelta id v set src) := by
  cases h : tget s.route.slots id with
  | none =>
    rw [State.slotDelta_none h]
    exact .refl s
  | some e =>
    by_cases hv : e.edge.holds v = false ∨ e.slot = none
    · rw [State.slotDelta_untouched h hv]
      exact .refl s
    · rw [State.slotDelta_counts h (by simpa using (not_or.1 hv).1) (not_or.1 hv).2]
      split
      · exact s.putEdgeSlot_checks _ _
      · exact (s.putEdgeSlot_checks _ _).trans (State.reportEdge_checks _ _ _ _)

theorem State.slotDelta_ne (s : State) {id j : Nat} (hj : j ≠ id) (v : Nat) (set : Bool) (src : Nat) :
    tget (s.slotDelta id v set src).route.slots j = tget s.route.slots j := by
  cases h : tget s.route.slots id with
  | none => rw [State.slotDelta_none h]
  | some e =>
    by_cases hv : e.edge.holds v = false ∨ e.slot = none
    · rw [State.slotDelta_untouched h hv]
    · rw [State.slotDelta_counts h (by simpa using (not_or.1 hv).1) (not_or.1 hv).2]
      split
      · exact tget_tset_ne _ _ _ _ hj
      · rw [State.reportEdge_slots]
        exact tget_tset_ne _ _ _ _ hj

/-- The slot's count after a delta. -/
theorem State.slotDelta_self {e : EdgeSlot} (h : tget s.route.slots id = some e) : tget (s.slotDelta id v set src).route.slots id =
    some (if e.edge.holds v = true ∧ e.slot ≠ none then e.counts set else e) := by
  by_cases hv : e.edge.holds v = false ∨ e.slot = none
  · rw [State.slotDelta_untouched h hv, if_neg (by rcases hv with hv | hv <;> simp [hv]), h]
  · obtain ⟨hv, hs⟩ := not_or.1 hv
    have hv : e.edge.holds v = true := by simpa using hv
    rw [if_pos ⟨hv, hs⟩, State.slotDelta_counts h hv hs]
    split
    · exact tget_tset_self _ _ _
    · rw [State.reportEdge_slots]
      exact tget_tset_self _ _ _

/-- A known slot that crosses its threshold makes a record. -/
theorem State.slotDelta_record {e : EdgeSlot} (h : tget s.route.slots id = some e) (hv : e.edge.holds v = true) (hs : e.slot ≠ none)
    (hknown : e.unknown = false)
    (hcross : decide (e.edge.threshold ≤ e.count) ≠ decide (e.edge.threshold ≤ (e.counts set).count)) :
    ∃ r ∈ (s.slotDelta id v set src).route.recs, r.edge = id ∧
      r.state = b2n (decide (e.edge.threshold ≤ (e.counts set).count)) ∧ r.tick = s.time.tick + s.decideTicks := by
  have hself : tget (s.putEdgeSlot id (e.counts set)).route.slots id = some (e.counts set) := tget_tset_self _ _ _
  obtain ⟨b, q, ht⟩ := State.reportEdge_parts hself src s.decideTicks
  rw [State.slotDelta_counts h hv hs, if_neg (by simp [hknown, hcross]), ht]
  exact ⟨_, List.mem_append_right _ (List.mem_singleton_self _), rfl, EdgeSlot.state_known (e := e.counts set) hknown, rfl⟩

end

/-! ### OCC_DELTA_GRANT -/

section
variable (s : State) (v : Nat) (set : Bool) (src : Nat)

/-- The slots in turn test the delta. -/
def State.testSlots (ids : List Nat) : State := ids.foldl (fun s id => s.slotDelta id v set src) s

theorem State.testSlots_checks (ids : List Nat) : Checks s (s.testSlots v set src ids) :=
  List.foldlRecOn (motive := Checks s) ids _ (.refl s) fun t ht id _ => ht.trans (t.slotDelta_checks id v set src)

theorem State.testSlots_other (ids : List Nat) {j : Nat} (hj : j ∉ ids) :
    tget (s.testSlots v set src ids).route.slots j = tget s.route.slots j :=
  List.foldlRecOn (motive := fun t : State => tget t.route.slots j = tget s.route.slots j) ids _ rfl fun t ht id hid =>
    (t.slotDelta_ne (fun (h : j = id) => hj (h ▸ hid)) v set src).trans ht

/-- A slot counts a delta no more than its count. -/
theorem State.testSlots_keeps (ids : List Nat) {j : Nat} {e : EdgeSlot} (h : tget s.route.slots j = some e) :
    ∃ n, tget (s.testSlots v set src ids).route.slots j = some { e with count := n } := by
  refine List.foldlRecOn (motive := fun t : State => ∃ n, tget t.route.slots j = some { e with count := n }) ids _ ⟨e.count, h⟩
    fun t ht id _ => ?_
  obtain ⟨n, hn⟩ := ht
  by_cases hj : j = id
  · subst hj
    rw [State.slotDelta_self hn]
    split
    · exact ⟨_, rfl⟩
    · exact ⟨n, rfl⟩
  · exact ⟨n, (t.slotDelta_ne hj v set src).trans hn⟩

/-- A slot that stands in the table once tests the delta once, in a state that has its slot and the time as they were. -/
theorem State.testSlots_once {ids : List Nat} {id : Nat} (hnd : ids.count id = 1) : ∃ t : State, Checks s t ∧
    tget t.route.slots id = tget s.route.slots id ∧ Checks (t.slotDelta id v set src) (s.testSlots v set src ids) ∧
    tget (s.testSlots v set src ids).route.slots id = tget (t.slotDelta id v set src).route.slots id := by
  obtain ⟨front, back, hids⟩ := List.append_of_mem (List.count_pos_iff.1 (hnd ▸ Nat.one_pos))
  rw [hids, List.count_append, List.count_cons_self] at hnd
  have hfront : id ∉ front := List.count_eq_zero.1 (by omega)
  have hback : id ∉ back := List.count_eq_zero.1 (by omega)
  have hsplit : s.testSlots v set src ids = ((s.testSlots v set src front).slotDelta id v set src).testSlots v set src back := by
    rw [hids, State.testSlots, List.foldl_append, List.foldl_cons]
    rfl
  rw [hsplit]
  exact ⟨s.testSlots v set src front, s.testSlots_checks v set src front, s.testSlots_other v set src front hfront,
    State.testSlots_checks _ v set src back, State.testSlots_other _ v set src back hback⟩

end

section
variable (s : State) (ids : List Nat)

/-- Bad words make their slots unknown. -/
def State.badSlots : State := (sinsAll [] ids).foldl State.slotWordUe s

theorem State.badSlots_checks : Checks s (s.badSlots ids) :=
  List.foldlRecOn (motive := Checks s) (sinsAll [] ids) _ (.refl s) fun t ht id _ => ht.trans (t.slotWordUe_checks id)

theorem State.badSlots_other {j : Nat} (hj : j ∉ ids) : tget (s.badSlots ids).route.slots j = tget s.route.slots j :=
  List.foldlRecOn (motive := fun t : State => tget t.route.slots j = tget s.route.slots j) (sinsAll [] ids) _ rfl fun t ht id hid =>
    (t.slotWordUe_ne fun (h : j = id) => hj (h ▸ (mem_sinsAll.1 hid).resolve_left List.not_mem_nil)).trans ht

theorem State.badSlots_self {j : Nat} {e : EdgeSlot} (hj : j ∈ ids) (h : tget s.route.slots j = some e) :
    tget (s.badSlots ids).route.slots j = some { e with unknown := true, bad := true } := by
  have hmem : j ∈ sinsAll [] ids := mem_sinsAll.2 (.inr hj)
  unfold State.badSlots
  generalize sinsAll [] ids = l at hmem
  have hkeep : ∀ (l : List Nat) (t : State), tget t.route.slots j = some { e with unknown := true, bad := true } →
      tget (l.foldl State.slotWordUe t).route.slots j = some { e with unknown := true, bad := true } := fun l t ht =>
    List.foldlRecOn (motive := fun t : State => tget t.route.slots j = some { e with unknown := true, bad := true }) l _ ht
      fun t ht id _ => by
        by_cases hid : j = id
        · subst hid
          exact State.slotWordUe_self (e := { e with unknown := true, bad := true }) ht
        · exact (t.slotWordUe_ne hid).trans ht
  induction l generalizing s with
  | nil => exact absurd hmem List.not_mem_nil
  | cons i l ih =>
    rw [List.foldl_cons]
    by_cases hi : j = i
    · subst hi
      exact hkeep l _ (State.slotWordUe_self h)
    · exact ih _ ((s.slotWordUe_ne hi).trans h) ((List.mem_cons.1 hmem).resolve_left hi)

/-- A key put in where it stands once stays once there, and other keys stand as often as before. -/
theorem count_keys_tset {α : Type} (t : List (Nat × α)) {k j : Nat} (a : α) (h : j ≠ k) :
    ((tset t k a).map Prod.fst).count j = (t.map Prod.fst).count j := by
  have hkj : ¬(k == j) = true := by simpa using Ne.symm h
  induction t with
  | nil => simp [tset, List.count_cons, hkj]
  | cons e t ih =>
    obtain ⟨i, b⟩ := e
    rw [tset]
    split
    · simp [List.count_cons, hkj]
    · split
      · next hi => simp [List.count_cons, hkj, hi]
      · simp [List.count_cons, ih]

theorem State.slotWordUe_count (s : State) {id j : Nat} (hj : j ≠ id) :
    ((s.slotWordUe id).route.slots.map Prod.fst).count j = (s.route.slots.map Prod.fst).count j := by
  cases h : tget s.route.slots id with
  | none => rw [State.slotWordUe_none h]
  | some e =>
    have hput : ∀ t : State, (t.route.slots.map Prod.fst).count j = (s.route.slots.map Prod.fst).count j → ∀ e,
        ((t.putEdgeSlot id e).route.slots.map Prod.fst).count j = (s.route.slots.map Prod.fst).count j := fun t ht e =>
      (count_keys_tset _ _ hj).trans ht
    rw [State.slotWordUe_some h]
    refine hput _ ?_ _
    split
    · exact hput s rfl _
    · rw [State.reportEdge_slots]
      exact hput s rfl _

theorem State.badSlots_count {j : Nat} (hj : j ∉ ids) :
    ((s.badSlots ids).route.slots.map Prod.fst).count j = (s.route.slots.map Prod.fst).count j :=
  List.foldlRecOn (motive := fun t : State => (t.route.slots.map Prod.fst).count j = (s.route.slots.map Prod.fst).count j)
    (sinsAll [] ids) _ rfl fun t ht id hid =>
      (t.slotWordUe_count fun (h : j = id) => hj (h ▸ (mem_sinsAll.1 hid).resolve_left List.not_mem_nil)).trans ht

end

/-- The state once the oldest word is granted, before the slots see it. -/
def State.grantWord (s : State) (w : Nat) (rest : List Nat) : State :=
  { s with route := { s.route with deltas := rest, granted := putVoxel s.route.granted (bitsOf w 47 0) (bitAt w 48) } }

/-- The oldest word granted, bad words read, and every slot tests it. -/
def State.grantAll (s : State) (w : Nat) (rest slotUe : List Nat) : State :=
  ((s.grantWord w rest).badSlots slotUe).testSlots (bitsOf w 47 0) (bitAt w 48) (bitsOf w 52 49)
    (((s.grantWord w rest).badSlots slotUe).route.slots.map Prod.fst)

section
variable {s u : State} {x : At} (hu : s.enter x = u)
include hu

theorem occDeltaGrant_idle {slotUe : List Nat} (hno : u.route.deltas = [] ∨ u.wafer.pause ≠ none) :
    exec (.occDeltaGrant x slotUe) s = .next u := by
  subst hu
  have row : exec (.occDeltaGrant x slotUe) s = execOccDeltaGrant x slotUe s := rfl
  rw [row, execOccDeltaGrant]
  dsimp only
  cases hd : (s.enter x).route.deltas with
  | nil => rfl
  | cons w rest =>
    refine congrArg Host.Outcome.next (if_pos ?_)
    rcases hno with hno | hno
    · simp [hno] at hd
    · simpa [Option.isSome_iff_ne_none] using hno

theorem occDeltaGrant_grants {slotUe : List Nat} {w : Nat} {rest : List Nat} (hd : u.route.deltas = w :: rest)
    (hp : u.wafer.pause = none) : exec (.occDeltaGrant x slotUe) s = .next (u.grantAll w rest slotUe) := by
  subst hu
  have row : exec (.occDeltaGrant x slotUe) s = execOccDeltaGrant x slotUe s := rfl
  rw [row, execOccDeltaGrant]
  dsimp only
  rw [hd]
  exact congrArg Host.Outcome.next (if_neg (by simp [hp]))

end

/-! ### RECOUNT_COMPLETE (14 R354, R355) -/

section
variable {s u : State} {x : At} (hu : s.enter x = u) {id : Nat}
include hu

theorem recountComplete_none (h : tget u.route.slots id = none) : exec (.recountComplete x id) s = .next u := by
  subst hu
  have row : exec (.recountComplete x id) s = execRecountComplete x id s := rfl
  rw [row, execRecountComplete]
  dsimp only
  rw [h]

section
variable {e : EdgeSlot} (h : tget u.route.slots id = some e)
include h

theorem recountComplete_nowhere (hs : u.slotFor id u.nextBinding.1 u.nextBinding.2 = none) :
    exec (.recountComplete x id) s = .next u := by
  subst hu
  have row : exec (.recountComplete x id) s = execRecountComplete x id s := rfl
  rw [row, execRecountComplete]
  dsimp only
  rw [h, hs]

theorem recountComplete_row {k : Nat} (hs : u.slotFor id u.nextBinding.1 u.nextBinding.2 = some k) :
    exec (.recountComplete x id) s = .next (if e.unknown && !u.slotsRoll (k / 2048) && (!e.bad || (u.row (k / 16384)).serving) then
      u.countSlot id (some k) else u) := by
  subst hu
  have row : exec (.recountComplete x id) s = execRecountComplete x id s := rfl
  rw [row, execRecountComplete]
  dsimp only
  rw [h, hs]

end

end

/-- A slot counted is known and bound; its record tells its state. -/
theorem State.countSlot_parts {s : State} {id : Nat} {e : EdgeSlot} (h : tget s.route.slots id = some e) (hu : e.unknown = true)
    (k : Option Nat) : ∃ r, (s.countSlot id k).route.recs = s.route.recs ++ [r] ∧ r.edge = id ∧
      r.state = b2n (decide (e.edge.threshold ≤ s.recount e.edge)) ∧
      tget (s.countSlot id k).route.slots id = some { e with slot := k, count := s.recount e.edge, unknown := false, bad := false } ∧
      (∀ j, j ≠ id → tget (s.countSlot id k).route.slots j = tget s.route.slots j) ∧
      s.countSlot id k = { s with route := (s.countSlot id k).route } := by
  have heq : s.countSlot id k = (s.putEdgeSlot id { e with slot := k, count := s.recount e.edge, unknown := false, bad := false }).reportEdge
      id 0xFF 0 := by
    rw [State.countSlot, h]
    exact if_pos hu
  have hself : tget (s.putEdgeSlot id { e with slot := k, count := s.recount e.edge, unknown := false, bad := false }).route.slots id =
      some { e with slot := k, count := s.recount e.edge, unknown := false, bad := false } := tget_tset_self _ _ _
  obtain ⟨b, q, ht⟩ := State.reportEdge_parts hself 0xFF 0
  rw [heq, ht]
  exact ⟨_, rfl, rfl, EdgeSlot.state_known (e := { e with slot := k, count := s.recount e.edge, unknown := false, bad := false }) rfl,
    hself, fun j hj => tget_tset_ne _ _ _ _ hj, rfl⟩

/-! ### EDGE_READ (14 Table 14-3) -/

theorem State.edgeRecord_parts (s : State) (id : Nat) : (s.edgeRecord id).length = 32 ∧ fieldN (s.edgeRecord id) 0 4 = id % 2 ^ 32 ∧
    (tget s.route.slots id = none → fieldN (s.edgeRecord id) 4 4 = 0xFFFFFFFF) ∧
    ∀ e, tget s.route.slots id = some e → fieldN (s.edgeRecord id) 8 1 = e.state % 256 ∧
      fieldN (s.edgeRecord id) 18 2 = e.edge.threshold % 65536 ∧ fieldN (s.edgeRecord id) 20 4 = e.count % 2 ^ 32 := by
  have here : ∀ (n w : Nat) (b : Bytes), fieldN (toLE n w ++ b) 0 n = w % 256 ^ n := fun n w b => fieldN_toLE [] b n w
  unfold State.edgeRecord
  cases h : tget s.route.slots id with
  | none =>
    simp only [List.append_assoc]
    refine ⟨by simp [toLE_length], here 4 id _, fun _ => ?_, fun e he => by simp at he⟩
    exact (fieldN_append_right (toLE_length 4 id) 0 4).trans ((here 4 noId _).trans rfl)
  | some e =>
    simp only [List.append_assoc]
    refine ⟨by simp [toLE_length], here 4 id _, fun hn => by simp at hn, fun f hf => ?_⟩
    obtain rfl := Option.some.inj hf
    refine ⟨?_, ?_, ?_⟩
    · rw [← List.append_assoc]
      exact fieldN_toLE_behind (by simp [toLE_length]) 1 e.state
    · simp only [← List.append_assoc _ _ (toLE 2 e.edge.threshold ++ _)]
      exact fieldN_toLE_behind (by simp [toLE_length]) 2 e.edge.threshold
    · simp only [← List.append_assoc _ _ (toLE 4 e.count ++ _)]
      exact fieldN_toLE_behind (by simp [toLE_length]) 4 e.count

theorem edgeRead_row {s u : State} {x : At} (hu : s.enter x = u) {c : Cmd} {dt : Option Bytes}
    (hc : Accepted u.host c.qp c.tag 0x0701 c) : exec (.edgeRead x c.qp c.tag dt) s = .next (u.complete c.qp c.tag stOK 0
      (catB ((List.range' (fieldN c.params 0 4) (fieldN c.params 4 4)).map u.edgeRecord))) := exec_of_run hu hc rfl rfl

end Sys2Proof.Machine
end

section
/-! PROOF. A word granted reaches every checker (14 R352, R353, R355). -/

namespace Sys2Proof.Machine

open Sys2Proof

section
variable {u : State} {w : Nat} {rest slotUe : List Nat}

theorem State.grantAll_checks : Checks (u.grantWord w rest) (u.grantAll w rest slotUe) :=
  ((u.grantWord w rest).badSlots_checks slotUe).trans (State.testSlots_checks _ _ _ _ _)

/-- A slot of which a bad word was read is unknown. -/
theorem State.grantAll_bad {id : Nat} {e : EdgeSlot} (he : tget u.route.slots id = some e) (hid : id ∈ slotUe) :
    ∃ f, tget (u.grantAll w rest slotUe).route.slots id = some f ∧ f.unknown = true ∧ f.bad = true ∧ f.slot = e.slot ∧ f.edge = e.edge := by
  obtain ⟨n, hn⟩ := State.testSlots_keeps _ (bitsOf w 47 0) (bitAt w 48) (bitsOf w 52 49)
    (((u.grantWord w rest).badSlots slotUe).route.slots.map Prod.fst) (State.badSlots_self (u.grantWord w rest) slotUe hid he)
  exact ⟨_, hn, rfl, rfl, rfl, rfl⟩

/-- Any other slot tests the delta once, at the tick of the grant. -/
theorem State.grantAll_tests {id : Nat} {e : EdgeSlot} (hnd : (u.route.slots.map Prod.fst).Nodup)
    (he : tget u.route.slots id = some e) (hid : id ∉ slotUe) :
    tget (u.grantAll w rest slotUe).route.slots id =
      some (if e.edge.holds (bitsOf w 47 0) = true ∧ e.slot ≠ none then e.counts (bitAt w 48) else e) ∧
    (e.edge.holds (bitsOf w 47 0) = true → e.slot ≠ none → e.unknown = false →
      decide (e.edge.threshold ≤ e.count) ≠ decide (e.edge.threshold ≤ (e.counts (bitAt w 48)).count) →
      ∃ r ∈ (u.grantAll w rest slotUe).route.recs, r.edge = id ∧
        r.state = b2n (decide (e.edge.threshold ≤ (e.counts (bitAt w 48)).count)) ∧ r.tick = u.time.tick + u.decideTicks) := by
  have hmem : id ∈ u.route.slots.map Prod.fst := List.mem_map.2 ⟨_, mem_of_tget he, rfl⟩
  have hcount : (((u.grantWord w rest).badSlots slotUe).route.slots.map Prod.fst).count id = 1 :=
    ((u.grantWord w rest).badSlots_count slotUe hid).trans (List.count_eq_one_of_mem hnd hmem)
  obtain ⟨t, hbefore, hslot, hafter, hfinal⟩ := State.testSlots_once ((u.grantWord w rest).badSlots slotUe) (bitsOf w 47 0) (bitAt w 48)
    (bitsOf w 52 49) hcount
  have hget : tget t.route.slots id = some e := (hslot.trans ((u.grantWord w rest).badSlots_other slotUe hid)).trans he
  have hall := ((u.grantWord w rest).badSlots_checks slotUe).trans hbefore
  refine ⟨hfinal.trans (State.slotDelta_self hget), fun hv hs hknown hcross => ?_⟩
  obtain ⟨r, hr, hedge, hstate, htick⟩ := State.slotDelta_record (src := bitsOf w 52 49) hget hv hs hknown hcross
  have htime : t.time.tick + t.decideTicks = u.time.tick + u.decideTicks :=
    (congrArg (fun v : State => v.time.tick + v.decideTicks) hall.rest :)
  exact ⟨r, hafter.recs.subset hr, hedge, hstate, htick.trans htime⟩

end

end Sys2Proof.Machine

open Sys2Proof Sys2Proof.Machine

/-- Settles O46: the words passed by induction on their number, a grant by `State.grantAll_tests` for each slot, a recount by
`State.countSlot_parts`. -/
theorem occupancyReachesTheCheckers : Obligations.OccupancyReachesTheCheckers := by
  unfold Obligations.OccupancyReachesTheCheckers
  refine ⟨fun s u x qp tag dt c w n hu hw hn hc m hm hnd => ?_, fun s u x slotUe hu => ⟨occDeltaGrant_idle hu.symm,
    fun w rest hd hp hnd hkeys => ?_⟩, fun s u x id hu => ⟨recountComplete_none hu.symm, fun e he => ⟨fun hno => ?_,
    fun k hunk hslot hroll hserve => ?_⟩⟩, fun s u x qp tag dt c hu hc => ?_⟩
  · obtain ⟨rfl, rfl⟩ := find_name hc.1.1
    obtain rfl : w = injected c := funext hw
    subst hn
    have row := occInject_row hu.symm (dt := dt) hm hc
    have hall : ((List.range (fieldN c.params 0 2)).map (injected c)).all (inSite m.site.route.extent) = true ↔
        ∀ i, i < fieldN c.params 0 2 → injected c i % 65536 < m.site.route.extent.1 ∧
          injected c i / 65536 % 65536 < m.site.route.extent.2.1 ∧ injected c i / 4294967296 % 65536 < m.site.route.extent.2.2 := by
      simp only [List.all_eq_true, List.mem_map, List.mem_range, forall_exists_index, and_imp, forall_apply_eq_imp_iff₂, inSite_iff]
    refine ⟨fun hout => ?_, fun hin => ⟨fun hfull => ?_, fun hroom => ?_⟩⟩
    · rw [if_pos] at row
      · exact answeredWith_of_completes hc.1 row
      · obtain ⟨i, hi, hbad⟩ := hout
        rw [Bool.not_eq_true', Bool.eq_false_iff]
        intro h
        have := hall.1 h i hi
        omega
    · rwa [if_neg (by rw [hall.2 hin]; decide), if_pos hfull] at row
    · rw [if_neg (by rw [hall.2 hin]; decide), if_neg (Nat.not_lt.2 hroom)] at row
      obtain ⟨l, hcount, hdeltas, hwords, heq⟩ := u.passWords_parts (u.cmdSuper c) (injected c) (fieldN c.params 0 2)
      obtain ⟨-, hlast, hother⟩ := u.passWords_map (u.cmdSuper c) (injected c) (fieldN c.params 0 2) hnd
      have hone : fieldN c.params 0 2 = 1 → (l.length = 1 ↔
          ¬(injected c 0 % 2 ^ 48 ∈ u.route.occupied ↔ (injected c 0).testBit 48 = true)) := fun h1 => by
        rw [← hcount, h1]
        exact u.passWords_one (u.cmdSuper c) (injected c)
      generalize u.passWords (u.cmdSuper c) (injected c) (fieldN c.params 0 2) = q at *
      rw [hcount] at row
      obtain ⟨t, hrow, hans, ht⟩ := answered_of_completes_after (u := u) hc.1 row (congrArg State.host heq :)
        (congrArg (·.ep.epoch) heq :) (congrArg State.time heq :)
      have hocc : t.route.occupied = q.2.route.occupied := (congrArg (·.route.occupied) ht :)
      have hdel : t.route.deltas = q.2.route.deltas := (congrArg (·.route.deltas) ht :)
      refine ⟨t, l, hrow, hans, hdel.trans hdeltas, fun d hd => ?_, ?_, ?_, hone, ?_⟩
      · obtain ⟨i, hi, hd⟩ := hwords d hd
        exact ⟨i, hi, hd.trans (deltaWord_host _ _)⟩
      · rw [hocc]
        exact hlast
      · rw [hocc]
        exact hother
      · rw [hocc, hdel]
        refine ht.trans ?_
        exact congrArg (fun v : State => { v with host := t.host }) heq
  · refine ⟨_, occDeltaGrant_grants hu.symm hd hp, ?_, ?_, ?_, fun v hv => ?_, fun id e he hid => ?_, fun id e he hid =>
      State.grantAll_bad he hid⟩
    · exact (State.grantAll_checks).rest
    · exact (State.grantAll_checks).deltas
    · rw [(State.grantAll_checks).granted, State.grantWord, ← bitsOf_voxel, mem_putVoxel hnd, if_pos rfl, bitAt]
    · rw [(State.grantAll_checks).granted, State.grantWord, bitsOf_voxel, mem_putVoxel hnd, if_neg hv]
    · obtain ⟨hself, hrec⟩ := State.grantAll_tests (w := w) (rest := rest) hkeys he hid
      rw [bitsOf_voxel, bitAt] at hself hrec
      refine ⟨fun hno => ?_, fun hv hs => ⟨fun hset => ?_, fun hset => ?_, fun hset hk hcount => ?_, fun hset hk hcount hpos => ?_⟩⟩
      · rw [hself, if_neg]
        rintro ⟨hv, hs⟩
        rcases hno with hno | hno
        · rw [hno] at hv
          exact absurd hv (by decide)
        · exact hs hno
      · rw [hself, if_pos ⟨hv, hs⟩, hset]
        rfl
      · rw [hself, if_pos ⟨hv, hs⟩, hset]
        rfl
      · rw [hset] at hrec
        have hn : (e.counts true).count = e.count + 1 := rfl
        rw [hn, decide_eq_false (by omega), decide_eq_true (by omega)] at hrec
        exact hrec hv hs hk (by decide)
      · rw [hset] at hrec
        have hn : (e.counts false).count = e.count - 1 := rfl
        rw [hn, decide_eq_true (by omega), decide_eq_false (by omega)] at hrec
        exact hrec hv hs hk (by decide)
  · rcases hno with hno | hno
    · cases hs : u.slotFor id u.nextBinding.1 u.nextBinding.2 with
      | none => exact recountComplete_nowhere hu.symm he hs
      | some k => rw [recountComplete_row hu.symm he hs, if_neg (by simp [hno])]
    · exact recountComplete_nowhere hu.symm he hno
  · have row := recountComplete_row hu.symm he hslot
    rw [if_pos] at row
    · obtain ⟨r, hrecs, hedge, hstate, hself, hother, hrest⟩ := State.countSlot_parts he hunk (some k)
      refine ⟨_, r, row, hrest, hself, hother, hrecs, hedge, ?_⟩
      rw [hstate, ← State.recount]
      by_cases hle : e.edge.threshold ≤ u.recount e.edge <;> simp [hle, b2n]
    · rcases hserve with hserve | hserve <;> simp [hunk, hroll, hserve, StoreRow.serving]
  · obtain ⟨rfl, rfl⟩ := find_name hc.1.1
    obtain ⟨t, hrow, hho, hans⟩ := answeredWith_of_completes hc.1 (edgeRead_row hu.symm (dt := dt) hc)
    have hall : ∀ b ∈ (List.range' (fieldN c.params 0 4) (fieldN c.params 4 4)).map u.edgeRecord, b.length = 32 :=
      List.forall_mem_map.2 fun id _ => (u.edgeRecord_parts id).1
    refine ⟨t, _, hrow, hho, hans, by rw [catB_length hall, List.length_map, List.length_range'], fun k hk => ?_⟩
    obtain ⟨-, hid, hnone, hsome⟩ := u.edgeRecord_parts (fieldN c.params 0 4 + k)
    have hget : ((List.range' (fieldN c.params 0 4) (fieldN c.params 4 4)).map u.edgeRecord)[k]? =
        some (u.edgeRecord (fieldN c.params 0 4 + k)) := by
      rw [List.getElem?_map, List.getElem?_range' hk, Nat.one_mul]
      rfl
    have hfield : ∀ off len, off + len ≤ 32 → fieldN (catB ((List.range' (fieldN c.params 0 4) (fieldN c.params 4 4)).map u.edgeRecord))
        (32 * k + off) len = fieldN (u.edgeRecord (fieldN c.params 0 4 + k)) off len := fun off len h => fieldN_catB hall hget h
    refine ⟨(hfield 0 4 (by decide)).trans hid, fun hn => (hfield 4 4 (by decide)).trans (hnone hn), fun e he => ?_⟩
    obtain ⟨hst, hth, hct⟩ := hsome e he
    refine ⟨(hfield 8 1 (by decide)).trans (hst.trans ?_), (hfield 18 2 (by decide)).trans hth, (hfield 20 4 (by decide)).trans hct⟩
    unfold EdgeSlot.state
    by_cases hk : e.unknown = true
    · simp [hk]
    · by_cases hle : e.edge.threshold ≤ e.count <;> simp [hk, hle, b2n]
end

section
/-! PROOF. Agents bind and report (16 R405 to R407, R413, R417, R419, R420). -/

namespace Sys2Proof.Machine

open Sys2Proof

/-! ### What sending to agents leaves alone -/

/-- A state less the sequence numbers of agents' messages, the agent transmitters and what is due of them. -/
def State.sansTx (s : State) : State :=
  { s with agent := { s.agent with seqs := [], sent := [], waiting := [], busy := [] }, due := [] }

theorem eq_of_sansTx {s t : State} (h : t.sansTx = s.sansTx) : t = { s with
    agent := { s.agent with
      seqs := t.agent.seqs
      sent := t.agent.sent
      waiting := t.agent.waiting
      busy := t.agent.busy }
    due := t.due } :=
  (congrArg (fun v : State => { v with
    agent := { v.agent with
      seqs := t.agent.seqs
      sent := t.agent.sent
      waiting := t.agent.waiting
      busy := t.agent.busy }
    due := t.due }) h :)

theorem State.agentTx_sansTx (s : State) (b : Binding) (m : Bytes) : (s.agentTx b m).sansTx = s.sansTx := by
  rw [State.agentTx, State.txFrame_eq _ _ _ (by decide : (5 : Nat) ≠ 6)]
  rfl

theorem State.agentTx_seqs (s : State) (b : Binding) (m : Bytes) : (s.agentTx b m).agent.seqs = s.agent.seqs := by
  rw [State.agentTx, State.txFrame_eq _ _ _ (by decide : (5 : Nat) ≠ 6)]

/-- The counter of an agent's queue-5 messages. -/
def seqKey (a : Nat) : Nat := 256 * a + 5

theorem State.sendSeg_unbound {s : State} {a : Nat} (h : tget s.agent.bindings a = none) (m : Bytes) : s.sendSeg a m = s := by
  rw [State.sendSeg, h]

@[simp] theorem State.sendSeg_sansTx (s : State) (a : Nat) (m : Bytes) : (s.sendSeg a m).sansTx = s.sansTx := by
  unfold State.sendSeg
  split
  · rfl
  · exact (State.agentTx_sansTx _ _ _).trans rfl

theorem State.sendSeg_seqs {s : State} {a : Nat} {b : Binding} (h : tget s.agent.bindings a = some b) (m : Bytes) :
    (s.sendSeg a m).agent.seqs = tset s.agent.seqs (seqKey a) ((tgetD s.agent.seqs (seqKey a) 0 + 1) % 65536) := by
  rw [State.sendSeg, h]
  exact State.agentTx_seqs _ _ _

/-! ### Segments sent in order -/

/-- Payloads sent to an agent in order. -/
def State.sendSegs (s : State) (a : Nat) (ps : List Bytes) : State := ps.foldl (fun s p => s.sendSeg a p) s

section
variable (s : State) (a : Nat) (ps : List Bytes)

@[simp] theorem State.sendSegs_sansTx : (s.sendSegs a ps).sansTx = s.sansTx :=
  foldl_keeps State.sansTx _ (fun t p => t.sendSeg_sansTx a p) _ _

variable {s a}

theorem State.sendSegs_unbound (h : tget s.agent.bindings a = none) : s.sendSegs a ps = s :=
  List.foldlRecOn (motive := fun t => t = s) ps _ rfl fun t ht p _ => by rw [ht, State.sendSeg_unbound h]

/-- Each segment takes the agent's next sequence number. -/
theorem State.sendSegs_seqs {b : Binding} (h : tget s.agent.bindings a = some b) (hlt : tgetD s.agent.seqs (seqKey a) 0 < 65536) :
    tgetD (s.sendSegs a ps).agent.seqs (seqKey a) 0 = (tgetD s.agent.seqs (seqKey a) 0 + ps.length) % 65536 ∧
    ∀ k, k ≠ seqKey a → tget (s.sendSegs a ps).agent.seqs k = tget s.agent.seqs k := by
  induction ps generalizing s with
  | nil => exact ⟨(Nat.mod_eq_of_lt hlt).symm, fun _ _ => rfl⟩
  | cons p ps ih =>
    have hseqs := State.sendSeg_seqs h p
    have hbound : tget (s.sendSeg a p).agent.bindings a = some b :=
      ((congrArg (fun v : State => tget v.agent.bindings a) (s.sendSeg_sansTx a p) :)).trans h
    have hnext : tgetD (s.sendSeg a p).agent.seqs (seqKey a) 0 = (tgetD s.agent.seqs (seqKey a) 0 + 1) % 65536 := by
      rw [hseqs, tgetD_tset_self]
    obtain ⟨hcount, hother⟩ := ih hbound (by rw [hnext]; exact Nat.mod_lt _ (by decide))
    refine ⟨hcount.trans ?_, fun k hk => (hother k hk).trans ?_⟩
    · rw [hnext, List.length_cons]
      omega
    · rw [hseqs, tget_tset_ne _ _ _ _ hk]

end

/-! ### What is not acknowledged is sent again (16 R419, R420) -/

/-- The segments a route still has to send: those not acknowledged, and a hold that is due. -/
def resentSegs (segs : List Bytes) (v : Route) : List Bytes := segs.drop v.segsOk ++ (v.holdDue.map (holdSeg v)).toList

/-- What an agent's route has sent again. -/
def State.resend (s : State) (a : Nat) (v : Route) : State :=
  match v.holdDue with
  | some h => (s.sendRoute a v.segsOk).sendSeg a (holdSeg v h)
  | none => s.sendRoute a v.segsOk

theorem State.sendRoute_eq (s : State) (a k : Nat) :
    s.sendRoute a k = s.sendSegs a (((s.agentMap a).map fun r => routeSegs r (s.routeOf a)).getD [] |>.drop k) := by
  unfold State.sendRoute
  cases s.agentMap a with
  | none => simp [State.sendSegs]
  | some r => rfl

theorem State.resend_eq (s : State) (a : Nat) (v : Route) :
    s.resend a v = s.sendSegs a (resentSegs (((s.agentMap a).map fun r => routeSegs r (s.routeOf a)).getD []) v) := by
  have hroute := s.sendRoute_eq a v.segsOk
  rw [State.resend, resentSegs, State.sendSegs, List.foldl_append]
  cases v.holdDue with
  | none => exact hroute
  | some h => exact congrArg (State.sendSeg · a (holdSeg v h)) hroute

section
variable {s u : State} {x : At} (hu : s.enter x = u) {a : Nat}
include hu

theorem routeRetry_idle (hno : (u.routeOf a).st = .idle ∨ u.unit.state ≠ .run) : exec (.routeRetryTimer x a) s = .next u := by
  subst hu
  exact congrArg Host.Outcome.next (if_pos hno)

theorem routeRetry_resends (hst : (u.routeOf a).st ≠ .idle) (hrun : u.unit.state = .run) :
    exec (.routeRetryTimer x a) s = .next (u.resend a (u.routeOf a)) := by
  subst hu
  exact congrArg Host.Outcome.next (if_neg (by simp [hst, hrun]))

end

/-! ### HELLO (16 R405, R406) -/

section
variable (s : State) (f : EthFrame)

/-- The agent's binding where its HELLO names. -/
def helloBinding : Binding := { port := f.port, mac := f.src, vlan := f.vlan }

/-- The state once a HELLO has bound its agent. -/
def State.helloBound : State :=
  if s.helloResult f = 0 then { s with agent := { s.agent with bindings := tset s.agent.bindings (agAgent f) (helloBinding f) } } else s

/-- The answer's payload. -/
def State.helloBody : Bytes :=
  if s.helloResult f = 0 then toLE 4 (s.routeOf (agAgent f)).version ++ toLE 4 (s.agentClass (s.agentClassOf (agAgent f))).cycle ++
    toLE 4 (s.agentClass (s.agentClassOf (agAgent f))).window
  else toLE 12 0

/-- The answer to a HELLO, sent to its source. -/
def State.helloSent : State :=
  (s.helloBound f).agentTx (helloBinding f) ((s.helloBound f).agentHead 1 (agAgent f) (fieldN f.body 4 2) 16 ++
    toLE 1 (s.helloResult f) ++ toLE 3 0 ++ s.helloBody f)

/-- The HELLO finds a route waiting for its agent. -/
def State.helloAwaited : Bool :=
  s.helloResult f == 0 && (tget s.agent.bindings (agAgent f)).isNone && (s.routeOf (agAgent f)).st != .idle && (s.helloSent f).unit.state == .run

theorem State.helloBound_bindings : (s.helloBound f).agent.bindings =
    if s.helloResult f = 0 then tset s.agent.bindings (agAgent f) (helloBinding f) else s.agent.bindings := by
  unfold State.helloBound
  split <;> rfl

theorem State.helloBound_eq :
    s.helloBound f = { s with agent := { s.agent with bindings := (s.helloBound f).agent.bindings } } := by
  unfold State.helloBound
  split <;> rfl

theorem State.helloSent_unit : (s.helloSent f).unit = s.unit := by
  have hsent : (s.helloSent f).unit = (s.helloBound f).unit := (congrArg State.unit (State.agentTx_sansTx _ _ _) :)
  rw [hsent, State.helloBound_eq]

theorem State.helloResult_lt : s.helloResult f < 256 := by
  unfold State.helloResult
  dsimp only
  split
  · decide
  · split
    · decide
    · split <;> decide

/-- The bytes of the answer. -/
theorem State.helloAnswer_fields : ∃ m, s.helloSent f = (s.helloBound f).txFrame f.port 5
      (ethFrame f.src (s.unit.macs.getD f.port []) (f.vlan.map fun v => (5, v)) 0x88B5 m) ∧
    m.length = 40 ∧ fieldN m 0 1 = 1 ∧ fieldN m 2 2 = agAgent f % 65536 ∧ fieldN m 4 2 = fieldN f.body 4 2 ∧
    fieldN m 24 1 = s.helloResult f := by
  have hbody : (s.helloBody f).length = 12 := by
    unfold State.helloBody
    split <;> simp [toLE_length]
  have hunit : (s.helloBound f).unit = s.unit := by rw [State.helloBound_eq]
  have hhead := (s.helloBound f).agentHead_length 1 (agAgent f) (fieldN f.body 4 2) 16
  refine ⟨(s.helloBound f).agentHead 1 (agAgent f) (fieldN f.body 4 2) 16 ++ (toLE 1 (s.helloResult f) ++ (toLE 3 0 ++ s.helloBody f)),
    ?_, ?_, ?_, ?_, ?_, ?_⟩
  · rw [State.helloSent, State.agentTx, hunit, List.append_assoc, List.append_assoc]
    rfl
  · simp [hhead, toLE_length, hbody]
  · rw [fieldN_append_left (by rw [hhead]; decide), State.agentHead_type]
  · rw [fieldN_append_left (by rw [hhead]; decide), State.agentHead_agent]
  · rw [fieldN_append_left (by rw [hhead]; decide), State.agentHead_seq]
    exact Nat.mod_eq_of_lt (fieldN_lt _ _ _)
  · rw [fieldN_toLE_behind hhead]
    exact Nat.mod_eq_of_lt (s.helloResult_lt f)

end

section
variable {s u : State} {x : At} (hu : s.enter x = u) {k : Nat} {f : EthFrame}
include hu

theorem hello_ignored (h : u.agentTakes f 1 = false) : exec (.hello x k f) s = .next u := by
  subst hu
  exact congrArg Host.Outcome.next (if_pos (by simp [h]))

theorem hello_row (h : u.agentTakes f 1 = true) : exec (.hello x k f) s =
    .next (if u.helloAwaited f then (u.helloSent f).resend (agAgent f) (u.routeOf (agAgent f)) else u.helloSent f) := by
  subst hu
  have row : exec (.hello x k f) s = execHello x k f s := rfl
  rw [row, execHello]
  dsimp only
  rw [h]
  exact congrArg Host.Outcome.next (if_neg (by decide))

end

/-- After a HELLO the bindings are those it made, whatever was sent. -/
theorem State.hello_bindings {t s : State} {f : EthFrame}
    (ht : t = if s.helloAwaited f then (s.helloSent f).resend (agAgent f) (s.routeOf (agAgent f)) else s.helloSent f) :
    t.agent.bindings = (s.helloBound f).agent.bindings := by
  have hsent : (s.helloSent f).sansTx = (s.helloBound f).sansTx := State.agentTx_sansTx _ _ _
  have hmask : t.sansTx = (s.helloBound f).sansTx := by
    rw [ht]
    split
    · rw [State.resend_eq, State.sendSegs_sansTx, hsent]
    · exact hsent
  exact (congrArg (·.agent.bindings) hmask :)

/-! ### ODO (16 R413) -/

/-- The samples of an ODO message stamped in a domain, in order. -/
def State.odoUse (s : State) (p : Bytes) : List (Bytes × Sample) :=
  (((List.range (fieldN p 0 1)).map fun i => sliceB p (8 + 56 * i) 56).filter fun b => within 1 2 (lktDom b)).map fun b =>
    (sliceB b 0 16, odoSample s.time.localC s.domPairs b)

/-- No sample of a list is later than the one kept. -/
def Latest (kept : Option (Bytes × Sample)) (l : List (Bytes × Sample)) : Prop :=
  ∀ e ∈ l, ∃ n, kept = some n ∧ e.2.stamp ≤ n.2.stamp

theorem laterSample_ge (a : Option (Bytes × Sample)) (b : Bytes × Sample) : ∃ n, laterSample a b = some n ∧
    b.2.stamp ≤ n.2.stamp ∧ ∀ m, a = some m → m.2.stamp ≤ n.2.stamp := by
  cases a with
  | none => exact ⟨b, rfl, le_rfl, fun m hm => by simp at hm⟩
  | some p =>
    by_cases h : p.2.stamp < b.2.stamp
    · exact ⟨b, if_pos h, le_rfl, fun m hm => Option.some.inj hm ▸ h.le⟩
    · exact ⟨p, if_neg h, Nat.le_of_not_lt h, fun m hm => Option.some.inj hm ▸ le_rfl⟩

theorem foldl_laterSample_latest (l : List (Bytes × Sample)) : ∀ a, Latest (l.foldl laterSample a) l ∧
    ∀ m, a = some m → ∃ n, l.foldl laterSample a = some n ∧ m.2.stamp ≤ n.2.stamp := by
  induction l with
  | nil => exact fun a => ⟨fun e he => absurd he List.not_mem_nil, fun m hm => ⟨m, hm, le_rfl⟩⟩
  | cons b l ih =>
    intro a
    obtain ⟨hlatest, hkeep⟩ := ih (laterSample a b)
    obtain ⟨n, hn, hb, ha⟩ := laterSample_ge a b
    obtain ⟨q, hq, hnq⟩ := hkeep n hn
    refine ⟨fun e he => ?_, fun m hm => ⟨q, hq, (ha m hm).trans hnq⟩⟩
    rcases List.mem_cons.1 he with rfl | he
    · exact ⟨q, hq, hb.trans hnq⟩
    · exact hlatest e he

/-- The sample kept of the newest of a message and the cached one. -/
def keptSample (new old : Option (Bytes × Sample)) : Option (Bytes × Sample) :=
  match new, old with
  | some n, some o => if o.2.stamp < n.2.stamp then some n else some o
  | some n, none => some n
  | none, o => o

theorem keptSample_ge {n : Bytes × Sample} (old : Option (Bytes × Sample)) :
    ∃ e, keptSample (some n) old = some e ∧ n.2.stamp ≤ e.2.stamp := by
  cases old with
  | none => exact ⟨n, rfl, le_rfl⟩
  | some o =>
    by_cases h : o.2.stamp < n.2.stamp
    · exact ⟨n, if_pos h, le_rfl⟩
    · exact ⟨o, if_neg h, Nat.le_of_not_lt h⟩

/-- The state once the agent's track slot has the samples. -/
def State.odoTrack (s : State) (d : AgentDesc) (use : List (Bytes × Sample)) : State :=
  if s.trackHeld d.track then s.setTrack d.track (use.foldl (fun k e => k.addSample e.2) (s.track d.track)) else s

/-- The state once the cache has the newest sample. -/
def State.odoCache (s : State) (id : Nat) (new : Option (Bytes × Sample)) : State :=
  { s with agent := { s.agent with cache := tset s.agent.cache id { s.cacheOf id with sample := keptSample new (s.cacheOf id).sample } } }

section
variable (s : State) (id : Nat) (new : Option (Bytes × Sample)) (ids : List Nat)

theorem State.odoCache_self : ((s.odoCache id new).refreshPoses ids).cacheOf id =
    { s.cacheOf id with sample := keptSample new (s.cacheOf id).sample } := tgetD_tset_self _ _ _ _

theorem State.odoCache_ne {b : Nat} (hb : b ≠ id) : ((s.odoCache id new).refreshPoses ids).cacheOf b = s.cacheOf b :=
  tgetD_tset_ne _ _ _ hb

end

section
variable {s u : State} {x : At} (hu : s.enter x = u) {k : Nat} {f : EthFrame}
include hu

theorem odo_ignored (h : u.agentTakes f 4 = false) : exec (.odo x k f) s = .next u := by
  subst hu
  exact congrArg Host.Outcome.next (if_pos (by simp [h]))

theorem odo_noAgent (hd : u.agentDesc (agAgent f) = none) : exec (.odo x k f) s = .next u := by
  subst hu
  have row : exec (.odo x k f) s = execOdo x k f s := rfl
  rw [row, execOdo]
  dsimp only
  rw [hd, ite_self]

theorem odo_row (h : u.agentTakes f 4 = true) {d : AgentDesc} (hd : u.agentDesc (agAgent f) = some d) : exec (.odo x k f) s =
    .next (((u.odoTrack d (u.odoUse (agPayload f))).odoCache d.id
      ((u.odoUse (agPayload f)).foldl laterSample none)).refreshPoses [d.id]) := by
  subst hu
  have row : exec (.odo x k f) s = execOdo x k f s := rfl
  rw [row, execOdo]
  dsimp only
  rw [hd]
  exact congrArg Host.Outcome.next (if_neg (by simp [h]))

end

theorem State.odoTrack_eq (s : State) (d : AgentDesc) (use : List (Bytes × Sample)) :
    s.odoTrack d use = { s with stg := { s.stg with tracks := (s.odoTrack d use).stg.tracks } } := by
  unfold State.odoTrack
  split <;> rfl

theorem State.odoTrack_other (s : State) (d : AgentDesc) (use : List (Bytes × Sample)) {j : Nat} (hj : j ≠ d.track) :
    (s.odoTrack d use).track j = s.track j := by
  unfold State.odoTrack
  split
  · exact tgetD_tset_ne _ _ _ hj
  · rfl

theorem State.agentDesc_id {s : State} {a : Nat} {d : AgentDesc} (h : s.agentDesc a = some d) : d.id = a := by
  obtain ⟨m, -, hfind⟩ := Option.bind_eq_some_iff.1 h
  simpa using List.find?_some hfind

/-! ### ROUTE_ACK (16 R419, R420) -/

/-- The route with an acknowledgement's progress. -/
def ackedRoute (v : Route) (p : Bytes) : Route :=
  { v with
    segsOk := fieldN p 4 2
    current := min (fieldN p 6 2) (v.edges.length - 1)
    holdDue := if bitAt (fieldN p 8 1) 1 then none else v.holdDue }

section
variable {s u : State} {x : At} (hu : s.enter x = u) {k : Nat} {f : EthFrame}
include hu

theorem routeAck_ignored (h : u.agentTakes f 6 = false) : exec (.routeAck x k f) s = .next u := by
  subst hu
  exact congrArg Host.Outcome.next (if_pos (by simp [h]))

section
variable (h : u.agentTakes f 6 = true)
include h

theorem routeAck_stale (hno : (u.routeOf (agAgent f)).st = .idle ∨ (u.routeOf (agAgent f)).version ≠ fieldN (agPayload f) 0 4) :
    exec (.routeAck x k f) s = .next u := by
  subst hu
  exact congrArg Host.Outcome.next ((if_neg (by simp [h])).trans (if_pos hno))

theorem routeAck_row (hst : (u.routeOf (agAgent f)).st ≠ .idle) (hver : (u.routeOf (agAgent f)).version = fieldN (agPayload f) 0 4) :
    exec (.routeAck x k f) s = .next (if bitAt (fieldN (agPayload f) 8 1) 0 && (u.routeOf (agAgent f)).st == .active then
      (u.setRoute (agAgent f) (ackedRoute (u.routeOf (agAgent f)) (agPayload f))).endRoute (agAgent f) 3
      else u.setRoute (agAgent f) (ackedRoute (u.routeOf (agAgent f)) (agPayload f))) := by
  subst hu
  exact congrArg Host.Outcome.next ((if_neg (by simp [h])).trans (if_neg (by simp [hst, hver])))

end

end

end Sys2Proof.Machine

open Sys2Proof Sys2Proof.Machine

/-- Settles O52: a HELLO's answer is `State.helloAnswer_fields`, the sample kept `foldl_laterSample_latest`, what is sent again
`State.sendSegs_seqs`. -/
theorem agentsBindAndReport : Obligations.AgentsBindAndReport := by
  unfold Obligations.AgentsBindAndReport
  refine ⟨fun s u x k f a hu ha => ⟨hello_ignored hu.symm, odo_ignored hu.symm, routeAck_ignored hu.symm, fun htakes => ?_,
    fun htakes => ⟨fun hd => odo_noAgent hu.symm (ha ▸ hd), fun d hd => ?_⟩, fun htakes v hv => ⟨fun hno => ?_, fun hst hver =>
    ⟨fun hdone => ?_, fun hdone hact => ?_⟩⟩⟩, fun s u x a hu => ⟨fun hno => ?_, fun b r hst hrun hb _ hr hlt => ?_⟩⟩
  · subst ha
    refine ⟨_, hello_row hu.symm htakes, fun h0 => ?_, fun h0 => ?_, fun b hb => ?_, fun hno => ?_⟩
    · rw [State.hello_bindings rfl, State.helloBound_bindings, if_pos h0, tget_tset_self]
      rfl
    · rw [State.hello_bindings rfl, State.helloBound_bindings, if_neg h0]
    · rw [State.hello_bindings rfl, State.helloBound_bindings]
      split
      · exact tget_tset_ne _ _ _ _ hb
      · rfl
    · obtain ⟨m, hsent, hfields⟩ := u.helloAnswer_fields f
      refine ⟨m, ?_, hfields⟩
      rw [State.hello_bindings rfl, ← State.helloBound_eq, ← hsent]
      refine if_neg ?_
      rw [State.helloAwaited, State.helloSent_unit]
      rcases hno with h | h | h | h
      · simp [h]
      · simp [h]
      · simp [h]
      · simp [h]
  · subst ha
    have hid := State.agentDesc_id hd
    have hcache : ∀ b, (u.odoTrack d (u.odoUse (agPayload f))).cacheOf b = u.cacheOf b := fun b => by rw [State.odoTrack_eq]; rfl
    refine ⟨_, odo_row hu.symm htakes hd, ?_, fun i b hi hb hdom => ?_, fun b hb => ?_, fun j hj => ?_, ?_⟩
    · rw [← hid, State.odoCache_self, hcache]
    · have hmem : (sliceB b 0 16, odoSample u.time.localC u.domPairs b) ∈ u.odoUse (agPayload f) := by
        refine List.mem_map.2 ⟨b, List.mem_filter.2 ⟨List.mem_map.2 ⟨i, List.mem_range.2 hi, hb.symm⟩, ?_⟩, rfl⟩
        rcases hdom with h | h <;> rw [h] <;> rfl
      obtain ⟨n, hn, hle⟩ := (foldl_laterSample_latest (u.odoUse (agPayload f)) none).1 _ hmem
      rw [← hid, State.odoCache_self, hn]
      obtain ⟨e, he, hne⟩ := keptSample_ge (n := n) ((u.odoTrack d (u.odoUse (agPayload f))).cacheOf d.id).sample
      exact ⟨e, he, hle.trans hne⟩
    · rw [State.odoCache_ne _ _ _ _ (hid ▸ hb), hcache]
    · exact State.odoTrack_other _ _ _ hj
    · have htrack := u.odoTrack_eq d (u.odoUse (agPayload f))
      generalize u.odoTrack d (u.odoUse (agPayload f)) = v at htrack
      rw [htrack]
      rfl
  · subst ha hv
    exact routeAck_stale hu.symm htakes hno
  · subst ha hv
    have row := routeAck_row (k := k) hu.symm htakes hst hver
    rw [if_neg (by rw [bitAt]; rcases hdone with h | h <;> simp [h])] at row
    exact ⟨_, row, u.routeOf_setRoute_self _ _, fun b hb => u.routeOf_setRoute_ne _ hb, rfl⟩
  · subst ha hv
    have row := routeAck_row (k := k) hu.symm htakes hst hver
    rw [if_pos (by rw [bitAt]; simp [hdone, hact])] at row
    have hself := State.endRoute_self (u.setRoute (agAgent f) (ackedRoute (u.routeOf (agAgent f)) (agPayload f))) (agAgent f) 3
    rw [State.routeOf_setRoute_self] at hself
    exact ⟨_, row, by rw [hself]; rfl, by rw [hself]; rfl, by rw [hself]; rfl, fun b hb => (State.endRoute_ne _ _ _ hb).trans
      (u.routeOf_setRoute_ne _ hb)⟩
  · by_cases hidle : (u.routeOf a).st = .idle ∨ u.unit.state ≠ .run
    · exact routeRetry_idle hu.symm hidle
    · obtain ⟨hst, hrun⟩ := not_or.1 hidle
      have hunbound : tget u.agent.bindings a = none := (hno.resolve_left hst).resolve_left hrun
      rw [routeRetry_resends hu.symm hst (not_not.1 hrun), State.resend_eq, State.sendSegs_unbound _ hunbound]
  · have hmap : ((u.agentMap a).map fun r => routeSegs r (u.routeOf a)).getD [] = routeSegs r (u.routeOf a) := by rw [hr]; rfl
    obtain ⟨hcount, hother⟩ := State.sendSegs_seqs (resentSegs (routeSegs r (u.routeOf a)) (u.routeOf a)) hb hlt
    have row := routeRetry_resends hu.symm hst hrun
    rw [State.resend_eq, hmap] at row
    refine ⟨_, row, eq_of_sansTx (State.sendSegs_sansTx _ _ _), hcount.trans ?_, hother⟩
    rw [resentSegs, List.length_append, Nat.add_assoc]
    cases (u.routeOf a).holdDue <;> rfl
end

section
/-! PROOF. The route service's work, its commands and searches (14 R358, R360 to R363, R375, R376). -/

namespace Sys2Proof.Machine

open Sys2Proof

/-! ### The work -/

/-- A piece of work replaced or removed. -/
def putIn (l : List RouteJob) (j : RouteJob) (n : Option RouteJob) : List RouteJob :=
  l.take ((l.findIdx? fun k => k == j).getD l.length) ++ n.toList ++ l.drop ((l.findIdx? fun k => k == j).getD l.length + 1)

theorem State.putJob_eq (s : State) (j : RouteJob) (n : Option RouteJob) :
    s.putJob j n = { s with route := { s.route with jobs := putIn s.route.jobs j n } } := rfl

section
variable {l : List RouteJob} {j : RouteJob} (h : j ∈ l)
include h

theorem findIdx_lt : (l.findIdx? fun k => k == j).getD l.length < l.length := by
  cases hi : l.findIdx? fun k => k == j with
  | none => simpa using List.findIdx?_eq_none_iff.1 hi j h
  | some i =>
    obtain ⟨hlt, -⟩ := List.findIdx?_eq_some_iff_getElem.1 hi
    exact hlt

theorem putIn_none_length : (putIn l j none).length + 1 = l.length := by
  have := findIdx_lt h
  simp [putIn, List.length_append]
  omega

theorem putIn_some_length (k : RouteJob) : (putIn l j (some k)).length = l.length := by
  have := findIdx_lt h
  simp [putIn, List.length_append]
  omega

end

theorem mem_putIn_some (l : List RouteJob) (j k : RouteJob) : k ∈ putIn l j (some k) :=
  List.mem_append_left _ (List.mem_append_right _ (List.mem_singleton_self k))

/-- Work that waits, one at a time per agent. -/
def State.idleJobs (s : State) : List RouteJob :=
  s.route.jobs.filter fun j => j.core.isNone && !s.route.jobs.any fun k => k.agent == j.agent && k.core.isSome

theorem State.nextJob_eq (s : State) : s.nextJob = least RouteJob.tick RouteJob.agent s.idleJobs := by
  unfold State.nextJob State.idleJobs least
  dsimp only
  congr
  funext b j
  cases b
  · rfl
  · rfl

theorem State.mem_idleJobs {s : State} {k : RouteJob} : k ∈ s.idleJobs ↔
    k ∈ s.route.jobs ∧ k.core = none ∧ ∀ i ∈ s.route.jobs, i.agent = k.agent → i.core = none := by
  simp [State.idleJobs]

theorem State.runningJob_spec {s : State} {a : Nat} {full : Bool} {j : RouteJob} (h : s.runningJob a full = some j) :
    j ∈ s.route.jobs ∧ j.agent = a ∧ j.full = full ∧ some (j.core.getD 0) = j.core := by
  have hspec := List.find?_some h
  simp only [Bool.and_eq_true, beq_iff_eq] at hspec
  obtain ⟨⟨ha, hcore⟩, hfull⟩ := hspec
  refine ⟨List.mem_of_find?_eq_some h, ha, hfull, ?_⟩
  cases hj : j.core with
  | none => simp [hj] at hcore
  | some c => rfl

/-! ### The rows of the commands -/

/-- The edges a ROUTE_SUBMIT lists. -/
def submittedEdges (n : Nat) (b : Bytes) : List Nat := (List.range n).map fun i => fieldN b (4 * i) 4

/-- The list goes on from the end of the agent's current edge. -/
def goesOn (v : Route) (r w : Roadmap) (es : List Nat) : Bool :=
  !v.edges.isEmpty && (((es.head?).bind r.edge).map fun e => e.start).getD noId == w.nodeAt v.edges (v.current + 1)

/-- The edges kept before the list. -/
def keptEdges (v : Route) (on : Bool) : List Nat := if v.st = .idle || !on then [] else v.edges.take (v.current + 1)

theorem submit_bad {r : Roadmap} {es keep : List Nat} {v : Route} {on : Bool} {n : Nat} :
    (!es.all (fun id => (r.edge id).isSome) || !r.joined es || decide (4096 < keep.length + n) ||
      (v.st == .active && !v.edges.isEmpty && !on)) = true ↔ (∃ id ∈ es, r.edge id = none) ∨ r.joined es = false ∨
      4096 < keep.length + n ∨ (v.st = .active ∧ v.edges ≠ [] ∧ on = false) := by
  simp [or_assoc, and_assoc]

section
variable {s u : State} {x : At} (hu : s.enter x = u) {c : Cmd} {dt : Option Bytes}
include hu

section
variable (hc : Accepted u.host c.qp c.tag 0x0704 c)
include hc

theorem routeGoal_noMap (h : u.agentMap (fieldN c.params 0 2) = none) :
    exec (.routeGoalSet x c.qp c.tag dt) s = .next (u.complete c.qp c.tag stBadParam 0 []) := by
  refine exec_of_run hu hc rfl ?_
  dsimp only
  rw [h]

theorem routeGoal_row {r : Roadmap} (h : u.agentMap (fieldN c.params 0 2) = some r) : exec (.routeGoalSet x c.qp c.tag dt) s =
    .next (if u.ha 7 then u.complete c.qp c.tag stBadState 0 []
      else if r.nodes.length ≤ fieldN c.params 4 4 ∨ (fieldN c.params 8 4 ≠ noId ∧ r.nodes.length ≤ fieldN c.params 8 4) ∨
          (fieldN c.params 8 4 = noId ∧ ((u.routeOf (fieldN c.params 0 2)).st = .idle ∨
            (u.routeOf (fieldN c.params 0 2)).edges.isEmpty)) then u.complete c.qp c.tag stBadParam 0 []
      else (u.addJob (fieldN c.params 0 2) (.goal (fieldN c.params 4 4) (fieldN c.params 8 4) c.qp c.tag) u.time.tick).setProg
        c.qp c.tag (.waiting 0 0)) := by
  refine exec_of_run hu hc rfl ?_
  dsimp only
  rw [h]

end

section
variable (hc : Accepted u.host c.qp c.tag 0x0708 c)
include hc

theorem routeSubmit_noData (hd : dataOf c.params 8 16 (4 * fieldN c.params 2 2) dt = none) :
    exec (.routeSubmit x c.qp c.tag dt) s = .next (u.complete c.qp c.tag stBadParam 0xFFFFFFFF []) := by
  refine exec_of_run hu hc rfl ?_
  dsimp only
  rw [hd]

variable {b : Bytes} (hd : dataOf c.params 8 16 (4 * fieldN c.params 2 2) dt = some b)
include hd

theorem routeSubmit_noMap (h : u.agentMap (fieldN c.params 0 2) = none) :
    exec (.routeSubmit x c.qp c.tag dt) s = .next (u.complete c.qp c.tag stBadParam 0 []) := by
  refine exec_of_run hu hc rfl ?_
  dsimp only
  rw [hd, h]

theorem routeSubmit_row {r w : Roadmap} {v : Route} {n : Nat} {es : List Nat} {on : Bool} {keep : List Nat}
    (hr : u.agentMap (fieldN c.params 0 2) = some r) (hw : u.workMap (fieldN c.params 0 2) = some w)
    (hv : v = u.routeOf (fieldN c.params 0 2)) (hn : n = fieldN c.params 2 2) (hes : es = submittedEdges n b)
    (hon : on = goesOn v r w es) (hkeep : keep = keptEdges v on) : exec (.routeSubmit x c.qp c.tag dt) s =
    .next (if !es.all (fun id => (r.edge id).isSome) || !r.joined es || decide (4096 < keep.length + n) ||
        (v.st == .active && !v.edges.isEmpty && !on) then u.complete c.qp c.tag stBadParam 0 []
      else (u.issueRoute (fieldN c.params 0 2) (keep ++ es) (fieldN c.params 4 4) (if keep.isEmpty then 0 else v.current) true
        noId).complete c.qp c.tag (if v.waitOver && v.hostWait.isNone then stLate else stOK)
          ((u.issueRoute (fieldN c.params 0 2) (keep ++ es) (fieldN c.params 4 4) (if keep.isEmpty then 0 else v.current) true
            noId).routeOf (fieldN c.params 0 2)).version []) := by
  subst hv hn hes hon hkeep
  refine exec_of_run hu hc rfl ?_
  dsimp only
  rw [hd, hr, hw]
  rfl

end

end

/-! ### REPAIR_START (14 R360) -/

/-- Work starts as a search: a repair as one, anything else as a full plan. -/
def RouteWork.plans : RouteWork → Bool
  | .repair _ => false
  | _ => true

section
variable {s u : State} {x : At} (hu : s.enter x = u) {a : Nat}
include hu

theorem repairStart_idle (h : u.nextJob = none ∨ u.freeCore = none) : exec (.repairStart x a) s = .next u := by
  subst hu
  have row : exec (.repairStart x a) s = execRepairStart x a s := rfl
  rw [row, execRepairStart]
  dsimp only
  split
  · next j c hj hc => rcases h with h | h <;> simp [h] at hj hc
  · rfl

theorem repairStart_row {j : RouteJob} {c : Nat} (hj : u.nextJob = some j) (hc : u.freeCore = some c) : exec (.repairStart x a) s =
    .next (if j.agent ≠ a then u else if !u.jobWanted j then u.putJob j none else u.putJob j (some (u.beginRun j c j.what.plans 0))) := by
  subst hu
  have row : exec (.repairStart x a) s = execRepairStart x a s := rfl
  rw [row, execRepairStart]
  dsimp only
  rw [hj, hc]
  rfl

end

/-! ### The end of a search (14 R361 to R363) -/

/-- Work that answers a command. -/
def RouteWork.isGoal : RouteWork → Bool
  | .goal _ _ _ _ => true
  | _ => false

/-- What follows a run that found nothing of use: a full plan, or no route. -/
def State.afterRun (s : State) (j : RouteJob) : State :=
  if j.full then s.noRoute j else s.putJob j (some (s.beginRun j (j.core.getD 0) true 0))

theorem State.endSearch_eq (s : State) (j : RouteJob) : s.endSearch j =
    if s.unit.state ≠ .run ∨ (!j.what.isGoal ∧ ((s.routeOf j.agent).version ≠ j.version ∨ (s.routeOf j.agent).st ≠ j.mode)) then
      s.putJob j none
    else match s.searchResult j with
      | none => s.afterRun j
      | some (es, added) =>
        if added.all s.edgeClear then s.routeFound j es
        else if j.runs + 1 < 3 then s.putJob j (some (s.beginRun j (j.core.getD 0) j.full (j.runs + 1)))
        else s.afterRun j := rfl

section
variable {s u : State} {x : At} (hu : s.enter x = u) {a : Nat} {full : Bool} {i : Instr}
  (hi : (i = .repairComplete x a ∧ full = false) ∨ (i = .fullPlanComplete x a ∧ full = true))
include hu hi

theorem searchEnd_none (h : u.runningJob a full = none) : exec i s = .next u := by
  subst hu
  rcases hi with ⟨rfl, rfl⟩ | ⟨rfl, rfl⟩
  · have row : exec (.repairComplete x a) s = execRepairComplete x a s := rfl
    rw [row, execRepairComplete, h]
  · have row : exec (.fullPlanComplete x a) s = execFullPlanComplete x a s := rfl
    rw [row, execFullPlanComplete, h]

theorem searchEnd_some {j : RouteJob} (h : u.runningJob a full = some j) : exec i s = .next (u.endSearch j) := by
  subst hu
  rcases hi with ⟨rfl, rfl⟩ | ⟨rfl, rfl⟩
  · have row : exec (.repairComplete x a) s = execRepairComplete x a s := rfl
    rw [row, execRepairComplete, h]
  · have row : exec (.fullPlanComplete x a) s = execFullPlanComplete x a s := rfl
    rw [row, execFullPlanComplete, h]

end

/-- Where a found route has its agent on. -/
def RouteWork.place (w : RouteWork) (cur : Nat) : Nat :=
  match w with
  | .goal _ start _ _ => if start = noId then cur else 0
  | _ => cur

/-- The goal of a found route. -/
def RouteWork.goalOf (w : RouteWork) (goal : Nat) : Nat :=
  match w with
  | .goal g _ _ _ => g
  | _ => goal

/-- The found route issued, before its command is answered. -/
def State.foundRoute (s : State) (j : RouteJob) (es : List Nat) : State :=
  (s.putJob j none).issueRoute j.agent es (j.what.goalOf (s.routeOf j.agent).goal) (j.what.place (s.routeOf j.agent).current) false
    j.what.cause

theorem State.routeFound_eq (s : State) (j : RouteJob) (es : List Nat) : s.routeFound j es =
    match j.what with
    | .goal _ _ q t => (s.foundRoute j es).complete q t stOK ((s.foundRoute j es).routeOf j.agent).version []
    | _ => s.foundRoute j es := by
  unfold State.routeFound State.foundRoute
  cases j.what <;> rfl

/-- A route found is the agent's, whatever is answered. -/
theorem State.routeFound_route (s : State) (j : RouteJob) (es : List Nat) : (s.routeFound j es).route = (s.foundRoute j es).route := by
  rw [State.routeFound_eq]
  split
  · exact State.complete_route _ _ _ _ _ _
  · rfl

theorem State.foundRoute_version (s : State) (j : RouteJob) (es : List Nat) : ((s.foundRoute j es).routeOf j.agent).version =
    if ((s.routeOf j.agent).version + 1) % 2 ^ 32 = 0 then 1 else ((s.routeOf j.agent).version + 1) % 2 ^ 32 := by
  rw [State.foundRoute, State.issueRoute_self]
  rfl

theorem State.foundRoute_host {s : State} (h : s.NoEventRead) (j : RouteJob) (es : List Nat) : (s.foundRoute j es).host = s.host :=
  (s.putJob j none).issueRoute_host _ _ _ _ _ _ h

theorem State.foundRoute_sansEvents (s : State) (j : RouteJob) (es : List Nat) :
    (s.foundRoute j es).sansEvents = (s.putJob j none).sansEvents :=
  State.issueRoute_sansEvents _ _ _ _ _ _ _

section
variable {s : State} {j : RouteJob}

theorem State.noRoute_goal {g f q t : Nat} (h : j.what = .goal g f q t) :
    s.noRoute j = (s.putJob j none).complete q t stRouteNone 0 [] := by
  unfold State.noRoute
  rw [h]

theorem State.noRoute_held {b : Nat} (h : j.what = .full b ∨ j.what = .repair b) (ha : (s.routeOf j.agent).st = .active) :
    s.noRoute j = (s.putJob j none).holdAgent j.agent false false 2 b := by
  unfold State.noRoute
  rcases h with h | h <;>
    · rw [h]
      exact if_pos ha

end

end Sys2Proof.Machine

open Sys2Proof Sys2Proof.Machine

/-- Settles O48: the commands one lemma a row, the work by `putIn`, the end of a search by the branches of `State.endSearch_eq`. -/
theorem routesArePlannedAndIssued : Obligations.RoutesArePlannedAndIssued := by
  unfold Obligations.RoutesArePlannedAndIssued
  refine ⟨fun s u x qp tag dt c a v hu ha hv => ⟨fun hc goal start hg hst => ⟨fun hno => ?_, fun r hr => ⟨fun hha => ?_,
    fun hha hbad => ?_, fun hha hgoal hstart hroute => ?_⟩⟩, fun hc n hn => ⟨fun hd => ?_, fun b hd => ⟨fun hno => ?_,
    fun r w es on keep hr hw hes hon hkeep => ⟨fun hbad => ?_, fun hall hjoin hlen hmode hread => ?_⟩⟩⟩⟩,
    fun s u x a hu => ⟨repairStart_idle hu.symm, fun j c hj hc => ⟨fun k hk hcore hagent => ?_, fun ha => ?_, fun ha => ?_⟩⟩,
    fun s u x a full i hu hi => ⟨searchEnd_none hu.symm hi, fun j hj hread => ?_⟩⟩
  all_goals try (obtain ⟨rfl, rfl⟩ := find_name hc.1.1)
  · subst ha hg hst
    exact answeredWith_of_completes hc.1 (routeGoal_noMap (dt := dt) hu.symm hc hno)
  · subst ha hg hst
    have row := routeGoal_row (dt := dt) hu.symm hc hr
    rw [if_pos hha] at row
    exact answeredWith_of_completes hc.1 row
  · subst ha hg hst hv
    have row := routeGoal_row (dt := dt) hu.symm hc hr
    rw [if_neg (by simp [hha]), if_pos (by simpa [noId, List.isEmpty_iff] using hbad)] at row
    exact answeredWith_of_completes hc.1 row
  · subst ha hg hst hv
    have row := routeGoal_row (dt := dt) hu.symm hc hr
    rw [if_neg (by simp [hha]), if_neg] at row
    · exact ⟨_, _, row, rfl, rfl, rfl, rfl, rfl, rfl⟩
    · simp only [noId, List.isEmpty_iff]
      rintro (h | ⟨h, hn⟩ | ⟨h, hn⟩)
      · omega
      · have := hstart.resolve_left h
        omega
      · rcases hroute with hne | ⟨hne, hedges⟩
        · exact hne h
        · exact hn.elim hne hedges
  · subst ha hn
    exact answeredWith_of_completes hc.1 (routeSubmit_noData hu.symm hc hd)
  · subst ha hn
    exact answeredWith_of_completes hc.1 (routeSubmit_noMap hu.symm hc hd hno)
  · have row := routeSubmit_row (dt := dt) hu.symm hc (hn ▸ hd) (ha ▸ hr) (ha ▸ hw) (ha ▸ hv) hn hes hon hkeep
    rw [if_pos (submit_bad.2 hbad)] at row
    exact answeredWith_of_completes hc.1 row
  · have row := routeSubmit_row (dt := dt) hu.symm hc (hn ▸ hd) (ha ▸ hr) (ha ▸ hw) (ha ▸ hv) hn hes hon hkeep
    rw [if_neg] at row
    · rw [← ha] at row
      have hself := u.issueRoute_self a (keep ++ es) (fieldN c.params 4 4) (if keep.isEmpty then 0 else v.current) true noId
      have hother := fun k => u.issueRoute_ne a (keep ++ es) (fieldN c.params 4 4) (if keep.isEmpty then 0 else v.current) true noId (b := k)
      have hrest := u.issueRoute_sansEvents a (keep ++ es) (fieldN c.params 4 4) (if keep.isEmpty then 0 else v.current) true noId
      have hhost := u.issueRoute_host a (keep ++ es) (fieldN c.params 4 4) (if keep.isEmpty then 0 else v.current) true noId hread
      generalize u.issueRoute a (keep ++ es) (fieldN c.params 4 4) (if keep.isEmpty then 0 else v.current) true noId = w at *
      obtain ⟨t, hrow, hans, ht⟩ := answered_of_completes_after (u := u) hc.1 row hhost (congrArg (·.ep.epoch) hrest :)
        (congrArg State.time hrest :)
      have hroute : ∀ k, t.routeOf k = w.routeOf k := fun k => (congrArg (State.routeOf · k) ht :)
      have hversion : v = u.routeOf a := hv
      refine ⟨t, hrow, ?_, ?_, ?_, ?_, ?_, ?_, fun k hk => (hroute k).trans (hother k hk), ?_⟩
      · rw [hroute, hself]; rfl
      · rw [hroute, hself]; rfl
      · rw [hroute, hself]; rfl
      · rw [hroute, hself]; rfl
      · rw [hroute, hself]; rfl
      · rw [hroute, hself, hversion]; rfl
      · rw [hroute]
        have hlate : (if v.waitOver && v.hostWait.isNone then stLate else stOK) =
            if v.waitOver = true ∧ v.hostWait = none then 1 else 0 := by
          simp only [Bool.and_eq_true, Option.isNone_iff_eq_none]
          rfl
        rwa [hlate] at hans
    · rw [submit_bad]
      rintro (⟨id, hid, hnone⟩ | h | h | ⟨h1, h2, h3⟩)
      · exact hall id hid hnone
      · simp [hjoin] at h
      · omega
      · rcases hmode with h | h | h
        · exact h h1
        · exact h2 h
        · simp [h] at h3
  · exact (least_spec (u.nextJob_eq ▸ hj)).2 k (State.mem_idleJobs.2 ⟨hk, hcore, hagent⟩)
  · rw [repairStart_row hu.symm hj hc, if_pos ha]
  · have row := repairStart_row (a := a) hu.symm hj hc
    rw [if_neg (not_not.2 ha)] at row
    have hmem : j ∈ u.route.jobs := (State.mem_idleJobs.1 (least_spec (u.nextJob_eq ▸ hj)).1).1
    by_cases hw : u.jobWanted j = true
    · rw [if_neg (by simp [hw])] at row
      refine ⟨_, row, rfl, fun hn => by simp [hw] at hn, fun _ => ⟨putIn_some_length hmem _, _, mem_putIn_some _ _ _, ha, rfl, rfl, rfl,
        ha ▸ rfl, ?_⟩⟩
      cases hwhat : j.what <;> simp [State.beginRun, RouteWork.plans, hwhat]
    · rw [if_pos (by simpa using hw)] at row
      exact ⟨_, row, rfl, fun _ => putIn_none_length hmem, fun h => absurd h hw⟩
  · have row := searchEnd_some hu.symm hi hj
    obtain ⟨hmem, ha, hfull, hcore⟩ := State.runningJob_spec hj
    subst ha hfull
    have heq := u.endSearch_eq j
    refine ⟨fun hrun => ?_, fun hrun hver hmode => ⟨fun es added hres hclear => ?_, fun es added hres hbad hruns => ?_,
      fun hnone hfull => ?_, fun hnone hfull => ⟨fun b hb hact => ?_, fun g f q k c hgoal hheld => ?_⟩⟩⟩
    · rw [heq, if_pos (.inl hrun)] at row
      exact ⟨_, row, putIn_none_length hmem, rfl⟩
    all_goals
      rw [if_neg (by simp [hrun, hver, hmode])] at heq
    · rw [hres] at heq
      have heq := heq.trans (if_pos (List.all_eq_true.2 hclear))
      rw [heq] at row
      have hroutes : ∀ k, (u.routeFound j es).routeOf k = (u.foundRoute j es).routeOf k :=
        State.routeOf_congr (congrArg RouteSt.routes (u.routeFound_route j es))
      have hself := (u.putJob j none).issueRoute_self j.agent es (j.what.goalOf (u.routeOf j.agent).goal)
        (j.what.place (u.routeOf j.agent).current) false j.what.cause
      have hrest := u.foundRoute_sansEvents j es
      have hjobs : (u.routeFound j es).route.jobs = putIn u.route.jobs j none :=
        (congrArg RouteSt.jobs (u.routeFound_route j es)).trans (State.jobs_of_sansEvents hrest)
      refine ⟨_, row, ?_, ?_, ?_, ?_, ?_, fun k hk => ?_, fun g f q k c hgoal hheld => ?_⟩
      · rw [hroutes, State.foundRoute, hself]; rfl
      · rw [hroutes, State.foundRoute, hself]; rfl
      · rw [hroutes, State.foundRoute, hself]; rfl
      · rw [hjobs]
        exact putIn_none_length hmem
      · rw [hroutes]
        exact u.foundRoute_version j es
      · exact (hroutes k).trans (State.issueRoute_ne _ _ _ _ _ _ _ hk)
      · obtain ⟨rfl, rfl⟩ := find_name hheld.1
        rw [hroutes, State.routeFound_eq, hgoal]
        exact (State.answered_after hheld (State.foundRoute_host hread j es) (congrArg (·.ep.epoch) hrest :)
          (congrArg State.time hrest :) _ _ _).1
    · rw [hres] at heq
      have heq := heq.trans ((if_neg (by simpa using hbad)).trans (if_pos (by omega)))
      rw [heq] at row
      exact ⟨_, row, rfl, _, mem_putIn_some _ _ _, rfl, rfl, hcore, rfl, rfl⟩
    · rw [hnone] at heq
      have heq := heq.trans (if_neg (by simp [hfull]))
      rw [heq] at row
      exact ⟨_, row, rfl, _, mem_putIn_some _ _ _, rfl, rfl, rfl, rfl⟩
    · rw [hnone] at heq
      have heq := heq.trans ((if_pos hfull).trans (State.noRoute_held hb hact))
      rw [heq] at row
      have hself := (u.putJob j none).holdAgent_self j.agent false false 2 b
      exact ⟨_, row, by rw [hself], by rw [hself], by rw [hself]; rfl⟩
    · rw [hnone] at heq
      obtain ⟨rfl, rfl⟩ := find_name hheld.1
      have heq := heq.trans ((if_pos hfull).trans (State.noRoute_goal hgoal))
      rw [heq] at row
      exact ⟨_, row, (congrArg RouteSt.routes (State.complete_route _ _ _ _ _ _)).trans rfl,
        (State.answered_after (v := u.putJob j none) hheld rfl rfl rfl _ _ _).1⟩
end

section
/-! PROOF. Queries enter the queue, and a batch takes its first 256 (13 R325, R327, R330, R336, R337, 08 R200). -/

namespace Sys2Proof.Machine

open Sys2Proof

/-! ### Distance tables (13 R323, R337) -/

theorem State.buildTable_snd (s : State) (b q : Bytes) : (s.buildTable b q).2 = { s with freeCtr := s.freeCtr + 8192 } := by
  unfold State.buildTable
  exact rfl

/-- Tables are built of a descriptor, one for each codebook; of the state only the counter of free choices moves. -/
theorem State.tablesOf_fold (d : Bytes) (L : List Bytes) : ∀ (acc : List (Nat × Bytes)) (s : State), ∃ (more : List (Nat × Bytes)) (n : Nat),
    L.foldl (fun (p : List (Nat × Bytes) × State) b =>
      let t := p.2.buildTable b d
      (p.1 ++ [(bookGen b, t.1)], t.2)) (acc, s) = (acc ++ more, { s with freeCtr := n }) ∧ more.map Prod.fst = L.map bookGen := by
  induction L with
  | nil => exact fun acc s => ⟨[], s.freeCtr, by rw [List.append_nil]; rfl, rfl⟩
  | cons b L ih =>
    intro acc s
    obtain ⟨more, n, heq, hgens⟩ := ih (acc ++ [(bookGen b, (s.buildTable b d).1)]) (s.buildTable b d).2
    refine ⟨(bookGen b, (s.buildTable b d).1) :: more, n, ?_, by rw [List.map_cons, hgens, List.map_cons]⟩
    rw [List.foldl_cons]
    refine heq.trans ?_
    rw [List.append_assoc, State.buildTable_snd]
    rfl

theorem State.tablesOf_parts (s : State) (d : Bytes) : ∃ (l : List (Nat × Bytes)) (n : Nat),
    s.tablesOf d = (l, { s with freeCtr := n }) ∧ l.map Prod.fst = s.liveGens := by
  obtain ⟨more, n, heq, hgens⟩ := State.tablesOf_fold d s.liveBooks [] s
  exact ⟨more, n, heq.trans (by rw [List.nil_append]), hgens⟩

theorem tget_ne_none {α : Type} {t : List (Nat × α)} {k : Nat} : tget t k ≠ none ↔ k ∈ t.map Prod.fst := by
  induction t with
  | nil => simp [tget]
  | cons e t ih =>
    obtain ⟨j, a⟩ := e
    rw [tget]
    split
    · next h => simp [h]
    · next h => simp [ih, Ne.symm h]

/-- A query as a batch takes it: with tables added, for every live generation where it has a descriptor. -/
def Tabled (gens : List Nat) (p q : Query) : Prop :=
  ∃ more, q = { p with tables := p.tables ++ more } ∧ (p.desc ≠ none → ∀ g ∈ gens, tget q.tables g ≠ none)

theorem fullTables_fold (d : Bytes) (L : List Bytes) : ∀ (q : Query) (s : State), ∃ (more : List (Nat × Bytes)) (n : Nat),
    L.foldl (fun (p : Query × State) b =>
      let t := p.2.buildTable b d
      ({ p.1 with tables := p.1.tables ++ [(bookGen b, t.1)] }, t.2)) (q, s) =
      ({ q with tables := q.tables ++ more }, { s with freeCtr := n }) ∧ more.map Prod.fst = L.map bookGen := by
  induction L with
  | nil => exact fun q s => ⟨[], s.freeCtr, by rw [List.append_nil]; rfl, rfl⟩
  | cons b L ih =>
    intro q s
    obtain ⟨more, n, heq, hgens⟩ :=
      ih { q with tables := q.tables ++ [(bookGen b, (s.buildTable b d).1)] } (s.buildTable b d).2
    refine ⟨(bookGen b, (s.buildTable b d).1) :: more, n, ?_, by rw [List.map_cons, hgens, List.map_cons]⟩
    rw [List.foldl_cons]
    refine heq.trans ?_
    rw [List.append_assoc, State.buildTable_snd]
    rfl

theorem State.fullTables_parts (s : State) (q : Query) : ∃ (p : Query) (n : Nat),
    s.fullTables q = (p, { s with freeCtr := n }) ∧ Tabled s.liveGens q p := by
  unfold State.fullTables
  cases hd : q.desc with
  | none => exact ⟨q, s.freeCtr, rfl, [], by rw [List.append_nil], fun h => absurd hd h⟩
  | some d =>
    obtain ⟨more, n, heq, hgens⟩ := fullTables_fold d (s.liveBooks.filter fun b => (tget q.tables (bookGen b)).isNone) q s
    refine ⟨_, n, heq, more, rfl, fun _ g hg => tget_ne_none.2 ?_⟩
    rw [List.map_append, List.mem_append, hgens]
    obtain ⟨b, hb, rfl⟩ := List.mem_map.1 hg
    by_cases hold : tget q.tables (bookGen b) = none
    · exact .inr (List.mem_map.2 ⟨b, List.mem_filter.2 ⟨hb, by simp [hold]⟩, rfl⟩)
    · exact .inl (tget_ne_none.1 hold)

/-- The queries of a batch take their tables in turn. -/
theorem State.batch_fold (L : List Query) : ∀ (acc : List Query) (s : State), ∃ (qs : List Query) (n : Nat),
    L.foldl (fun (p : List Query × State) q =>
      let t := p.2.fullTables q
      (p.1 ++ [t.1], t.2)) (acc, s) = (acc ++ qs, { s with freeCtr := n }) ∧ List.Forall₂ (Tabled s.liveGens) L qs := by
  induction L with
  | nil => exact fun acc s => ⟨[], s.freeCtr, by rw [List.append_nil]; rfl, .nil⟩
  | cons q L ih =>
    intro acc s
    obtain ⟨p, m, hp, htabled⟩ := s.fullTables_parts q
    obtain ⟨qs, n, heq, hall⟩ := ih (acc ++ [p]) { s with freeCtr := m }
    refine ⟨p :: qs, n, ?_, .cons htabled hall⟩
    rw [List.foldl_cons]
    dsimp only
    rw [hp]
    refine heq.trans ?_
    rw [List.append_assoc]
    rfl

/-! ### Shards switch (13 R336) -/

/-- A state less what shards change as they switch generation. -/
def State.sansSwitch (s : State) : State :=
  { s with
    place := { s.place with shards := [], badLines := [], book := none, next := none }
    ep := { s.ep with rolling := none } }

theorem State.switchShards_sansSwitch (s : State) : s.switchShards.sansSwitch = s.sansSwitch := by
  unfold State.switchShards
  split
  · rfl
  · next b _ =>
    have hfold := foldl_keeps State.sansSwitch (fun s (e : Nat × Shard) => s.switchShard e.1 (bookGen b)) (by intro t e; rfl)
      (s.place.shards.filter fun e => e.2.shadowDone) s
    extract_lets t
    split
    · exact (congrArg State.sansSwitch rfl).trans hfold
    · exact hfold

/-! ### PLACE_QUERY -/

/-- The bytes a PLACE_QUERY brings: tables of two generations, of one, or a descriptor. -/
def queryData (p : Bytes) : Nat :=
  if bitAt (fieldN p 1 1) 2 then (if fieldN p 44 1 != fieldN p 45 1 then 32768 else 16384) else 512

/-- The tables of a query, and the state once they are there. -/
def State.queryTables (s : State) (p d : Bytes) : List (Nat × Bytes) × State :=
  if bitAt (fieldN p 1 1) 2 then (hostTables p d, s) else s.tablesOf d

/-- The query of a PLACE_QUERY. -/
def hostQuery (c : Cmd) (d : Bytes) (tables : List (Nat × Bytes)) (tick : Nat) : Query :=
  { src := .host c.qp c.tag, record := sliceB c.params 0 64, desc := if bitAt (fieldN c.params 1 1) 2 then none else some d,
    tables := tables, tick := tick, prior := none }

section
variable {s u : State} {x : At} (hu : s.enter x = u) {c : Cmd} {dt : Option Bytes} (hc : Accepted u.host c.qp c.tag 0x0601 c)
include hu hc

theorem placeQuery_noData (hd : dataOf c.params 48 64 (queryData c.params) dt = none) :
    exec (.placeQuery x c.qp c.tag dt) s = .next (u.complete c.qp c.tag stBadParam 0xFFFFFFFF []) := by
  unfold queryData at hd
  refine exec_of_run hu hc rfl ?_
  dsimp only
  rw [hd]

theorem placeQuery_row {d : Bytes} (hd : dataOf c.params 48 64 (queryData c.params) dt = some d) :
    exec (.placeQuery x c.qp c.tag dt) s =
      .next (if !u.liveGens.all (fun g => (u.queryTables c.params d).1.any fun e => e.1 == g) then u.complete c.qp c.tag stBadParam 0 []
        else ((u.queryTables c.params d).2.enqueue (hostQuery c d (u.queryTables c.params d).1 u.time.tick)).setProg c.qp c.tag
          (.waiting 0 0)) := by
  unfold queryData at hd
  refine exec_of_run hu hc rfl ?_
  dsimp only
  rw [hd]
  rfl

end

theorem covered_iff {gens : List Nat} {t : List (Nat × Bytes)} :
    gens.all (fun g => t.any fun e => e.1 == g) = true ↔ ∀ g ∈ gens, g ∈ t.map Prod.fst := by
  simp [List.all_eq_true, List.any_eq_true]

/-- The generations of a host's tables. -/
theorem mem_hostTables {p d : Bytes} {g : Nat} : g ∈ (hostTables p d).map Prod.fst ↔ g = fieldN p 44 1 ∨ g = fieldN p 45 1 := by
  unfold hostTables
  dsimp only
  split
  · next h => simp [h]
  · simp

/-! ### BATCH_CLOSE -/

/-- A row of a store in use stands as it did through map maintenance and a batch's close. -/
theorem State.rows_of_sansUpkeep {s t : State} (h : t.sansUpkeep = s.sansUpkeep) (r : Nat) : (t.row r).st = (s.row r).st ∧
    (t.row r).config = (s.row r).config := by
  have hmask : t.sansLines.row r = s.sansLines.row r := (congrArg (State.row · r) h :)
  have hrow : (t.row r).sansLists = (s.row r).sansLists := (t.sansLines_row r).symm.trans (hmask.trans (s.sansLines_row r))
  exact ⟨(congrArg StoreRow.st hrow :), (congrArg StoreRow.config hrow :)⟩

theorem State.readRow_congr {s t : State} (h : ∀ r, (t.row r).st = (s.row r).st ∧ (t.row r).config = (s.row r).config) (d : ShardPlan) :
    t.readRow d = s.readRow d := by
  have hserve : ∀ r, (t.row r).serving = (s.row r).serving := fun r => by rw [StoreRow.serving, (h r).1]; rfl
  have hpartner : t.partner d.row = s.partner d.row := by rw [State.partner, (h d.row).2]; rfl
  unfold State.readRow
  rw [hserve, hpartner]
  cases s.partner d.row with
  | none => rfl
  | some p =>
    dsimp only
    rw [hserve]

/-- The shards of a sweep: those that hold codes and are resident, as they stand at the close. -/
def State.sweepShards (s : State) : List SweepShard :=
  (s.shardPlans.filter fun d => (s.shard d.shard).count != 0).filterMap fun d => (s.resident d).map fun r =>
    { shard := d.shard, gen := (s.shard d.shard).gen, count := (s.shard d.shard).count, row := r }

/-- The shards that hold codes and are not resident. -/
def State.missedShards (s : State) : List Nat :=
  ((s.shardPlans.filter fun d => (s.shard d.shard).count != 0).filter fun d => (s.resident d).isNone).map ShardPlan.shard

theorem State.mem_missedShards {s : State} {k : Nat} : k ∈ s.missedShards ↔
    ∃ d ∈ s.shardPlans, d.shard = k ∧ (s.shard k).count ≠ 0 ∧ s.resident d = none := by
  simp only [State.missedShards, List.mem_map, List.mem_filter, Option.isNone_iff_eq_none, bne_iff_ne, ne_eq]
  constructor
  · rintro ⟨d, ⟨⟨hd, hcount⟩, hres⟩, rfl⟩
    exact ⟨d, hd, rfl, hcount, hres⟩
  · rintro ⟨d, hd, rfl, hcount, hres⟩
    exact ⟨d, ⟨⟨hd, hcount⟩, hres⟩, rfl⟩

theorem State.readRow_serving {s : State} {d : ShardPlan} {r : Nat} (h : s.readRow d = some r) : (s.row r).st = .serving := by
  have hserve : ∀ q, (s.row q).serving = true → (s.row q).st = .serving := fun q hq => by simpa [StoreRow.serving] using hq
  unfold State.readRow at h
  split at h
  · next hs => exact Option.some.inj h ▸ hserve _ hs
  · split at h
    · split at h
      · next hs => exact Option.some.inj h ▸ hserve _ hs
      · simp at h
    · simp at h

theorem State.resident_serving {s : State} {d : ShardPlan} {r : Nat} (h : s.resident d = some r) : (s.row r).st = .serving := by
  unfold State.resident at h
  split at h
  · exact State.readRow_serving h
  · simp at h

theorem State.mem_sweepShards {s : State} {e : SweepShard} (h : e ∈ s.sweepShards) : e.gen = (s.shard e.shard).gen ∧
    e.count = (s.shard e.shard).count ∧ (s.row e.row).st = .serving := by
  obtain ⟨d, -, hd⟩ := List.mem_filterMap.1 h
  obtain ⟨r, hr, rfl⟩ := Option.map_eq_some_iff.1 hd
  exact ⟨rfl, rfl, State.resident_serving hr⟩

/-- The sweep of a batch's queries. -/
def State.newSweep (s : State) (qs : List Query) : Sweep :=
  { seq := (s.place.sweepSeq + 1) % 4294967296
    start := s.lkt s.time.active
    queries := qs
    shards := s.sweepShards
    missing := sinsAll [] s.missedShards }

/-- The state as a batch closes: the sweep runs, its queries have left the queue. -/
def State.sweeping (s : State) (w : Sweep) (n : Nat) : State :=
  { s with
    place := { s.place with queue := s.place.queue.drop 256, sweepSeq := w.seq, sweep := some w }
    freeCtr := n }

theorem State.closeBatch_idle {s : State} (h : s.place.sweep ≠ none ∨ s.place.queue = [] ∨ s.wafer.move ≠ none) : s.closeBatch = s := by
  unfold State.closeBatch
  refine if_pos ?_
  rcases h with h | h | h
  · simp [Option.isSome_iff_ne_none.2 h]
  · simp [h]
  · simp [Option.isSome_iff_ne_none.2 h]

section
variable {s : State} (hs : s.place.sweep = none) (hq : s.place.queue ≠ []) (hm : s.wafer.move = none)
  (hfresh : ∀ q ∈ s.place.queue, q.prior = none)
include hs hq hm hfresh

/-- A batch of queries asked for the first time: its first 256 join the sweep. -/
theorem State.closeBatch_starts : ∃ (w : Sweep) (n : Nat), s.closeBatch = s.switchShards.sweeping w n ∧
    List.Forall₂ (Tabled s.switchShards.liveGens) (s.place.queue.take 256) w.queries ∧
    w.seq = (s.place.sweepSeq + 1) % 4294967296 ∧ w.start = s.lkt s.time.active ∧ w.shards = s.switchShards.sweepShards ∧
    w.missing = sinsAll [] s.switchShards.missedShards := by
  have hswitch := s.switchShards_sansSwitch
  have hqueue : s.switchShards.place.queue = s.place.queue := (congrArg (·.place.queue) hswitch :)
  have hseq : s.switchShards.place.sweepSeq = s.place.sweepSeq := (congrArg (·.place.sweepSeq) hswitch :)
  have hstart : s.switchShards.lkt s.switchShards.time.active = s.lkt s.time.active :=
    (congrArg (fun v : State => v.lkt v.time.active) hswitch :)
  unfold State.closeBatch
  rw [if_neg (by simp [hs, hm, hq])]
  generalize s.switchShards = v at *
  have hready : v.place.queue.filter v.mayRerun = v.place.queue := List.filter_eq_self.2 fun q h => by
    rw [State.mayRerun, hfresh q (hqueue ▸ h)]
  have hlate : v.place.queue.filter (fun q => !v.mayRerun q) = [] := List.filter_eq_nil_iff.2 fun q h => by
    rw [State.mayRerun, hfresh q (hqueue ▸ h)]
    exact Bool.false_ne_true
  obtain ⟨qs, n, hfold, htabled⟩ := State.batch_fold (v.place.queue.take 256) [] v
  have hne : v.place.queue.isEmpty = false := by rw [hqueue]; simpa [List.isEmpty_iff] using hq
  dsimp only
  rw [hready, hlate, hfold]
  refine ⟨v.newSweep qs, n, ?_, hqueue ▸ htabled, by rw [State.newSweep, hseq], hstart, rfl, rfl⟩
  simp only [hne, List.filterMap_nil, List.append_nil]
  rfl

end

/-! ### Sweep streams (08 R200) -/

/-- A state less the transfers. -/
def State.sansTransfers (s : State) : State := { s with store := { s.store with transfers := [] } }

theorem mem_addTransfer {t u : Transfer} {l : List Transfer} : u ∈ addTransfer t l ↔ u = t ∨ u ∈ l := by
  induction l with
  | nil => simp [addTransfer]
  | cons v l ih =>
    rw [addTransfer]
    split
    · simp
    · simp [ih, or_left_comm]

/-- The state with an entry's transfer issued, in place of the one before. -/
def State.withTransfer (s : State) (k : Nat) (e : ResEntry) : State :=
  { s with store := { s.store with
    transfers := addTransfer ⟨k, s.resSuper e, s.time.tick⟩ (s.store.transfers.filter fun t => t.entry != k || e.mode == 2) } }

section
variable {s : State} {k : Nat} {e : ResEntry} (he : s.resEntry k = some e) (hmode : e.mode = 3)
include he hmode

theorem State.issueTransfer_stream : s.issueTransfer k =
    if (s.row (s.resSuper e / 8)).serving && s.unsealed (s.resSuper e) then s.withTransfer k e else s := by
  have hnot : s.undelivered k = s := by
    rw [State.undelivered, he]
    dsimp only
    rw [if_neg (by rw [hmode]; decide), if_neg (by rw [hmode]; decide)]
  rw [State.issueTransfer, he]
  dsimp only
  rw [hnot]
  rfl

theorem State.issueTransfer_sansTransfers : (s.issueTransfer k).sansTransfers = s.sansTransfers := by
  rw [State.issueTransfer_stream he hmode]
  split <;> rfl

theorem State.issueTransfer_keeps {t : Transfer} (ht : t ∈ s.store.transfers) (hk : t.entry ≠ k) :
    t ∈ (s.issueTransfer k).store.transfers := by
  rw [State.issueTransfer_stream he hmode]
  split
  · exact mem_addTransfer.2 (.inr (List.mem_filter.2 ⟨ht, by simp [hk]⟩))
  · exact ht

theorem State.issueTransfer_issues (hrow : (s.row (s.resSuper e / 8)).st = .serving) (hsup : s.unsealed (s.resSuper e) = true) :
    ⟨k, s.resSuper e, s.time.tick⟩ ∈ (s.issueTransfer k).store.transfers := by
  rw [State.issueTransfer_stream he hmode, if_pos (by simp [StoreRow.serving, hrow, hsup])]
  exact mem_addTransfer.2 (.inl rfl)

end

/-- The streams' entries. -/
theorem State.mem_streams {s : State} {k : Nat} (h : k ∈ s.resIndices fun f => f.mode == 3) :
    ∃ e, s.resEntry k = some e ∧ e.mode = 3 := by
  unfold State.resIndices at h
  split at h
  · exact absurd h List.not_mem_nil
  · obtain ⟨-, hk⟩ := List.mem_filter.1 h
    cases he : s.resEntry k with
    | none => rw [he] at hk; simp at hk
    | some e =>
      rw [he] at hk
      exact ⟨e, rfl, beq_iff_eq.1 (Bool.and_eq_true_iff.1 hk).2⟩

theorem State.streams_nodup (s : State) (f : ResEntry → Bool) : (s.resIndices f).Nodup := by
  unfold State.resIndices
  split
  · exact List.nodup_nil
  · exact List.nodup_range.filter _

theorem State.issueStreams_parts (s : State) : s.issueStreams.sansTransfers = s.sansTransfers ∧
    ∀ k e, k ∈ s.resIndices (fun f => f.mode == 3) → s.resEntry k = some e → (s.row (s.resSuper e / 8)).st = .serving →
      s.unsealed (s.resSuper e) = true → ⟨k, s.resSuper e, s.time.tick⟩ ∈ s.issueStreams.store.transfers := by
  have hfold : ∀ (L : List Nat), L.Nodup → (∀ k ∈ L, ∃ e, s.resEntry k = some e ∧ e.mode = 3) →
      ∀ t : State, t.sansTransfers = s.sansTransfers → (L.foldl State.issueTransfer t).sansTransfers = s.sansTransfers ∧
        (∀ r ∈ t.store.transfers, r.entry ∉ L → r ∈ (L.foldl State.issueTransfer t).store.transfers) ∧
        ∀ k e, k ∈ L → s.resEntry k = some e → (s.row (s.resSuper e / 8)).st = .serving → s.unsealed (s.resSuper e) = true →
          ⟨k, s.resSuper e, s.time.tick⟩ ∈ (L.foldl State.issueTransfer t).store.transfers := by
    intro L
    induction L with
    | nil => exact fun _ _ t ht => ⟨ht, fun r hr _ => hr, fun k e hk => absurd hk List.not_mem_nil⟩
    | cons k L ih =>
      intro hnd hmodes t ht
      obtain ⟨hk, hnd⟩ := List.nodup_cons.1 hnd
      obtain ⟨e, he, hmode⟩ := hmodes k List.mem_cons_self
      have het : t.resEntry k = some e := ((congrArg (State.resEntry · k) ht :)).trans he
      obtain ⟨hrest, hkeep, hissue⟩ := ih hnd (fun j hj => hmodes j (List.mem_cons_of_mem k hj)) (t.issueTransfer k)
        ((State.issueTransfer_sansTransfers het hmode).trans ht)
      refine ⟨hrest, fun r hr hn => ?_, fun j f hj hf hrow hsup => ?_⟩
      · obtain ⟨hne, hn⟩ := not_or.1 (mt List.mem_cons.2 hn)
        exact hkeep r (State.issueTransfer_keeps het hmode hr hne) hn
      · rcases List.mem_cons.1 hj with rfl | hj
        · obtain rfl := Option.some.inj (he.symm.trans hf)
          have hsupE : t.resSuper e = s.resSuper e := (congrArg (State.resSuper · e) ht :)
          have hrowE : ∀ r, t.row r = s.row r := fun r => (congrArg (State.row · r) ht :)
          have hsealE : ∀ p, t.unsealed p = s.unsealed p := fun p => (congrArg (State.unsealed · p) ht :)
          have htick : t.time.tick = s.time.tick := (congrArg (·.time.tick) ht :)
          have := State.issueTransfer_issues het hmode (by rw [hsupE, hrowE]; exact hrow) (by rw [hsupE, hsealE]; exact hsup)
          rw [hsupE, htick] at this
          exact hkeep _ this hk
        · exact hissue j f hj hf hrow hsup
  obtain ⟨hrest, -, hissue⟩ := hfold _ (s.streams_nodup _) (fun k hk => State.mem_streams hk) s rfl
  exact ⟨hrest, hissue⟩

theorem batchClose_row {s u : State} {x : At} (hu : s.enter x = u) : exec (.batchClose x) s =
    .next (if u.place.sweep.isNone && (if u.unit.state = .run then u.mapMaintenance else u).closeBatch.place.sweep.isSome then
        (if u.unit.state = .run then u.mapMaintenance else u).closeBatch.issueStreams
      else (if u.unit.state = .run then u.mapMaintenance else u).closeBatch) := by
  subst hu
  rfl

end Sys2Proof.Machine
end

section
/-! PROOF. A sweep ends: what it scanned, ranked and filtered (13 R326 to R328, R330, R333). -/

namespace Sys2Proof.Machine

open Sys2Proof

/-! ### Rankings (13 R327) -/

theorem rankLt_iff {a b : Nat × Nat × Nat} : rankLt a b = true ↔ a.1 < b.1 ∨ (a.1 = b.1 ∧ a.2.1 < b.2.1) := by
  simp [rankLt]

theorem rankLt_false {a b : Nat × Nat × Nat} : rankLt a b = false ↔ b.1 < a.1 ∨ (b.1 = a.1 ∧ b.2.1 ≤ a.2.1) := by
  rw [← Bool.not_eq_true, rankLt_iff]
  omega

/-- Nearest first, and of equal distances the lower code first. -/
def RankSorted (r : List (Nat × Nat × Nat)) : Prop := r.Pairwise fun a b => rankLt b a = false

/-- A ranking of at most `m` of the codes put in: none left out is better than one in it. -/
structure Ranks (m : Nat) (l r : List (Nat × Nat × Nat)) : Prop where
  length : r.length ≤ m
  sorted : RankSorted r
  sub : ∀ e ∈ r, e ∈ l
  best : ∀ e ∈ l, e ∈ r ∨ (r.length = m ∧ ∀ x ∈ r, rankLt e x = false)

/-- A code put in its place among those ranked, before the ranking is cut. -/
def rankIn (l : List (Nat × Nat × Nat)) (e : Nat × Nat × Nat) : List (Nat × Nat × Nat) :=
  l.takeWhile (fun r => rankLt r e) ++ e :: l.dropWhile (fun r => rankLt r e)

theorem rankIn_perm (l : List (Nat × Nat × Nat)) (e : Nat × Nat × Nat) : (rankIn l e).Perm (e :: l) := by
  rw [rankIn]
  refine List.perm_middle.trans ?_
  rw [List.takeWhile_append_dropWhile]

theorem rankIn_sorted {l : List (Nat × Nat × Nat)} (h : RankSorted l) (e : Nat × Nat × Nat) : RankSorted (rankIn l e) := by
  have hsplit : RankSorted (l.takeWhile (fun r => rankLt r e) ++ l.dropWhile (fun r => rankLt r e)) := by
    rwa [List.takeWhile_append_dropWhile]
  obtain ⟨hfront, hback, hcross⟩ := List.pairwise_append.1 hsplit
  have hbefore : ∀ a ∈ l.takeWhile (fun r => rankLt r e), rankLt a e = true :=
    fun a ha => List.mem_takeWhile_imp (p := fun r => rankLt r e) ha
  have hafter : ∀ b ∈ l.dropWhile (fun r => rankLt r e), rankLt b e = false := by
    cases hd : l.dropWhile (fun r => rankLt r e) with
    | nil => exact fun b hb => absurd hb List.not_mem_nil
    | cons c t =>
      have hc : rankLt c e = false := by
        have := List.head_dropWhile_not (fun r => rankLt r e) (l := l) (by rw [hd]; simp)
        simpa [hd] using this
      rw [hd] at hback
      intro b hb
      rcases List.mem_cons.1 hb with rfl | hb
      · exact hc
      · have := (List.pairwise_cons.1 hback).1 b hb
        rw [rankLt_false] at this hc ⊢
        omega
  refine List.pairwise_append.2 ⟨hfront, List.pairwise_cons.2 ⟨hafter, hback⟩, fun a ha x hx => ?_⟩
  rcases List.mem_cons.1 hx with rfl | hx
  · have := hbefore a ha
    rw [rankLt_iff] at this
    rw [rankLt_false]
    omega
  · exact hcross a ha x hx

theorem putRank_eq (m : Nat) (l : List (Nat × Nat × Nat)) (e : Nat × Nat × Nat) : putRank m l e = (rankIn l e).take m := rfl

/-- One code more put in. -/
theorem Ranks.put {m : Nat} {l r : List (Nat × Nat × Nat)} (h : Ranks m l r) (e : Nat × Nat × Nat) : Ranks m (l ++ [e]) (putRank m r e) := by
  have hperm := rankIn_perm r e
  have hsorted := rankIn_sorted h.sorted e
  have hlen : (rankIn r e).length = r.length + 1 := hperm.length_eq
  have hcut : ∀ x ∈ rankIn r e, x ∈ (rankIn r e).take m ∨
      (((rankIn r e).take m).length = m ∧ ∀ y ∈ (rankIn r e).take m, rankLt x y = false) := fun x hx => by
    rw [← List.take_append_drop m (rankIn r e)] at hx hsorted
    rcases List.mem_append.1 hx with hx | hx
    · exact .inl hx
    · refine .inr ⟨?_, fun y hy => (List.pairwise_append.1 hsorted).2.2 y hy x hx⟩
      have : 0 < ((rankIn r e).drop m).length := List.length_pos_of_mem hx
      rw [List.length_drop] at this
      rw [List.length_take]
      omega
  rw [putRank_eq]
  refine ⟨List.length_take_le _ _, hsorted.sublist (List.take_sublist _ _), fun x hx => ?_, fun x hx => ?_⟩
  · rcases List.mem_cons.1 (hperm.mem_iff.1 (List.mem_of_mem_take hx)) with rfl | hx
    · exact List.mem_append_right _ (List.mem_singleton_self _)
    · exact List.mem_append_left _ (h.sub x hx)
  · rcases List.mem_append.1 hx with hx | hx
    · rcases h.best x hx with hin | ⟨hfull, hbest⟩
      · exact hcut x (hperm.mem_iff.2 (List.mem_cons_of_mem e hin))
      · refine .inr ⟨by rw [List.length_take]; omega, fun y hy => ?_⟩
        rcases List.mem_cons.1 (hperm.mem_iff.1 (List.mem_of_mem_take hy)) with rfl | hin
        · by_contra hlt
          have hlt := Bool.not_eq_false _ ▸ hlt
          have hall : ∀ z ∈ r, rankLt z y = true := fun z hz => by
            have := hbest z hz
            rw [rankLt_false] at this
            rw [rankLt_iff] at hlt ⊢
            omega
          have hend : rankIn r y = r ++ [y] := by
            rw [rankIn, List.takeWhile_eq_self_iff.2 hall, List.dropWhile_eq_nil_iff.2 hall]
          rw [hend, ← hfull, List.take_left' rfl] at hy
          rw [hbest y hy] at hlt
          exact absurd hlt (by decide)
        · exact hbest y hin
    · rw [List.mem_singleton.1 hx]
      exact hcut e (hperm.mem_iff.2 List.mem_cons_self)

theorem ranks_foldl (m : Nat) (l : List (Nat × Nat × Nat)) : Ranks m l (l.foldl (putRank m) []) := by
  induction l using List.reverseRecOn with
  | nil => exact ⟨Nat.zero_le _, .nil, fun e he => he, fun e he => absurd he List.not_mem_nil⟩
  | append_singleton l e ih =>
    rw [List.foldl_append]
    exact ih.put e

/-- The codes a shard puts to a query's ranking. -/
def shardEntries (q : Query) (c : Scanned) : List (Nat × Nat × Nat) :=
  match tget q.tables c.shard.gen with
  | some t => c.codes.map fun e => (codeDist t e.2, e.1, c.shard.gen)
  | none => []

/-- The codes a sweep puts to a query's ranking. -/
def queryEntries (q : Query) (l : List Scanned) : List (Nat × Nat × Nat) := l.flatMap (shardEntries q)

theorem rankOf_eq (q : Query) (l : List Scanned) : rankOf q l = (queryEntries q l).foldl (putRank (queryM q.record)) [] := by
  rw [queryEntries, List.foldl_flatMap, rankOf]
  congr
  funext r c
  rw [shardEntries]
  cases tget q.tables c.shard.gen with
  | none => rfl
  | some t => exact (List.foldl_map ..).symm

theorem mem_queryEntries {q : Query} {l : List Scanned} {x : Nat × Nat × Nat} : x ∈ queryEntries q l ↔
    ∃ c ∈ l, ∃ t, tget q.tables c.shard.gen = some t ∧ ∃ e ∈ c.codes, x = (codeDist t e.2, e.1, c.shard.gen) := by
  rw [queryEntries, List.mem_flatMap]
  refine exists_congr fun c => and_congr_right fun _ => ?_
  rw [shardEntries]
  cases tget q.tables c.shard.gen with
  | none => simp
  | some t => simp [eq_comm]

/-! ### Reads of clean lines (08 R200, 13 R333) -/

/-- No write-back is under way, so a line reads as the store holds it. -/
def State.NoBack (s : State) : Prop := ∀ t ∈ s.store.transfers, ∀ f, s.resEntry t.entry = some f → f.mode ≠ 2

theorem State.pendingLine_none {s : State} (h : s.NoBack) {t : Transfer} (ht : t ∈ s.store.transfers) (r a : Nat) :
    s.pendingLine r a t = none := by
  unfold State.pendingLine
  cases he : s.resEntry t.entry with
  | none => rfl
  | some f => exact if_neg fun hc => h t ht f he hc.1

theorem State.readNow_clean {s : State} (h : s.NoBack) {r a : Nat} (hc : classifyLine (s.line r a) = .clean) :
    s.readNow r a = ((stOK, (s.line r a).take 64), s) := by
  unfold State.readNow
  extract_lets p
  have hp : p = (none, s) :=
    List.foldlRecOn (motive := fun p : Option Bytes × State => p = (none, s)) _ _ rfl fun p hp t ht => by
      rw [hp, State.pendingLine_none h ht]
  rw [hp]
  dsimp only
  rw [State.readLine, hc]

theorem State.line_aligned (s : State) (r a : Nat) : s.line r (64 * (a / 64)) = s.line r a := by
  rw [State.line, State.line, lineAt, lineAt, Nat.mul_div_cancel_left _ (by decide)]

theorem sliceB_take {b : Bytes} {off n m : Nat} (h : off + n ≤ m) : sliceB (b.take m) off n = sliceB b off n := by
  have htake : ((b.take m).drop off).take n = (b.drop off).take n := by
    rw [List.drop_take, List.take_take, Nat.min_eq_left (by omega)]
  rw [sliceB, htake, sliceB]

/-- Half a clean line, as it is read from the store. -/
theorem State.readStore_clean {s : State} (h : s.NoBack) {r a : Nat} (ha : a % 32 = 0) (hc : classifyLine (s.line r a) = .clean) :
    ∃ t : Total, s.readStore r a 32 = (t, s) ∧ t.status = stOK ∧ t.data = sliceB (s.line r a) (a % 64) 32 := by
  have hone : (a % 64 + 32 + 63) / 64 = 1 := by omega
  have hread := State.readNow_clean h (r := r) (a := 64 * (a / 64)) (by rw [State.line_aligned]; exact hc)
  rw [State.line_aligned] at hread
  unfold State.readStore
  rw [hone, List.range'_one, List.foldl_cons, List.foldl_nil, hread]
  exact ⟨_, rfl, rfl, sliceB_take (by omega)⟩

theorem State.codeInfo_clean {s : State} (h : s.NoBack) {p : ShardPlan} {row pos : Nat} (hp : p.info % 32 = 0)
    (hc : classifyLine (s.line row (p.info + 32 * pos)) = .clean) :
    s.codeInfo p row pos = (some (sliceB (s.line row (p.info + 32 * pos)) ((p.info + 32 * pos) % 64) 32), s) := by
  obtain ⟨t, ht, hst, hdata⟩ := State.readStore_clean h (a := p.info + 32 * pos) (by omega) hc
  rw [State.codeInfo, ht]
  dsimp only
  rw [hst, hdata, if_neg (by decide)]

/-! ### A shard scanned -/

/-- The sweep's shards stand in lines that read clean, and no write-back is under way. -/
structure CleanSweep (s : State) (w : Sweep) : Prop where
  distinct : (w.shards.map SweepShard.shard).Nodup
  noBack : s.NoBack
  lines : ∀ d ∈ w.shards, d.count ≤ 134217728 ∧ ∃ p, s.shardPlan d.shard = some p ∧ p.info % 32 = 0 ∧ ∀ j, j < d.count →
    classifyLine (s.line d.row (s.codeArea p false + 64 * (j / 2))) = .clean ∧ classifyLine (s.line d.row (p.info + 32 * j)) = .clean

/-- The code at a place of a shard, and its index. -/
def State.codeAt (s : State) (d : SweepShard) (p : ShardPlan) (j : Nat) : Nat × Bytes :=
  (134217728 * d.shard + j, sliceB (s.line d.row (s.codeArea p false + 64 * (j / 2))) (32 * (j % 2)) 32)

section
variable {s : State} {d : SweepShard} {p : ShardPlan} {buf : List Nat} (hs : s.NoBack)
  (hclean : ∀ j, j < d.count → classifyLine (s.line d.row (s.codeArea p false + 64 * (j / 2))) = .clean)
include hs hclean

theorem State.scanLine_clean {l : Nat} (hl : 2 * l < d.count) : ∃ n, s.scanLine d (s.codeArea p false) buf l =
    ((((linePos d.count l).filter fun j => !buf.contains (134217728 * d.shard + j)).map (s.codeAt d p), n), s) := by
  have hdiv : 2 * l / 2 = l := by omega
  have hread := State.readNow_clean hs (hdiv ▸ hclean (2 * l) hl)
  unfold State.scanLine
  rw [hread]
  refine ⟨_, congrArg (fun c => ((c, _), s)) ?_⟩
  rw [List.filter_map, List.map_map]
  refine List.map_congr_left fun j hj => ?_
  have hpos : j = 2 * l ∨ j = 2 * l + 1 := by simpa using (List.mem_filter.1 (List.mem_filter.1 hj).1).1
  have hj2 : j / 2 = l := by omega
  have hmod : (134217728 * d.shard + j) % 2 = j % 2 := by omega
  simp only [Function.comp_apply, State.codeAt, hj2, hmod]
  rw [sliceB_take (by omega)]

theorem State.scanShard_clean (hp : s.shardPlan d.shard = some p) : ∃ c : Scanned, s.scanShard d buf = (c, s) ∧ c.shard = d ∧
    ∀ e, e ∈ c.codes ↔ ∃ j, j < d.count ∧ 134217728 * d.shard + j ∉ buf ∧ e = s.codeAt d p j := by
  have harea : ((s.shardPlan d.shard).map fun p => s.codeArea p false).getD 0 = s.codeArea p false := by rw [hp]; rfl
  have hfold : ∀ (L : List Nat), (∀ l ∈ L, 2 * l < d.count) → ∀ acc : Scanned, ∃ n,
      L.foldl (fun (p' : Scanned × State) l =>
        let a := p'.2.scanLine d (s.codeArea p false) buf l
        ({ p'.1 with codes := p'.1.codes ++ a.1.1, excluded := p'.1.excluded + a.1.2 }, a.2)) (acc, s) =
      ({ acc with
        codes := acc.codes ++ L.flatMap fun l => ((linePos d.count l).filter fun j =>
          !buf.contains (134217728 * d.shard + j)).map (s.codeAt d p)
        excluded := n }, s) := by
    intro L
    induction L with
    | nil => exact fun _ acc => ⟨acc.excluded, by rw [List.flatMap_nil, List.append_nil]; rfl⟩
    | cons l L ih =>
      intro hL acc
      obtain ⟨k, hline⟩ := State.scanLine_clean hs hclean (buf := buf) (hL l List.mem_cons_self)
      obtain ⟨n, heq⟩ := ih (fun m hm => hL m (List.mem_cons_of_mem l hm)) { acc with
        codes := acc.codes ++ ((linePos d.count l).filter fun j => !buf.contains (134217728 * d.shard + j)).map (s.codeAt d p)
        excluded := acc.excluded + k }
      refine ⟨n, ?_⟩
      rw [List.foldl_cons]
      dsimp only
      rw [hline]
      refine heq.trans ?_
      rw [List.flatMap_cons, List.append_assoc]
  obtain ⟨n, heq⟩ := hfold (List.range ((d.count + 1) / 2)) (fun l hl => by have := List.mem_range.1 hl; omega)
    { shard := d, codes := [], excluded := 0 }
  unfold State.scanShard
  dsimp only
  rw [harea, heq]
  refine ⟨_, rfl, rfl, fun e => ?_⟩
  simp only [List.nil_append, List.mem_flatMap, List.mem_range, List.mem_map, List.mem_filter, linePos, List.mem_cons, List.not_mem_nil,
    or_false, decide_eq_true_eq, Bool.not_eq_true']
  constructor
  · rintro ⟨l, -, j, ⟨⟨-, hj⟩, hbuf⟩, rfl⟩
    exact ⟨j, hj, by simpa using hbuf, rfl⟩
  · rintro ⟨j, hj, hbuf, rfl⟩
    exact ⟨j / 2, by omega, j, ⟨⟨by omega, hj⟩, by simpa using hbuf⟩, rfl⟩

end

end Sys2Proof.Machine
end

section
/-! PROOF. Queries are merged with what a sweep scanned (13 R327, R328, R330), and QueriesAreBatched. -/

namespace Sys2Proof.Machine

open Sys2Proof

/-! ### A clean sweep -/

section
variable {s : State} {w : Sweep} (hs : CleanSweep s w)
include hs

/-- Every shard is scanned, and the state stays as it was. -/
theorem State.scanAll_clean (hw : w.missing = []) (buf : List Nat) : ∃ L : List Scanned, s.scanAll w buf = (L, s) ∧
    L.map Scanned.shard = w.shards ∧ ∀ c ∈ L, ∃ p, s.shardPlan c.shard.shard = some p ∧
      ∀ e, e ∈ c.codes ↔ ∃ j, j < c.shard.count ∧ 134217728 * c.shard.shard + j ∉ buf ∧ e = s.codeAt c.shard p j := by
  have hall : w.shards.filter (fun d => !w.missing.contains d.shard) = w.shards := List.filter_eq_self.2 fun d _ => by simp [hw]
  have hfold : ∀ (ds : List SweepShard), (∀ d ∈ ds, d ∈ w.shards) → ∀ acc : List Scanned, ∃ L : List Scanned,
      ds.foldl (fun (p : List Scanned × State) d =>
        let a := p.2.scanShard d buf
        (p.1 ++ [a.1], a.2)) (acc, s) = (acc ++ L, s) ∧ L.map Scanned.shard = ds ∧
      ∀ c ∈ L, ∃ p, s.shardPlan c.shard.shard = some p ∧
        ∀ e, e ∈ c.codes ↔ ∃ j, j < c.shard.count ∧ 134217728 * c.shard.shard + j ∉ buf ∧ e = s.codeAt c.shard p j := by
    intro ds
    induction ds with
    | nil => exact fun _ acc => ⟨[], by rw [List.append_nil]; rfl, rfl, fun c hc => absurd hc List.not_mem_nil⟩
    | cons d ds ih =>
      intro hds acc
      obtain ⟨-, p, hp, -, hlines⟩ := hs.lines d (hds d List.mem_cons_self)
      obtain ⟨c, hscan, hshard, hcodes⟩ := State.scanShard_clean hs.noBack (buf := buf) (fun j hj => (hlines j hj).1) hp
      obtain ⟨L, heq, hL, hspec⟩ := ih (fun e he => hds e (List.mem_cons_of_mem d he)) (acc ++ [c])
      refine ⟨c :: L, ?_, by rw [List.map_cons, hshard, hL], fun e he => ?_⟩
      · rw [List.foldl_cons]
        dsimp only
        rw [hscan]
        refine heq.trans ?_
        rw [List.append_assoc]
        rfl
      · rcases List.mem_cons.1 he with rfl | he
        · rw [hshard]
          exact ⟨p, hp, hcodes⟩
        · exact hspec e he
  obtain ⟨L, heq, hL, hspec⟩ := hfold w.shards (fun d hd => hd) []
  refine ⟨L, ?_, hL, hspec⟩
  unfold State.scanAll
  rw [hall, heq, List.nil_append]

/-- The metadata of a code of a sweep. -/
def State.infoAt (s : State) (w : Sweep) (i : Nat) : Bytes :=
  match w.shards.find? fun d => d.shard == codeShard i, s.shardPlan (codeShard i) with
  | some d, some p => sliceB (s.line d.row (p.info + 32 * codePos i)) ((p.info + 32 * codePos i) % 64) 32
  | _, _ => []

theorem find_shard {d : SweepShard} (hd : d ∈ w.shards) : (w.shards.find? fun e => e.shard == d.shard) = some d := by
  have hnd := hs.distinct
  generalize w.shards = l at hd hnd
  induction l with
  | nil => exact absurd hd List.not_mem_nil
  | cons e l ih =>
    obtain ⟨hne, hnd⟩ := List.nodup_cons.1 hnd
    rw [List.find?_cons]
    rcases List.mem_cons.1 hd with rfl | hd
    · simp
    · have hshard : (e.shard == d.shard) = false := beq_eq_false_iff_ne.2 fun h => hne (h ▸ List.mem_map.2 ⟨d, hd, rfl⟩)
      rw [hshard]
      exact ih hd hnd

theorem State.infoAt_eq {d : SweepShard} (hd : d ∈ w.shards) {p : ShardPlan} (hp : s.shardPlan d.shard = some p) {j : Nat}
    (hj : j < 134217728) : s.infoAt w (134217728 * d.shard + j) = sliceB (s.line d.row (p.info + 32 * j)) ((p.info + 32 * j) % 64) 32 := by
  have hshard : codeShard (134217728 * d.shard + j) = d.shard := by rw [codeShard]; omega
  have hpos : codePos (134217728 * d.shard + j) = j := by rw [codePos]; omega
  rw [State.infoAt, hshard, hpos, find_shard hs hd, hp]

/-- A code of the sweep: its index names a shard and a place in it. -/
def CodeOf (w : Sweep) (i : Nat) : Prop := ∃ d ∈ w.shards, ∃ j, j < d.count ∧ i = 134217728 * d.shard + j

/-- A ranked code read and put to the filters. -/
def filterStep (w : Sweep) (q : Query) (p : List Nat × State) (e : Nat × Nat × Nat) : List Nat × State :=
  match w.shards.find? fun d => d.shard == codeShard e.2.1, p.2.shardPlan (codeShard e.2.1) with
  | some d, some pl =>
    let i := p.2.codeInfo pl d.row (codePos e.2.1)
    let r := match i.1 with
      | some b => (passes q.record b, i.2)
      | none => (i.2.free.1 % 2 == 1, i.2.free.2)
    (if r.1 then p.1 ++ [e.2.1] else p.1, r.2)
  | _, _ => p

omit hs in
theorem State.filterCodes_eq (q : Query) (ranked : List (Nat × Nat × Nat)) :
    s.filterCodes w q ranked = ranked.foldl (filterStep w q) ([], s) := rfl

theorem filterStep_clean (q : Query) (acc : List Nat) {e : Nat × Nat × Nat} (he : CodeOf w e.2.1) :
    filterStep w q (acc, s) e = (if passes q.record (s.infoAt w e.2.1) then acc ++ [e.2.1] else acc, s) := by
  obtain ⟨d, hd, j, hj, hidx⟩ := he
  obtain ⟨hcount, p, hp, halign, hlines⟩ := hs.lines d hd
  have hshard : codeShard e.2.1 = d.shard := by rw [hidx, codeShard]; omega
  have hpos : codePos e.2.1 = j := by rw [hidx, codePos]; omega
  have hat : s.infoAt w e.2.1 = sliceB (s.line d.row (p.info + 32 * j)) ((p.info + 32 * j) % 64) 32 :=
    hidx ▸ State.infoAt_eq hs hd hp (hj.trans_le hcount)
  rw [filterStep, hshard, hpos, find_shard hs hd]
  dsimp only
  rw [hp]
  dsimp only
  rw [State.codeInfo_clean hs.noBack halign (hlines j hj).2, hat]

/-- The codes that pass a query's filters, by metadata that reads clean. -/
theorem State.filterCodes_clean (q : Query) {ranked : List (Nat × Nat × Nat)} (hr : ∀ e ∈ ranked, CodeOf w e.2.1) :
    s.filterCodes w q ranked = ((ranked.filter fun e => passes q.record (s.infoAt w e.2.1)).map fun e => e.2.1, s) := by
  have hfold : ∀ (l : List (Nat × Nat × Nat)), (∀ e ∈ l, CodeOf w e.2.1) → ∀ acc : List Nat, l.foldl (filterStep w q) (acc, s) =
      (acc ++ (l.filter fun e => passes q.record (s.infoAt w e.2.1)).map (fun e => e.2.1), s) := by
    intro l
    induction l with
    | nil => exact fun _ acc => by rw [List.filter_nil, List.map_nil, List.append_nil]; rfl
    | cons e l ih =>
      intro hl acc
      rw [List.foldl_cons, filterStep_clean hs q acc (hl e List.mem_cons_self), ih fun e he => hl e (List.mem_cons_of_mem _ he)]
      by_cases hpass : passes q.record (s.infoAt w e.2.1) = true
      · rw [if_pos hpass, List.filter_cons_of_pos (by simpa using hpass), List.map_cons, List.append_assoc]
        rfl
      · rw [if_neg hpass, List.filter_cons_of_neg (by simpa using hpass)]
  exact (State.filterCodes_eq q ranked).trans ((hfold ranked hr []).trans (by rw [List.nil_append]))

end

/-! ### A query merged -/

/-- What a whole sweep found for a query, its filters apart. -/
structure WholeFind (w : Sweep) (L : List Scanned) (q : Query) (ue : Bool) (f : Ranked) : Prop where
  seq : f.seq = w.seq
  missing : f.missing = []
  ue : f.ue = ue
  ranks : Ranks (queryM q.record) (queryEntries q L) f.ranked

theorem sweepFound_whole {w : Sweep} {L : List Scanned} {q : Query} (hw : w.missing = []) (hL : L.map Scanned.shard = w.shards)
    (hq : ∀ d ∈ w.shards, tget q.tables d.gen ≠ none) (tick : Nat) (ue : Bool) : WholeFind w L q ue (sweepFound w L tick ue q) := by
  have hall : L.filter (fun c => (tget q.tables c.shard.gen).isSome) = L := List.filter_eq_self.2 fun c hc =>
    Option.isSome_iff_ne_none.2 (hq c.shard (hL ▸ List.mem_map.2 ⟨c, hc, rfl⟩))
  have hdark : w.shards.filter (fun d => (tget q.tables d.gen).isNone) = [] := List.filter_eq_nil_iff.2 fun d hd => by
    simp [hq d hd]
  unfold sweepFound
  rw [hall, hdark]
  refine ⟨rfl, ?_, rfl, ?_⟩
  · dsimp only
    rw [hw]
    rfl
  · dsimp only
    rw [rankOf_eq]
    exact ranks_foldl _ _

/-- What a clean sweep found, with the codes that pass. -/
def State.cleanFind (s : State) (w : Sweep) (L : List Scanned) (ue : Bool) (q : Query) : Ranked :=
  { sweepFound w L s.time.tick ue q with
    passed := ((sweepFound w L s.time.tick ue q).ranked.filter fun e => passes q.record (s.infoAt w e.2.1)).map fun e => e.2.1 }

/-- The state with queries merged behind those that wait. -/
def State.withMerged (s : State) (ms : List Merged) : State := { s with place := { s.place with merged := s.place.merged ++ ms } }

theorem CleanSweep.withMerged {s : State} {w : Sweep} (h : CleanSweep s w) (ms : List Merged) : CleanSweep (s.withMerged ms) w := by
  obtain ⟨h1, h2, h3⟩ := h
  exact ⟨h1, h2, h3⟩

/-- A query of the sweep merged. -/
def mergeNth (w : Sweep) (L : List Scanned) (tableUe : List Nat) (s : State) (i : Nat) : State :=
  match w.queries[i]? with
  | none => s
  | some q => s.mergeQuery w L (tableUe.contains i) q

theorem mergeNth_of_get {w : Sweep} (L : List Scanned) (tableUe : List Nat) {s : State} {i : Nat} {q : Query}
    (h : w.queries[i]? = some q) : mergeNth w L tableUe s i = s.mergeQuery w L (tableUe.contains i) q := by
  rw [mergeNth, h]

section
variable {s : State} {w : Sweep} (hs : CleanSweep s w) (hw : w.missing = []) {L : List Scanned} (hL : L.map Scanned.shard = w.shards)
  (hcodes : ∀ c ∈ L, ∃ p, s.shardPlan c.shard.shard = some p ∧
    ∀ e ∈ c.codes, ∃ j, j < c.shard.count ∧ e = s.codeAt c.shard p j)
include hL hcodes

theorem queryEntries_codes {q : Query} {x : Nat × Nat × Nat} (hx : x ∈ queryEntries q L) : CodeOf w x.2.1 := by
  obtain ⟨c, hc, t, -, e, he, rfl⟩ := mem_queryEntries.1 hx
  obtain ⟨p, -, hspec⟩ := hcodes c hc
  obtain ⟨j, hj, rfl⟩ := hspec e he
  exact ⟨c.shard, hL ▸ List.mem_map.2 ⟨c, hc, rfl⟩, j, hj, rfl⟩

include hs hw

/-- A query with a table of each shard's generation is merged with all that was scanned. -/
theorem State.mergeQuery_clean {q : Query} (hq : ∀ d ∈ w.shards, tget q.tables d.gen ≠ none) (ms : List Merged) (ue : Bool) :
    (s.withMerged ms).mergeQuery w L ue q = s.withMerged (ms ++ [⟨q, s.cleanFind w L ue q⟩]) := by
  have hfind := sweepFound_whole hw hL hq s.time.tick ue
  have hcode : ∀ e ∈ (sweepFound w L s.time.tick ue q).ranked, CodeOf w e.2.1 := fun e he =>
    queryEntries_codes hL hcodes (hfind.ranks.sub e he)
  have hfilter := State.filterCodes_clean (hs.withMerged ms) q hcode
  have htick : (s.withMerged ms).time.tick = s.time.tick := rfl
  have hinfo : ∀ i, (s.withMerged ms).infoAt w i = s.infoAt w i := fun _ => rfl
  unfold State.mergeQuery
  rw [htick]
  dsimp only
  rw [hfilter, State.rerunOr, if_neg]
  · rw [State.withMerged, State.withMerged, ← List.append_assoc]
    rfl
  · simp [Merged.reruns, hfind.missing]

/-- The queries of the sweep merged in order. -/
theorem State.mergeAll_clean (hq : ∀ q ∈ w.queries, ∀ d ∈ w.shards, tget q.tables d.gen ≠ none) (tableUe : List Nat) {n : Nat}
    (hn : n ≤ w.queries.length) : ∃ ms : List Merged,
      (List.range n).foldl (mergeNth w L tableUe) s = s.withMerged ms ∧ ms.length = n ∧
      ∀ i q, i < n → w.queries[i]? = some q → ms[i]? = some ⟨q, s.cleanFind w L (tableUe.contains i) q⟩ := by
  induction n with
  | zero => exact ⟨[], by rw [State.withMerged, List.append_nil]; rfl, rfl, fun i q hi => absurd hi (Nat.not_lt_zero i)⟩
  | succ n ih =>
    obtain ⟨ms, heq, hlen, hspec⟩ := ih (by omega)
    have hget := List.getElem?_eq_getElem (show n < w.queries.length from hn)
    refine ⟨ms ++ [⟨w.queries[n], s.cleanFind w L (tableUe.contains n) w.queries[n]⟩], ?_, by simp [hlen], fun i q hi hget' => ?_⟩
    · rw [List.range_succ, List.foldl_append, heq, List.foldl_cons, List.foldl_nil, mergeNth_of_get _ _ hget]
      exact State.mergeQuery_clean hs hw hL hcodes (hq _ (List.getElem_mem _)) ms _
    · rcases Nat.lt_succ_iff_lt_or_eq.1 hi with hi | rfl
      · rw [List.getElem?_append_left (by omega)]
        exact hspec i q hi hget'
      · rw [hget] at hget'
        obtain rfl := Option.some.inj hget'
        rw [List.getElem?_append_right (by omega), hlen, Nat.sub_self]
        rfl

end

/-! ### Any sweep -/

/-- A state less what scanning changes: store lines, free choices and the code lines noted. -/
def State.sansNoted (s : State) : State := { s.sansScan with place := { s.place with badLines := [] } }

theorem State.sansNoted_of_sansScan {s t : State} (h : t.sansScan = s.sansScan) : t.sansNoted = s.sansNoted :=
  (congrArg (fun v : State => { v with place := { v.place with badLines := [] } }) h :)

theorem State.noteBadLine_sansNoted (s : State) (k l : Nat) : (s.noteBadLine k l).sansNoted = s.sansNoted := by
  unfold State.noteBadLine
  split <;> rfl

theorem State.scanLine_sansNoted (s : State) (d : SweepShard) (area : Nat) (buf : List Nat) (l : Nat) :
    (s.scanLine d area buf l).2.sansNoted = s.sansNoted := by
  unfold State.scanLine
  dsimp only
  split
  · exact (State.noteBadLine_sansNoted _ _ _).trans (State.sansNoted_of_sansScan (s.readNow_sansScan _ _))
  · exact State.sansNoted_of_sansScan (s.readNow_sansScan _ _)

theorem State.scanShard_sansNoted (s : State) (d : SweepShard) (buf : List Nat) : (s.scanShard d buf).2.sansNoted = s.sansNoted :=
  List.foldlRecOn (motive := fun p : Scanned × State => p.2.sansNoted = s.sansNoted) _ _ rfl fun p hp _ _ =>
    (p.2.scanLine_sansNoted _ _ _ _).trans hp

theorem State.scanAll_sansNoted (s : State) (w : Sweep) (buf : List Nat) : (s.scanAll w buf).2.sansNoted = s.sansNoted :=
  List.foldlRecOn (motive := fun p : List Scanned × State => p.2.sansNoted = s.sansNoted) _ _ rfl fun p hp _ _ =>
    (p.2.scanShard_sansNoted _ _).trans hp

theorem State.filterCodes_sansNoted (s : State) (w : Sweep) (q : Query) (ranked : List (Nat × Nat × Nat)) :
    (s.filterCodes w q ranked).2.sansNoted = s.sansNoted := by
  refine List.foldlRecOn (motive := fun p : List Nat × State => p.2.sansNoted = s.sansNoted) _ _ rfl fun p hp e _ => ?_
  have hinfo : ∀ d row pos, (p.2.codeInfo d row pos).2.sansNoted = s.sansNoted := fun d row pos =>
    (State.sansNoted_of_sansScan (p.2.codeInfo_sansScan d row pos)).trans hp
  dsimp only
  split
  · split <;> exact hinfo _ _ _
  · exact hp

theorem putQuery_length (l : List Query) (q : Query) : (putQuery l q).length = l.length + 1 := by
  have := congrArg List.length (List.takeWhile_append_dropWhile (p := fun r : Query => !keyLt q.key r.key) (l := l))
  rw [List.length_append] at this
  rw [putQuery, List.length_append, List.length_cons]
  omega

/-- A state less what the merging of queries changes. -/
def State.sansMerge (s : State) : State := { s.sansNoted with place := { s.sansNoted.place with merged := [], queue := [] } }

theorem State.sansMerge_of_sansNoted {s t : State} (h : t.sansNoted = s.sansNoted) : t.sansMerge = s.sansMerge :=
  congrArg (fun v : State => { v with place := { v.place with merged := [], queue := [] } }) h

/-- The queries merged or waiting. -/
def State.openQueries (s : State) : Nat := s.place.merged.length + s.place.queue.length

theorem State.mergeQuery_parts (s : State) (w : Sweep) (L : List Scanned) (ue : Bool) (q : Query) :
    (s.mergeQuery w L ue q).sansMerge = s.sansMerge ∧ (s.mergeQuery w L ue q).openQueries = s.openQueries + 1 := by
  unfold State.mergeQuery
  dsimp only
  have hfilter := s.filterCodes_sansNoted w q (sweepFound w L s.time.tick ue q).ranked
  generalize s.filterCodes w q (sweepFound w L s.time.tick ue q).ranked = p at *
  have hmask := State.sansMerge_of_sansNoted hfilter
  have hmerged : p.2.place.merged = s.place.merged := (congrArg (·.place.merged) hfilter :)
  have hqueue : p.2.place.queue = s.place.queue := (congrArg (·.place.queue) hfilter :)
  unfold State.rerunOr
  split
  · refine ⟨(congrArg State.sansMerge rfl).trans hmask, ?_⟩
    rw [State.openQueries, State.openQueries, ← hmerged, ← hqueue]
    exact (congrArg (p.2.place.merged.length + ·) (putQuery_length _ _)).trans (Nat.add_assoc _ _ _).symm
  · refine ⟨(congrArg State.sansMerge rfl).trans hmask, ?_⟩
    rw [State.openQueries, State.openQueries, ← hmerged, ← hqueue, List.length_append, List.length_singleton]
    dsimp only
    omega

theorem State.mergeAll_parts (w : Sweep) (L : List Scanned) (tableUe : List Nat) {n : Nat} (hn : n ≤ w.queries.length) (s : State) :
    ∀ t, t = (List.range n).foldl (mergeNth w L tableUe) s → t.sansMerge = s.sansMerge ∧ t.openQueries = s.openQueries + n := by
  induction n with
  | zero =>
    rintro t rfl
    exact ⟨rfl, rfl⟩
  | succ n ih =>
    obtain ⟨hmask, hopen⟩ := ih (by omega) _ rfl
    rw [List.range_succ, List.foldl_append, List.foldl_cons, List.foldl_nil,
      mergeNth_of_get _ _ (List.getElem?_eq_getElem (show n < w.queries.length from hn))]
    generalize (List.range n).foldl (mergeNth w L tableUe) s = v at *
    rintro t rfl
    obtain ⟨hm, ho⟩ := v.mergeQuery_parts w L (tableUe.contains n) w.queries[n]
    exact ⟨hm.trans hmask, by rw [ho, hopen]; omega⟩

/-! ### SWEEP_SCAN_END -/

/-- The state with no sweep. -/
def State.sweepless (s : State) : State := { s with place := { s.place with sweep := none } }

/-- The state at a sweep's end, its queries merged. -/
def State.sweepMerged (s : State) (w : Sweep) (excluded tableUe : List Nat) : State :=
  (List.range w.queries.length).foldl (mergeNth w (s.sweepless.scanAll w excluded).1 tableUe) (s.sweepless.scanAll w excluded).2

section
variable {s u : State} {x : At} (hu : s.enter x = u) (excluded tableUe : List Nat)
include hu

theorem sweepScanEnd_none (h : u.place.sweep = none) : exec (.sweepScanEnd x excluded tableUe) s = .next u := by
  subst hu
  have row : exec (.sweepScanEnd x excluded tableUe) s = execSweepScanEnd x excluded tableUe s := rfl
  rw [row, execSweepScanEnd]
  dsimp only
  rw [h]

theorem sweepScanEnd_some {w : Sweep} (h : u.place.sweep = some w) :
    exec (.sweepScanEnd x excluded tableUe) s = .next (u.sweepMerged w excluded tableUe) := by
  subst hu
  have row : exec (.sweepScanEnd x excluded tableUe) s = execSweepScanEnd x excluded tableUe s := rfl
  rw [row, execSweepScanEnd]
  dsimp only
  rw [h]
  rfl

end

end Sys2Proof.Machine
end

section
/-! PROOF. QueriesAreBatched: what a batch's close leaves alone, and the obligation (13 R325 to R330). -/

namespace Sys2Proof.Machine

open Sys2Proof

/-! ### Queries taken by a batch -/

theorem forall₂_get {α β : Type} {R : α → β → Prop} {l : List α} {m : List β} (h : List.Forall₂ R l m) :
    ∀ {i : Nat} {a : α} {b : β}, l[i]? = some a → m[i]? = some b → R a b := by
  induction h with
  | nil => exact fun ha => by simp at ha
  | cons hr _ ih =>
    intro i a b ha hb
    cases i with
    | zero =>
      rw [List.getElem?_cons_zero] at ha hb
      exact Option.some.inj ha ▸ Option.some.inj hb ▸ hr
    | succ i =>
      rw [List.getElem?_cons_succ] at ha hb
      exact ih ha hb

/-- What taking tables leaves alone of a query. -/
theorem tabled_map {α : Type} {gens : List Nat} {l m : List Query} (h : List.Forall₂ (Tabled gens) l m) (view : Query → α)
    (hview : ∀ q more, view { q with tables := q.tables ++ more } = view q) : m.map view = l.map view := by
  induction h with
  | nil => rfl
  | cons hr _ ih =>
    obtain ⟨more, rfl, -⟩ := hr
    rw [List.map_cons, List.map_cons, ih, hview]

/-! ### A batch closed after map maintenance -/

section
variable {u b : State} (hb : b = if u.unit.state = .run then u.mapMaintenance else u)
include hb

theorem maintained_sansUpkeep : b.sansUpkeep = u.sansUpkeep := by
  rw [hb]
  split
  · exact u.mapMaintenance_sansUpkeep
  · rfl

/-- What map maintenance and the switch of shards leave alone. -/
theorem switched_sansUpkeep : b.switchShards.sansUpkeep.sansSwitch = u.sansUpkeep.sansSwitch :=
  ((congrArg State.sansUpkeep b.switchShards_sansSwitch :)).trans (congrArg State.sansSwitch (maintained_sansUpkeep hb) :)

theorem switched_row (r : Nat) : (b.switchShards.row r).st = (u.row r).st ∧ (b.switchShards.row r).config = (u.row r).config := by
  have hrow : b.switchShards.row r = b.row r := (congrArg (State.row · r) b.switchShards_sansSwitch :)
  rw [hrow]
  exact State.rows_of_sansUpkeep (maintained_sansUpkeep hb) r

theorem switched_resident (d : ShardPlan) : b.switchShards.resident d = u.resident d := by
  have hsup : b.switchShards.unsealed (b.switchShards.shardSuper d.shard) = u.unsealed (u.shardSuper d.shard) :=
    (congrArg (fun v : State => v.unsealed (v.shardSuper d.shard)) (switched_sansUpkeep hb) :)
  rw [State.resident, State.resident, hsup, State.readRow_congr (switched_row hb)]

theorem switched_missed {k : Nat} : k ∈ b.switchShards.missedShards ↔
    ∃ d ∈ u.shardPlans, d.shard = k ∧ (b.switchShards.shard k).count ≠ 0 ∧ u.resident d = none := by
  have hplans : b.switchShards.shardPlans = u.shardPlans := (congrArg State.shardPlans (switched_sansUpkeep hb) :)
  rw [State.mem_missedShards, hplans]
  simp only [switched_resident hb]

end

/-- A sweep's start before its streams are issued: everything but the store lines and the shards is as it was. -/
theorem sweeping_streams {u b : State} (hb : b = if u.unit.state = .run then u.mapMaintenance else u) (w : Sweep) (n : Nat)
    {k : Nat} {e : ResEntry} (hk : k ∈ u.resIndices fun f => f.mode == 3) (he : u.resEntry k = some e)
    (hrow : (u.row (u.resSuper e / 8)).st = .serving) (hsup : u.unsealed (u.resSuper e) = true) :
    ⟨k, u.resSuper e, u.time.tick⟩ ∈ (b.switchShards.sweeping w n).issueStreams.store.transfers := by
  have hmask := switched_sansUpkeep hb
  have hindices : (b.switchShards.sweeping w n).resIndices (fun f => f.mode == 3) = u.resIndices fun f => f.mode == 3 :=
    (congrArg (fun v : State => v.resIndices fun f => f.mode == 3) hmask :)
  have hentry : (b.switchShards.sweeping w n).resEntry k = u.resEntry k := (congrArg (State.resEntry · k) hmask :)
  have hsuper : (b.switchShards.sweeping w n).resSuper e = u.resSuper e := (congrArg (State.resSuper · e) hmask :)
  have hsealed : (b.switchShards.sweeping w n).unsealed (u.resSuper e) = u.unsealed (u.resSuper e) :=
    (congrArg (State.unsealed · (u.resSuper e)) hmask :)
  have htick : (b.switchShards.sweeping w n).time.tick = u.time.tick := (congrArg (·.time.tick) hmask :)
  have hissued := (b.switchShards.sweeping w n).issueStreams_parts.2 k e (hindices ▸ hk) (hentry.trans he)
    (by rw [hsuper]; exact ((switched_row hb _).1).trans hrow) (by rw [hsuper, hsealed]; exact hsup)
  rwa [hsuper, htick] at hissued

end Sys2Proof.Machine

open Sys2Proof Sys2Proof.Machine

/-- Settles O43: the batch is `State.closeBatch_starts` and `State.issueStreams_parts`, the ranking `ranks_foldl` over what
`State.scanAll_clean` scans. -/
theorem queriesAreBatched : Obligations.QueriesAreBatched := by
  unfold Obligations.QueriesAreBatched
  refine ⟨fun s u x qp tag dt c hu hc given len hgiven hlen => ?_, fun s u b x hu hb => ⟨fun hno => ?_, fun hsweep hqueue hmove hfresh => ?_⟩,
    fun s u x excluded tableUe hu => ⟨sweepScanEnd_none hu.symm excluded tableUe, fun w hw => ?_⟩⟩
  · obtain ⟨rfl, rfl⟩ := find_name hc.1.1
    have hdata : len = queryData c.params := by
      rw [hlen, queryData, hgiven, bitAt]
      by_cases h : fieldN c.params 44 1 = fieldN c.params 45 1 <;> simp [h]
    subst hdata
    refine ⟨fun hd => answeredWith_of_completes hc.1 (placeQuery_noData hu.symm hc hd), fun d hd hg hbad => ?_, fun d hd hall => ?_⟩
    · have row := placeQuery_row hu.symm hc hd
      have htables : u.queryTables c.params d = (hostTables c.params d, u) := if_pos (by rw [bitAt, ← hgiven, hg])
      rw [htables, if_pos] at row
      · exact answeredWith_of_completes hc.1 row
      · obtain ⟨g, hmem, hne⟩ := hbad
        rw [Bool.not_eq_true', Bool.eq_false_iff, ne_eq, covered_iff]
        intro h
        have := mem_hostTables.1 (h g hmem)
        tauto
    · have row := placeQuery_row hu.symm hc hd
      have htables : ∃ (l : List (Nat × Bytes)) (n : Nat), u.queryTables c.params d = (l, { u with freeCtr := n }) ∧
          (given = true → l = hostTables c.params d) ∧ (given = false → l.map Prod.fst = u.liveGens) := by
        by_cases hg : given = true
        · exact ⟨hostTables c.params d, u.freeCtr, if_pos (by rw [bitAt, ← hgiven, hg]), fun _ => rfl, fun hf => by simp [hg] at hf⟩
        · obtain ⟨l, n, heq, hgens⟩ := u.tablesOf_parts d
          refine ⟨l, n, (if_neg ?_).trans heq, fun ht => absurd ht hg, fun _ => hgens⟩
          rw [bitAt, ← hgiven]
          exact hg
      obtain ⟨l, n, heq, hhost, hgens⟩ := htables
      rw [heq, if_neg] at row
      · exact ⟨_, hostQuery c d l u.time.tick, row, rfl, rfl, rfl, rfl, rfl, hhost, hgens, rfl⟩
      · rw [Bool.not_eq_true', Bool.not_eq_false, covered_iff]
        intro g hmem
        by_cases hg : given = true
        · rw [hhost hg]
          exact mem_hostTables.2 (hall hg g hmem)
        · rw [hgens (Bool.eq_false_iff.2 hg)]
          exact hmem
  · have row := batchClose_row hu.symm
    rw [← hb] at row
    have hmask := maintained_sansUpkeep hb
    have hsweep : b.place.sweep = u.place.sweep := (congrArg (·.place.sweep) hmask :)
    have hqueue : b.place.queue = u.place.queue := (congrArg (·.place.queue) hmask :)
    have hmove : b.wafer.move = u.wafer.move := (congrArg (·.wafer.move) hmask :)
    rw [State.closeBatch_idle (by rw [hsweep, hqueue, hmove]; exact hno), hsweep, if_neg (by cases u.place.sweep <;> simp)] at row
    exact row
  · have row := batchClose_row hu.symm
    rw [← hb] at row
    have hmask := maintained_sansUpkeep hb
    have hsweepB : b.place.sweep = u.place.sweep := (congrArg (·.place.sweep) hmask :)
    have hqueueB : b.place.queue = u.place.queue := (congrArg (·.place.queue) hmask :)
    have hmoveB : b.wafer.move = u.wafer.move := (congrArg (·.wafer.move) hmask :)
    have hseqB : b.place.sweepSeq = u.place.sweepSeq := (congrArg (·.place.sweepSeq) hmask :)
    have hlktB : b.lkt b.time.active = u.lkt u.time.active := (congrArg (fun v : State => v.lkt v.time.active) hmask :)
    obtain ⟨w, n, hclose, htabled, hseq, hstart, hshards, hmissing⟩ := State.closeBatch_starts (s := b) (hsweepB.trans hsweep)
      (hqueueB ▸ hqueue) (hmoveB.trans hmove) (hqueueB ▸ hfresh)
    rw [hclose, if_pos (by rw [hsweep]; rfl)] at row
    obtain ⟨hrest, -⟩ := (b.switchShards.sweeping w n).issueStreams_parts
    have hplace : (b.switchShards.sweeping w n).issueStreams.place = (b.switchShards.sweeping w n).place := (congrArg State.place hrest :)
    have hstreams := fun k e => sweeping_streams hb w n (k := k) (e := e)
    have hqueueC : b.switchShards.place.queue = u.place.queue :=
      ((congrArg (·.place.queue) b.switchShards_sansSwitch :)).trans hqueueB
    have hmergedC : b.switchShards.place.merged = u.place.merged :=
      ((congrArg (·.place.merged) b.switchShards_sansSwitch :)).trans (congrArg (·.place.merged) hmask :)
    have hmissed := fun k => switched_missed hb (k := k)
    have hrows := fun r => switched_row hb r
    have hC : b.switchShards.sansSwitch = b.sansSwitch := b.switchShards_sansSwitch
    rw [hqueueB] at htabled
    generalize b.switchShards = v at *
    have hshard : ∀ k, (v.sweeping w n).issueStreams.shard k = v.shard k := fun k =>
      (congrArg (State.shard · k) hrest :)
    have hlive : (v.sweeping w n).issueStreams.liveGens = v.liveGens := (congrArg State.liveGens hrest :)
    refine ⟨_, w, row, by rw [hplace]; rfl, tabled_map htabled Query.record (fun _ _ => rfl), tabled_map htabled Query.src (fun _ _ => rfl),
      fun i p q hp hq => ?_, ?_, by rw [hseq, hseqB], by rw [hplace]; rfl, hstart.trans hlktB, ?_, fun k e hk he hrow hsup =>
      hstreams k e hk he hrow hsup, fun k => ?_, fun e he => ?_, ?_⟩
    · have hi : i < 256 := by
        have hlt := (List.getElem?_eq_some_iff.1 hq).1
        rw [← htabled.length_eq, List.length_take] at hlt
        omega
      obtain ⟨more, rfl, hgens⟩ := forall₂_get htabled (by rw [List.getElem?_take_of_lt hi]; exact hp) hq
      exact ⟨fun e he => List.mem_append_left _ he, fun hd g hg => hgens hd g (hlive ▸ hg)⟩
    · rw [hplace]
      exact congrArg (List.drop 256) hqueueC
    · rw [hplace]
      exact hmergedC
    · rw [hmissing, mem_sinsAll, hmissed, hshard]
      simp
    · rw [hshards] at he
      obtain ⟨hgen, hcount, hserve⟩ := State.mem_sweepShards he
      rw [hshard]
      exact ⟨hgen, hcount, ((hrows _).1).symm.trans hserve⟩
    · exact ((congrArg (fun z : Machine.State => { z with
        place := (v.sweeping w n).issueStreams.place
        ep := (v.sweeping w n).issueStreams.ep
        freeCtr := (v.sweeping w n).issueStreams.freeCtr
        store := { z.store with transfers := (v.sweeping w n).issueStreams.store.transfers } }) hrest :)).trans
        (congrArg (fun z : Machine.State => { z with
          place := (v.sweeping w n).issueStreams.place
          ep := (v.sweeping w n).issueStreams.ep
          freeCtr := (v.sweeping w n).issueStreams.freeCtr
          store := { z.store with transfers := (v.sweeping w n).issueStreams.store.transfers } }) hC :)
  · have hscan := State.scanAll_sansNoted u.sweepless w excluded
    obtain ⟨hmask, hopen⟩ := State.mergeAll_parts w (u.sweepless.scanAll w excluded).1 tableUe (le_refl w.queries.length)
      (u.sweepless.scanAll w excluded).2 (u.sweepMerged w excluded tableUe) rfl
    have hall := hmask.trans (State.sansMerge_of_sansNoted hscan)
    have hplaceM : (u.sweepless.scanAll w excluded).2.place.merged = u.place.merged := (congrArg (·.place.merged) hscan :)
    have hplaceQ : (u.sweepless.scanAll w excluded).2.place.queue = u.place.queue := (congrArg (·.place.queue) hscan :)
    refine ⟨_, sweepScanEnd_some hu.symm excluded tableUe hw, (congrArg (·.place.sweep) hall :), (congrArg State.ep hall :),
      (congrArg State.cells hall :), (congrArg State.stg hall :), (congrArg (·.place.shards) hall :), (congrArg (·.place.nodes) hall :),
      ?_, fun hmiss hnd hback htables hlines => ?_⟩
    · rw [State.openQueries, State.openQueries, hplaceM, hplaceQ] at hopen
      exact hopen
    · have hs : CleanSweep u.sweepless w := ⟨hnd, hback, hlines⟩
      obtain ⟨L, hscanned, hL, hcodes⟩ := State.scanAll_clean hs hmiss excluded
      obtain ⟨ms, hmerge, hmslen, hms⟩ := State.mergeAll_clean hs hmiss hL (fun c hc => (hcodes c hc).imp fun p hp => ⟨hp.1, fun e he =>
        ((hp.2 e).1 he).imp fun j hj => ⟨hj.1, hj.2.2⟩⟩) htables tableUe (le_refl w.queries.length)
      have hend : u.sweepMerged w excluded tableUe = u.sweepless.withMerged ms := by
        rw [State.sweepMerged, hscanned]
        exact hmerge
      rw [hend]
      refine ⟨rfl, fun i q hq => ⟨⟨q, u.sweepless.cleanFind w L (tableUe.contains i) q⟩, ?_, rfl, ?_⟩⟩
      · have hget := hms i q (List.getElem?_eq_some_iff.1 hq).1 hq
        exact (List.getElem?_append_right (Nat.le_add_right _ _)).trans (by rw [Nat.add_sub_cancel_left]; exact hget)
      have hmem : q ∈ w.queries := List.mem_of_getElem? hq
      obtain ⟨hseq, hmissing, hue, hranks⟩ := sweepFound_whole hmiss hL (htables q hmem) u.sweepless.time.tick (tableUe.contains i)
      refine ⟨by rw [State.cleanFind, hue]; simp, hseq, hmissing, hranks.length, hranks.sorted, ?_⟩
      rintro d hd p j tb e hp hj htb hex rfl
      obtain ⟨hcount, p', hp', -, -⟩ := hlines d hd
      obtain rfl := Option.some.inj (hp.symm.trans hp')
      obtain ⟨c, hc, rfl⟩ := List.mem_map.1 (hL ▸ hd)
      obtain ⟨p', hpc, hspec⟩ := hcodes c hc
      obtain rfl := Option.some.inj (hp.symm.trans hpc)
      have hentry : (codeDist tb (sliceB (u.line c.shard.row (u.codeArea p false + 64 * (j / 2))) (32 * (j % 2)) 32),
          134217728 * c.shard.shard + j, c.shard.gen) ∈ queryEntries q L :=
        mem_queryEntries.2 ⟨c, hc, tb, htb, _, (hspec _).2 ⟨j, hj, hex, rfl⟩, rfl⟩
      refine ⟨(hranks.best _ hentry).imp_right And.right, fun hin => ?_⟩
      have hinfo := State.infoAt_eq hs hd hp (hj.trans_le hcount)
      have hline : ∀ a, u.sweepless.line c.shard.row a = u.line c.shard.row a := fun _ => rfl
      rw [hline] at hinfo
      rw [← hinfo]
      simp only [State.cleanFind, List.mem_map, List.mem_filter]
      constructor
      · rintro ⟨e, ⟨-, hpass⟩, he⟩
        rwa [he] at hpass
      · exact fun hpass => ⟨_, ⟨hin, hpass⟩, rfl⟩
end

section
/-! PROOF. What a commit decides, and the operations of an image's change that leave it alone (19 R474, R480, R488 to R490). -/

namespace Sys2Proof.Machine

open Sys2Proof

/-! ### What a commit decides -/

/-- What a commit decides: the image in use, its placement and binding, the epoch, the commit armed, the move in progress;
and the rows' configuration, which a commit compares its image with. -/
structure InUse where
  image : Option HiveImg
  placement : Nat
  binding : List Nat
  epoch : Nat
  armed : Option ArmedCommit
  move : Option (Nat × List Nat)
  configs : List Nat

def State.inUse (s : State) : InUse where
  image := s.ep.image
  placement := s.ep.placement
  binding := s.ep.binding
  epoch := s.ep.epoch
  armed := s.ep.armed
  move := s.wafer.move
  configs := s.store.rows.map StoreRow.config

theorem State.inUse_sansLines (s : State) : s.sansLines.inUse = s.inUse := by
  simp [State.inUse, State.sansLines, Function.comp_def, StoreRow.sansLists]

theorem State.inUse_of_sansLines {s t : State} (h : t.sansLines = s.sansLines) : t.inUse = s.inUse := by
  rw [← t.inUse_sansLines, h, s.inUse_sansLines]

theorem State.inUse_of_sansReports {s t : State} (h : t.sansReports = s.sansReports) : t.inUse = s.inUse :=
  (congrArg State.inUse h :)

theorem State.inUse_of_hostOnly {s t : State} (h : HostOnly s t) : t.inUse = s.inUse := by rw [h]; rfl

theorem State.complete_inUse (s : State) (q t st d : Nat) (r : Bytes) : (s.complete q t st d r).inUse = s.inUse :=
  State.inUse_of_hostOnly (s.complete_hostOnly q t st d r)

theorem State.completeOpt_inUse (s : State) (c : Option (Nat × Nat)) (st d : Nat) (r : Bytes) :
    (s.completeOpt c st d r).inUse = s.inUse := State.inUse_of_hostOnly (completeOpt_hostOnly s c st d r)

theorem State.event_inUse (s : State) (k c u d : Nat) : (s.event k c u d).inUse = s.inUse :=
  State.inUse_of_sansReports (s.event_sansReports k c u d)

theorem State.unsol_inUse (s : State) (c a : Nat) : (s.unsol c a).inUse = s.inUse :=
  State.inUse_of_sansReports (s.unsol_sansReports c a)

theorem State.evalCapacity_inUse (s : State) : s.evalCapacity.inUse = s.inUse :=
  State.inUse_of_sansReports s.evalCapacity_sansReports

theorem State.updatePairs_inUse (s : State) : s.updatePairs.inUse = s.inUse :=
  State.inUse_of_sansReports s.updatePairs_sansReports

/-! ### Single items -/

theorem State.commitSource_inUse (s : State) (i : Nat) (d : SourceDef) : (s.commitSource i d).inUse = s.inUse := by
  unfold State.commitSource
  split <;> rfl

theorem State.walkFills_inUse (s : State) (t : Nat) : (s.walkFills t).2.inUse = s.inUse := by
  unfold State.walkFills
  dsimp only
  split <;> rfl

theorem State.commitMode_inUse (s : State) (f : Nat) (ha : Bool) : (s.commitMode f ha).inUse = s.inUse := by
  unfold State.commitMode
  split
  · rfl
  · dsimp only
    split
    · split <;> rfl
    · split
      · rfl
      · exact foldl_keeps State.inUse _ (fun t _ => t.walkFills_inUse _) _ _
    · rfl
    · rfl

theorem State.commitGate_inUse (s : State) (p : Nat) (g : GateList) : (s.commitGate p g).inUse = s.inUse := by
  unfold State.commitGate
  split <;> rfl

theorem State.commitItems_inUse (s : State) (t : StagedSet) : (s.commitItems t).inUse = s.inUse := by
  unfold State.commitItems
  dsimp only
  rw [foldl_keeps State.inUse _ (fun t _ => t.commitMode_inUse _ _),
    foldl_keeps State.inUse _ (fun t _ => t.commitGate_inUse _ _)]
  exact foldl_keeps State.inUse _ (fun t _ => t.commitSource_inUse _ _) _ _

theorem State.planShards_inUse (s : State) (g : Nat) : (s.planShards g).inUse = s.inUse := by
  refine foldl_keeps State.inUse _ (fun t d => ?_) _ _
  split <;> rfl

theorem State.commitBook_inUse (s : State) (b : Bytes) : (s.commitBook b).2.inUse = s.inUse := by
  unfold State.commitBook
  dsimp only
  split <;> exact s.planShards_inUse _

theorem State.startRolling_inUse (s : State) (f : Nat) (l : List RollPart) : (s.startRolling f l).inUse = s.inUse := by
  unfold State.startRolling
  split <;> rfl

theorem State.wakeUsed_inUse (s : State) : s.wakeUsed.inUse = s.inUse := by
  rw [State.wakeUsed_link]
  rfl

theorem State.recheckModules_inUse (s : State) : s.recheckModules.inUse = s.inUse := rfl

/-! ### Parts of an image -/

theorem State.disarmImage_inUse (s : State) : s.disarmImage.inUse = s.inUse := rfl

theorem State.putImage_inUse (s : State) (m : HiveImg) (p : Nat) (b : List Nat) :
    (s.putImage m p b).inUse = { s.inUse with image := some m, placement := p, binding := b } := rfl

theorem State.loadXforms_inUse (s : State) (m : HiveImg) : (s.loadXforms m).inUse = s.inUse := rfl

theorem State.fillBufs_inUse (s : State) (m : HiveImg) : (s.fillBufs m).inUse = s.inUse := rfl

theorem State.moveShown_inUse (s : State) (f : Nat → Option Nat) (k : Bool) : (s.moveShown f k).inUse = s.inUse := rfl

theorem State.changeEdges_inUse (s : State) (m : HiveImg) : (s.changeEdges m).2.inUse = s.inUse := rfl

theorem State.modRow_inUse (s : State) (r : Nat) {f : StoreRow → StoreRow} (hf : ∀ v, (f v).config = v.config) :
    (s.modRow r f).inUse = s.inUse := by
  have h : (s.modRow r f).store.rows.map StoreRow.config = s.store.rows.map StoreRow.config := map_lmod_view _ hf _ _
  simp only [State.inUse, h]
  rfl

theorem State.writeArea_inUse (s : State) (r base : Nat) (m : HiveImg) : (s.writeArea r base m).inUse = s.inUse := by
  unfold State.writeArea
  rw [State.modRow_inUse _ _ (by intro v; rfl)]
  exact State.inUse_of_sansLines (s.writeStore_sansLines _ _ _)

theorem State.adoptAreas_inUse (s : State) (m : HiveImg) : (s.adoptAreas m).inUse = s.inUse := by
  unfold State.adoptAreas
  generalize List.range 8 = rows
  refine foldl_keeps State.inUse _ (fun t r => ?_) rows s
  split
  · rfl
  · split
    · exact State.modRow_inUse _ _ (by intro v; rfl)
    · exact t.writeArea_inUse _ _ _

theorem State.ppsLow_inUse (s : State) : s.ppsLow.inUse = s.inUse := by
  unfold State.ppsLow
  split <;> rfl

theorem State.loadTime_inUse (s : State) (t : TimeSettings) : (s.loadTime t).inUse = s.inUse := by
  unfold State.loadTime
  extract_lets o a b f mk v
  refine (show State.inUse (State.checkAuto _) = State.inUse _ from rfl).trans ?_
  split
  · rfl
  · exact State.ppsLow_inUse _

theorem State.takeInputs_inUse (s : State) (m : HiveImg) : (s.takeInputs m).inUse = s.inUse := by
  refine foldl_keeps State.inUse _ (fun t e => ?_) _ _
  rfl

theorem State.loadGates_inUse (s : State) (m : HiveImg) (o : Option HiveImg) : (s.loadGates m o).inUse = s.inUse :=
  foldl_keeps State.inUse _ (fun t _ => t.commitGate_inUse _ _) _ _

theorem State.changeLayouts_inUse (s : State) (o m : HiveImg) : (s.changeLayouts o m).inUse = s.inUse := by
  unfold State.changeLayouts
  dsimp only
  split
  · rfl
  · refine foldl_keeps State.inUse _ (fun t k => ?_) _ _
    rfl

theorem State.stopHeads_inUse (s : State) : s.stopHeads.inUse = s.inUse := by
  unfold State.stopHeads
  split
  · rfl
  · refine foldl_keeps State.inUse _ (fun t k => ?_) _ _
    exact State.completeOpt_inUse _ _ _ _ _

theorem State.startAgents_inUse (s : State) (m : HiveImg) (f : AgentDesc → Bool) : (s.startAgents m f).inUse = s.inUse := by
  refine foldl_keeps State.inUse _ (fun t a => ?_) _ _
  rfl

theorem State.dropAgents_inUse (s : State) (kept : Nat → Bool) : (s.dropAgents kept).inUse = s.inUse := by
  unfold State.dropAgents
  refine foldl_keeps State.inUse _ (fun t j => ?_) s.route.jobs s
  split
  · split
    · rfl
    · exact t.complete_inUse _ _ _ _ _
  · rfl

theorem State.changeTracks_inUse (s : State) (o m : HiveImg) (was : Nat → Nat) : (s.changeTracks o m was).inUse = s.inUse := by
  unfold State.changeTracks
  dsimp only
  rw [State.startAgents_inUse, State.dropAgents_inUse]
  rfl

theorem State.changeRoutes_inUse (s : State) (o : HiveImg) : (s.changeRoutes o).inUse = s.inUse := by
  refine foldl_keeps State.inUse _ (fun t e => ?_) _ _
  dsimp only
  split
  · rfl
  · split
    · rfl
    · split
      · split <;> rfl
      · rfl

theorem State.undelivered_inUse (s : State) (k : Nat) : (s.undelivered k).inUse = s.inUse := by
  unfold State.undelivered
  split
  · rfl
  · split
    · rfl
    · split <;> rfl

theorem State.issueTransfer_inUse (s : State) (k : Nat) : (s.issueTransfer k).inUse = s.inUse := by
  unfold State.issueTransfer
  split
  · rfl
  · dsimp only
    split
    · rfl
    · exact s.undelivered_inUse k

theorem State.issueLoads_inUse (s : State) : s.issueLoads.inUse = s.inUse :=
  foldl_keeps State.inUse _ State.issueTransfer_inUse _ _

theorem State.armEntries_inUse (s : State) (l : List (List Entry)) (b : List Nat) : (s.armEntries l b).inUse = s.inUse := by
  refine foldl_keeps State.inUse _ (fun t k => ?_) _ _
  dsimp only
  split
  · rfl
  · refine foldl_keeps State.inUse _ (fun t j => ?_) _ _
    split
    · split <;> rfl
    · rfl

end Sys2Proof.Machine
end

section
/-! PROOF. The commit of a replacement: what is in use after it (19 R488 to R490). -/

namespace Sys2Proof.Machine

open Sys2Proof

/-! ### A replacement -/

/-- A replacement's commit puts the image, its placement and its binding in use (19 R488 to R490). -/
theorem State.replaceImage_inUse {s : State} {o : HiveImg} (h : s.ep.image = some o) (m : HiveImg) (p : Nat) (b : List Nat) :
    (s.replaceImage m p b).2.inUse = { s.inUse with image := some m, placement := p, binding := b } := by
  unfold State.replaceImage
  split
  · next h' => exact absurd (h'.symm.trans h) (by simp)
  · next o' _ =>
    extract_lets op ob was left s0 put stg s1 s2 s3 s4 s5 s6 c s7 fill s8
    have hareas : s0.inUse = s.inUse := s.disarmImage.adoptAreas_inUse m
    have hput : s1.inUse = { s0.inUse with image := some m, placement := p, binding := b } := by
      clear_value s0
      rfl
    have hload : s2.inUse = s1.inUse := by
      rw [State.fillBufs_inUse, State.takeInputs_inUse, State.loadXforms_inUse, State.loadTime_inUse]
    have hsources : s3.inUse = s2.inUse := foldl_keeps State.inUse _ (fun t i => t.commitSource_inUse _ _) _ _
    have hmodes : s4.inUse = s3.inUse := foldl_keeps State.inUse _ (fun t f => t.commitMode_inUse _ _) _ _
    have hheads : s5.inUse = s4.inUse := by
      rw [State.stopHeads_inUse, State.changeLayouts_inUse, State.moveShown_inUse, State.loadGates_inUse]
    have htracks : s6.inUse = s5.inUse := State.changeTracks_inUse s5 _ _ _
    have hedges : c.2.inUse = s6.inUse := State.changeEdges_inUse s6 m
    have hroutes : s7.inUse = c.2.inUse := by rw [State.issueLoads_inUse, State.changeRoutes_inUse]
    have hentries : s8.inUse = s7.inUse := State.armEntries_inUse s7 _ _
    clear_value s8 s7 c s6 s5 s4 s3 s2 s1 s0
    dsimp only
    rw [hentries, hroutes, hedges, htracks, hheads, hmodes, hsources, hload, hput, hareas]

end Sys2Proof.Machine
end

section
/-! PROOF. A commit applied: what its items, its codebook and its replacement leave (19 R474, R478, R492). -/

namespace Sys2Proof.Machine

open Sys2Proof

/-! ### Tables laid over by a set -/

theorem nodup_keys_of_tsorted {α : Type} {l : List (Nat × α)} (h : tsorted l = true) : (l.map Prod.fst).Nodup := by
  induction l with
  | nil => exact List.nodup_nil
  | cons a l ih =>
    obtain ⟨hlt, hrest⟩ := (tsorted_cons a l).1 h
    refine List.nodup_cons.2 ⟨fun hmem => ?_, ih hrest⟩
    obtain ⟨b, hb, hba⟩ := List.mem_map.1 hmem
    exact absurd (hlt b hb) (by omega)

theorem tget_lay_of_some {α : Type} {es : List (Nat × α)} (hs : tsorted es = true) {k : Nat} {a : α} (h : tget es k = some a)
    (t : List (Nat × α)) : tget (es.foldl (fun t e => tset t e.1 e.2) t) k = some a :=
  tget_lay_mem (nodup_keys_of_tsorted hs) (mem_of_tget h) t

theorem tget_lay_of_none {α : Type} {es : List (Nat × α)} {k : Nat} (h : tget es k = none) (t : List (Nat × α)) :
    tget (es.foldl (fun t e => tset t e.1 e.2) t) k = tget t k :=
  tget_lay_other (fun e he hk => tget_ne_none.2 (List.mem_map.2 ⟨e, he, hk⟩) h) t

/-! ### The items of a set -/

/-- What the items of a set leave alone, its transforms and its modes apart: the host interface, the transforms, and the epoch
state but for the rolling change. -/
def State.fixed (s : State) : HostSt × List (Nat × Bytes) × EpochSt := (s.host, s.xforms, { s.ep with rolling := none })

theorem State.commitSource_fixed (s : State) (i : Nat) (d : SourceDef) : (s.commitSource i d).fixed = s.fixed := by
  unfold State.commitSource
  split <;> rfl

theorem State.commitGate_fixed (s : State) (p : Nat) (g : GateList) : (s.commitGate p g).fixed = s.fixed := by
  unfold State.commitGate
  split <;> rfl

theorem State.commitBook_fixed (s : State) (b : Bytes) : (s.commitBook b).2.fixed = s.fixed := by
  have planned : ∀ (t : State) (g : Nat), (t.planShards g).fixed = t.fixed := fun t g => by
    refine foldl_keeps State.fixed _ (fun t d => ?_) _ _
    split <;> rfl
  unfold State.commitBook
  dsimp only
  split <;> exact planned s _

theorem State.startRolling_fixed (s : State) (f : Nat) (l : List RollPart) : (s.startRolling f l).fixed = s.fixed := by
  unfold State.startRolling
  split <;> rfl

theorem State.wakeUsed_fixed (s : State) : s.wakeUsed.fixed = s.fixed := by
  rw [State.wakeUsed_link]
  rfl

/-- A set with no modes puts its transforms over the table, and leaves of the rest what is fixed. -/
theorem State.commitItems_fixed {t : StagedSet} (h : t.modes = []) (s : State) : (s.commitItems t).fixed =
    ({ s with xforms := t.xforms.foldl (fun l e => tset l e.1 e.2) s.xforms } : State).fixed := by
  unfold State.commitItems
  dsimp only
  rw [h, List.foldl_nil, foldl_keeps State.fixed _ (fun t _ => t.commitGate_fixed _ _)]
  exact foldl_keeps State.fixed _ (fun t _ => t.commitSource_fixed _ _) _ _

/-! ### The rows' configuration -/

theorem State.row_config (s : State) (r : Nat) : (s.row r).config = s.inUse.configs.getD r 0 := by
  simp only [State.row, State.inUse, List.getD_eq_getElem?_getD, List.getElem?_map]
  cases s.store.rows[r]? <;> rfl

/-- Rows that are as they are to be stay so. -/
theorem State.configRows_same {s : State} {cfg : List Nat} (h : ∀ r, r < 8 → (s.row r).config = cfg.getD r 0) :
    (s.mapped fun s => s.configRows cfg) = s := by
  have hsame : s.configRows cfg = s := List.foldlRecOn (motive := fun t : State => t = s) _ _ rfl fun t ht r hr => by
    subst ht
    exact if_pos (h r (List.mem_range.1 hr))
  unfold State.mapped
  dsimp only
  rw [hsame]
  exact if_pos rfl

/-! ### The row -/

/-- A commit applied is armed no more. -/
def State.unarmed (s : State) : State := { s with ep := { s.ep with armed := none } }

/-- A commit that drops its replacement is answered so (19 R492). -/
theorem State.applyCommit_dropped {s : State} {a : ArmedCommit} {i : HiveImg × Nat} (hi : a.set.image = some i)
    (h : s.unit.state ≠ .run ∨ s.choosePlacement i.1 i.2 = none) : s.applyCommit a =
    ({ s with ep := { s.ep with armed := none, staged := { a.set with image := none }.onto s.ep.staged } } : State).complete
      a.qp a.tag 0x0201 a.detail [] := by
  have hnone : (a.set.image.bind fun i =>
      if s.unarmed.unit.state = .run then (s.unarmed.choosePlacement i.1 i.2).map fun c => (i.1, c.1, c.2) else none) = none := by
    rw [hi, Option.bind_some]
    rcases h with h | h
    · exact if_neg h
    · rw [show s.unarmed.choosePlacement i.1 i.2 = none from h]
      exact ite_self _
  unfold State.applyCommit
  dsimp only
  exact if_pos ⟨by rw [hi]; rfl, Option.isNone_iff_eq_none.2 hnone⟩

/-- A commit of single items: the answer follows a state that holds what they decide. -/
theorem State.applyCommit_items {s : State} {a : ArmedCommit} (hi : a.set.image = none) (hm : a.set.modes = []) :
    ∃ w : State, s.applyCommit a = w.wakeUsed.complete a.qp a.tag 0 a.detail (toLE 4 w.ep.epoch ++ toLE 4 0) ∧
      w.fixed =
        ({ s.unarmed.bumpEpoch with xforms := a.set.xforms.foldl (fun l e => tset l e.1 e.2) s.xforms } : State).fixed := by
  unfold State.applyCommit
  extract_lets _ s0 chosen _ _ old s1 r s2 k s3 w
  have hc : chosen = none := by simp only [chosen, hi, Option.bind_none]
  have hw : w.fixed = s2.fixed := by
    have hk : k.2.fixed = s2.fixed := by
      simp only [k]
      split
      · exact State.commitBook_fixed _ _
      · rfl
    have hroll : s3.fixed = s2.fixed := (State.startRolling_fixed _ _ _).trans hk
    simp only [w, hc, hroll]
  have hr : r.2 = s1 := by simp only [r, hc]
  refine ⟨w, if_neg (by simp [hi]), hw.trans ?_⟩
  simp only [s2, hr]
  exact State.commitItems_fixed hm s1

/-- A replacement that fits: the answer follows a state in which it is in use. -/
theorem State.applyCommit_fits {s : State} {a : ArmedCommit} {m o : HiveImg} {q p : Nat} {b : List Nat}
    (hi : a.set.image = some (m, q)) (hrun : s.unit.state = .run) (hp : s.choosePlacement m q = some (p, b))
    (ho : s.ep.image = some o) (hrows : ∀ r, r < 8 → m.site.stores.getD r 0 = (s.row r).config) :
    ∃ (w : State) (l : Bytes), s.applyCommit a = w.wakeUsed.complete a.qp a.tag 0 a.detail l ∧
      w.inUse = { s.unarmed.bumpEpoch.inUse with image := some m, placement := p, binding := b } := by
  unfold State.applyCommit
  extract_lets _ s0 chosen _ _ old s1 r s2 k s3 w
  have hc : chosen = some (m, p, b) := by
    have hp' : s0.choosePlacement m q = some (p, b) := hp
    simp only [chosen, hi, Option.bind_some, hp', if_pos (show s0.unit.state = .run from hrun), Option.map_some]
  refine ⟨w, _, if_neg (by simp [hi, hc]), ?_⟩
  have hr : r.2.inUse = { s1.inUse with image := some m, placement := p, binding := b } := by
    simp only [r, hc]
    exact State.replaceImage_inUse (show s1.ep.image = some o from ho) m p b
  have hs2 : s2.inUse = r.2.inUse := State.commitItems_inUse _ _
  have hk : k.2.inUse = s2.inUse := by
    simp only [k]
    split
    · exact State.commitBook_inUse _ _
    · rfl
  have hs3 : s3.inUse = k.2.inUse := State.startRolling_inUse _ _ _
  have hw : w.inUse = s3.inUse := by
    have hsame : (s3.mapped fun s => s.configRows m.site.stores) = s3 := State.configRows_same fun n hn => by
      rw [State.row_config, hs3, hk, hs2, hr]
      exact (s.row_config n).symm.trans (hrows n hn).symm
    simp only [w, hc]
    rw [State.evalCapacity_inUse, State.updatePairs_inUse, State.recheckModules_inUse, hsame]
  rw [hw, hs3, hk, hs2, hr]
  rfl

end Sys2Proof.Machine
end

section
/-! PROOF. The rows of COMMIT_EFFECT and ENGINE_COMMIT: when they apply, and what an application makes (19 R478, R480, R492). -/

namespace Sys2Proof.Machine

open Sys2Proof

/-! ### COMMIT_EFFECT -/

theorem commitEffect_unarmed {s u : State} {x : At} (hu : u = s.enter x) (h : u.ep.armed = none) :
    exec (.commitEffect x) s = .next u := by
  subst hu
  have row : exec (.commitEffect x) s = execCommitEffect x s := rfl
  rw [row, execCommitEffect]
  rw [h]

section
variable {s u : State} {x : At} {a : ArmedCommit} (hu : u = s.enter x) (ha : u.ep.armed = some a)
include hu ha

theorem commitEffect_waits (h : a.eff = none ∨ (∃ k, a.eff = some k ∧ u.time.tick < k) ∨ a.waits = true ∨
    u.wafer.move ≠ none ∨ u.armingsDue = true ∨ u.commitDone = true) : exec (.commitEffect x) s = .next u := by
  subst hu
  have row : exec (.commitEffect x) s = execCommitEffect x s := rfl
  rw [row, execCommitEffect]
  rw [ha]
  dsimp only
  cases he : a.eff with
  | none => rfl
  | some e =>
    refine congrArg Host.Outcome.next (if_pos ?_)
    rcases h with h | ⟨k, hk, hlt⟩ | h | h | h | h
    · simp [he] at h
    · obtain rfl : e = k := Option.some.inj (he.symm.trans hk)
      exact .inl hlt
    · exact .inr (.inl h)
    · exact .inr (.inr (.inl (Option.isSome_iff_ne_none.2 h)))
    · exact .inr (.inr (.inr (.inl h)))
    · exact .inr (.inr (.inr (.inr h)))

theorem commitEffect_applies {k : Nat} (he : a.eff = some k) (hk : k ≤ u.time.tick) (hwait : a.waits = false)
    (hmove : u.wafer.move = none) (harm : u.armingsDue = false) (hdone : u.commitDone = false) :
    exec (.commitEffect x) s = .next (u.applyCommit a).retireDue := by
  subst hu
  have row : exec (.commitEffect x) s = execCommitEffect x s := rfl
  rw [row, execCommitEffect]
  rw [ha]
  dsimp only
  rw [he]
  exact congrArg Host.Outcome.next (if_neg (by simp [hwait, hmove, harm, hdone, hk]))

end

/-- A command answered leaves all but the host interface, and has its entry. -/
theorem State.complete_answered {u w : State} {qp tag op : Nat} {p : Prog} {c : Cmd} (hc : Held u.host qp tag op p c)
    (hw : w.host = u.host) (st d : Nat) (r : Bytes) : ∃ e ∈ (w.complete qp tag st d r).host.completions,
      e.tag = tag ∧ e.qp = qp ∧ e.status = st ∧ e.epoch = w.ep.epoch ∧ e.result = r := by
  obtain ⟨rfl, rfl⟩ := find_name hc.1
  obtain ⟨⟨-, e, hcomp, htag, hqp, hst, -, hr, hepoch, -⟩, -⟩ := State.answered (u := w) (hw.symm ▸ hc) st d r
  exact ⟨e, hcomp ▸ List.mem_append_right _ (List.mem_singleton_self e), htag, hqp, hst, hepoch, hr⟩

section
variable {u : State} {a : ArmedCommit} {c : Cmd} {p : Prog}

/-- A commit of transforms puts them in force in the next epoch, and is answered with it (19 R478). -/
theorem State.applyCommit_xforms (hc : Held u.host a.qp a.tag 0x0A03 p c) (hi : a.set.image = none) (hm : a.set.modes = [])
    (hs : tsorted a.set.xforms = true) :
    (u.applyCommit a).ep.armed = none ∧ (u.applyCommit a).ep.epoch = u.nextEpoch ∧
      (∀ i b, tget a.set.xforms i = some b → tget (u.applyCommit a).xforms i = some b) ∧
      (∀ i, tget a.set.xforms i = none → tget (u.applyCommit a).xforms i = tget u.xforms i) ∧
      (∀ f, (u.applyCommit a).ha f = u.ha f) ∧ (u.applyCommit a).ep.staged = u.ep.staged ∧
      ∃ e ∈ (u.applyCommit a).host.completions, e.tag = a.tag ∧ e.qp = a.qp ∧ e.status = 0 ∧ e.epoch = u.nextEpoch ∧
        e.result = toLE 4 u.nextEpoch ++ toLE 4 0 := by
  obtain ⟨w, happ, hw⟩ := State.applyCommit_items hi hm
  have hwake : w.wakeUsed.fixed = w.fixed := w.wakeUsed_fixed
  rw [hw] at hwake
  have hhost : w.wakeUsed.host = u.host := congrArg Prod.fst hwake
  have hxf := (congrArg (fun v => v.2.1) hwake :)
  have hep := (congrArg (fun v => v.2.2) hwake :)
  have hepoch : w.ep.epoch = u.nextEpoch := (congrArg (fun v => v.2.2.epoch) hw :)
  obtain ⟨e, he, htag, hqp, hst, hee, hr⟩ := State.complete_answered hc hhost 0 a.detail (toLE 4 w.ep.epoch ++ toLE 4 0)
  have hho := w.wakeUsed.complete_hostOnly a.qp a.tag 0 a.detail (toLE 4 w.ep.epoch ++ toLE 4 0)
  rw [← happ] at he hho
  have hx : (u.applyCommit a).xforms = a.set.xforms.foldl (fun l e => tset l e.1 e.2) u.xforms :=
    (congrArg State.xforms hho).trans hxf
  have hmodes : (u.applyCommit a).ep.modes = u.ep.modes :=
    (congrArg (fun v : State => v.ep.modes) hho).trans (congrArg EpochSt.modes hep :)
  refine ⟨(congrArg (fun v : State => v.ep.armed) hho).trans (congrArg EpochSt.armed hep :),
    (congrArg (fun v : State => v.ep.epoch) hho).trans (congrArg EpochSt.epoch hep :),
    fun i b h => ?_, fun i h => ?_, fun f => ?_,
    (congrArg (fun v : State => v.ep.staged) hho).trans (congrArg EpochSt.staged hep :), e, he, htag, hqp, hst, ?_, ?_⟩
  · rw [hx, tget_lay_of_some hs h]
  · rw [hx, tget_lay_of_none h]
  · rw [State.ha, hmodes, State.ha]
  · exact hee.trans (congrArg EpochSt.epoch hep :)
  · rw [hr, hepoch]

end

end Sys2Proof.Machine
end

section
/-! PROOF. ENGINE_COMMIT of an attach: what the end of an attach leaves alone (10 R261, 19 R480). -/

namespace Sys2Proof.Machine

open Sys2Proof

/-! ### The end of an attach -/

/-- A state less what management requests and the ends of attaches change: the link state, its frames and reports. -/
def State.sansAttach (s : State) : State := { s.sansReports with link := LinkSt.reset, due := [] }

theorem State.sansAttach_of_sansReports {s t : State} (h : t.sansReports = s.sansReports) : t.sansAttach = s.sansAttach :=
  (congrArg (fun v : State => ({ v with link := LinkSt.reset, due := [] } : State)) h :)

theorem State.complete_sansAttach (s : State) (q t st d : Nat) (r : Bytes) : (s.complete q t st d r).sansAttach = s.sansAttach :=
  State.sansAttach_of_sansReports (s.complete_sansReports q t st d r)

theorem State.addDue_sansAttach (s : State) (n : Nat) (e : DueEv) : (s.addDue n e).sansAttach = s.sansAttach := by
  unfold State.addDue
  split <;> rfl

theorem State.linkTx_sansAttach (s : State) (p cls : Nat) (b : Bytes) : (s.linkTx p cls b).sansAttach = s.sansAttach := by
  have hstart : ∀ n, (s.linkStart p n (.frame b)).sansAttach = s.sansAttach := fun n => by
    unfold State.linkStart
    dsimp only
    split
    · exact State.addDue_sansAttach _ _ _
    · rfl
  unfold State.linkTx State.linkSend
  dsimp only
  split
  · rfl
  · split
    · rfl
    · split
      · exact State.addDue_sansAttach _ _ _
      · exact hstart _

theorem State.mgmtNext_sansAttach (s : State) (t : Nat) (l : List Mgmt) : (s.mgmtNext t l).sansAttach = s.sansAttach := by
  induction l generalizing s with
  | nil => rfl
  | cons m r ih =>
    unfold State.mgmtNext
    split
    · exact State.linkTx_sansAttach _ _ _ _
    · split
      · next c _ =>
        rw [ih]
        cases c with
        | none => rfl
        | some _ => exact State.complete_sansAttach _ _ _ _ _ _
      · exact ih s

theorem State.reattachDone_sansAttach (s : State) (t st d : Nat) : (s.reattachDone t st d).sansAttach = s.sansAttach :=
  foldl_keeps State.sansAttach _ (fun v _ => v.complete_sansAttach _ _ _ _ _) _ _

theorem State.attachTimeout_sansAttach (s : State) (t : Nat) : (s.attachTimeout t).sansAttach = s.sansAttach := by
  unfold State.attachTimeout
  split
  · exact State.reattachDone_sansAttach _ _ _ _
  · rfl

theorem State.issueRead_sansAttach (s : State) (t off len : Nat) : (s.issueRead t off len).sansAttach = s.sansAttach := by
  unfold State.issueRead
  split
  · next u h =>
    unfold State.mgmtIssue at h
    dsimp only at h
    split at h
    · cases h
      exact s.mgmtNext_sansAttach t _
    · split at h <;> cases h
      rfl
  · exact s.attachTimeout_sansAttach t

theorem State.tryAttach_sansAttach (s : State) (m : Nat) : (s.tryAttach m).sansAttach = s.sansAttach := by
  unfold State.tryAttach
  split
  · exact State.issueRead_sansAttach _ _ _ _
  · rfl
  · rfl

theorem State.attachEnds_sansAttach (s : State) (t : Nat) (st : AttachState) (status failType failCount : Nat) :
    (s.attachEnds t st status failType failCount).sansAttach = s.sansAttach := by
  unfold State.attachEnds State.afterHub
  dsimp only
  split
  · exact State.reattachDone_sansAttach _ _ _ _
  · rw [foldl_keeps State.sansAttach _ (fun v _ => v.tryAttach_sansAttach _)]
    exact State.reattachDone_sansAttach _ _ _ _

theorem State.attachCommitted_sansAttach (s : State) (t : Nat) : (s.attachCommitted t).sansAttach = s.sansAttach := by
  unfold State.attachCommitted
  dsimp only
  split
  · rw [State.sansAttach_of_sansReports (State.updatePairs_sansReports _)]
    exact State.attachEnds_sansAttach _ _ _ _ _ _
  · rfl

/-! ### An attach's commit -/

theorem State.bumpEpoch_parts (s : State) : s.bumpEpoch.ep.epoch = s.nextEpoch ∧ s.bumpEpoch.xforms = s.xforms := by
  unfold State.bumpEpoch
  dsimp only
  split <;> exact ⟨rfl, rfl⟩

/-- An attach's commit puts its transforms in force in the next epoch (10 R261). -/
theorem State.applyEngine_parts (s : State) (i : Nat) (e : EngineCommit) : (s.applyEngine i e).ep.epoch = s.nextEpoch ∧
    (s.applyEngine i e).xforms = e.xforms.foldl (fun l v => tset l v.1 v.2) s.xforms := by
  unfold State.applyEngine
  extract_lets _ s1 xf s2
  obtain ⟨hepoch, hxf⟩ := State.bumpEpoch_parts { s with ep := { s.ep with engine := s.ep.engine.eraseIdx i } }
  have hends := State.attachCommitted_sansAttach (e.sources.foldl (fun s v => s.commitSource v.1 v.2) s2) e.module
  have hsrc := foldl_keeps State.fixed (fun s v => s.commitSource v.1 v.2) (fun t _ => t.commitSource_fixed _ _) e.sources s2
  refine ⟨?_, ?_⟩
  · exact (congrArg (fun v : State => v.ep.epoch) hends :).trans ((congrArg (fun v => v.2.2.epoch) hsrc :).trans hepoch)
  · refine (congrArg State.xforms hends :).trans ((congrArg (fun v => v.2.1) hsrc :).trans ?_)
    exact congrArg (e.xforms.foldl (fun l v => tset l v.1 v.2)) hxf

theorem State.engineDue_eff {s : State} {i : Nat} {e : EngineCommit} (h : s.engineDue = some i) (he : s.ep.engine[i]? = some e) :
    ∃ k, e.eff = some k ∧ k ≤ s.time.tick := by
  have hdue := List.find?_some h
  rw [he] at hdue
  dsimp only at hdue
  split at hdue
  · next k hk => exact ⟨k, hk, by simpa using (Bool.and_eq_true_iff.1 hdue).1⟩
  · cases hdue

/-! ### The row -/

theorem engineCommit_waits {s u : State} {x : At} (hu : u = s.enter x) (h : u.armingsDue = true ∨ u.commitDone = true) :
    exec (.engineCommit x) s = .next u := by
  subst hu
  have row : exec (.engineCommit x) s = execEngineCommit x s := rfl
  rw [row, execEngineCommit]
  exact congrArg Host.Outcome.next (if_pos (by simpa using h))

theorem engineCommit_idle {s u : State} {x : At} (hu : u = s.enter x) (hdue : u.engineDue = none)
    (h : u.wafer.move = none ∨ u.place.sweep ≠ none ∨ u.wafer.pause ≠ none ∨ u.backsOpen = true) :
    exec (.engineCommit x) s = .next u := by
  subst hu
  have row : exec (.engineCommit x) s = execEngineCommit x s := rfl
  rw [row, execEngineCommit]
  refine congrArg Host.Outcome.next ?_
  split
  · rfl
  · rw [hdue]
    refine if_neg ?_
    rcases h with h | h | h | h <;> simp [h]

section
variable {s u : State} {x : At} (hu : u = s.enter x) (harm : u.armingsDue = false) (hdone : u.commitDone = false)
include hu harm hdone

theorem engineCommit_attach {i : Nat} {e : EngineCommit} (hdue : u.engineDue = some i) (he : u.ep.engine[i]? = some e) :
    exec (.engineCommit x) s = .next (u.applyEngine i e) := by
  subst hu
  have row : exec (.engineCommit x) s = execEngineCommit x s := rfl
  rw [row, execEngineCommit]
  refine congrArg Host.Outcome.next ((if_neg (by simp [harm, hdone])).trans ?_)
  rw [hdue]
  dsimp only
  rw [he]

theorem engineCommit_endsMove {p : Nat × List Nat} (hdue : u.engineDue = none) (hmove : u.wafer.move = some p)
    (hsweep : u.place.sweep = none) (hpause : u.wafer.pause = none) (hback : u.backsOpen = false) :
    exec (.engineCommit x) s = .next u.endMove.retireDue := by
  subst hu
  have row : exec (.engineCommit x) s = execEngineCommit x s := rfl
  rw [row, execEngineCommit]
  refine congrArg Host.Outcome.next ((if_neg (by simp [harm, hdone])).trans ?_)
  rw [hdue]
  exact if_pos (by simp [hmove, hsweep, hpause, hback])

end

end Sys2Proof.Machine
end

section
/-! PROOF. The end of a placement move (02 R50, 08 R200, R203, 19 R489): residency transfers and fills decide nothing of a
commit. -/

namespace Sys2Proof.Machine

open Sys2Proof

/-! ### Residency transfers -/

/-- What residency transfers and fills leave alone: the epoch state, the move, the rows' configuration, and the regions to be
filled. -/
def State.standing (s : State) : EpochSt × Option (Nat × List Nat) × List Nat × List Nat :=
  (s.ep, s.wafer.move, s.store.rows.map StoreRow.config, s.stg.unfilled)

/-- What of it a commit decides. -/
def inUseOf (v : EpochSt × Option (Nat × List Nat) × List Nat × List Nat) : InUse where
  image := v.1.image
  placement := v.1.placement
  binding := v.1.binding
  epoch := v.1.epoch
  armed := v.1.armed
  move := v.2.1
  configs := v.2.2.1

theorem State.standing_sansLines (s : State) : s.sansLines.standing = s.standing := by
  simp [State.standing, State.sansLines, Function.comp_def, StoreRow.sansLists]

theorem State.standing_of_sansScan {s t : State} (h : t.sansScan = s.sansScan) : t.standing = s.standing := by
  rw [← t.standing_sansLines, ← s.standing_sansLines]
  exact (congrArg State.standing h :)

theorem State.standing_of_sansUpkeep {s t : State} (h : t.sansUpkeep = s.sansUpkeep) : t.standing = s.standing := by
  rw [← t.standing_sansLines, ← s.standing_sansLines]
  exact (congrArg State.standing h :)

theorem State.standing_of_sansWords {s t : State} (h : t.sansWords = s.sansWords) : t.standing = s.standing :=
  (congrArg State.standing h :)

theorem State.readNow_standing (s : State) (r a : Nat) : (s.readNow r a).2.standing = s.standing :=
  State.standing_of_sansScan (s.readNow_sansScan r a)

theorem State.writeStore_standing (s : State) (r a : Nat) (b : Bytes) : (s.writeStore r a b).2.standing = s.standing :=
  State.standing_of_sansScan (State.sansScan_of_sansLines (s.writeStore_sansLines r a b))

theorem State.writeCell_standing (s : State) (g off : Nat) (b : Bytes) : (s.writeCell g off b).standing = s.standing :=
  State.standing_of_sansWords (s.writeWords_sansWords g off b)

theorem State.putEng_standing (s : State) (p kind w d c : Nat) : (s.putEng p kind w d c).standing = s.standing := by
  simp only [State.standing, State.putEng]

theorem State.writeEng_standing (s : State) (p kind off : Nat) (b : Bytes) : (s.writeEng p kind off b).standing = s.standing := by
  refine foldl_keeps State.standing _ (fun t i => ?_) _ _
  exact t.putEng_standing _ _ _ _ _

theorem State.readEng_standing (s : State) (p kind w : Nat) : (s.readEng p kind w).2.standing = s.standing := by
  unfold State.readEng
  dsimp only
  split
  · rfl
  · exact s.putEng_standing _ _ _ _ _
  · exact s.putEng_standing _ _ _ _ _
  · rfl

theorem State.readEngLine_standing (s : State) (p kind off : Nat) : (s.readEngLine p kind off).2.standing = s.standing := by
  unfold State.readEngLine
  generalize List.range 8 = words
  exact List.foldlRecOn (motive := fun a : (Bytes × Bool) × State => a.2.standing = s.standing) _ _ rfl fun a ha _ _ =>
    (a.2.readEng_standing _ _ _).trans ha

theorem State.distribute_standing (s : State) (k : Nat) (b : Bytes) : (s.distribute k b).standing = s.standing :=
  (congrArg State.standing (s.distribute_sansDist k b) :)

theorem State.applyLog_standing (s : State) (t o : Nat) : (s.applyLog t o).standing = s.standing := by
  refine foldl_keeps State.standing _ (fun v e => ?_) _ _
  exact State.standing_of_sansUpkeep (v.observeDelta_sansUpkeep _ _ _ _)

theorem State.setVoxels_standing (s : State) (f g : Nat → Nat) (l : List Nat) :
    (l.foldl (fun s j => s.setVoxel (f j) (g j)) s).standing = s.standing := by
  refine foldl_keeps State.standing _ (fun t j => ?_) _ _
  rfl

theorem State.tileLines_standing (s : State) (e : ResEntry) (t row : Nat) : (s.tileLines e t row).2.standing = s.standing := by
  refine List.foldlRecOn (motive := fun p : Bool × State => p.2.standing = s.standing) _ _ rfl fun p hp i _ => ?_
  refine Eq.trans ?_ hp
  dsimp only
  split
  · exact p.2.readNow_standing _ _
  · exact (State.setVoxels_standing _ _ _ _).trans (p.2.readNow_standing _ _)

theorem State.tileIn_standing (s : State) (e : ResEntry) (t row : Nat) : (s.tileIn e t row).2.standing = s.standing := by
  unfold State.tileIn
  extract_lets lost _ v _ r
  refine (State.applyLog_standing _ _ _).trans ?_
  simp only [r]
  split
  · exact v.tileLines_standing e t row
  · split <;> rfl

theorem State.tileOut_standing (s : State) (e : ResEntry) (t row : Nat) : (s.tileOut e t row).standing = s.standing :=
  (State.distribute_standing _ _ _).trans (s.writeStore_standing _ _ _)

theorem State.sendLines_standing (s : State) (e : ResEntry) (row : Nat) : (s.sendLines e row).standing = s.standing := by
  refine foldl_keeps State.standing _ (fun t i => ?_) _ _
  extract_lets off w
  have hw : w.2.standing = t.standing := by
    simp only [w]
    split
    · exact t.readEngLine_standing _ _ _
    · split
      · exact State.standing_of_sansWords (t.readWords_sansWords _ _ _)
      · rfl
  split
  · exact hw
  · exact (State.writeStore_standing _ _ _ _).trans hw

theorem State.fetchLines_standing (s : State) (e : ResEntry) (row : Nat) : (s.fetchLines e row).2.standing = s.standing := by
  refine List.foldlRecOn (motive := fun p : Bool × State => p.2.standing = s.standing) _ _ rfl fun p hp i _ => ?_
  refine Eq.trans ?_ hp
  extract_lets a
  have ha : a.2.standing = p.2.standing := p.2.readNow_standing _ _
  split
  · exact ha
  · split
    · exact (State.writeEng_standing _ _ _ _ _).trans ha
    · split
      · exact (State.writeCell_standing _ _ _ _).trans ha
      · exact ha

theorem State.transfer_standing (s : State) (k : Nat) : (s.transfer k).standing = s.standing := by
  unfold State.transfer
  split
  · rfl
  · next e _ =>
    extract_lets row tile r v _ v1 again
    have hr : r.2.standing = s.standing := by
      clear_value tile
      cases tile with
      | none => exact s.fetchLines_standing e row
      | some t => exact s.tileIn_standing e t row
    split
    · exact s.tileOut_standing e _ row
    · exact s.sendLines_standing e row
    · split
      · split <;> exact hr
      · exact hr

theorem State.loadNow_standing (s : State) (k : Nat) : (s.loadNow k).standing = s.standing := by
  unfold State.loadNow
  split
  · split
    · exact s.transfer_standing k
    · rfl
  · rfl

/-! ### Fills -/

theorem State.writeRegion_standing (s : State) (r off : Nat) (b : Bytes) : (s.writeRegion r off b).standing = s.standing :=
  State.standing_of_sansWords (s.writeRegion_sansWords r off b)

theorem State.fillRegion_standing (s : State) (m : HiveImg) (r : Nat) : (s.fillRegion m r).standing = s.standing := by
  unfold State.fillRegion
  split
  · extract_lets row t
    have ht : t.2.standing = s.standing := State.standing_of_sansScan (s.readStore_sansScan _ _ _)
    split
    · split
      · exact ht
      · have hw := t.2.writeRegion_standing r 0 t.1.data
        exact Eq.trans (congrArg (fun v => (v.1, v.2.1, v.2.2.1, t.2.stg.unfilled)) hw :) ht
    · exact s.writeRegion_standing r 0 _
  · rfl

/-- A region filled waits no more, and nothing else is settled by it. -/
theorem State.applyRegion_standing (s : State) (r : Nat) : (s.applyRegion r).standing =
    (s.ep, s.wafer.move, s.store.rows.map StoreRow.config, s.stg.unfilled.erase r) := by
  have filled : (((s.loadsOf r).foldl State.loadNow s).fillRegions [r]).standing = s.standing := by
    refine Eq.trans ?_ (foldl_keeps State.standing State.loadNow State.loadNow_standing (s.loadsOf r) s)
    unfold State.fillRegions
    split
    · rfl
    · exact State.fillRegion_standing _ _ _
  exact (congrArg (fun v => (v.1, v.2.1, v.2.2.1, v.2.2.2.erase r)) filled :)

theorem State.applyRegion_inUse (s : State) (r : Nat) : (s.applyRegion r).inUse = s.inUse :=
  (congrArg inUseOf (s.applyRegion_standing r) :)

end Sys2Proof.Machine
end

section
/-! PROOF. The end of a placement move (02 R50, 08 R200, R203, 19 R489): the move's placement and binding are in use in the
next epoch. -/

namespace Sys2Proof.Machine

open Sys2Proof

theorem State.countSlot_route (s : State) (id : Nat) (k : Option Nat) :
    s.countSlot id k = { s with route := (s.countSlot id k).route } := by
  unfold State.countSlot State.reportEdge
  dsimp only
  repeat' split
  all_goals rfl

theorem State.countSlot_inUse (s : State) (id : Nat) (k : Option Nat) : (s.countSlot id k).inUse = s.inUse := by
  rw [State.countSlot_route]
  rfl

theorem State.bumpEpoch_inUse (s : State) : s.bumpEpoch.inUse = { s.inUse with epoch := s.nextEpoch } := by
  unfold State.bumpEpoch
  dsimp only
  split <;> rfl

theorem State.moveOver_inUse (s : State) : s.moveOver.inUse = { s.inUse with armed := s.moveOver.ep.armed, move := none } := by
  rw [State.moveOver_eq]
  rfl

/-- The end of a move: its placement and binding are in use in the next epoch, and no move is in progress. -/
theorem State.endMove_inUse {s : State} {p : Nat} {b : List Nat} {m : HiveImg} (hmove : s.wafer.move = some (p, b))
    (hi : s.ep.image = some m) : s.endMove.inUse =
      { s.moveOver.inUse with image := some m, placement := p, binding := b, epoch := s.nextEpoch } := by
  unfold State.endMove
  rw [hmove, hi]
  dsimp -zeta only
  extract_lets op ob unfilled from_ same left s0 bad s1 all wait written stays _ _ s2 s3 rolling _ s4 due s5 s6
  have hput : s1.inUse = { s0.inUse with image := some m, placement := p, binding := b } :=
    (State.moveShown_inUse _ _ _).trans (s0.putImage_inUse m p b)
  have hplan : s2.inUse = s1.inUse := rfl
  have hfill : s3.inUse = s2.inUse :=
    (State.issueLoads_inUse _).trans (foldl_keeps State.inUse _ State.applyRegion_inUse _ s2)
  have hroll : s4.inUse = s3.inUse := rfl
  have hcount : s5.inUse = s4.inUse := foldl_keeps State.inUse _ (fun t _ => t.countSlot_inUse _ _) _ s4
  have harm : s6.inUse = s5.inUse := by
    rw [State.armEntries_inUse, State.disarmImage_inUse, State.startAgents_inUse]
  have hall : s6.inUse = { s0.inUse with image := some m, placement := p, binding := b } := by
    rw [harm, hcount, hroll, hfill, hplan, hput]
  have hepoch : s6.stopHeads.nextEpoch = s.nextEpoch := by
    have h : s6.stopHeads.ep.epoch = s.ep.epoch := (congrArg InUse.epoch ((State.stopHeads_inUse s6).trans hall) :).trans
      (congrArg InUse.epoch s.moveOver_inUse :)
    rw [State.nextEpoch, h, State.nextEpoch]
  rw [State.evalCapacity_inUse, State.unsol_inUse, State.event_inUse, State.bumpEpoch_inUse, State.stopHeads_inUse, hepoch, hall]

end Sys2Proof.Machine
end

section
/-! PROOF. Rolling changes (13 R336, 19 R485, R486, R489, R493). -/

namespace Sys2Proof.Machine

open Sys2Proof

/-! ### A shard's shadow copy -/

theorem State.reencode_sansScan (s : State) (new : Bytes) (old code : Option Bytes) (d : ShardPlan) (row pos : Nat) :
    (s.reencode new old code d row pos).2.sansScan = s.sansScan := by
  unfold State.reencode
  extract_lets p from_
  have hp : p.2.sansScan = s.sansScan := s.codeDesc_sansScan d row pos
  clear_value from_
  cases from_ <;> exact hp

theorem State.setShard_shard_self (s : State) (k : Nat) (v : Shard) : (s.setShard k v).shard k = v := by
  rw [State.shard, State.setShard, tget_tset_self]
  rfl

/-- A shadow copy made is complete: the shard's record says so, and its lines alone change besides. -/
theorem State.shadowShard_parts {s : State} {k : Nat} {b : Bytes} {d : ShardPlan} (hb : s.place.next = some b)
    (hd : s.shardPlan k = some d) : (s.shadowShard k).shard k = { s.shard k with shadowDone := true } ∧
      (s.shadowShard k).ep = s.ep := by
  unfold State.shadowShard
  rw [hb, hd]
  dsimp -zeta only
  extract_lets old row n v
  have hv : v.sansScan = s.sansScan := by
    refine foldl_keeps State.sansScan _ (fun t l => ?_) _ _
    extract_lets a w
    have hw : w.2.sansScan = t.sansScan := by
      refine List.foldlRecOn (motive := fun p : Bytes × State => p.2.sansScan = t.sansScan) _ _ (t.readNow_sansScan _ _)
        fun p hp i _ => ?_
      exact (State.reencode_sansScan _ _ _ _ _ _ _).trans hp
    exact (State.sansScan_of_sansLines (State.writeStore_sansLines _ _ _ _)).trans hw
  have hshard : v.shard k = s.shard k := (congrArg (fun t : State => t.shard k) hv :)
  exact ⟨(v.setShard_shard_self k _).trans (congrArg (fun w : Shard => { w with shadowDone := true }) hshard),
    (congrArg State.ep hv :)⟩

/-! ### A batch of slots -/

/-- A batch of slots changes the routing state alone. -/
theorem State.applySlots_route (s : State) (p : Nat) : ∃ v, s.applySlots p = { s with route := v } := by
  unfold State.applySlots
  dsimp only
  generalize List.take 64 _ = due
  refine List.foldlRecOn (motive := fun t : State => ∃ v, t = { s with route := v }) _ _ ⟨_, rfl⟩ fun t ht e _ => ?_
  obtain ⟨v, rfl⟩ := ht
  exact ⟨_, State.countSlot_route _ _ _⟩

/-! ### A part that is ready -/

/-- A shard's part is ready where the shard is planned (13 R336, R338). -/
theorem State.shardPlan_of_partReady {s : State} {l : List RollPart} {k : Nat} (h : s.partReady l (.shard k) = true) :
    ∃ d, s.shardPlan k = some d := by
  have hplan := (Bool.and_eq_true_iff.1 h).1
  obtain ⟨d, hd, -⟩ := (Option.any_eq_true _ _).1 hplan
  exact ⟨d, hd⟩

/-- The state as a part has left the rolling change. -/
def State.partGone (u : State) (r : Rolling) (part : RollPart) : State :=
  { u with ep := { u.ep with rolling := some { r with parts := r.parts.erase part } } }

/-- What a part that is ready makes. -/
def State.partApplied (u : State) (r : Rolling) : RollPart → State
  | .region k => ((u.partGone r (.region k)).applyRegion k).retireDue
  | .slots p => (u.partGone r (.slots p)).applySlots p
  | .shard k => if (u.shard k).shadowDone then u else u.shadowShard k

/-- The state as a rolling change has ended, with the place state its codebook leaves. -/
def State.rollingEnded (u : State) (v : PlaceSt) : State :=
  { u with ep := { u.ep with rolling := none }, place := v, stg := { u.stg with unfilled := [] } }

/-! ### The rows -/

section
variable {s u : State} {x : At} {part : RollPart} (hu : u = s.enter x)
include hu

theorem rollingPartApplied_none (h : u.ep.rolling = none) : exec (.rollingPartApplied x part) s = .next u := by
  subst hu
  have row : exec (.rollingPartApplied x part) s = execRollingPartApplied x part s := rfl
  rw [row, execRollingPartApplied]
  dsimp only
  rw [h]

theorem rollingChangeEnd_none (h : u.ep.rolling = none) : exec (.rollingChangeEnd x) s = .next u := by
  subst hu
  have row : exec (.rollingChangeEnd x) s = execRollingChangeEnd x s := rfl
  rw [row, execRollingChangeEnd]
  dsimp only
  rw [h]

variable {r : Rolling} (hr : u.ep.rolling = some r)
include hr

theorem rollingPartApplied_waits (h : part ∉ r.parts ∨ u.partReady r.parts part = false ∨ u.wafer.move ≠ none) :
    exec (.rollingPartApplied x part) s = .next u := by
  subst hu
  have row : exec (.rollingPartApplied x part) s = execRollingPartApplied x part s := rfl
  rw [row, execRollingPartApplied]
  dsimp only
  rw [hr]
  refine congrArg Host.Outcome.next (if_pos ?_)
  rcases h with h | h | h
  · simp [h]
  · simp [h]
  · simp [Option.isSome_iff_ne_none, h]

theorem rollingPartApplied_applies (hin : part ∈ r.parts) (hready : u.partReady r.parts part = true)
    (hmove : u.wafer.move = none) : exec (.rollingPartApplied x part) s = .next (u.partApplied r part) := by
  subst hu
  have row : exec (.rollingPartApplied x part) s = execRollingPartApplied x part s := rfl
  rw [row, execRollingPartApplied]
  dsimp only
  rw [hr]
  refine congrArg Host.Outcome.next ((if_neg (by simp [hin, hready, hmove])).trans ?_)
  cases part <;> rfl

theorem rollingChangeEnd_waits (h : r.parts ≠ []) : exec (.rollingChangeEnd x) s = .next u := by
  subst hu
  have row : exec (.rollingChangeEnd x) s = execRollingChangeEnd x s := rfl
  rw [row, execRollingChangeEnd]
  dsimp only
  rw [hr]
  exact congrArg Host.Outcome.next (if_pos (by simpa using h))

theorem rollingChangeEnd_newBook {b : Bytes} (h : r.parts = []) (hb : u.place.next = some b) : exec (.rollingChangeEnd x) s =
    .next (u.rollingEnded { u.place with book := some b, next := none }) := by
  subst hu
  have row : exec (.rollingChangeEnd x) s = execRollingChangeEnd x s := rfl
  rw [row, execRollingChangeEnd]
  dsimp only
  rw [hr]
  dsimp only
  rw [hb]
  exact congrArg Host.Outcome.next (if_neg (by simp [h]))

theorem rollingChangeEnd_noBook (h : r.parts = []) (hb : u.place.next = none) :
    exec (.rollingChangeEnd x) s = .next (u.rollingEnded u.place) := by
  subst hu
  have row : exec (.rollingChangeEnd x) s = execRollingChangeEnd x s := rfl
  rw [row, execRollingChangeEnd]
  dsimp only
  rw [hr]
  dsimp only
  rw [hb]
  exact congrArg Host.Outcome.next (if_neg (by simp [h]))

end

end Sys2Proof.Machine
end

section
/-! PROOF. Commits take effect, and changes roll (19 R474, R478, R480, R485, R486, R489, R492; 13 R336; 03 R70; 08 R203). -/

open Sys2Proof Sys2Proof.Machine

/-- Settles O57: each row by its outcomes, over what a commit decides (`State.inUse`) and what transfers and fills leave
(`State.standing`). -/
theorem commitsTakeEffectAndRoll : Obligations.CommitsTakeEffectAndRoll := by
  unfold Obligations.CommitsTakeEffectAndRoll
  refine ⟨fun s u x hu => ⟨commitEffect_unarmed hu, fun a ha => ⟨commitEffect_waits hu ha,
    fun k c p he hk hwait hmove harm hdone hc => ?_⟩⟩, fun s u x hu => ⟨engineCommit_waits hu, engineCommit_idle hu,
    fun i e harm hdone hdue hi hs => ?_, fun p b m harm hdone hdue hmove hsweep hpause hback hi => ?_⟩,
    fun s u x part hu => ⟨fun h => ⟨rollingPartApplied_none hu h, rollingChangeEnd_none hu h⟩, fun r hr =>
      ⟨rollingPartApplied_waits hu hr, fun hin hready hmove => ?_, rollingChangeEnd_waits hu hr, fun h => ?_⟩⟩⟩
  · have row := commitEffect_applies hu ha he hk hwait hmove harm hdone
    refine ⟨fun hi hm hs => ?_, fun m q hi h => ?_, fun m q o p' b hi hrun hp ho hrows => ?_⟩
    · obtain ⟨harmed, hepoch, hset, hkept, hha, hstaged, e, he⟩ := State.applyCommit_xforms hc hi hm hs
      exact ⟨_, e, row, harmed, hepoch, hset, hkept, hha, hstaged, he⟩
    · rw [State.applyCommit_dropped hi h] at row
      obtain ⟨e, he, htag, hqp, hst, -⟩ := State.complete_answered
        (w := { u with ep := { u.ep with armed := none, staged := { a.set with image := none }.onto u.ep.staged } })
        hc rfl 0x0201 a.detail []
      refine ⟨_, row, ?_, ?_, ?_, ?_, ?_, e, he, htag, hqp, hst⟩
      all_goals rw [State.complete_hostOnly]
    · obtain ⟨w, l, happ, hw⟩ := State.applyCommit_fits hi hrun hp ho hrows
      have hv : (u.applyCommit a).inUse = _ := (congrArg State.inUse happ).trans
        ((State.complete_inUse _ _ _ _ _ _).trans (w.wakeUsed_inUse.trans hw))
      exact ⟨_, row, (congrArg InUse.armed hv :), (congrArg InUse.epoch hv :), (congrArg InUse.image hv :),
        (congrArg InUse.placement hv :), (congrArg InUse.binding hv :)⟩
  · obtain ⟨hepoch, hxf⟩ := u.applyEngine_parts i e
    refine ⟨State.engineDue_eff hdue hi, _, engineCommit_attach hu harm hdone hdue hi, hepoch, fun j b h => ?_, fun j h => ?_⟩
    · rw [hxf, tget_lay_of_some hs h]
    · rw [hxf, tget_lay_of_none h]
  · have hv := State.endMove_inUse hmove hi
    exact ⟨_, engineCommit_endsMove hu harm hdone hdue hmove hsweep hpause hback,
      (congrArg InUse.move hv :).trans (congrArg InUse.move u.moveOver_inUse :), (congrArg InUse.placement hv :),
      (congrArg InUse.binding hv :), (congrArg InUse.image hv :), (congrArg InUse.epoch hv :)⟩
  · have row := rollingPartApplied_applies hu hr hin hready hmove
    refine ⟨fun p hp => ?_, fun k hk => ?_, fun k b hk hb => ?_⟩
    · subst hp
      obtain ⟨v, hv⟩ := (u.partGone r (.slots p)).applySlots_route p
      exact ⟨_, row.trans (congrArg Host.Outcome.next hv), rfl, rfl⟩
    · subst hk
      have hv := (u.partGone r (.region k)).applyRegion_standing k
      exact ⟨_, row, (congrArg Prod.fst hv :), (congrArg (fun v => v.2.2.2) hv :)⟩
    · subst hk
      obtain ⟨d, hd⟩ := State.shardPlan_of_partReady hready
      obtain ⟨hshard, hep⟩ := State.shadowShard_parts hb hd
      by_cases hdone : (u.shard k).shadowDone = true
      · exact ⟨u, row.trans (congrArg Host.Outcome.next (if_pos hdone)), hdone, rfl, rfl⟩
      · exact ⟨_, row.trans (congrArg Host.Outcome.next (if_neg hdone)), by rw [hshard], by rw [hshard], hep⟩
  · cases hb : u.place.next with
    | none => exact ⟨_, rollingChangeEnd_noBook hu hr h hb, rfl, fun _ hn => (by cases hn), fun _ => rfl, hb, rfl, rfl⟩
    | some b =>
      exact ⟨_, rollingChangeEnd_newBook hu hr h hb, rfl, fun _ hn => hn, fun hn => (by cases hn), rfl, rfl, rfl⟩
end
